-- ==== Sys2Proof/Word.lean ====
section
/-!
DEFINITION. The identifiers of the W64's units (R6 and the chapters that own them), the byte and the word types, and
sparse tables as plain data. A unit number is a `Fin`: software never adds or masks it, it only names a unit.
-/

namespace Sys2Proof

abbrev Byte := BitVec 8
abbrev Word32 := BitVec 32
abbrev Word64 := BitVec 64

/-- Site s = 8·y + x (R6). -/
abbrev SiteId := Fin 64
/-- Global core number 2048·s + c (R6); the vault of a core has the same number. -/
abbrev CoreId := Fin 131072
abbrev VaultId := Fin 131072
/-- Cluster index 32·s + k (R237, R512); the engine under a cluster has the same number (R166). -/
abbrev ClusterId := Fin 2048
abbrev EngineId := Fin 2048
/-- Districts 0 to 255 (R218). -/
abbrev DistrictId := Fin 256
/-- Parcels 0 to 63 (R223). -/
abbrev ParcelId := Fin 64
/-- Stamp books 0 to 4,095 (R297). -/
abbrev BookId := Fin 4096
/-- Delivery rings 0 to 4,095 (R310). -/
abbrev DRingId := Fin 4096
/-- Receipt rings 0 to 255 and the statement ring 256 (R426). -/
abbrev RRingId := Fin 257
/-- Envelope rings 0 to 255 (R364). -/
abbrev ERingId := Fin 256
/-- Mailboxes 0 to 63 (R374). -/
abbrev MBoxId := Fin 64
/-- Host ports 0 to 3 (R204). -/
abbrev HPortId := Fin 4
/-- Functions 0 to 7 of a host port (R356). -/
abbrev FuncId := Fin 8
/-- Fabric ports 0 to 31 (R319). -/
abbrev FPortId := Fin 32
/-- Jobs 0 to 63 (R334). -/
abbrev JobId := Fin 64
/-- Stream slots 0 to 262,143 (R285). -/
abbrev SlotId := Fin 262144
/-- DMA channels 0 to 7 (R94). -/
abbrev ChanId := Fin 8
/-- Stage numbers 0 to 63 (R223). -/
abbrev StageId := Fin 64

/-- A sparse table: pairs of a key and a value, keys strictly rising, no value equal to the table's default. -/
abbrev Table (α : Type) := List (Nat × α)

/-- Byte memory in the same form: addresses strictly rising, no byte equal to what an unlisted address reads as (0). -/
abbrev Memory := List (Nat × Byte)

end Sys2Proof
end

