-- ==== Sys2Proof/Formats.lean ====
section
/-!
DEFINITION. The number formats of the W64 as data: element formats, scale formats, accumulator types, rounding modes
(R27, R37, R41, R42), and the exact value an element stands for.
-/

namespace Sys2Proof

/-- The element formats, codes 0 to 10 of R27. -/
inductive Fmt where
  | fp32 | bf16 | fp16 | e5m2 | e4m3 | e3m2 | e2m3 | e2m1 | int8 | int4 | t158
  deriving DecidableEq, Repr

/-- The scale formats, codes 11 and 12 of R27. -/
inductive SFmt where
  | e8m0 | fine
  deriving DecidableEq, Repr

/-- The accumulator types of R41. -/
inductive AccTy where
  | fp32 | int32
  deriving DecidableEq, Repr

/-- The rounding modes of R42. -/
inductive Rnd where
  | nearest | zero | stochastic
  deriving DecidableEq, Repr

/-- An exact value: `fin neg m e` is (-1)^neg * m * 2^e, so that a zero keeps its sign (R28, R30). -/
inductive Val where
  | fin (neg : Bool) (m : Nat) (e : Int)
  | inf (neg : Bool)
  | nan
  deriving DecidableEq, Repr

/-- The sticky numeric flags a computation raises (R46). -/
structure NumFlags where
  nv : Bool := false
  of : Bool := false
  trit : Bool := false
  scaleNan : Bool := false
  deriving DecidableEq, Repr

/-- The operands of a stream: formats, scales, K, g, WC and the region. -/
structure StreamArgs where
  a : Fmt
  b : Fmt
  sa : Option SFmt
  sb : Option SFmt
  k : Nat
  g : Nat
  wcc : Nat
  base : Nat
  bank : Nat
  deriving DecidableEq, Repr

/-- An accumulator: bits, whether it holds an INT32 limit, and the flags raised (R41, R64). -/
structure Acc where
  w : BitVec 32
  stuck : Bool
  fl : NumFlags
  deriving DecidableEq, Repr

end Sys2Proof
end

