-- ==== Sys2Proof/Syntax.lean ====
section
/-!
DEFINITION. The commands of the W64: one constructor of `Instr` for each row of the table of operations and events, with
the records its operands use. A core's instruction is the core and the low 56 bits of the instruction word, the opcode
byte being the constructor's; an envelope command carries the envelope as its source sends it; an event carries the unit it
happens to and what comes from outside (log 1).
-/

namespace Sys2Proof

/-- The port classes of R356. -/
inductive PortClass where
  | mgmt | hosts | host | peer
  deriving DecidableEq, Repr

/-- Where an envelope came from and where its reply goes (R356, R366, R378). -/
inductive Via where
  /-- Slot pos of an envelope ring. -/
  | ring (n : ERingId) (pos : Nat)
  /-- A message of a host-to-firmware mailbox. -/
  | mbox (n : MBoxId)
  /-- The management path. -/
  | mgmt
  /-- A fabric port. -/
  | peer (p : FPortId)
  deriving DecidableEq, Repr

/-- A faulty unit that a test finds, laid out as the units of a field-repair entry (R459, R461): kind 1 column, 2 via, 3 IW lane,
4 vault page, 5 site, 6 diode, 7 site router (R465). -/
structure BadUnit where
  kind : Nat
  site : Nat
  unit : Nat
  detail : Nat
  deriving DecidableEq, Repr

/-- An envelope as its source sends it: class, whether it came inside a secured session (R358), host port and function,
the bytes of the envelope from byte 0, the bytes of its input buffer, whether writing its output will fail (R360, R373), the
faulty units that a test which it starts will find (R459, R472), and whether the one thing it needs from outside this state is good:
a flash write succeeds (R373), an image's tag verifies (R280), the twin has accepted its own envelope (R342). -/
structure Env where
  cls : PortClass
  secured : Bool
  port : HPortId
  func : FuncId
  via : Via
  raw : List Byte
  input : List Byte
  outFault : Bool
  found : List BadUnit := []
  extOk : Bool := true
  /-- The SPDM session over MCTP that secures it; a secured envelope without one comes over the TLS connection (R356, R358). -/
  session : Option Nat := none
  deriving DecidableEq, Repr


/-! ### What comes from outside with an event (chapters 12 and 15 to 19) -/

/-- A marker's payload (R329): the announcements are (job, CCLK setpoint in MHz, effective round). -/
structure Marker where
  round : Nat
  epoch : Nat
  master : Nat
  period : Nat
  nperiod : Nat
  npround : Nat
  delay : Nat
  admBits : Nat
  setps : List (Nat × Nat × Nat)
  deriving DecidableEq, Repr

/-- The contents of a STEP copy (R344): record fields, history additions, GSTATE, the accumulators, and the committed rows
as (chain, page, byte offset, bytes) of chain pages and of postcode entries; `homes` gives for each chain the place of its home
core among the cores of its district, which a mirror of the same footprint shares (R342). -/
structure StepCopy where
  pos : Nat
  out : Nat
  token : Nat
  lastadm : Nat
  nin : Nat
  history : List Nat
  gstate : Nat
  acc : List Byte
  homes : List (Nat × Nat)
  rows : List (Nat × Nat × Nat × List Byte)
  posts : List (Nat × Nat × Nat × List Byte)
  deriving DecidableEq, Repr

/-- A draw as a DRAW copy carries it (R344). -/
structure DrawMsg where
  index : Nat
  token : Nat
  logp : Nat
  alts : List (Nat × Nat)
  code : Nat
  deriving DecidableEq, Repr

/-- The unit that sent a packet whose acknowledgement is overdue (R327): a DMA transfer, a twin copy of a stream, a
circulation hop of a job. -/
inductive AckFor where
  | dma (g : CoreId) (ch : ChanId)
  | copy (slot : SlotId)
  | circ (j : JobId)
  deriving DecidableEq, Repr

/-- A meter of R415. -/
inductive Meter where
  | input
  | site (k : SiteId)
  | cluster (k : ClusterId)
  | dram (k : SiteId)
  | base (k : SiteId)
  | lane (k : SiteId)
  deriving DecidableEq, Repr

/-- A memory expander of a root port: port, expander, pages of poste restante (R272). -/
abbrev Expander := Nat × Nat × Nat

/-- A sample of the tray's sensor hub (R442): inlet and outlet in 0.01 degrees Celsius, flow in 0.01 L/min, VALID, LEAK, count. -/
structure Coolant where
  inlet : Int
  outlet : Int
  flow : Nat
  valid : Bool
  leak : Bool
  count : Nat
  deriving DecidableEq, Repr

/-- A semaphore of a core with the count that a step template names (R352). -/
structure CircSem where
  core : CoreId
  sem : Fin 16
  count : Nat
  deriving DecidableEq, Repr

/-- A chain of a stream: slot and chain number. -/
abbrev ChainId := Nat × Nat

/-- A circulation block (R352): hops made, stream, chain, layer, first token and bytes. -/
structure CircBlock where
  hops : Nat
  stream : Nat
  chain : Nat
  layer : Nat
  first : Nat
  data : List Byte
  deriving DecidableEq, Repr

/-- A partial attention state (R353): hops made, stream, and for each query head the running maximum, the sum and the weighted
values, as FP32 words. -/
structure Partial where
  hops : Nat
  stream : Nat
  heads : List (Word32 × Word32 × List Word32)
  deriving DecidableEq, Repr


/-- The commands, in the order of the table of operations and events. -/
inductive Instr where
  | nop (g : CoreId) (w : BitVec 56)
  | halt (g : CoreId) (w : BitVec 56)
  | dmax (g : CoreId) (w : BitVec 56)
  | dwait (g : CoreId) (w : BitVec 56)
  | sig (g : CoreId) (w : BitVec 56)
  | swait (g : CoreId) (w : BitVec 56)
  | bar (g : CoreId) (w : BitVec 56)
  | loop (g : CoreId) (w : BitVec 56)
  | loopi (g : CoreId) (w : BitVec 56)
  | br (g : CoreId) (w : BitVec 56)
  | notice (g : CoreId) (w : BitVec 56)
  | rwait (g : CoreId) (w : BitVec 56)
  | mload (g : CoreId) (w : BitVec 56)
  | mstream (g : CoreId) (w : BitVec 56)
  | macc (g : CoreId) (w : BitVec 56)
  | mdrain (g : CoreId) (w : BitVec 56)
  | mclear (g : CoreId) (w : BitVec 56)
  | tileDeadlock (g : CoreId)
  | vcfg (g : CoreId) (w : BitVec 56)
  | vadd (g : CoreId) (w : BitVec 56)
  | vsub (g : CoreId) (w : BitVec 56)
  | vmul (g : CoreId) (w : BitVec 56)
  | vfma (g : CoreId) (w : BitVec 56)
  | vmax (g : CoreId) (w : BitVec 56)
  | vmin (g : CoreId) (w : BitVec 56)
  | vcvt (g : CoreId) (w : BitVec 56)
  | vaddb (g : CoreId) (w : BitVec 56)
  | vmulb (g : CoreId) (w : BitVec 56)
  | vtrow (g : CoreId) (w : BitVec 56)
  | vexp (g : CoreId) (w : BitVec 56)
  | vlog (g : CoreId) (w : BitVec 56)
  | vrcp (g : CoreId) (w : BitVec 56)
  | vrsq (g : CoreId) (w : BitVec 56)
  | vtanh (g : CoreId) (w : BitVec 56)
  | vsigm (g : CoreId) (w : BitVec 56)
  | vrsum (g : CoreId) (w : BitVec 56)
  | vrmax (g : CoreId) (w : BitVec 56)
  | vrmin (g : CoreId) (w : BitVec 56)
  | vrssq (g : CoreId) (w : BitVec 56)
  | vsmax (g : CoreId) (w : BitVec 56)
  | vsexp (g : CoreId) (w : BitVec 56)
  | vrope (g : CoreId) (w : BitVec 56)
  | vkvq (g : CoreId) (w : BitVec 56)
  | vapnd (g : CoreId) (w : BitVec 56)
  | dmaComplete (g : CoreId) (ch : ChanId)
  | dmaHalt (g : CoreId) (ch : ChanId) (code : Fin 64) (n : Nat)
  | signalArrival (src : Nat) (dst : CoreId)
  | barrierRelease (g : CoreId)
  | stepRelease (g : CoreId)
  | roundWaitRelease (g : CoreId)
  | trapReport (g : CoreId)
  | coreCtrlGo (g : CoreId)
  | coreCtrlStop (g : CoreId)
  | srSeedWrite (g : CoreId) (v : Word64)
  | srCtrWrite (g : CoreId) (v : Word64)
  | srWriteEffect (g : CoreId)
  | nmeAbort (e : ClusterId)
  | flipArm (v : CoreId) (ctrl : BitVec 6)
  | mboxSend (m : MBoxId)
  | mboxAck (m : MBoxId) (seq : BitVec 8)
  | mboxWithdraw (m : MBoxId)
  | mailboxTimeout (m : MBoxId)
  | mailboxMessage (m : MBoxId) (input : List Byte) (outFault : Bool) (found : List BadUnit) (extOk : Bool)
  | eringDoorbell (n : ERingId) (v : BitVec 17)
  | envelopeFetch (n : ERingId) (raw : List Byte) (bad : Bool)
  | eringDisable (n : ERingId)
  | functionReset (port : HPortId) (func : FuncId)
  | dringCons (r : DRingId) (v : BitVec 21)
  | rringCons (r : RRingId) (v : BitVec 17)
  | eringRcons (n : ERingId) (v : BitVec 17)
  | vminClr (k : ClusterId)
  | dlqPop
  | nmsiteLock (site : SiteId)
  | registerWrite (port : HPortId) (func : FuncId) (off : BitVec 28) (data : List Byte)
  | postedWriteEffect (off : BitVec 28)
  | tvScanWindow (upset : List (Nat × Nat))
  | tvRestore (off : BitVec 28)
  | elermuxNop (e : Env)
  | devQuery (e : Env)
  | config (e : Env)
  | lock (e : Env)
  | resetSite (e : Env)
  | resetLayer (e : Env)
  | resetCore (e : Env)
  | testVaultMarch (e : Env)
  | testArray (e : Env)
  | testLoopback (e : Env)
  | rebind (e : Env)
  | rebindRun
  | parcelReserve (e : Env)
  | parcelSeal (e : Env)
  | parcelDiscard (e : Env)
  | grant (e : Env)
  | fill (e : Env)
  | fence (e : Env)
  | copy (e : Env)
  | atomic (e : Env)
  | swappoolAdd (e : Env)
  | swappoolRemove (e : Env)
  | nmSubmit (e : Env)
  | submit (e : Env)
  | cancel (e : Env)
  | preempt (e : Env)
  | resume (e : Env)
  | freeze (e : Env)
  | prefixHandleCreate (slot : SlotId)
  | release (e : Env)
  | query (e : Env)
  | discard (e : Env)
  | bookSet (e : Env)
  | bookBind (e : Env)
  | bookUnbind (e : Env)
  | sampleCfg (e : Env)
  | grammarLoad (e : Env)
  | grammarUnload (e : Env)
  | ringEnable (e : Env)
  | ringDisable (e : Env)
  | receiptsEnable (e : Env)
  | receiptsDisable (e : Env)
  | powerCap (e : Env)
  | powerLimit (e : Env)
  | thermal (e : Env)
  | fabric (e : Env)
  | roundCfg (e : Env)
  | jobForm (e : Env)
  | jobDissolve (e : Env)
  | circ (e : Env)
  | twinPair (e : Env)
  | twinUnpair (e : Env)
  | handover (e : Env)
  | dying (e : Env)
  | leaseKeyEnrol (e : Env)
  | leaseKeyClear (e : Env)
  | leaseGrant (e : Env)
  | logRead (e : Env)
  | fwStage (e : Env)
  | fwActivate (e : Env)
  | getVersion (req : List Byte)
  | getCapabilities (req : List Byte)
  | negotiateAlgorithms (req : List Byte)
  | getDigests (req : List Byte)
  | getCertificate (slot : Nat) (req : List Byte)
  | challenge (slot : Nat) (req : List Byte)
  | getMeasurements (index : Nat)
  | keyExchange (req : List Byte)
  | finish (session : Nat) (req : List Byte)
  | heartbeat (session : Nat)
  | endSession (session : Nat)
  | roundBoundary
  | markerReceived (port : FPortId) (m : Marker) (fwd : Nat)
  | flywheelOpen
  | standbyTakeover
  | beatLoss
  | bookRefill (b : BookId)
  | bookParamEffect (b : BookId)
  | colourFlip
  | stepStartPoint (d : DistrictId)
  | stagingDeferPreempt (slot : SlotId)
  | stepComplete (d : DistrictId)
  | samplingTrigger (d : DistrictId) (shard : Nat)
  | tokenDraw (slot : SlotId)
  | streamEnd (slot : SlotId)
  | receiptPost (r : RRingId)
  | statementIssue
  | kvAppend (site : SiteId)
  | chainPageOpen (slot : SlotId) (chain : Nat) (page : Nat)
  | lookaheadPass (d : DistrictId)
  | spillStart (site : SiteId)
  | spillWriteDone (slot : SlotId) (chain : Nat) (page : Nat) (ok : Bool)
  | pageReturn (slot : SlotId) (chain : Nat) (page : Nat) (poison : Bool)
  | expanderLost (port : HPortId) (exp : (Option Nat))
  | preemptionWriteout (slot : SlotId) (ok : Bool)
  | preemptionTag (slot : SlotId)
  | preemptionRetry (slot : SlotId)
  | templateNmTrigger (d : DistrictId) (stage : StageId) (op : Nat)
  | nmOpStart (e : EngineId) (busy : Bool)
  | nmOpComplete (e : EngineId)
  | nmHoldExpiry (e : EngineId)
  | vaultWordRead (v : VaultId) (off : BitVec 26) (src : Fin 7)
  | strongRepair (v : VaultId) (blk : Fin 12032)
  | vaultFullWrite (v : VaultId) (off : BitVec 26) (data : BitVec 256) (src : Fin 7)
  | vaultNarrowWrite (v : VaultId) (off : BitVec 26) (bytes : List Byte) (src : Fin 7)
  | hostWindowRead (port : HPortId) (func : FuncId) (vlocal : Bool) (addr : BitVec 48)
  | hostWindowWrite (port : HPortId) (func : FuncId) (vlocal : Bool) (addr : BitVec 48) (bytes : List Byte)
  | patrolScrub (v : VaultId)
  | demandScrub (v : VaultId)
  | dramRefresh (v : VaultId) (layer : Fin 12) (bank : Fin 4)
  | channelFlitReplay (v : VaultId)
  | iwFlitReplay (site : SiteId) (edge : Fin 4)
  | laneFailure (site : SiteId) (edge : Fin 4) (lane : Fin 34)
  | laneSubstitutionDone (site : SiteId) (edge : Fin 4)
  | routeDrainExpiry
  | routeLoadDone
  | ackTimeout (g : CoreId) (ch : ChanId) (n : Nat)
  | fabricLinkUp (port : FPortId) (fid : BitVec 10) (serial : BitVec 128) (delay : BitVec 17) (x4 : Bool) (peerReady : Bool)
  | fabricLaneFail (port : FPortId) (failed : BitVec 8)
  | fabricFlitReplay (port : FPortId)
  | transportPacket (port : FPortId) (dst : BitVec 10) (src : BitVec 10) (body : List Byte)
  | transportAckTimeout (x : AckFor)
  | ethernetFrame (port : FPortId) (len : Nat) (over_ : Bool)
  | slowRequest (j : JobId) (fid : BitVec 10) (cause : Fin 4) (mhz : BitVec 11)
  | stepdone (j : JobId) (fid : BitVec 10)
  | stepHeartbeat (j : JobId) (fid : BitVec 10)
  | splitDeclare (j : JobId)
  | leaseRenewal (j : JobId)
  | leaseRelay (g : List Byte)
  | leaseExpiry (j : JobId)
  | splitHoldTimeout (j : JobId)
  | submitCopy (d : DistrictId) (id : Word64) (spec : List Byte) (ctl : List Byte)
  | drawCopy (id : Word64) (m : DrawMsg)
  | drawCopyAck (slot : SlotId)
  | drawWaitTimeout (slot : SlotId)
  | stepCopy (id : Word64) (m : StepCopy)
  | sealCopy (id : Word64) (round : BitVec 48)
  | freezeCopy (id : Word64) (h : BitVec 12) (t : Nat)
  | endCopy (id : Word64)
  | twinResync (slot : SlotId)
  | deviceLeaseExpiry
  | failoverActivate (lapsed : List Nat)
  | circBlockSend (j : JobId) (own : (Option ChainId)) (con : (Option CircSem))
  | circBlockReceived (j : JobId) (b : CircBlock) (sig : CircSem)
  | circQueryReceived (j : JobId) (stream : Word64) (pos : Nat) (q : List Byte) (own : Partial)
  | partialStateReceived (j : JobId) (p : Partial) (own : Partial)
  | inputFault (high : Bool)
  | capDivision
  | allotmentRequest (ws : List Nat)
  | controlWindowEnd
  | gatedSlice (k : SiteId) (on : Bool)
  | voltageDroop (k : ClusterId) (mv : Nat)
  | regulatorNotice (k : ClusterId)
  | meterSample (m : Meter) (mv : Nat) (ma : Nat)
  | diodeConversion (k : SiteId) (n : Fin 15) (x : (Option Int))
  | thermalModelUpdate (cl : ClusterId) (words : Nat) (activity : Nat)
  | dieTrip (k : SiteId) (n : Fin 15)
  | coolantRead (x : (Option Coolant))
  | coolantReadRetry (x : (Option Coolant))
  | sensorLost
  | stopSequence
  | pwrEnFall
  | powerOn (edge : Bool) (clerkOk : Fin 3) (patchOk : Fin 3) (found : List BadUnit) (exps : List Expander) (ms : Nat)
  | coolantWaitTimeout
  | modReset (clerkOk : Fin 3) (patchOk : Fin 3) (found : List BadUnit) (exps : List Expander) (ms : Nat)
  | perst (port : HPortId)
  | bdWatchdog (site : SiteId) (restarts : Bool)
  | bdRestartTimeout (site : SiteId) (restarts : Bool)
  | siteLoss (k : SiteId)
  | viaRemap (g : CoreId) (found : List Nat)
  | deferredRecovery (found : List Nat) (restarts : Bool)
  | refclkLoss (both : Bool)
  | clerkWatchdog
  | clerkStartTimeout
  | rollbackRaise (image : Fin 3)
  | siteRouterFailure (site : SiteId)
  | clerkUp
  | heavyPhaseEnd (k : ClusterId)
  | chainOpenFailure (site : SiteId)
  deriving DecidableEq, Repr

end Sys2Proof
end

