-- ==== Sys2Proof/Config.lean ====
section
/-!
DEFINITION. What an implementation fixes and what the manual leaves open: opaque constants with no body. Nothing in Lean
can evaluate one or prove a value of it, so a claim is true whatever it is. Each is named in the assumption log.
-/

namespace Sys2Proof.Config

/-- A fresh unconstrained number for each reading of `State.freeCtr` (log 3). -/
opaque freeNat : Nat → Nat
/-- The FP32 result of a special function where R126 gives only an error bound: function code, operand bits (log 4). -/
opaque special : Nat → BitVec 32 → BitVec 32
/-- SHA-384 of a byte string (R224, R383, R425; log 5). -/
opaque sha384 : List (BitVec 8) → BitVec 384
/-- ECDSA P-384 signature, r and s as one number, of a hash under a key number (R425; log 5). -/
opaque ecdsaSign : Nat → BitVec 384 → BitVec 768
/-- Whether an ECDSA P-384 signature verifies: key bytes, hash, signature (R338, R381; log 5). -/
opaque ecdsaVerify : List (BitVec 8) → BitVec 384 → List (BitVec 8) → Bool
/-- HMAC-SHA-384 tag of a pre-emption image under the postmaster's key (R278; log 5). -/
opaque hmacTag : List Nat → BitVec 384
/-- CRC-32 of a record (R448, R461, R475; log 5). -/
opaque crc32 : List (BitVec 8) → BitVec 32
/-- The choice among the egress ports of a route entry, from source and destination FID (R326; log 6). -/
opaque routeHash : Nat → Nat → Nat
/-- The query of a new position, which a letter computes, by STREAM_ID and position (R353; log 65). -/
opaque circQuery : Nat → Nat → List (BitVec 8)
/-- The fused voltage in mV for a frequency in MHz (R401; log 7). -/
opaque fusedMv : Nat → Nat
/-- PTP is locked at a time in nanoseconds (R421, R424, R427, R448, R475; log 121). -/
opaque ptpLocked : Nat → Bool
/-- The conversion factor of a site at a rail energy, in units of 2^-16 (R416; log 7). -/
opaque kappa : Nat → Nat → Nat
/-- The thermal model of R431: cluster, die (0 CD, 1 to 12 DL), cluster energy, granted word slots, engine activity, inlet
temperature; the estimate in 0.125 degrees Celsius before the model offset (log 7). -/
opaque thermal : Nat → Nat → Nat → Nat → Nat → Int → Int
/-- The first STREAM_ID of the device's life; later ones follow it (R286; log 8). -/
opaque streamIdBase : Nat
/-- SPDM response bytes for a request code and its bytes (R382; log 5). -/
opaque spdmResponse : Nat → List (BitVec 8) → List (BitVec 8)

/-- Whether a stored word of true data and these (symbol, difference) errors lies within one symbol of the unwritten
marker (1), of the poison marker (2) or of neither: the markers and the light code are not published (R149; log 12). -/
opaque nearMarker : List (BitVec 8) → List (Nat × Nat) → Nat
/-- What the light code makes of a word with these three or more (symbol, difference) errors: flagged, miscorrected at a symbol, or
passed (R149; log 12). -/
opaque lightCode : List (Nat × Nat) → Nat
/-- What the byte code of the counter area makes of a byte with two or more bad bits: miscorrected at a stored bit, uncorrectable,
or passed (R138; log 12). -/
opaque counterCode : Nat → Nat

/-- The module serial number, 16 ASCII bytes (R371, R424); log 10. -/
opaque serial : Nat
/-- Huzal's IANA enterprise number and the ROM version (R356, R371); log 10. -/
opaque enterprise : Nat
opaque romVersion : Nat
/-- A firmware image carries a good signature by the image key (R381; log 5). -/
opaque imageSigned : List (BitVec 8) → Bool
/-- The security version in an image (R381; log 5). -/
opaque imageVersion : List (BitVec 8) → Nat

end Sys2Proof.Config
end

