-- ==== Sys2Proof/Machine/Num.lean ====
section
/-!
DEFINITION. Number formats, scales and rounding (chapter 02, R27 to R46): decoding of every element and scale format,
exact sums and products, the one rounding rule with its three modes, the range rules, the choice of scales, and the
Philox generator of R45.
-/

namespace Sys2Proof.Machine

/-- The element format of a 4-bit code (R27); scale and reserved codes are none. -/
def fmtOfCode : Nat → Option Fmt
  | 0 => some .fp32 | 1 => some .bf16 | 2 => some .fp16 | 3 => some .e5m2 | 4 => some .e4m3 | 5 => some .e3m2
  | 6 => some .e2m3 | 7 => some .e2m1 | 8 => some .int8 | 9 => some .int4 | 10 => some .t158 | _ => none

def fmtCode : Fmt → Nat
  | .fp32 => 0 | .bf16 => 1 | .fp16 => 2 | .e5m2 => 3 | .e4m3 => 4 | .e3m2 => 5
  | .e2m3 => 6 | .e2m1 => 7 | .int8 => 8 | .int4 => 9 | .t158 => 10

/-- The scale format of a 4-bit code (R27). -/
def sfmtOfCode : Nat → Option SFmt
  | 11 => some .e8m0 | 12 => some .fine | _ => none

/-- Elements under one scale (R34, R35). -/
def sfmtBlock : SFmt → Nat
  | .e8m0 => 32 | .fine => 16

/-- Bits of one stored element; a T158 element is packed five to a byte (R27, R32). -/
def fmtBits : Fmt → Nat
  | .fp32 => 32 | .bf16 => 16 | .fp16 => 16 | .e5m2 => 8 | .e4m3 => 8 | .e3m2 => 6 | .e2m3 => 6 | .e2m1 => 4
  | .int8 => 8 | .int4 => 4 | .t158 => 8

def ceilDiv (a b : Nat) : Nat := (a + b - 1) / b

/-- The byte length of an element region of n elements (R31, R32). -/
def regionBytes (f : Fmt) (n : Nat) : Nat :=
  match f with
  | .t158 => ceilDiv n 5
  | f => ceilDiv (n * fmtBits f) 8

/-- Mantissa width, bias, exponent width of a float format (R28). -/
def fmtShape : Fmt → Option (Nat × Nat × Nat)
  | .fp32 => some (23, 127, 8) | .bf16 => some (7, 127, 8) | .fp16 => some (10, 15, 5) | .e5m2 => some (2, 15, 5)
  | .e4m3 => some (3, 7, 4) | .e3m2 => some (2, 3, 3) | .e2m3 => some (3, 1, 2) | .e2m1 => some (1, 1, 2)
  | _ => none

/-- The bits of the largest finite magnitude (R28). -/
def fmtMaxBits : Fmt → Nat
  | .fp32 => 0x7F7FFFFF | .bf16 => 0x7F7F | .fp16 => 0x7BFF | .e5m2 => 0x7B | .e4m3 => 0x7E | .e3m2 => 0x1F
  | .e2m3 => 0x1F | .e2m1 => 0x7 | .int8 => 127 | .int4 => 7 | .t158 => 1

/-- The canonical NaN (R30); the formats without one give +0 (R43). -/
def fmtNan : Fmt → Nat
  | .fp32 => 0x7FC00000 | .bf16 => 0x7FC0 | .fp16 => 0x7E00 | .e5m2 => 0x7E | .e4m3 => 0x7F | _ => 0

def fmtHasNan : Fmt → Bool
  | .fp32 | .bf16 | .fp16 | .e5m2 | .e4m3 => true
  | _ => false

def fmtHasInf : Fmt → Bool
  | .fp32 | .bf16 | .fp16 | .e5m2 => true
  | _ => false

/-- R28: the value of a float element's bits. -/
def decodeFloat (f : Fmt) (mb bias eb : Nat) (w : Nat) : Val :=
  let neg := w >>> (mb + eb) % 2 == 1
  let e := w >>> mb % 2 ^ eb
  let m := w % 2 ^ mb
  if fmtHasInf f && e == 2 ^ eb - 1 then (if m == 0 then .inf neg else .nan)
  else if f == .e4m3 && w % 128 == 127 then .nan
  else if e == 0 then .fin neg m (1 - (bias : Int) - mb)
  else .fin neg (2 ^ mb + m) ((e : Int) - bias - mb)

def ofInt (i : Int) : Val := .fin (i < 0) i.natAbs 0

/-- Two's complement of width b. -/
def toSigned (b w : Nat) : Int := if w % 2 ^ b < 2 ^ (b - 1) then w % 2 ^ b else (w % 2 ^ b : Nat) - (2 ^ b : Int)

/-- The value of an element's bits; a T158 element is given as its digit, 0 to 2 (R28, R31, R32). -/
def decodeElem (f : Fmt) (w : Nat) : Val :=
  match fmtShape f with
  | some (mb, bias, eb) => decodeFloat f mb bias eb w
  | none =>
    match f with
    | .int8 => ofInt (toSigned 8 w)
    | .int4 => ofInt (toSigned 4 w)
    | _ => ofInt ((w : Int) - 1)

/-- R34, R35: the value of a scale byte. -/
def decodeScale (s : SFmt) (b : Nat) : Val :=
  match s with
  | .e8m0 => if b == 255 then .nan else .fin false 1 ((b : Int) - 127)
  | .fine => decodeElem .e4m3 b

def isNan : Val → Bool
  | .nan => true
  | _ => false

def isZero : Val → Bool
  | .fin _ 0 _ => true
  | _ => false

def isNeg : Val → Bool
  | .fin n _ _ => n
  | .inf n => n
  | .nan => false

def vneg : Val → Val
  | .fin n m e => .fin (!n) m e
  | .inf n => .inf (!n)
  | .nan => .nan

/-- The product, exact (R30, R36). -/
def vmul : Val → Val → Val
  | .nan, _ => .nan
  | _, .nan => .nan
  | .inf a, .inf b => .inf (a != b)
  | .inf a, .fin b m _ => if m == 0 then .nan else .inf (a != b)
  | .fin a m _, .inf b => if m == 0 then .nan else .inf (a != b)
  | .fin a m e, .fin b n f => .fin (a != b) (m * n) (e + f)

/-- A signed integer significand at exponent e. -/
def sig (neg : Bool) (m : Nat) : Int := if neg then -(m : Int) else m

/-- The sum, exact; an exact cancellation and +0 + -0 give +0 (R30). -/
def vadd : Val → Val → Val
  | .nan, _ => .nan
  | _, .nan => .nan
  | .inf a, .inf b => if a == b then .inf a else .nan
  | .inf a, .fin .. => .inf a
  | .fin .., .inf b => .inf b
  | .fin a m e, .fin b n f =>
    let q := min e f
    let i := sig a m * 2 ^ (e - q).toNat + sig b n * 2 ^ (f - q).toNat
    if i == 0 then .fin (a && b) 0 q else .fin (i < 0) i.natAbs q

/-- Magnitudes of finite values: is a < b. -/
def ltMag (m : Nat) (e : Int) (n : Nat) (f : Int) : Bool :=
  let q := min e f
  decide (m * 2 ^ (e - q).toNat < n * 2 ^ (f - q).toNat)

/-- R125: the order of the maximum and the minimum, in which +0 is greater than -0; neither operand a NaN. -/
def vlt : Val → Val → Bool
  | .nan, _ => false
  | _, .nan => false
  | .inf a, .inf b => a && !b
  | .inf a, .fin .. => a
  | .fin .., .inf b => !b
  | .fin a m e, .fin b n f =>
    if a != b then a
    else if a then ltMag n f m e else ltMag m e n f

/-- A rounded magnitude: n units of 2^q. -/
def roundUnits (r : Rnd) (u m : Nat) (e q : Int) : Nat :=
  if q ≤ e then m * 2 ^ (e - q).toNat
  else
    let s := (q - e).toNat
    let a := m >>> s
    let rem := m % 2 ^ s
    match r with
    | .nearest => if 2 ^ s < 2 * rem || (2 * rem == 2 ^ s && a % 2 == 1) then a + 1 else a
    | .zero => a
    | .stochastic => if u < rem * 65536 / 2 ^ s then a + 1 else a

/-- The exponent of a magnitude's unit in the last place in a float format (R28, R42: unbounded above). -/
def ulpExp (mb bias m : Nat) (e : Int) : Int :=
  max ((Nat.log2 m : Int) + e - mb) (1 - (bias : Int) - mb)

/-- The bits of n units of 2^q, where q is not below the subnormal unit. -/
def packUnits (mb bias n : Nat) (q : Int) : Nat :=
  ((q - (1 - (bias : Int) - mb)).toNat <<< mb) + n

/-- Converted bits and the flags raised (R42, R43); a T158 result is its digit, an integer its two's complement. -/
def convert (f : Fmt) (r : Rnd) (sat : Bool) (u : Nat) (v : Val) : Nat × NumFlags :=
  match fmtShape f with
  | some (mb, bias, eb) =>
    let sgn (neg : Bool) : Nat := if neg then 2 ^ (mb + eb) else 0
    let out (neg : Bool) : Nat × NumFlags :=
      (if sat || !fmtHasNan f then sgn neg + fmtMaxBits f
       else if fmtHasInf f then sgn neg + (2 ^ eb - 1) <<< mb else fmtNan f, { of := true })
    match v with
    | .nan => (fmtNan f, { nv := !fmtHasNan f })
    | .inf neg => out neg
    | .fin neg m e =>
      if m == 0 then (sgn neg, {})
      else
        let q := ulpExp mb bias m e
        let b := packUnits mb bias (roundUnits r u m e q) q
        if fmtMaxBits f < b then out neg else (sgn neg + b, {})
  | none =>
    let lim : Nat := match f with | .int8 => 128 | .int4 => 8 | _ => 1
    let wrap (i : Int) : Nat :=
      match f with | .int8 => (i % 256).toNat | .int4 => (i % 16).toNat | _ => (i + 1).toNat
    let top : Int := if f == .t158 then 1 else (lim : Int) - 1
    let clamp (i : Int) : Nat × NumFlags :=
      if i < -(lim : Int) then (wrap (-(lim : Int)), { of := true })
      else if top < i then (wrap top, { of := true }) else (wrap i, {})
    match v with
    | .nan => (wrap 0, { nv := true })
    | .inf neg => (wrap (if neg then -(lim : Int) else top), { of := true })
    | .fin neg m e => clamp (sig neg (roundUnits r u m e 0))

/-- FP32 to INT32 on the drain path (R43, R66). -/
def convertInt32 (r : Rnd) (u : Nat) (v : Val) : BitVec 32 × NumFlags :=
  match v with
  | .nan => (0, { nv := true })
  | .inf neg => (if neg then 0x80000000 else 0x7FFFFFFF, { of := true })
  | .fin neg m e =>
    let i := sig neg (roundUnits r u m e 0)
    if i < -(2 ^ 31 : Int) then (0x80000000, { of := true })
    else if (2 ^ 31 : Int) - 1 < i then (0x7FFFFFFF, { of := true })
    else (BitVec.ofInt 32 i, {})

/-- An FP32 result rounded once to nearest even; an overflow becomes infinity (R41, R64, R120). -/
def fp32Bits (v : Val) : BitVec 32 := BitVec.ofNat 32 (convert .fp32 .nearest false 0 v).1

def fp32Val (w : BitVec 32) : Val := decodeElem .fp32 w.toNat

/-- Rounded to FP32 and read back. -/
def round32 (v : Val) : Val := fp32Val (fp32Bits v)

/-- A NaN made from operands none of which is one (R46). -/
def madeNan (r : Val) (xs : List Val) : Bool := isNan r && !xs.any isNan

def orFlags (a b : NumFlags) : NumFlags :=
  { nv := a.nv || b.nv, of := a.of || b.of, trit := a.trit || b.trit, scaleNan := a.scaleNan || b.scaleNan }

/-- The quotient of two finite values with enough bits to round correctly: 40 more than any destination needs, and a
sticky last bit. -/
def quot (a b : Val) : Val :=
  match a, b with
  | .nan, _ => .nan
  | _, .nan => .nan
  | .inf _, .inf _ => .nan
  | .inf x, .fin y _ _ => .inf (x != y)
  | .fin x _ _, .inf y => .fin (x != y) 0 0
  | .fin x m e, .fin y n f =>
    if n == 0 then (if m == 0 then .nan else .inf (x != y))
    else
      let k := 70 + Nat.log2 n
      let d := m * 2 ^ k / n
      let st := if m * 2 ^ k % n == 0 then 0 else 1
      .fin (x != y) (2 * d + st) (e - f - k - 1)

/-- The least k with v at most 2^k, for a positive finite value. -/
def ceilLog2 (m : Nat) (e : Int) : Int :=
  if 2 ^ Nat.log2 m == m then (Nat.log2 m : Int) + e else (Nat.log2 m : Int) + 1 + e

/-- The largest finite value of a format as a value (R39). -/
def fmtMax (f : Fmt) : Val :=
  match f with
  | .t158 => ofInt 1
  | f => decodeElem f (fmtMaxBits f)

/-- The larger finite magnitude, for amax (R39). -/
def amaxStep (a v : Val) : Val :=
  match a, v with
  | .fin _ m e, .fin _ n f => if ltMag m e n f then .fin false n f else a
  | _, _ => a

def amax (vs : List Val) : Val := vs.foldl amaxStep (.fin false 0 0)

/-- Rounds a positive value up to E4M3 bits, at most 448 (R39). -/
def ceilE4M3 (v : Val) : Nat :=
  match v with
  | .fin _ m e =>
    if m == 0 then 0
    else
      let q := ulpExp 3 7 m e
      let n := roundUnits .zero 0 m e q
      let n' := if e < q && m % 2 ^ (q - e).toNat != 0 then n + 1 else n
      min (packUnits 3 7 n' q) 0x7E
  | _ => 0x7E

/-- The scale the W64 chooses for a block (R39). -/
def chooseScale (s : SFmt) (f : Fmt) (vs : List Val) : Nat :=
  let a := amax vs
  match s, a with
  | .e8m0, .fin _ m e =>
    if m == 0 then 0
    else
      match fmtMax f with
      | .fin _ l le =>
        -- least k with m * 2^e at most l * 2^(le + k)
        let k0 := (Nat.log2 m : Int) + e - ((Nat.log2 l : Int) + le)
        let k := if ltMag l (le + k0) m e then k0 + 1 else k0
        (max 0 (min 254 (127 + k))).toNat
      | _ => 0
  | .fine, a => if isZero a then 0 else ceilE4M3 (quot a (fmtMax f))
  | _, _ => 0

/-- The value that is converted under a chosen scale (R39). -/
def underScale (s : SFmt) (b : Nat) (v : Val) : Val :=
  match v with
  | .fin n m e =>
    match s with
    | .e8m0 => .fin n m (e - ((b : Int) - 127))
    | .fine => if b == 0 then v else round32 (quot v (decodeScale .fine b))
  | v => v

/-- INT32 value of stored bits. -/
def int32Val (w : BitVec 32) : Val := ofInt w.toInt

/-! Element regions (R31, R32). -/

/-- Little-endian number of a byte list. -/
def leNat : List Byte → Nat
  | [] => 0
  | b :: bs => b.toNat + 256 * leNat bs

/-- The n little-endian bytes of a number. -/
def natLe : Nat → Nat → List Byte
  | 0, _ => []
  | n + 1, w => BitVec.ofNat 8 w :: natLe n (w / 256)

/-- Element i of a region given as one little-endian number: its stored bits, or the digit of a T158 element, and
whether its byte is an invalid T158 encoding (R31 to R33). -/
def elemBits (f : Fmt) (reg : Nat) (i : Nat) : Nat × Bool :=
  match f with
  | .t158 =>
    let b := reg >>> (8 * (i / 5)) % 256
    if 243 ≤ b then (1, true) else (b / 3 ^ (i % 5) % 3, false)
  | f => (reg >>> (fmtBits f * i) % 2 ^ fmtBits f, false)

/-- The region of a list of element bits as one number (R31, R32: unused T158 positions are digit 1). -/
def packElems (f : Fmt) (xs : List Nat) : Nat :=
  match f with
  | .t158 =>
    let ys := xs ++ List.replicate (5 * ceilDiv xs.length 5 - xs.length) 1
    (ys.zipIdx).foldl (fun a p => a + p.1 * 3 ^ (p.2 % 5) * 256 ^ (p.2 / 5)) 0
  | f => (xs.zipIdx).foldl (fun a p => a + p.1 * 2 ^ (fmtBits f * p.2)) 0

/-! The generator of R45. -/

def philoxRound (k0 k1 : Nat) (c : Nat × Nat × Nat × Nat) : Nat × Nat × Nat × Nat :=
  let (c0, c1, c2, c3) := c
  let p0 := 0xD2511F53 * c0
  let p1 := 0xCD9E8D57 * c2
  (Nat.xor (Nat.xor (p1 / 2 ^ 32) c1) k0, p1 % 2 ^ 32, Nat.xor (Nat.xor (p0 / 2 ^ 32) c3) k1, p0 % 2 ^ 32)

def philoxRounds : Nat → Nat → Nat → Nat × Nat × Nat × Nat → Nat × Nat × Nat × Nat
  | 0, _, _, c => c
  | n + 1, k0, k1, c =>
    philoxRounds n ((k0 + 0x9E3779B9) % 2 ^ 32) ((k1 + 0xBB67AE85) % 2 ^ 32) (philoxRound k0 k1 c)

/-- Philox4x32-10 of a 64-bit key and the counter words from least significant (R45; PRESUMED: the algorithm's own
constants, log 9). -/
def philox (key : Nat) (c0 c1 c2 c3 : Nat) : Nat × Nat × Nat × Nat :=
  philoxRounds 10 (key % 2 ^ 32) (key / 2 ^ 32 % 2 ^ 32) (c0, c1, c2, c3)

/-- The eight draws of one evaluation, in order (R45). -/
def drawsOf (x : Nat × Nat × Nat × Nat) : List Nat :=
  [x.1 % 65536, x.1 / 65536, x.2.1 % 65536, x.2.1 / 65536,
   x.2.2.1 % 65536, x.2.2.1 / 65536, x.2.2.2 % 65536, x.2.2.2 / 65536]

/-- The draws of k evaluations of core g from counter ctr (R45). -/
def coreDraws (g seed ctr : Nat) : Nat → List Nat
  | 0 => []
  | k + 1 => drawsOf (philox seed (ctr % 2 ^ 32) (ctr / 2 ^ 32 % 2 ^ 32) g 0) ++ coreDraws g seed ((ctr + 1) % 2 ^ 64) k

end Sys2Proof.Machine
end

