-- ==== Sys2Proof/Fields.lean ====
section
/-!
DEFINITION. The registers of the W64 by name: one constructor per field of every register table of the manual (R12 and
the register rules of chapters 02 to 18), the blocks that hold them, and the access codes of R12.
-/

namespace Sys2Proof

/-- The access codes of R12. -/
inductive Access where
  | ro | rw | w1c | rwp | rwl | tv
  deriving DecidableEq, Repr

/-- The register blocks of BAR0 (R386 to R388). -/
inductive Block where
  | core
  | vault
  | vsite
  | nme
  | nmsite
  | net
  | ph
  | dist
  | clbind
  | kvsite
  | kvd
  | sosite
  | sodist
  | book
  | dring
  | nolucp
  | noluc
  | round
  | job
  | twin
  | ering
  | eng
  | mbox
  | dev
  | psite
  | pwrcl
  | pdev
  | energy
  | rring
  | thsite
  | thcl
  | thdev
  | brdev
  | brsite
  | fltdev
  | fltsite
  deriving DecidableEq, Repr

/-- The register fields, block by block, each group after the rule that lays it out. A field that its register repeats
(CORE.SEMn, NET.EDGEn) is one constructor. -/
inductive Reg where
  -- CORE (R45)
  | coreSrSeed | coreSrCtr
  -- CORE (R46)
  | coreNumflagsNv | coreNumflagsOf | coreNumflagsTrit | coreNumflagsScaleNan
  -- CORE (R74)
  | coreArrayIdWidth | coreArrayIdBadaV | coreArrayIdBada | coreArrayIdBadbV | coreArrayIdBadb | coreArrayIdRetired
  | coreArrayIdField | coreArrayStatusBank0 | coreArrayStatusBank1 | coreArrayStatusBank2 | coreArrayStatusBank3
  | coreArrayStatusQocc | coreArrayStatusStatValid | coreArrayStatusIntakeBusy | coreArrayStatusDrainBlocked
  | coreArrayStatusSatSeen | coreArrayStatusMqocc | coreArrayStatusBankwc | coreArrayStallStall
  -- CORE (R115)
  | coreLetterLbase | coreLetterLlen | coreLetterEntry | coreLetterSdbase | coreCtrlGo | coreCtrlStop | coreStateState
  | coreStatePc | coreStateLoopd | coreStateSemOvf | coreStateSpCe | coreStateHaltCode | coreTrapClass | coreTrapCause
  | coreTrapPc | coreTrapNextPc | coreTrapLine | coreTrapCh | coreTrapInsnWord | coreDmaStatusState
  | coreDmaStatusCode | coreSemValue
  -- CORE (R136)
  | coreVecCfgFa | coreVecCfgFb | coreVecCfgFd | coreVecCfgSf | coreVecCfgRnd | coreVecCfgSat | coreVecCfgSea
  | coreVecCfgSed | coreVecCfgSabase | coreVecCfgSdbase | coreVecStatusVqocc | coreVecStatusBusy
  | coreVecStatusHeadValid | coreVecStatusHeadDesc | coreVecStatusSerial | coreVecStallStall
  -- VAULT (R165)
  | vaultStatusBusy | vaultStatusOverrun | vaultStatusRepair | vaultStatusDsq | vaultStatusDsqDrop | vaultStatusSpares
  | vaultStatusChan | vaultErrcntCe | vaultErrcntRepaired | vaultErrcntUe | vaultErrcntUnwr | vaultErrcntNarrowInit
  | vaultErrcntWriteLost | vaultErraddrOffset | vaultErraddrKind | vaultErraddrSrc | vaultErraddrRound
  | vaultChanCrcCrcErr | vaultFlipCtrlArmed | vaultFlipCtrlDat | vaultFlipCtrlChk | vaultFlipCtrlPar
  | vaultFlipCtrlParw | vaultFlipDataMask | vaultFlipCheckMask | vaultFlipLastOffset | vaultFlipLastValid
  | vaultFlipLastOnpar
  -- VSITE (R165)
  | vsiteStatusBusy | vsiteStatusOverrun | vsiteStatusMarkerDone | vsiteStatusHole | vsiteScrubHours | vsiteScrubEn
  | vsiteScrubBehind | vsiteScrubPassPasses | vsiteScrubPassProgress | vsiteSelftestMode | vsiteSelftestDone
  | vsiteSelftestFail | vsiteSelftestFailed
  -- NME (R187)
  | nmeStatusBusy | nmeStatusOverrun | nmeStatusQocc | nmeStatusRunning | nmeStatusHeld | nmeStatusHostMet
  | nmeStatusLast | nmeCtrlAbort | nmeRowsCount | nmeBytesCount
  -- NMSITE (R187)
  | nmsiteTagBaseValid | nmsiteTagBaseBase | nmsiteTagLenPages | nmsiteTagTtTtbase | nmsiteLockLock
  -- NET (R217)
  | netStatusBusy | netStatusOverrun | netStatusRouting | netStatusOut | netStatusUnreach | netStatusEpoch
  | netVcWeightW1 | netVcWeightW2 | netVcWeightW3 | netEdgeActive | netEdgeSpares | netEdgeState | netEdgeReplay
  -- PH (R217)
  | phStatCe | phStatUe | phStatZeroed | phWaitCount
  -- DIST (R244)
  | distCfgState | distCfgHome | distCfgParcel | distCfgPv | distCfgOffset | distCfgClamped | distOwnerId
  | distResSlots | distResPageLimit | distPtRootAddr | distUseSlots | distUsePages | distShapeClusters
  | distShapeCores | distStepOvrCount
  -- CLBIND (R244)
  | clbindCDistrict | clbindCBound | clbindCClean
  -- KVSITE (R284)
  | kvsiteStatusBusy | kvsiteStatusOverrun | kvsiteStatusSpilling | kvsiteStatusPreempt | kvsiteStatusPrPresent
  | kvsiteStatusQocc | kvsiteStatusNospace | kvsiteWmarkLow | kvsiteWmarkHigh | kvsiteWmarkPrPct | kvsiteFreePages
  | kvsitePrShare | kvsitePrUsed | kvsiteCnt0Appends | kvsiteCnt0Refused | kvsiteCnt0LaLate | kvsiteCnt1Spills
  | kvsiteCnt1Cancels | kvsiteCnt1Preempts | kvsiteCnt2Returns | kvsiteCnt2Migrations | kvsiteCnt2Failed
  | kvsiteLastRefuseSlot | kvsiteLastRefuseCode | kvsiteLastRefuseLayer | kvsiteLastRefuseHgrp
  -- KVD (R284)
  | kvdCfgBusy | kvdCfgOverrun | kvdCfgLaoff | kvdRetRthr | kvdRetN | kvdRetW | kvdRetS
  -- SOSITE (R318)
  | sositeStatusBusy | sositeStatusOverrun | sositeStatusRecords | sositeEndedCount
  -- SODIST (R318)
  | sodistStatusBusy | sodistStatusOverrun | sodistStatusRunning | sodistStatusNanlog | sodistAdmMaxbatch
  | sodistAdmPbudget | sodistAdmPchunk | sodistDeferBatch | sodistDeferBudget | sodistDeferStamps | sodistDeferRing
  | sodistStepsDone | sodistStepsFailed
  -- BOOK (R318)
  | bookBindDistrict | bookBindBound | bookParamRate | bookParamDepth | bookWWin | bookWWout | bookWInterval
  | bookLevelLevel | bookLevelDefers | bookFrankedUnits
  -- DRING (R318)
  | dringCfgEn | dringCfgDistrict | dringCfgLog2size | dringCfgR193 | dringCfgPort | dringCfgVector | dringBaseAddr
  | dringConsIndex | dringProdIndex | dringStatusStreams | dringStatusFull | dringStatusConsErr
  -- NOLUCP (R355)
  | nolucpPortMode | nolucpPortState | nolucpPortTwin | nolucpPortPeer | nolucpPortDelay | nolucpPortReplay
  -- NOLUC (R355)
  | nolucStatusFid | nolucStatusUnrouted
  -- ROUND (R355)
  | roundCfgMaster | roundCfgStandby | roundCfgUp | roundCfgBudget | roundCfgPeriod | roundCfgDown | roundStatusFly
  | roundStatusLate | roundStatusFlyrun | roundStatusEpoch | roundCountRound
  -- JOB (R355)
  | jobCfgMember | jobCfgDistrict | jobCfgJobidx | jobCfgLeasedev | jobCfgLeasesb | jobSetpNom | jobSetpCur
  | jobStatusHold | jobStatusLeased | jobStatusSlowdev | jobStatusLagdev | jobStatusEpoch | jobStatusSlowv
  | jobStatusLagv
  -- TWIN (R355)
  | twinCfgPaired | twinCfgSenior | twinCfgPeer | twinStatusPorts | twinStatusFailover | twinStatusLapsed
  | twinStatusCopies
  -- ERING (R384)
  | eringCfgEn | eringCfgLog2size | eringCfgFunc | eringCfgVector | eringBaseAddr | eringRbaseAddr | eringDbIndex
  | eringHeadIndex | eringRconsIndex | eringRprodIndex | eringStatusIdle | eringStatusFetchErr | eringStatusDbErr
  | eringStatusConsErr | eringStatusOutst | eringStatusDropped
  -- ENG (R384)
  | engAuthCount
  -- MBOX (R384)
  | mboxCfgTmo | mboxCfgFunc | mboxCfgVector | mboxCfgEvt | mboxCfgCopy | mboxCopyaddrAddr | mboxStatusFull
  | mboxStatusSeq | mboxStatusReject | mboxStatusTimeout | mboxStatusWithdrawn | mboxStatusRdown | mboxStatusCopyErr
  | mboxStatusLost | mboxSendSeq | mboxAckSeq | mboxCtrlWithdraw
  -- DEV (R398)
  | devIdGrade | devIdDegraded | devIdUsable | devIdSilicon | devSiteLostMask | devSiteResetMask | devLockSecurity
  | devLockCap | devLockFlash | devLockNmsite | devLockKeys | devTvCorr | devTvUncorr | devTvPending | devTvOffset
  | devAccessDenied | devAccessDropped | devAccessWidthErr | devAccessLastOffset | devAccessLastFunc
  | devAccessLastPort | devAccessLastWrite
  -- CORE (R398)
  | corePostBusy | corePostOverrun
  -- PSITE (R429)
  | psiteStatusThrottling | psiteStatusGate | psiteAllotWatts | psiteAllotWeight | psiteLevelCompute
  | psiteLevelMemory | psiteLevelLinks | psiteESiteCount | psiteEDramCount | psiteEBaseCount | psiteELaneCount
  | psiteThrotMs
  -- PWRCL (R429)
  | pwrclSetpMhz | pwrclSetpMv | pwrclSetpGated | pwrclVminMv | pwrclVminClr | pwrclVminRound | pwrclVminPtpNs
  | pwrclEnergyCount | pwrclNoticeTimely | pwrclNoticeLate | pwrclNoticeDroop
  -- PDEV (R429)
  | pdevCapCap | pdevCapLimit | pdevCapOrder | pdevStatusCapeff | pdevStatusSource | pdevStatusVin | pdevEInCount
  | pdevEDevCount | pdevPeakW
  -- ENERGY (R429)
  | energyCfgInterval | energyCfgKvw | energyStatHeld | energyStatLost | energyRseqNext | energySseqNext
  -- RRING (R429)
  | rringCfgEn | rringCfgLog2size | rringCfgPort | rringCfgVector | rringBaseAddr | rringConsIndex | rringProdIndex
  | rringStatusHeld | rringStatusConsErr
  -- THSITE (R451)
  | thsiteStatusFast | thsiteStatusDfail | thsiteStatusDark | thsiteDiode0Cd | thsiteDiode0Bd | thsiteDiode0Iw
  | thsiteDiode1Dl0 | thsiteDiode1Dl1 | thsiteDiode1Dl2 | thsiteDiode1Dl3 | thsiteDiode2Dl4 | thsiteDiode2Dl5
  | thsiteDiode2Dl6 | thsiteDiode2Dl7 | thsiteDiode3Dl8 | thsiteDiode3Dl9 | thsiteDiode3Dl10 | thsiteDiode3Dl11
  | thsiteHoldHeld | thsiteHoldExpired
  -- THCL (R451)
  | thclEstTcd | thclEstTdl | thclEstLayer | thclCtrlLevel | thclCtrlDark | thclCtrlMargin | thclCtrlDarks
  | thclCalOffcd | thclCalOffdl | thclCalUnrel
  -- THDEV (R451)
  | thdevCfgRotate | thdevCfgFlownom | thdevCfgChecker | thdevCfgColour | thdevCoolantInlet | thdevCoolantOutlet
  | thdevCoolantFlow | thdevCoolantCount | thdevCcapCap | thdevCcapSlow | thdevCcapHotin | thdevCcapSensorLost
  | thdevCcapCold | thdevCcapRdfail | thdevLastshutValid | thdevLastshutCause | thdevLastshutIndex | thdevLastshutRseq
  -- BRDEV (R473)
  | brdevStatusPhase | brdevStatusClerkUp | brdevStatusSitesReady | brdevStatusSitesLost | brdevStatusFrmFull
  | brdevCauseLast | brdevCauseCount | brdevMapsFuse | brdevMapsField | brdevMapsNew | brdevTimesReadyMs
  -- BRSITE (R473)
  | brsiteStatusPhase | brsiteStatusReady | brsiteStatusLost | brsiteStatusResetting | brsiteStatusRdomain
  | brsiteCoresUsable | brsiteCoresW31 | brsiteCoresW30 | brsiteCoresRetired | brsiteCoresChlost | brsiteRepairVias
  | brsiteRepairBadpages | brsiteRepairNew | brsiteResetCount | brsiteResetLastdom | brsiteResetWatchdog
  | brsiteResetRound
  -- FLTDEV (R495)
  | fltdevStatusRecovering | fltdevStatusRkind | fltdevStatusRsite | fltdevStatusDeferred | fltdevStatusQuar
  | fltdevRecovUnit | fltdevRecovRound | fltdevCountRecoveries | fltdevCountEscalations | fltdevCountRebuild
  | fltdevCountRepairs | fltdevDlqSelDistrict | fltdevDlqStateCount | fltdevDlqStateLost | fltdevDlqPopDo
  -- FLTSITE (R495)
  | fltsiteChanRemaps | fltsiteChanLost | fltsiteChanStandins | fltsiteDataUe | fltsiteDataWriteLost
  | fltsiteDataPages
  deriving DecidableEq, Repr

/-- Where a field lies and what a write of it does: its block, the byte offset of its register in the block, its lowest
bit, its width, its access code, its reset value where that is one number, how many times the register or the bit group
repeats in the block, and the byte and the bit step from one to the next. -/
structure RegInfo where
  blk : Block
  off : Nat
  lo : Nat
  w : Nat
  acc : Access
  rst : Nat
  sub : Nat := 1
  byteStep : Nat := 0
  bitStep : Nat := 0
  deriving DecidableEq, Repr

end Sys2Proof
end

