-- ==== Sys2Proof/Machine/RegMap.lean ====
section
/-!
DEFINITION. The map of the registers (R386 to R388 and each block's own rule): where each field lies in its block, its
access code and its reset value. A reset value that the manual takes from flash, fuses or maps is this model's (log 10).
-/

namespace Sys2Proof.Machine

/-- The layout of every register field. -/
def regInfo : Reg → RegInfo
  | .coreSrSeed => ⟨.core, 0x40, 0, 64, .rw, 0, 1, 0, 0⟩
  | .coreSrCtr => ⟨.core, 0x48, 0, 64, .rw, 0, 1, 0, 0⟩
  | .coreNumflagsNv => ⟨.core, 0x30, 0, 1, .w1c, 0, 1, 0, 0⟩
  | .coreNumflagsOf => ⟨.core, 0x30, 1, 1, .w1c, 0, 1, 0, 0⟩
  | .coreNumflagsTrit => ⟨.core, 0x30, 2, 1, .w1c, 0, 1, 0, 0⟩
  | .coreNumflagsScaleNan => ⟨.core, 0x30, 3, 1, .w1c, 0, 1, 0, 0⟩
  | .coreArrayIdWidth => ⟨.core, 0x50, 0, 6, .ro, 32, 1, 0, 0⟩
  | .coreArrayIdBadaV => ⟨.core, 0x50, 6, 1, .ro, 0, 1, 0, 0⟩
  | .coreArrayIdBada => ⟨.core, 0x50, 7, 5, .ro, 0, 1, 0, 0⟩
  | .coreArrayIdBadbV => ⟨.core, 0x50, 12, 1, .ro, 0, 1, 0, 0⟩
  | .coreArrayIdBadb => ⟨.core, 0x50, 13, 5, .ro, 0, 1, 0, 0⟩
  | .coreArrayIdRetired => ⟨.core, 0x50, 18, 1, .ro, 0, 1, 0, 0⟩
  | .coreArrayIdField => ⟨.core, 0x50, 19, 1, .ro, 0, 1, 0, 0⟩
  | .coreArrayStatusBank0 => ⟨.core, 0x58, 0, 2, .ro, 0, 1, 0, 0⟩
  | .coreArrayStatusBank1 => ⟨.core, 0x58, 2, 2, .ro, 0, 1, 0, 0⟩
  | .coreArrayStatusBank2 => ⟨.core, 0x58, 4, 2, .ro, 0, 1, 0, 0⟩
  | .coreArrayStatusBank3 => ⟨.core, 0x58, 6, 2, .ro, 0, 1, 0, 0⟩
  | .coreArrayStatusQocc => ⟨.core, 0x58, 8, 4, .ro, 0, 1, 0, 0⟩
  | .coreArrayStatusStatValid => ⟨.core, 0x58, 12, 1, .ro, 0, 1, 0, 0⟩
  | .coreArrayStatusIntakeBusy => ⟨.core, 0x58, 13, 1, .ro, 0, 1, 0, 0⟩
  | .coreArrayStatusDrainBlocked => ⟨.core, 0x58, 14, 1, .ro, 0, 1, 0, 0⟩
  | .coreArrayStatusSatSeen => ⟨.core, 0x58, 15, 1, .w1c, 0, 1, 0, 0⟩
  | .coreArrayStatusMqocc => ⟨.core, 0x58, 16, 3, .ro, 0, 1, 0, 0⟩
  | .coreArrayStatusBankwc => ⟨.core, 0x58, 19, 8, .ro, 255, 1, 0, 0⟩
  | .coreArrayStallStall => ⟨.core, 0x60, 0, 32, .rw, 0, 1, 0, 0⟩
  | .coreLetterLbase => ⟨.core, 0x0, 0, 13, .rw, 0, 1, 0, 0⟩
  | .coreLetterLlen => ⟨.core, 0x0, 13, 13, .rw, 0, 1, 0, 0⟩
  | .coreLetterEntry => ⟨.core, 0x0, 26, 13, .rw, 0, 1, 0, 0⟩
  | .coreLetterSdbase => ⟨.core, 0x0, 39, 13, .rw, 0, 1, 0, 0⟩
  | .coreCtrlGo => ⟨.core, 0x8, 0, 1, .rwp, 0, 1, 0, 0⟩
  | .coreCtrlStop => ⟨.core, 0x8, 1, 1, .rwp, 0, 1, 0, 0⟩
  | .coreStateState => ⟨.core, 0x10, 0, 4, .ro, 0, 1, 0, 0⟩
  | .coreStatePc => ⟨.core, 0x10, 4, 13, .ro, 0, 1, 0, 0⟩
  | .coreStateLoopd => ⟨.core, 0x10, 17, 3, .ro, 0, 1, 0, 0⟩
  | .coreStateSemOvf => ⟨.core, 0x10, 20, 1, .w1c, 0, 1, 0, 0⟩
  | .coreStateSpCe => ⟨.core, 0x10, 21, 11, .rw, 0, 1, 0, 0⟩
  | .coreStateHaltCode => ⟨.core, 0x10, 32, 16, .ro, 0, 1, 0, 0⟩
  | .coreTrapClass => ⟨.core, 0x18, 0, 3, .ro, 0, 1, 0, 0⟩
  | .coreTrapCause => ⟨.core, 0x18, 8, 8, .ro, 0, 1, 0, 0⟩
  | .coreTrapPc => ⟨.core, 0x18, 16, 13, .ro, 0, 1, 0, 0⟩
  | .coreTrapNextPc => ⟨.core, 0x18, 29, 13, .ro, 0, 1, 0, 0⟩
  | .coreTrapLine => ⟨.core, 0x18, 42, 13, .ro, 0, 1, 0, 0⟩
  | .coreTrapCh => ⟨.core, 0x18, 55, 3, .ro, 0, 1, 0, 0⟩
  | .coreTrapInsnWord => ⟨.core, 0x20, 0, 64, .ro, 0, 1, 0, 0⟩
  | .coreDmaStatusState => ⟨.core, 0x28, 0, 2, .ro, 0, 8, 0, 8⟩
  | .coreDmaStatusCode => ⟨.core, 0x28, 2, 6, .ro, 0, 8, 0, 8⟩
  | .coreSemValue => ⟨.core, 0x80, 0, 16, .rw, 0, 16, 8, 0⟩
  | .coreVecCfgFa => ⟨.core, 0x68, 0, 4, .ro, 0, 1, 0, 0⟩
  | .coreVecCfgFb => ⟨.core, 0x68, 4, 4, .ro, 0, 1, 0, 0⟩
  | .coreVecCfgFd => ⟨.core, 0x68, 8, 4, .ro, 0, 1, 0, 0⟩
  | .coreVecCfgSf => ⟨.core, 0x68, 12, 4, .ro, 0, 1, 0, 0⟩
  | .coreVecCfgRnd => ⟨.core, 0x68, 16, 2, .ro, 0, 1, 0, 0⟩
  | .coreVecCfgSat => ⟨.core, 0x68, 18, 1, .ro, 0, 1, 0, 0⟩
  | .coreVecCfgSea => ⟨.core, 0x68, 19, 1, .ro, 0, 1, 0, 0⟩
  | .coreVecCfgSed => ⟨.core, 0x68, 20, 1, .ro, 0, 1, 0, 0⟩
  | .coreVecCfgSabase => ⟨.core, 0x68, 21, 13, .ro, 0, 1, 0, 0⟩
  | .coreVecCfgSdbase => ⟨.core, 0x68, 34, 13, .ro, 0, 1, 0, 0⟩
  | .coreVecStatusVqocc => ⟨.core, 0x70, 0, 3, .ro, 0, 1, 0, 0⟩
  | .coreVecStatusBusy => ⟨.core, 0x70, 3, 1, .ro, 0, 1, 0, 0⟩
  | .coreVecStatusHeadValid => ⟨.core, 0x70, 4, 1, .ro, 0, 1, 0, 0⟩
  | .coreVecStatusHeadDesc => ⟨.core, 0x70, 8, 16, .ro, 0, 1, 0, 0⟩
  | .coreVecStatusSerial => ⟨.core, 0x70, 24, 1, .w1c, 0, 1, 0, 0⟩
  | .coreVecStallStall => ⟨.core, 0x78, 0, 32, .rw, 0, 1, 0, 0⟩
  | .vaultStatusBusy => ⟨.vault, 0x0, 0, 1, .ro, 0, 1, 0, 0⟩
  | .vaultStatusOverrun => ⟨.vault, 0x0, 1, 1, .w1c, 0, 1, 0, 0⟩
  | .vaultStatusRepair => ⟨.vault, 0x0, 2, 1, .ro, 0, 1, 0, 0⟩
  | .vaultStatusDsq => ⟨.vault, 0x0, 3, 3, .ro, 0, 1, 0, 0⟩
  | .vaultStatusDsqDrop => ⟨.vault, 0x0, 6, 1, .w1c, 0, 1, 0, 0⟩
  | .vaultStatusSpares => ⟨.vault, 0x0, 7, 4, .ro, 0, 1, 0, 0⟩
  | .vaultStatusChan => ⟨.vault, 0x0, 11, 2, .ro, 0, 1, 0, 0⟩
  | .vaultErrcntCe => ⟨.vault, 0x8, 0, 16, .rw, 0, 1, 0, 0⟩
  | .vaultErrcntRepaired => ⟨.vault, 0x8, 16, 12, .rw, 0, 1, 0, 0⟩
  | .vaultErrcntUe => ⟨.vault, 0x8, 28, 8, .rw, 0, 1, 0, 0⟩
  | .vaultErrcntUnwr => ⟨.vault, 0x8, 36, 16, .rw, 0, 1, 0, 0⟩
  | .vaultErrcntNarrowInit => ⟨.vault, 0x8, 52, 8, .rw, 0, 1, 0, 0⟩
  | .vaultErrcntWriteLost => ⟨.vault, 0x8, 60, 4, .rw, 0, 1, 0, 0⟩
  | .vaultErraddrOffset => ⟨.vault, 0x10, 0, 26, .ro, 0, 1, 0, 0⟩
  | .vaultErraddrKind => ⟨.vault, 0x10, 26, 3, .ro, 0, 1, 0, 0⟩
  | .vaultErraddrSrc => ⟨.vault, 0x10, 29, 3, .ro, 0, 1, 0, 0⟩
  | .vaultErraddrRound => ⟨.vault, 0x10, 32, 32, .ro, 0, 1, 0, 0⟩
  | .vaultChanCrcCrcErr => ⟨.vault, 0x18, 0, 32, .rw, 0, 1, 0, 0⟩
  | .vaultFlipCtrlArmed => ⟨.vault, 0x20, 0, 1, .rwp, 0, 1, 0, 0⟩
  | .vaultFlipCtrlDat => ⟨.vault, 0x20, 1, 1, .rwp, 0, 1, 0, 0⟩
  | .vaultFlipCtrlChk => ⟨.vault, 0x20, 2, 1, .rwp, 0, 1, 0, 0⟩
  | .vaultFlipCtrlPar => ⟨.vault, 0x20, 3, 1, .rwp, 0, 1, 0, 0⟩
  | .vaultFlipCtrlParw => ⟨.vault, 0x20, 4, 2, .rwp, 0, 1, 0, 0⟩
  | .vaultFlipDataMask => ⟨.vault, 0x28, 0, 64, .rwp, 0, 4, 8, 0⟩
  | .vaultFlipCheckMask => ⟨.vault, 0x48, 0, 16, .rwp, 0, 1, 0, 0⟩
  | .vaultFlipLastOffset => ⟨.vault, 0x50, 0, 26, .ro, 0, 1, 0, 0⟩
  | .vaultFlipLastValid => ⟨.vault, 0x50, 26, 1, .ro, 0, 1, 0, 0⟩
  | .vaultFlipLastOnpar => ⟨.vault, 0x50, 27, 1, .ro, 0, 1, 0, 0⟩
  | .vsiteStatusBusy => ⟨.vsite, 0x0, 0, 1, .ro, 0, 1, 0, 0⟩
  | .vsiteStatusOverrun => ⟨.vsite, 0x0, 1, 1, .w1c, 0, 1, 0, 0⟩
  | .vsiteStatusMarkerDone => ⟨.vsite, 0x0, 2, 1, .ro, 0, 1, 0, 0⟩
  | .vsiteStatusHole => ⟨.vsite, 0x0, 3, 1, .w1c, 0, 1, 0, 0⟩
  | .vsiteScrubHours => ⟨.vsite, 0x8, 0, 8, .rwp, 24, 1, 0, 0⟩
  | .vsiteScrubEn => ⟨.vsite, 0x8, 8, 1, .rwp, 1, 1, 0, 0⟩
  | .vsiteScrubBehind => ⟨.vsite, 0x8, 9, 1, .ro, 0, 1, 0, 0⟩
  | .vsiteScrubPassPasses => ⟨.vsite, 0x10, 0, 16, .ro, 0, 1, 0, 0⟩
  | .vsiteScrubPassProgress => ⟨.vsite, 0x10, 16, 16, .ro, 0, 1, 0, 0⟩
  | .vsiteSelftestMode => ⟨.vsite, 0x18, 0, 2, .rwl, 0, 1, 0, 0⟩
  | .vsiteSelftestDone => ⟨.vsite, 0x18, 2, 1, .ro, 0, 1, 0, 0⟩
  | .vsiteSelftestFail => ⟨.vsite, 0x18, 3, 1, .ro, 0, 1, 0, 0⟩
  | .vsiteSelftestFailed => ⟨.vsite, 0x18, 4, 12, .ro, 0, 1, 0, 0⟩
  | .nmeStatusBusy => ⟨.nme, 0x0, 0, 1, .ro, 0, 1, 0, 0⟩
  | .nmeStatusOverrun => ⟨.nme, 0x0, 1, 1, .w1c, 0, 1, 0, 0⟩
  | .nmeStatusQocc => ⟨.nme, 0x0, 2, 5, .ro, 0, 1, 0, 0⟩
  | .nmeStatusRunning => ⟨.nme, 0x0, 7, 1, .ro, 0, 1, 0, 0⟩
  | .nmeStatusHeld => ⟨.nme, 0x0, 8, 1, .ro, 0, 1, 0, 0⟩
  | .nmeStatusHostMet => ⟨.nme, 0x0, 9, 1, .w1c, 0, 1, 0, 0⟩
  | .nmeStatusLast => ⟨.nme, 0x0, 10, 8, .ro, 0, 1, 0, 0⟩
  | .nmeCtrlAbort => ⟨.nme, 0x8, 0, 1, .rwp, 0, 1, 0, 0⟩
  | .nmeRowsCount => ⟨.nme, 0x10, 0, 32, .rw, 0, 1, 0, 0⟩
  | .nmeBytesCount => ⟨.nme, 0x18, 0, 48, .rw, 0, 1, 0, 0⟩
  | .nmsiteTagBaseValid => ⟨.nmsite, 0x0, 0, 1, .rwl, 0, 16, 24, 0⟩
  | .nmsiteTagBaseBase => ⟨.nmsite, 0x0, 16, 26, .rwl, 0, 16, 24, 0⟩
  | .nmsiteTagLenPages => ⟨.nmsite, 0x8, 0, 21, .rwl, 0, 16, 24, 0⟩
  | .nmsiteTagTtTtbase => ⟨.nmsite, 0x10, 3, 39, .rwl, 0, 16, 24, 0⟩
  | .nmsiteLockLock => ⟨.nmsite, 0x180, 0, 1, .rwl, 0, 1, 0, 0⟩
  | .netStatusBusy => ⟨.net, 0x0, 0, 1, .ro, 0, 1, 0, 0⟩
  | .netStatusOverrun => ⟨.net, 0x0, 1, 1, .w1c, 0, 1, 0, 0⟩
  | .netStatusRouting => ⟨.net, 0x0, 2, 1, .ro, 0, 1, 0, 0⟩
  | .netStatusOut => ⟨.net, 0x0, 3, 1, .ro, 0, 1, 0, 0⟩
  | .netStatusUnreach => ⟨.net, 0x0, 4, 1, .w1c, 0, 1, 0, 0⟩
  | .netStatusEpoch => ⟨.net, 0x0, 8, 8, .ro, 0, 1, 0, 0⟩
  | .netVcWeightW1 => ⟨.net, 0x8, 0, 8, .rwp, 8, 1, 0, 0⟩
  | .netVcWeightW2 => ⟨.net, 0x8, 8, 8, .rwp, 4, 1, 0, 0⟩
  | .netVcWeightW3 => ⟨.net, 0x8, 16, 8, .rwp, 4, 1, 0, 0⟩
  | .netEdgeActive => ⟨.net, 0x10, 0, 6, .ro, 32, 4, 8, 0⟩
  | .netEdgeSpares => ⟨.net, 0x10, 6, 2, .ro, 0, 4, 8, 0⟩
  | .netEdgeState => ⟨.net, 0x10, 8, 2, .ro, 0, 4, 8, 0⟩
  | .netEdgeReplay => ⟨.net, 0x10, 16, 16, .rw, 0, 4, 8, 0⟩
  | .phStatCe => ⟨.ph, 0x0, 0, 16, .rw, 0, 1, 0, 0⟩
  | .phStatUe => ⟨.ph, 0x0, 16, 8, .rw, 0, 1, 0, 0⟩
  | .phStatZeroed => ⟨.ph, 0x0, 24, 1, .ro, 0, 1, 0, 0⟩
  | .phWaitCount => ⟨.ph, 0x8, 0, 32, .rw, 0, 1, 0, 0⟩
  | .distCfgState => ⟨.dist, 0x0, 0, 3, .tv, 0, 1, 0, 0⟩
  | .distCfgHome => ⟨.dist, 0x0, 3, 6, .tv, 0, 1, 0, 0⟩
  | .distCfgParcel => ⟨.dist, 0x0, 9, 6, .tv, 0, 1, 0, 0⟩
  | .distCfgPv => ⟨.dist, 0x0, 15, 1, .tv, 0, 1, 0, 0⟩
  | .distCfgOffset => ⟨.dist, 0x0, 16, 14, .tv, 0, 1, 0, 0⟩
  | .distCfgClamped => ⟨.dist, 0x0, 30, 1, .ro, 0, 1, 0, 0⟩
  | .distOwnerId => ⟨.dist, 0x8, 0, 32, .tv, 0, 1, 0, 0⟩
  | .distResSlots => ⟨.dist, 0x10, 0, 19, .tv, 0, 1, 0, 0⟩
  | .distResPageLimit => ⟨.dist, 0x10, 19, 27, .tv, 0, 1, 0, 0⟩
  | .distPtRootAddr => ⟨.dist, 0x18, 0, 43, .tv, 0, 1, 0, 0⟩
  | .distUseSlots => ⟨.dist, 0x20, 0, 19, .ro, 0, 1, 0, 0⟩
  | .distUsePages => ⟨.dist, 0x20, 19, 27, .ro, 0, 1, 0, 0⟩
  | .distShapeClusters => ⟨.dist, 0x28, 0, 12, .ro, 0, 1, 0, 0⟩
  | .distShapeCores => ⟨.dist, 0x28, 12, 18, .ro, 0, 1, 0, 0⟩
  | .distStepOvrCount => ⟨.dist, 0x30, 0, 32, .rw, 0, 1, 0, 0⟩
  | .clbindCDistrict => ⟨.clbind, 0x0, 0, 8, .tv, 0, 1, 0, 0⟩
  | .clbindCBound => ⟨.clbind, 0x0, 8, 1, .tv, 0, 1, 0, 0⟩
  | .clbindCClean => ⟨.clbind, 0x0, 9, 1, .ro, 0, 1, 0, 0⟩
  | .kvsiteStatusBusy => ⟨.kvsite, 0x0, 0, 1, .ro, 0, 1, 0, 0⟩
  | .kvsiteStatusOverrun => ⟨.kvsite, 0x0, 1, 1, .w1c, 0, 1, 0, 0⟩
  | .kvsiteStatusSpilling => ⟨.kvsite, 0x0, 2, 1, .ro, 0, 1, 0, 0⟩
  | .kvsiteStatusPreempt => ⟨.kvsite, 0x0, 3, 1, .ro, 0, 1, 0, 0⟩
  | .kvsiteStatusPrPresent => ⟨.kvsite, 0x0, 4, 1, .ro, 0, 1, 0, 0⟩
  | .kvsiteStatusQocc => ⟨.kvsite, 0x0, 5, 7, .ro, 0, 1, 0, 0⟩
  | .kvsiteStatusNospace => ⟨.kvsite, 0x0, 12, 1, .w1c, 0, 1, 0, 0⟩
  | .kvsiteWmarkLow => ⟨.kvsite, 0x8, 0, 21, .rwp, 16384, 1, 0, 0⟩
  | .kvsiteWmarkHigh => ⟨.kvsite, 0x8, 21, 21, .rwp, 32768, 1, 0, 0⟩
  | .kvsiteWmarkPrPct => ⟨.kvsite, 0x8, 42, 7, .rwp, 90, 1, 0, 0⟩
  | .kvsiteFreePages => ⟨.kvsite, 0x10, 0, 21, .ro, 0, 1, 0, 0⟩
  | .kvsitePrShare => ⟨.kvsite, 0x18, 0, 22, .ro, 0, 1, 0, 0⟩
  | .kvsitePrUsed => ⟨.kvsite, 0x18, 22, 22, .ro, 0, 1, 0, 0⟩
  | .kvsiteCnt0Appends => ⟨.kvsite, 0x20, 0, 32, .rw, 0, 1, 0, 0⟩
  | .kvsiteCnt0Refused => ⟨.kvsite, 0x20, 32, 16, .rw, 0, 1, 0, 0⟩
  | .kvsiteCnt0LaLate => ⟨.kvsite, 0x20, 48, 16, .rw, 0, 1, 0, 0⟩
  | .kvsiteCnt1Spills => ⟨.kvsite, 0x28, 0, 32, .rw, 0, 1, 0, 0⟩
  | .kvsiteCnt1Cancels => ⟨.kvsite, 0x28, 32, 16, .rw, 0, 1, 0, 0⟩
  | .kvsiteCnt1Preempts => ⟨.kvsite, 0x28, 48, 16, .rw, 0, 1, 0, 0⟩
  | .kvsiteCnt2Returns => ⟨.kvsite, 0x30, 0, 32, .rw, 0, 1, 0, 0⟩
  | .kvsiteCnt2Migrations => ⟨.kvsite, 0x30, 32, 16, .rw, 0, 1, 0, 0⟩
  | .kvsiteCnt2Failed => ⟨.kvsite, 0x30, 48, 16, .rw, 0, 1, 0, 0⟩
  | .kvsiteLastRefuseSlot => ⟨.kvsite, 0x38, 0, 18, .ro, 0, 1, 0, 0⟩
  | .kvsiteLastRefuseCode => ⟨.kvsite, 0x38, 18, 4, .ro, 0, 1, 0, 0⟩
  | .kvsiteLastRefuseLayer => ⟨.kvsite, 0x38, 22, 12, .ro, 0, 1, 0, 0⟩
  | .kvsiteLastRefuseHgrp => ⟨.kvsite, 0x38, 34, 8, .ro, 0, 1, 0, 0⟩
  | .kvdCfgBusy => ⟨.kvd, 0x0, 0, 1, .ro, 0, 1, 0, 0⟩
  | .kvdCfgOverrun => ⟨.kvd, 0x0, 1, 1, .w1c, 0, 1, 0, 0⟩
  | .kvdCfgLaoff => ⟨.kvd, 0x0, 2, 14, .rwp, 0, 1, 0, 0⟩
  | .kvdRetRthr => ⟨.kvd, 0x8, 0, 25, .rwp, 65536, 1, 0, 0⟩
  | .kvdRetN => ⟨.kvd, 0x8, 25, 13, .rwp, 64, 1, 0, 0⟩
  | .kvdRetW => ⟨.kvd, 0x8, 38, 7, .rwp, 4, 1, 0, 0⟩
  | .kvdRetS => ⟨.kvd, 0x8, 45, 7, .rwp, 1, 1, 0, 0⟩
  | .sositeStatusBusy => ⟨.sosite, 0x0, 0, 1, .ro, 0, 1, 0, 0⟩
  | .sositeStatusOverrun => ⟨.sosite, 0x0, 1, 1, .w1c, 0, 1, 0, 0⟩
  | .sositeStatusRecords => ⟨.sosite, 0x0, 2, 13, .ro, 0, 1, 0, 0⟩
  | .sositeEndedCount => ⟨.sosite, 0x8, 0, 32, .rw, 0, 1, 0, 0⟩
  | .sodistStatusBusy => ⟨.sodist, 0x0, 0, 1, .ro, 0, 1, 0, 0⟩
  | .sodistStatusOverrun => ⟨.sodist, 0x0, 1, 1, .w1c, 0, 1, 0, 0⟩
  | .sodistStatusRunning => ⟨.sodist, 0x0, 2, 18, .ro, 0, 1, 0, 0⟩
  | .sodistStatusNanlog => ⟨.sodist, 0x0, 20, 1, .w1c, 0, 1, 0, 0⟩
  | .sodistAdmMaxbatch => ⟨.sodist, 0x8, 0, 13, .rwp, 64, 1, 0, 0⟩
  | .sodistAdmPbudget => ⟨.sodist, 0x8, 16, 16, .rwp, 256, 1, 0, 0⟩
  | .sodistAdmPchunk => ⟨.sodist, 0x8, 32, 16, .rwp, 256, 1, 0, 0⟩
  | .sodistDeferBatch => ⟨.sodist, 0x10, 0, 16, .rw, 0, 1, 0, 0⟩
  | .sodistDeferBudget => ⟨.sodist, 0x10, 16, 16, .rw, 0, 1, 0, 0⟩
  | .sodistDeferStamps => ⟨.sodist, 0x10, 32, 16, .rw, 0, 1, 0, 0⟩
  | .sodistDeferRing => ⟨.sodist, 0x10, 48, 16, .rw, 0, 1, 0, 0⟩
  | .sodistStepsDone => ⟨.sodist, 0x18, 0, 32, .rw, 0, 1, 0, 0⟩
  | .sodistStepsFailed => ⟨.sodist, 0x18, 32, 16, .rw, 0, 1, 0, 0⟩
  | .bookBindDistrict => ⟨.book, 0x0, 0, 8, .tv, 0, 1, 0, 0⟩
  | .bookBindBound => ⟨.book, 0x0, 8, 1, .tv, 0, 1, 0, 0⟩
  | .bookParamRate => ⟨.book, 0x8, 0, 32, .ro, 0, 1, 0, 0⟩
  | .bookParamDepth => ⟨.book, 0x8, 32, 32, .ro, 0, 1, 0, 0⟩
  | .bookWWin => ⟨.book, 0x10, 0, 16, .ro, 0, 1, 0, 0⟩
  | .bookWWout => ⟨.book, 0x10, 16, 16, .ro, 0, 1, 0, 0⟩
  | .bookWInterval => ⟨.book, 0x10, 32, 15, .ro, 0, 1, 0, 0⟩
  | .bookLevelLevel => ⟨.book, 0x18, 0, 32, .ro, 0, 1, 0, 0⟩
  | .bookLevelDefers => ⟨.book, 0x18, 32, 32, .rw, 0, 1, 0, 0⟩
  | .bookFrankedUnits => ⟨.book, 0x20, 0, 48, .rw, 0, 1, 0, 0⟩
  | .dringCfgEn => ⟨.dring, 0x0, 0, 1, .ro, 0, 1, 0, 0⟩
  | .dringCfgDistrict => ⟨.dring, 0x0, 1, 8, .ro, 0, 1, 0, 0⟩
  | .dringCfgLog2size => ⟨.dring, 0x0, 9, 5, .ro, 0, 1, 0, 0⟩
  | .dringCfgR193 => ⟨.dring, 0x0, 14, 1, .ro, 0, 1, 0, 0⟩
  | .dringCfgPort => ⟨.dring, 0x0, 15, 2, .ro, 0, 1, 0, 0⟩
  | .dringCfgVector => ⟨.dring, 0x0, 17, 11, .ro, 0, 1, 0, 0⟩
  | .dringBaseAddr => ⟨.dring, 0x8, 0, 64, .ro, 0, 1, 0, 0⟩
  | .dringConsIndex => ⟨.dring, 0x10, 0, 21, .rw, 0, 1, 0, 0⟩
  | .dringProdIndex => ⟨.dring, 0x18, 0, 21, .ro, 0, 1, 0, 0⟩
  | .dringStatusStreams => ⟨.dring, 0x20, 0, 20, .ro, 0, 1, 0, 0⟩
  | .dringStatusFull => ⟨.dring, 0x20, 20, 1, .w1c, 0, 1, 0, 0⟩
  | .dringStatusConsErr => ⟨.dring, 0x20, 21, 1, .w1c, 0, 1, 0, 0⟩
  | .nolucpPortMode => ⟨.nolucp, 0x0, 0, 2, .ro, 1, 1, 0, 0⟩
  | .nolucpPortState => ⟨.nolucp, 0x0, 2, 2, .ro, 0, 1, 0, 0⟩
  | .nolucpPortTwin => ⟨.nolucp, 0x0, 4, 1, .ro, 0, 1, 0, 0⟩
  | .nolucpPortPeer => ⟨.nolucp, 0x0, 5, 10, .ro, 0, 1, 0, 0⟩
  | .nolucpPortDelay => ⟨.nolucp, 0x0, 15, 17, .ro, 0, 1, 0, 0⟩
  | .nolucpPortReplay => ⟨.nolucp, 0x0, 32, 32, .rw, 0, 1, 0, 0⟩
  | .nolucStatusFid => ⟨.noluc, 0x0, 0, 10, .ro, 0, 1, 0, 0⟩
  | .nolucStatusUnrouted => ⟨.noluc, 0x0, 10, 22, .rw, 0, 1, 0, 0⟩
  | .roundCfgMaster => ⟨.round, 0x0, 0, 10, .ro, 0, 1, 0, 0⟩
  | .roundCfgStandby => ⟨.round, 0x0, 10, 10, .ro, 0, 1, 0, 0⟩
  | .roundCfgUp => ⟨.round, 0x0, 20, 10, .ro, 0, 1, 0, 0⟩
  | .roundCfgBudget => ⟨.round, 0x0, 30, 6, .ro, 5, 1, 0, 0⟩
  | .roundCfgPeriod => ⟨.round, 0x0, 36, 14, .ro, 250, 1, 0, 0⟩
  | .roundCfgDown => ⟨.round, 0x8, 0, 32, .ro, 0, 1, 0, 0⟩
  | .roundStatusFly => ⟨.round, 0x10, 0, 1, .ro, 0, 1, 0, 0⟩
  | .roundStatusLate => ⟨.round, 0x10, 1, 1, .w1c, 0, 1, 0, 0⟩
  | .roundStatusFlyrun => ⟨.round, 0x10, 2, 3, .ro, 0, 1, 0, 0⟩
  | .roundStatusEpoch => ⟨.round, 0x10, 5, 16, .ro, 0, 1, 0, 0⟩
  | .roundCountRound => ⟨.round, 0x18, 0, 48, .ro, 0, 1, 0, 0⟩
  | .jobCfgMember => ⟨.job, 0x0, 0, 1, .ro, 0, 1, 0, 0⟩
  | .jobCfgDistrict => ⟨.job, 0x0, 1, 8, .ro, 0, 1, 0, 0⟩
  | .jobCfgJobidx => ⟨.job, 0x0, 9, 4, .ro, 0, 1, 0, 0⟩
  | .jobCfgLeasedev => ⟨.job, 0x0, 13, 10, .ro, 0, 1, 0, 0⟩
  | .jobCfgLeasesb => ⟨.job, 0x0, 23, 10, .ro, 0, 1, 0, 0⟩
  | .jobSetpNom => ⟨.job, 0x8, 0, 11, .ro, 1250, 1, 0, 0⟩
  | .jobSetpCur => ⟨.job, 0x8, 11, 11, .ro, 1250, 1, 0, 0⟩
  | .jobStatusHold => ⟨.job, 0x10, 0, 1, .ro, 0, 1, 0, 0⟩
  | .jobStatusLeased => ⟨.job, 0x10, 1, 1, .ro, 0, 1, 0, 0⟩
  | .jobStatusSlowdev => ⟨.job, 0x10, 2, 10, .ro, 0, 1, 0, 0⟩
  | .jobStatusLagdev => ⟨.job, 0x10, 12, 10, .ro, 0, 1, 0, 0⟩
  | .jobStatusEpoch => ⟨.job, 0x10, 22, 16, .ro, 0, 1, 0, 0⟩
  | .jobStatusSlowv => ⟨.job, 0x10, 38, 1, .ro, 0, 1, 0, 0⟩
  | .jobStatusLagv => ⟨.job, 0x10, 39, 1, .ro, 0, 1, 0, 0⟩
  | .twinCfgPaired => ⟨.twin, 0x0, 0, 1, .ro, 0, 1, 0, 0⟩
  | .twinCfgSenior => ⟨.twin, 0x0, 1, 1, .ro, 0, 1, 0, 0⟩
  | .twinCfgPeer => ⟨.twin, 0x0, 2, 10, .ro, 0, 1, 0, 0⟩
  | .twinStatusPorts => ⟨.twin, 0x8, 0, 4, .ro, 0, 1, 0, 0⟩
  | .twinStatusFailover => ⟨.twin, 0x8, 4, 1, .ro, 0, 1, 0, 0⟩
  | .twinStatusLapsed => ⟨.twin, 0x8, 5, 18, .ro, 0, 1, 0, 0⟩
  | .twinStatusCopies => ⟨.twin, 0x8, 32, 32, .rw, 0, 1, 0, 0⟩
  | .eringCfgEn => ⟨.ering, 0x0, 0, 1, .rw, 0, 1, 0, 0⟩
  | .eringCfgLog2size => ⟨.ering, 0x0, 1, 5, .rw, 0, 1, 0, 0⟩
  | .eringCfgFunc => ⟨.ering, 0x0, 6, 3, .rw, 0, 1, 0, 0⟩
  | .eringCfgVector => ⟨.ering, 0x0, 9, 11, .rw, 0, 1, 0, 0⟩
  | .eringBaseAddr => ⟨.ering, 0x8, 12, 52, .rw, 0, 1, 0, 0⟩
  | .eringRbaseAddr => ⟨.ering, 0x10, 6, 58, .rw, 0, 1, 0, 0⟩
  | .eringDbIndex => ⟨.ering, 0x18, 0, 17, .rw, 0, 1, 0, 0⟩
  | .eringHeadIndex => ⟨.ering, 0x20, 0, 17, .ro, 0, 1, 0, 0⟩
  | .eringRconsIndex => ⟨.ering, 0x28, 0, 17, .rw, 0, 1, 0, 0⟩
  | .eringRprodIndex => ⟨.ering, 0x30, 0, 17, .ro, 0, 1, 0, 0⟩
  | .eringStatusIdle => ⟨.ering, 0x38, 0, 1, .ro, 1, 1, 0, 0⟩
  | .eringStatusFetchErr => ⟨.ering, 0x38, 1, 1, .w1c, 0, 1, 0, 0⟩
  | .eringStatusDbErr => ⟨.ering, 0x38, 2, 1, .w1c, 0, 1, 0, 0⟩
  | .eringStatusConsErr => ⟨.ering, 0x38, 3, 1, .w1c, 0, 1, 0, 0⟩
  | .eringStatusOutst => ⟨.ering, 0x38, 4, 7, .ro, 0, 1, 0, 0⟩
  | .eringStatusDropped => ⟨.ering, 0x38, 11, 16, .rw, 0, 1, 0, 0⟩
  | .engAuthCount => ⟨.eng, 0x0, 0, 32, .rw, 0, 1, 0, 0⟩
  | .mboxCfgTmo => ⟨.mbox, 0x200, 0, 10, .rw, 100, 1, 0, 0⟩
  | .mboxCfgFunc => ⟨.mbox, 0x200, 10, 3, .rw, 1, 1, 0, 0⟩
  | .mboxCfgVector => ⟨.mbox, 0x200, 13, 11, .rw, 0, 1, 0, 0⟩
  | .mboxCfgEvt => ⟨.mbox, 0x200, 24, 1, .rw, 0, 1, 0, 0⟩
  | .mboxCfgCopy => ⟨.mbox, 0x200, 25, 1, .rw, 0, 1, 0, 0⟩
  | .mboxCopyaddrAddr => ⟨.mbox, 0x208, 0, 43, .rw, 0, 1, 0, 0⟩
  | .mboxStatusFull => ⟨.mbox, 0x210, 0, 1, .ro, 0, 1, 0, 0⟩
  | .mboxStatusSeq => ⟨.mbox, 0x210, 1, 8, .ro, 0, 1, 0, 0⟩
  | .mboxStatusReject => ⟨.mbox, 0x210, 9, 1, .w1c, 0, 1, 0, 0⟩
  | .mboxStatusTimeout => ⟨.mbox, 0x210, 10, 1, .w1c, 0, 1, 0, 0⟩
  | .mboxStatusWithdrawn => ⟨.mbox, 0x210, 11, 1, .w1c, 0, 1, 0, 0⟩
  | .mboxStatusRdown => ⟨.mbox, 0x210, 12, 1, .ro, 0, 1, 0, 0⟩
  | .mboxStatusCopyErr => ⟨.mbox, 0x210, 13, 1, .w1c, 0, 1, 0, 0⟩
  | .mboxStatusLost => ⟨.mbox, 0x210, 16, 16, .rw, 0, 1, 0, 0⟩
  | .mboxSendSeq => ⟨.mbox, 0x218, 0, 8, .ro, 0, 1, 0, 0⟩
  | .mboxAckSeq => ⟨.mbox, 0x220, 0, 8, .rw, 0, 1, 0, 0⟩
  | .mboxCtrlWithdraw => ⟨.mbox, 0x228, 0, 1, .rw, 0, 1, 0, 0⟩
  | .devIdGrade => ⟨.dev, 0x0, 0, 8, .ro, 65, 1, 0, 0⟩
  | .devIdDegraded => ⟨.dev, 0x0, 8, 1, .ro, 0, 1, 0, 0⟩
  | .devIdUsable => ⟨.dev, 0x0, 9, 18, .ro, 0, 1, 0, 0⟩
  | .devIdSilicon => ⟨.dev, 0x0, 32, 8, .ro, 0, 1, 0, 0⟩
  | .devSiteLostMask => ⟨.dev, 0x8, 0, 64, .ro, 0, 1, 0, 0⟩
  | .devSiteResetMask => ⟨.dev, 0x10, 0, 64, .ro, 0, 1, 0, 0⟩
  | .devLockSecurity => ⟨.dev, 0x18, 0, 1, .tv, 0, 1, 0, 0⟩
  | .devLockCap => ⟨.dev, 0x18, 1, 1, .tv, 0, 1, 0, 0⟩
  | .devLockFlash => ⟨.dev, 0x18, 2, 1, .tv, 0, 1, 0, 0⟩
  | .devLockNmsite => ⟨.dev, 0x18, 3, 1, .tv, 0, 1, 0, 0⟩
  | .devLockKeys => ⟨.dev, 0x18, 4, 1, .tv, 0, 1, 0, 0⟩
  | .devTvCorr => ⟨.dev, 0x20, 0, 16, .rw, 0, 1, 0, 0⟩
  | .devTvUncorr => ⟨.dev, 0x20, 16, 8, .rw, 0, 1, 0, 0⟩
  | .devTvPending => ⟨.dev, 0x20, 24, 1, .ro, 0, 1, 0, 0⟩
  | .devTvOffset => ⟨.dev, 0x20, 32, 28, .ro, 0, 1, 0, 0⟩
  | .devAccessDenied => ⟨.dev, 0x28, 0, 16, .rw, 0, 1, 0, 0⟩
  | .devAccessDropped => ⟨.dev, 0x28, 16, 16, .rw, 0, 1, 0, 0⟩
  | .devAccessWidthErr => ⟨.dev, 0x28, 32, 1, .w1c, 0, 1, 0, 0⟩
  | .devAccessLastOffset => ⟨.dev, 0x30, 0, 28, .ro, 0, 1, 0, 0⟩
  | .devAccessLastFunc => ⟨.dev, 0x30, 28, 3, .ro, 0, 1, 0, 0⟩
  | .devAccessLastPort => ⟨.dev, 0x30, 31, 2, .ro, 0, 1, 0, 0⟩
  | .devAccessLastWrite => ⟨.dev, 0x30, 33, 1, .ro, 0, 1, 0, 0⟩
  | .corePostBusy => ⟨.core, 0x38, 0, 1, .ro, 0, 1, 0, 0⟩
  | .corePostOverrun => ⟨.core, 0x38, 1, 1, .w1c, 0, 1, 0, 0⟩
  | .psiteStatusThrottling => ⟨.psite, 0x0, 0, 1, .ro, 0, 1, 0, 0⟩
  | .psiteStatusGate => ⟨.psite, 0x0, 1, 4, .ro, 0, 1, 0, 0⟩
  | .psiteAllotWatts => ⟨.psite, 0x8, 0, 9, .tv, 500, 1, 0, 0⟩
  | .psiteAllotWeight => ⟨.psite, 0x8, 9, 8, .tv, 1, 1, 0, 0⟩
  | .psiteLevelCompute => ⟨.psite, 0x10, 0, 7, .ro, 100, 1, 0, 0⟩
  | .psiteLevelMemory => ⟨.psite, 0x10, 8, 7, .ro, 100, 1, 0, 0⟩
  | .psiteLevelLinks => ⟨.psite, 0x10, 16, 7, .ro, 100, 1, 0, 0⟩
  | .psiteESiteCount => ⟨.psite, 0x18, 0, 64, .ro, 0, 1, 0, 0⟩
  | .psiteEDramCount => ⟨.psite, 0x20, 0, 64, .ro, 0, 1, 0, 0⟩
  | .psiteEBaseCount => ⟨.psite, 0x28, 0, 64, .ro, 0, 1, 0, 0⟩
  | .psiteELaneCount => ⟨.psite, 0x30, 0, 64, .ro, 0, 1, 0, 0⟩
  | .psiteThrotMs => ⟨.psite, 0x38, 0, 32, .rw, 0, 1, 0, 0⟩
  | .pwrclSetpMhz => ⟨.pwrcl, 0x0, 0, 11, .ro, 1250, 1, 0, 0⟩
  | .pwrclSetpMv => ⟨.pwrcl, 0x0, 11, 10, .ro, 0, 1, 0, 0⟩
  | .pwrclSetpGated => ⟨.pwrcl, 0x0, 21, 10, .ro, 0, 1, 0, 0⟩
  | .pwrclVminMv => ⟨.pwrcl, 0x8, 0, 10, .ro, 0, 1, 0, 0⟩
  | .pwrclVminClr => ⟨.pwrcl, 0x8, 10, 1, .rw, 0, 1, 0, 0⟩
  | .pwrclVminRound => ⟨.pwrcl, 0x8, 32, 32, .ro, 0, 1, 0, 0⟩
  | .pwrclVminPtpNs => ⟨.pwrcl, 0x10, 0, 64, .ro, 0, 1, 0, 0⟩
  | .pwrclEnergyCount => ⟨.pwrcl, 0x18, 0, 64, .ro, 0, 1, 0, 0⟩
  | .pwrclNoticeTimely => ⟨.pwrcl, 0x20, 0, 16, .rw, 0, 1, 0, 0⟩
  | .pwrclNoticeLate => ⟨.pwrcl, 0x20, 16, 16, .rw, 0, 1, 0, 0⟩
  | .pwrclNoticeDroop => ⟨.pwrcl, 0x20, 32, 16, .rw, 0, 1, 0, 0⟩
  | .pdevCapCap => ⟨.pdev, 0x0, 0, 12, .tv, 3200, 1, 0, 0⟩
  | .pdevCapLimit => ⟨.pdev, 0x0, 12, 12, .tv, 3200, 1, 0, 0⟩
  | .pdevCapOrder => ⟨.pdev, 0x0, 24, 3, .tv, 0, 1, 0, 0⟩
  | .pdevStatusCapeff => ⟨.pdev, 0x8, 0, 12, .ro, 3200, 1, 0, 0⟩
  | .pdevStatusSource => ⟨.pdev, 0x8, 12, 2, .ro, 0, 1, 0, 0⟩
  | .pdevStatusVin => ⟨.pdev, 0x8, 14, 16, .ro, 0, 1, 0, 0⟩
  | .pdevEInCount => ⟨.pdev, 0x10, 0, 64, .ro, 0, 1, 0, 0⟩
  | .pdevEDevCount => ⟨.pdev, 0x18, 0, 64, .ro, 0, 1, 0, 0⟩
  | .pdevPeakW => ⟨.pdev, 0x20, 0, 32, .rw, 0, 1, 0, 0⟩
  | .energyCfgInterval => ⟨.energy, 0x0, 0, 24, .rw, 4000, 1, 0, 0⟩
  | .energyCfgKvw => ⟨.energy, 0x0, 24, 8, .rw, 16, 1, 0, 0⟩
  | .energyStatHeld => ⟨.energy, 0x8, 0, 16, .ro, 0, 1, 0, 0⟩
  | .energyStatLost => ⟨.energy, 0x8, 16, 16, .rw, 0, 1, 0, 0⟩
  | .energyRseqNext => ⟨.energy, 0x10, 0, 64, .ro, 0, 1, 0, 0⟩
  | .energySseqNext => ⟨.energy, 0x18, 0, 64, .ro, 0, 1, 0, 0⟩
  | .rringCfgEn => ⟨.rring, 0x0, 0, 1, .ro, 0, 1, 0, 0⟩
  | .rringCfgLog2size => ⟨.rring, 0x0, 1, 5, .ro, 0, 1, 0, 0⟩
  | .rringCfgPort => ⟨.rring, 0x0, 6, 2, .ro, 0, 1, 0, 0⟩
  | .rringCfgVector => ⟨.rring, 0x0, 8, 11, .ro, 0, 1, 0, 0⟩
  | .rringBaseAddr => ⟨.rring, 0x8, 9, 55, .ro, 0, 1, 0, 0⟩
  | .rringConsIndex => ⟨.rring, 0x10, 0, 17, .rw, 0, 1, 0, 0⟩
  | .rringProdIndex => ⟨.rring, 0x18, 0, 17, .ro, 0, 1, 0, 0⟩
  | .rringStatusHeld => ⟨.rring, 0x20, 0, 16, .ro, 0, 1, 0, 0⟩
  | .rringStatusConsErr => ⟨.rring, 0x20, 16, 1, .w1c, 0, 1, 0, 0⟩
  | .thsiteStatusFast => ⟨.thsite, 0x0, 0, 12, .ro, 0, 1, 0, 0⟩
  | .thsiteStatusDfail => ⟨.thsite, 0x0, 12, 15, .ro, 0, 1, 0, 0⟩
  | .thsiteStatusDark => ⟨.thsite, 0x0, 27, 1, .ro, 0, 1, 0, 0⟩
  | .thsiteDiode0Cd => ⟨.thsite, 0x8, 0, 16, .ro, 0, 1, 0, 0⟩
  | .thsiteDiode0Bd => ⟨.thsite, 0x8, 16, 16, .ro, 0, 1, 0, 0⟩
  | .thsiteDiode0Iw => ⟨.thsite, 0x8, 32, 16, .ro, 0, 1, 0, 0⟩
  | .thsiteDiode1Dl0 => ⟨.thsite, 0x10, 0, 16, .ro, 0, 1, 0, 0⟩
  | .thsiteDiode1Dl1 => ⟨.thsite, 0x10, 16, 16, .ro, 0, 1, 0, 0⟩
  | .thsiteDiode1Dl2 => ⟨.thsite, 0x10, 32, 16, .ro, 0, 1, 0, 0⟩
  | .thsiteDiode1Dl3 => ⟨.thsite, 0x10, 48, 16, .ro, 0, 1, 0, 0⟩
  | .thsiteDiode2Dl4 => ⟨.thsite, 0x18, 0, 16, .ro, 0, 1, 0, 0⟩
  | .thsiteDiode2Dl5 => ⟨.thsite, 0x18, 16, 16, .ro, 0, 1, 0, 0⟩
  | .thsiteDiode2Dl6 => ⟨.thsite, 0x18, 32, 16, .ro, 0, 1, 0, 0⟩
  | .thsiteDiode2Dl7 => ⟨.thsite, 0x18, 48, 16, .ro, 0, 1, 0, 0⟩
  | .thsiteDiode3Dl8 => ⟨.thsite, 0x20, 0, 16, .ro, 0, 1, 0, 0⟩
  | .thsiteDiode3Dl9 => ⟨.thsite, 0x20, 16, 16, .ro, 0, 1, 0, 0⟩
  | .thsiteDiode3Dl10 => ⟨.thsite, 0x20, 32, 16, .ro, 0, 1, 0, 0⟩
  | .thsiteDiode3Dl11 => ⟨.thsite, 0x20, 48, 16, .ro, 0, 1, 0, 0⟩
  | .thsiteHoldHeld => ⟨.thsite, 0x28, 0, 32, .rw, 0, 1, 0, 0⟩
  | .thsiteHoldExpired => ⟨.thsite, 0x28, 32, 16, .rw, 0, 1, 0, 0⟩
  | .thclEstTcd => ⟨.thcl, 0x0, 0, 16, .ro, 0, 1, 0, 0⟩
  | .thclEstTdl => ⟨.thcl, 0x0, 16, 16, .ro, 0, 1, 0, 0⟩
  | .thclEstLayer => ⟨.thcl, 0x0, 32, 4, .ro, 0, 1, 0, 0⟩
  | .thclCtrlLevel => ⟨.thcl, 0x8, 0, 7, .ro, 100, 1, 0, 0⟩
  | .thclCtrlDark => ⟨.thcl, 0x8, 7, 1, .ro, 0, 1, 0, 0⟩
  | .thclCtrlMargin => ⟨.thcl, 0x8, 8, 8, .ro, 0, 1, 0, 0⟩
  | .thclCtrlDarks => ⟨.thcl, 0x8, 16, 16, .rw, 0, 1, 0, 0⟩
  | .thclCalOffcd => ⟨.thcl, 0x10, 0, 16, .ro, 0, 1, 0, 0⟩
  | .thclCalOffdl => ⟨.thcl, 0x10, 16, 16, .ro, 0, 1, 0, 0⟩
  | .thclCalUnrel => ⟨.thcl, 0x10, 32, 1, .ro, 0, 1, 0, 0⟩
  | .thdevCfgRotate => ⟨.thdev, 0x0, 0, 16, .ro, 0, 1, 0, 0⟩
  | .thdevCfgFlownom => ⟨.thdev, 0x0, 16, 10, .ro, 600, 1, 0, 0⟩
  | .thdevCfgChecker => ⟨.thdev, 0x0, 26, 1, .ro, 0, 1, 0, 0⟩
  | .thdevCfgColour => ⟨.thdev, 0x0, 27, 1, .ro, 0, 1, 0, 0⟩
  | .thdevCoolantInlet => ⟨.thdev, 0x8, 0, 16, .ro, 0, 1, 0, 0⟩
  | .thdevCoolantOutlet => ⟨.thdev, 0x8, 16, 16, .ro, 0, 1, 0, 0⟩
  | .thdevCoolantFlow => ⟨.thdev, 0x8, 32, 16, .ro, 0, 1, 0, 0⟩
  | .thdevCoolantCount => ⟨.thdev, 0x8, 48, 8, .ro, 0, 1, 0, 0⟩
  | .thdevCcapCap => ⟨.thdev, 0x10, 0, 12, .ro, 3200, 1, 0, 0⟩
  | .thdevCcapSlow => ⟨.thdev, 0x10, 12, 1, .ro, 0, 1, 0, 0⟩
  | .thdevCcapHotin => ⟨.thdev, 0x10, 13, 1, .ro, 0, 1, 0, 0⟩
  | .thdevCcapSensorLost => ⟨.thdev, 0x10, 14, 1, .ro, 0, 1, 0, 0⟩
  | .thdevCcapCold => ⟨.thdev, 0x10, 15, 1, .w1c, 0, 1, 0, 0⟩
  | .thdevCcapRdfail => ⟨.thdev, 0x10, 32, 16, .rw, 0, 1, 0, 0⟩
  | .thdevLastshutValid => ⟨.thdev, 0x18, 0, 1, .ro, 0, 1, 0, 0⟩
  | .thdevLastshutCause => ⟨.thdev, 0x18, 1, 8, .ro, 0, 1, 0, 0⟩
  | .thdevLastshutIndex => ⟨.thdev, 0x18, 9, 12, .ro, 0, 1, 0, 0⟩
  | .thdevLastshutRseq => ⟨.thdev, 0x18, 32, 32, .ro, 0, 1, 0, 0⟩
  | .brdevStatusPhase => ⟨.brdev, 0x0, 0, 4, .ro, 0, 1, 0, 0⟩
  | .brdevStatusClerkUp => ⟨.brdev, 0x0, 4, 1, .ro, 0, 1, 0, 0⟩
  | .brdevStatusSitesReady => ⟨.brdev, 0x0, 5, 7, .ro, 0, 1, 0, 0⟩
  | .brdevStatusSitesLost => ⟨.brdev, 0x0, 12, 7, .ro, 0, 1, 0, 0⟩
  | .brdevStatusFrmFull => ⟨.brdev, 0x0, 19, 1, .ro, 0, 1, 0, 0⟩
  | .brdevCauseLast => ⟨.brdev, 0x8, 0, 4, .ro, 0, 1, 0, 0⟩
  | .brdevCauseCount => ⟨.brdev, 0x8, 16, 16, .ro, 0, 1, 0, 0⟩
  | .brdevMapsFuse => ⟨.brdev, 0x10, 0, 16, .ro, 0, 1, 0, 0⟩
  | .brdevMapsField => ⟨.brdev, 0x10, 16, 16, .ro, 0, 1, 0, 0⟩
  | .brdevMapsNew => ⟨.brdev, 0x10, 32, 16, .ro, 0, 1, 0, 0⟩
  | .brdevTimesReadyMs => ⟨.brdev, 0x18, 0, 16, .ro, 0, 1, 0, 0⟩
  | .brsiteStatusPhase => ⟨.brsite, 0x0, 0, 4, .ro, 0, 1, 0, 0⟩
  | .brsiteStatusReady => ⟨.brsite, 0x0, 4, 1, .ro, 0, 1, 0, 0⟩
  | .brsiteStatusLost => ⟨.brsite, 0x0, 5, 1, .ro, 0, 1, 0, 0⟩
  | .brsiteStatusResetting => ⟨.brsite, 0x0, 6, 1, .ro, 0, 1, 0, 0⟩
  | .brsiteStatusRdomain => ⟨.brsite, 0x0, 7, 3, .ro, 0, 1, 0, 0⟩
  | .brsiteCoresUsable => ⟨.brsite, 0x8, 0, 12, .ro, 0, 1, 0, 0⟩
  | .brsiteCoresW31 => ⟨.brsite, 0x8, 12, 12, .ro, 0, 1, 0, 0⟩
  | .brsiteCoresW30 => ⟨.brsite, 0x8, 24, 12, .ro, 0, 1, 0, 0⟩
  | .brsiteCoresRetired => ⟨.brsite, 0x8, 36, 12, .ro, 0, 1, 0, 0⟩
  | .brsiteCoresChlost => ⟨.brsite, 0x8, 48, 12, .ro, 0, 1, 0, 0⟩
  | .brsiteRepairVias => ⟨.brsite, 0x10, 0, 16, .ro, 0, 1, 0, 0⟩
  | .brsiteRepairBadpages => ⟨.brsite, 0x10, 16, 21, .ro, 0, 1, 0, 0⟩
  | .brsiteRepairNew => ⟨.brsite, 0x10, 37, 16, .ro, 0, 1, 0, 0⟩
  | .brsiteResetCount => ⟨.brsite, 0x18, 0, 16, .rw, 0, 1, 0, 0⟩
  | .brsiteResetLastdom => ⟨.brsite, 0x18, 16, 4, .ro, 0, 1, 0, 0⟩
  | .brsiteResetWatchdog => ⟨.brsite, 0x18, 20, 1, .ro, 0, 1, 0, 0⟩
  | .brsiteResetRound => ⟨.brsite, 0x18, 32, 32, .ro, 0, 1, 0, 0⟩
  | .fltdevStatusRecovering => ⟨.fltdev, 0x0, 0, 1, .ro, 0, 1, 0, 0⟩
  | .fltdevStatusRkind => ⟨.fltdev, 0x0, 1, 3, .ro, 0, 1, 0, 0⟩
  | .fltdevStatusRsite => ⟨.fltdev, 0x0, 4, 6, .ro, 0, 1, 0, 0⟩
  | .fltdevStatusDeferred => ⟨.fltdev, 0x0, 10, 1, .ro, 0, 1, 0, 0⟩
  | .fltdevStatusQuar => ⟨.fltdev, 0x0, 11, 9, .ro, 0, 1, 0, 0⟩
  | .fltdevRecovUnit => ⟨.fltdev, 0x8, 0, 16, .ro, 0, 1, 0, 0⟩
  | .fltdevRecovRound => ⟨.fltdev, 0x8, 16, 48, .ro, 0, 1, 0, 0⟩
  | .fltdevCountRecoveries => ⟨.fltdev, 0x10, 0, 16, .rw, 0, 1, 0, 0⟩
  | .fltdevCountEscalations => ⟨.fltdev, 0x10, 16, 16, .rw, 0, 1, 0, 0⟩
  | .fltdevCountRebuild => ⟨.fltdev, 0x10, 32, 16, .rw, 0, 1, 0, 0⟩
  | .fltdevCountRepairs => ⟨.fltdev, 0x10, 48, 16, .rw, 0, 1, 0, 0⟩
  | .fltdevDlqSelDistrict => ⟨.fltdev, 0x18, 0, 8, .rw, 0, 1, 0, 0⟩
  | .fltdevDlqStateCount => ⟨.fltdev, 0x20, 0, 7, .ro, 0, 1, 0, 0⟩
  | .fltdevDlqStateLost => ⟨.fltdev, 0x20, 16, 16, .rw, 0, 1, 0, 0⟩
  | .fltdevDlqPopDo => ⟨.fltdev, 0x68, 0, 1, .rw, 0, 1, 0, 0⟩
  | .fltsiteChanRemaps => ⟨.fltsite, 0x0, 0, 12, .rw, 0, 1, 0, 0⟩
  | .fltsiteChanLost => ⟨.fltsite, 0x0, 12, 12, .ro, 0, 1, 0, 0⟩
  | .fltsiteChanStandins => ⟨.fltsite, 0x0, 24, 8, .ro, 0, 1, 0, 0⟩
  | .fltsiteDataUe => ⟨.fltsite, 0x8, 0, 16, .rw, 0, 1, 0, 0⟩
  | .fltsiteDataWriteLost => ⟨.fltsite, 0x8, 16, 16, .rw, 0, 1, 0, 0⟩
  | .fltsiteDataPages => ⟨.fltsite, 0x8, 32, 16, .ro, 0, 1, 0, 0⟩

/-- The number of instances of a block. -/
def blockCount : Block → Nat
  | .core => 131072
  | .vault => 131072
  | .vsite => 64
  | .nme => 2048
  | .nmsite => 64
  | .net => 64
  | .ph => 2048
  | .dist => 256
  | .clbind => 2048
  | .kvsite => 64
  | .kvd => 256
  | .sosite => 64
  | .sodist => 256
  | .book => 4096
  | .dring => 4096
  | .nolucp => 32
  | .noluc => 1
  | .round => 1
  | .job => 64
  | .twin => 1
  | .ering => 256
  | .eng => 1
  | .mbox => 64
  | .dev => 1
  | .psite => 64
  | .pwrcl => 2048
  | .pdev => 1
  | .energy => 1
  | .rring => 257
  | .thsite => 64
  | .thcl => 2048
  | .thdev => 1
  | .brdev => 1
  | .brsite => 64
  | .fltdev => 1
  | .fltsite => 64

/-- A site on the wafer boundary has no neighbour on edge 0 (+x), 1 (+y), 2 (-x) or 3 (-y) there (R217). -/
def boundaryEdge (site edge : Nat) : Bool :=
  (edge == 0 && site % 8 == 7) || (edge == 1 && site / 8 == 7) || (edge == 2 && site % 8 == 0) ||
  (edge == 3 && site / 8 == 0)

/-- A field's reset value at an instance. -/
def resetOf (f : Reg) (i : Nat) : Nat :=
  match f with
  | .netEdgeActive => if boundaryEdge (i / 4) (i % 4) then 0 else 32
  | .netEdgeState => if boundaryEdge (i / 4) (i % 4) then 3 else 0
  | .nolucpPortTwin => if i % 8 == 0 then 1 else 0
  | f => (regInfo f).rst

/-- A field's place in the register table: instance i of the block, repeat n of sub, is instance sub * i + n. -/
def regKey (f : Reg) (i : Nat) : Nat := 512 * i + f.ctorIdx

/-- What an unlisted register reads as: its reset value. -/
def regDefault (k : Nat) : Nat := resetOf (Reg.ofNat (k % 512)) (k / 512)

end Sys2Proof.Machine
end

