-- ==== Sys2Proof/Machine/State.lean ====
section
/-!
DEFINITION. The state of the W64 as plain data, its faults and refusals, and the state after a device reset. Registers
are one table; everything the manual gives the machine beside them is in typed records, chapter by chapter.
-/

namespace Sys2Proof.Machine

/-- No command of this block stops the machine with a fault: every failure the manual describes is a state (a trap, a
halt code, a status, a lost site). The one constructor is raised by nothing. -/
inductive Fault where
  /-- Raised by nobody; safe. -/
  | none_
  deriving DecidableEq, Repr

/-- Why a command is not run. -/
inductive Refusal where
  /-- Raised by the dispatcher for a command that has no meaning yet; safe. -/
  | notModelled (mnemonic : String)
  deriving DecidableEq, Repr

/-! ### Cores (chapters 02 to 05) -/

/-- CORE.STATE.STATE (R115). -/
inductive CoreSt where
  | idle | running | roundWait | dmaWait | semWait | barrierWait | halted | trapped | stopped
  deriving DecidableEq, Repr

/-- An active hardware loop: the first and the last instruction of its body and the passes left after this one (R106). -/
structure LoopFrame where
  first : Nat
  last : Nat
  left : Nat
  deriving DecidableEq, Repr

/-- A DMA channel's state (R94). -/
inductive ChanSt where
  | idle | busy | halted
  deriving DecidableEq, Repr

/-- A DMA channel: its state, halt code (R100), the descriptor of its transfer (R95) and its place in issue order. -/
structure Chan where
  st : ChanSt := .idle
  code : Nat := 0
  desc : Nat := 0
  seq : Nat := 0
  /-- A packet of the transfer has been discarded on the wafer network (R216). -/
  lost : Bool := false
  /-- The packets of the transfer were not held at their source by a route change (R215). -/
  sent : Bool := true
  deriving DecidableEq, Repr

/-- The vector configuration of R90. -/
structure VecCfg where
  fa : Nat := 0
  fb : Nat := 0
  fd : Nat := 0
  sf : Nat := 0
  rnd : Nat := 0
  sat : Bool := false
  sea : Bool := false
  sed : Bool := false
  sabase : Nat := 0
  sdbase : Nat := 0
  deriving DecidableEq, Repr

/-- An instruction that has issued and waits in the matrix or the vector queue: its word, its PC, its place in issue
order and the vector configuration it carries (R76, R84, R119). -/
structure Queued where
  word : Nat
  pc : Nat
  seq : Nat
  cfg : VecCfg
  deriving DecidableEq, Repr

/-- The states of an accumulator bank (R62). -/
inductive BankSt where
  | empty | fp32 | int32 | invalid
  deriving DecidableEq, Repr

/-- An accumulator bank: its state, width class code WCB, SAT and NV marks, its last type, 16 rows of accumulators in
row-major order, and the cells that hold an INT32 limit (R62 to R67). -/
structure Bank where
  st : BankSt := .empty
  wcb : Nat := 3
  sat : Bool := false
  nv : Bool := false
  last : AccTy := .fp32
  vals : List (BitVec 32) := []
  stuck : List Nat := []
  deriving DecidableEq, Repr

/-- A tile-queue entry: descriptor and values (R67). -/
structure Tile where
  int32 : Bool
  wcc : Nat
  bank : Nat
  sat : Bool
  invalid : Bool
  nv : Bool
  utag : Nat
  vals : List (BitVec 32)
  deriving DecidableEq, Repr

/-- The loaded stationary operand: formats, K, and 16 rows of elements and of scales as little-endian numbers (R50 to R53). -/
structure Stationary where
  fmt : Fmt
  scale : Option SFmt
  k : Nat
  rows : List Nat
  scales : List Nat
  deriving DecidableEq, Repr

/-- One core's state that no register field holds (R45, R62 to R76, R84, R94, R104, R106, R109). -/
structure Core where
  st : CoreSt := .idle
  pc : Nat := 0
  loops : List LoopFrame := []
  chans : List Chan := List.replicate 8 {}
  vcfg : VecCfg := {}
  stat : Option Stationary := none
  banks : List Bank := List.replicate 4 {}
  tiles : List Tile := []
  /-- The drain that has left the matrix queue and waits for a free tile entry (R66, R69). -/
  drain : Option Queued := none
  mq : List Queued := []
  vq : List Queued := []
  /-- The instruction that waits at issue (R84, R94, R102 to R104, R108, R109). -/
  wait : Option Nat := none
  /-- The next place in issue order. -/
  seq : Nat := 0
  /-- A release held until the next RWAIT with NEXT = 1 (R109). -/
  held : Bool := false
  /-- No RWAIT with NEXT = 1 has been reached since GO (R109). -/
  fresh : Bool := false
  /-- The core has reported its part of the running step complete (R108, R109). -/
  reported : Bool := false
  /-- The waiting RWAIT with NEXT = 1 has taken its release (R109). -/
  took : Bool := false
  /-- A GO that waits for the last BUSY channel (R114). -/
  goWait : Bool := false
  /-- The barrier at which the core has arrived (R104). -/
  arrived : Option Nat := none
  /-- The barrier has been released and the release is under way to the core (R104). -/
  releasing : Bool := false
  /-- That release has left the home site (R200, R215). -/
  relSent : Bool := true
  /-- A step release is under way to the core (R109). -/
  rel : Bool := false
  /-- That release has left the home site (R215). -/
  stepSent : Bool := true
  /-- A trap that the dispatcher has still to report (R105). -/
  trapDue : Bool := false
  /-- Writes of SR_SEED (true) and SR_CTR (false) that are held (R45). -/
  srHeld : List (Bool × Word64) := []
  /-- The core is held at its instruction boundary behind a via remap (R481). -/
  dark : Bool := false
  deriving DecidableEq, Repr

/-- A signal under way on VC0: its source (a core, or 131072 plus an engine), target core, semaphore and value (R102, R103). -/
structure Signal where
  src : Nat
  dst : Nat
  sem : Nat
  val : Nat
  /-- It has left its source: no route change holds it there (R215). -/
  sent : Bool
  deriving DecidableEq, Repr

/-- Everything the compute dies hold beside registers: scratchpad bytes (core g at 2^18 g), line tags and poison marks
(line l of core g at 2^13 g + l), pigeonhole bytes (pigeonhole p at 2^19 p) and poison marks (line at 2^14 p + l), the
cores, and the signals under way (R57, R113, R198). -/
structure CoreSide where
  spad : Memory
  lineTag : Table Nat
  linePoison : Table Bool
  pig : Memory
  pigPoison : Table Bool
  cores : Table Core
  signals : List Signal
  deriving DecidableEq, Repr

/-! ### Vaults (chapter 06) -/

/-- What a stored word is: data, the unwritten marker or the poison marker (R149, R156). -/
inductive Mark where
  | data | unwritten | poison
  deriving DecidableEq, Repr

/-- The DRAM of all vaults. `dram` is the data as last written, byte o of vault v at 2^26 v + o. `mark` is keyed by word,
2^21 v + o / 32. `bad` holds the differences between a stored symbol and the true one, keyed 64 word + symbol; `parBad`
the same for parity word p of block b, keyed 64 (4 (2^14 v + b) + p) + symbol; `cntBad` the wrong data bits of counter-area
bytes (R138, R149, R150). `est` lists the established blocks 2^14 v + b (R151). -/
structure VaultSide where
  dram : Memory
  mark : Table Mark
  bad : Table Nat
  parBad : Table Nat
  /-- What a parity word holds, keyed 4 block + parity word; an unlisted one holds the unwritten marker (R156). -/
  parMark : Table Mark
  cntBad : Table Nat
  est : Table Bool
  /-- Demand-scrub queues by vault (R162). -/
  dsq : Table (List Nat)
  /-- The next word patrol reads, by vault, parity words after the data words (R162). -/
  patrol : Table Nat
  /-- The open row, plus one, of bank b of layer l of vault v, keyed 48 v + 4 l + b; 0 is precharged (R140, R141). -/
  openRow : Table Nat
  /-- When a site's current patrol pass began, in nanoseconds, by site (R162; log 102). -/
  patrolFrom : Table Nat
  /-- Word slots granted in the round so far: to requesters other than scrubs by cluster, and to scrubs by site (R142, R417). -/
  slots : Table Nat
  scrubSlots : Table Nat
  deriving DecidableEq, Repr

/-! ### Near-memory engines (chapter 07) -/

/-- Who submitted an operation and is answered at its completion (R171, R181). -/
inductive NmBy where
  | envelope (e : Env)
  | dispatcher (d idx : Nat)
  /-- The GATHER that stages page j of chain c of a slot's stream (R270). -/
  | kv (slot c j : Nat)
  deriving DecidableEq, Repr

/-- A queued or running operation: descriptor, district (none for an envelope of no district), submitter, and the
district's function grants it was checked with (R168, R171). -/
structure NmOp where
  desc : Nat
  district : Option Nat
  who : NmBy
  /-- Its place in the order of acceptance (R180). -/
  seq : Nat := 0
  /-- The vaults in which its rows and destination words lie, once it runs (R179). -/
  vaults : List Nat := []
  deriving DecidableEq, Repr

/-- An engine: its queue, its running operation, and whether its next start is held by the checkerboard (R172, R440). -/
structure Engine where
  queue : List NmOp := []
  running : Option NmOp := none
  /-- Operations of submitters that wait for a free entry (R172). -/
  waiting : List NmOp := []
  held : Bool := false
  /-- The CHECKER conditions hold its next start, from the hold on (R440). -/
  checker : Bool := false
  /-- A host access has been served in a vault of the running operation (R179). -/
  met : Bool := false
  /-- ABORT or a quiesce has reached the running operation (R185). -/
  abort : Bool := false
  deriving DecidableEq, Repr

/-- What a checked read of a word delivers (R149, R161). -/
inductive WordOut where
  | ok (bytes : List Byte)
  | unwritten
  | poisoned
  deriving DecidableEq, Repr

/-! ### Re-binding (chapter 09), start-up, flash and fuses (chapter 17) -/

/-- A district change record (R237). -/
structure Change where
  clusters : List Nat
  district : Nat
  action : Nat
  streams : Nat
  zero : Bool
  pv : Bool
  parcel : Nat
  owner : Nat
  offset : Nat
  slots : Nat
  limit : Nat
  deriving DecidableEq, Repr

/-- A re-binding that has been accepted and runs (R239). -/
structure Rebinding where
  env : Env
  changes : List Change
  /-- The pages its checks have reserved for it (R231, R238). -/
  pages : List (Nat × Nat)
  deriving DecidableEq, Repr

/-- A field-repair map entry (R461). -/
structure FrmEntry where
  kind : Nat
  site : Nat
  unit : Nat
  detail : Nat
  rseq : Nat
  deriving DecidableEq, Repr

/-- What flash and fuses hold over a device reset: the configuration items (port modes two bits a port, self-test mode, FID,
cap, limit, ORDER, weights, ROTATE, FLOWNOM, CHECKER), the fuse map, the field-repair map, the count of device resets, the newest SHUTDOWN record's place and
RSEQ until a start has shown it, and the SEQ after the last receipt recorded as posted and after the last one issued (R426). -/
structure Flash where
  fabricModes : Nat := 0x5555555555555555
  hostModes : Nat := 0x55
  selftest : Nat := 0
  fid : Nat := 0
  cap : Nat := 3200
  limit : Nat := 3200
  order : Nat := 0
  weights : List Nat := []
  rotate : Nat := 0
  flownom : Nat := 600
  checker : Bool := false
  fuses : List BadUnit := []
  frm : List FrmEntry := []
  frmFull : Bool := false
  resets : Nat := 0
  lastShut : Option (Nat × Nat × Nat) := none
  postedTo : Nat := 0
  issuedTo : Nat := 0
  /-- The lease arbiter's address (R372). -/
  arbiter : Nat := 0
  deriving DecidableEq, Repr

/-- A stop (R446 to R448): cause, the other causes met as bits, detection time and round, the tripping diode. -/
structure Stop where
  cause : Nat
  other : Nat := 0
  t0 : Nat
  round : Nat
  site : Nat := 255
  sensor : Nat := 255
  trip : Nat := 0
  deriving DecidableEq, Repr

/-- Power-on, resets and pins: flash and fuses, the host ports' modes in force, a stop until the next power-on, RESET envelopes
that wait for a recovery (R453), the source of the reference clocks (0 REFCLK0, 1 REFCLK1, 2 neither), PWR_EN, and whether MOD_RESET_N holds. -/
structure BootSide where
  flash : Flash := {}
  hostModes : Nat := 0
  stop : Option Stop := none
  waiting : List (Nat × Env) := []
  rebinds : List Rebinding := []
  refclk : Nat := 0
  pwrEn : Bool := false
  deriving DecidableEq, Repr


/-! ### Pages and districts (chapter 09) -/

/-- Who a vault page belongs to (R230). -/
inductive PageOwner where
  | free
  | district (d : Nat)
  | parcel (p : Nat)
  | tables (d : Nat)
  deriving DecidableEq, Repr

/-- A vault page: owner, the OWNER that last held it, whether it is withheld (R462, R490), and whether a chain of a stream
holds it (R236, R261), and whether a re-binding that waits has reserved it (R231). -/
structure PageRec where
  owner : PageOwner := .free
  last : Option Nat := none
  withheld : Bool := false
  chain : Bool := false
  reserved : Bool := false
  deriving DecidableEq, Repr

/-- A near-memory operation of a step template (R229, R513): descriptor, trigger core, semaphore and count. -/
structure TmplOp where
  desc : Nat
  core : Nat
  sem : Nat
  count : Nat
  deriving DecidableEq, Repr

/-- A stage entry of a parcel header (R513): its field entries are (offset, length, source, constant). -/
structure StageE where
  lbase : Nat
  llen : Nat
  entry : Nat
  sdbase : Nat
  loff : Nat
  fields : List (Nat × Nat × Nat × Nat)
  ops : List TmplOp
  deriving DecidableEq, Repr

/-- A parcel (R223, R224, R511 to R513): state code, reserved pages, and from its seal on the header and the measurement.
The cluster table holds (cluster, stage, mask). -/
structure Parcel where
  st : Nat := 0
  clusters : List Nat := []
  first : Nat := 0
  npages : Nat := 0
  staged : Bool := false
  stages : Nat := 1
  wcc : Nat := 1
  jobdev : Nat := 1
  jobidx : Nat := 0
  kvfmt : Nat := 0
  pvbase : Nat := 0
  pvlen : Nat := 0
  table : List (Nat × Nat × Nat) := []
  entries : List StageE := []
  measure : Nat := 0
  deriving DecidableEq, Repr

/-! ### Envelopes, mailboxes and firmware (chapter 13), grants (R236) -/

/-- An entry of a function's grant list (R236). -/
inductive GrantE where
  | none_
  | district (d : Nat) (write : Bool)
  | parcel (p : Nat)
  deriving DecidableEq, Repr

/-- An envelope that a ring has fetched and whose slip is not posted: ring, position, whether it has been passed to its
handler, and whether its slip can no longer be posted (R366, R368). -/
structure Outst where
  ring : Nat
  pos : Nat
  raw : List Byte
  passed : Bool
  dead : Bool
  /-- The function that owned the ring at the fetch (R364). -/
  func : Nat := 0
  deriving DecidableEq, Repr

/-- A FENCE that waits: its envelope and the near-memory operations it waits for (R180, R372). -/
structure FenceWait where
  env : Env
  ops : List Nat
  deriving DecidableEq, Repr

/-- A firmware image: how many bytes of the inactive bank have been staged and their total, the two banks with their versions, the
active one first, whether a patch is scheduled (R381). -/
structure Firmware where
  count : Nat := 0
  total : Nat := 0
  active : List Byte := []
  other : List Byte := []
  version : Nat := 0
  otherVersion : Nat := 0
  rollback : Nat := 0
  scheduled : Bool := false
  starting : Bool := false
  deriving DecidableEq, Repr

/-- The SPDM responder: the transports on which a version and the algorithms are negotiated, 0 for MCTP and 1 + p for the DOE mailbox
of host port p, and the sessions, each with its transport and whether it is finished (R382). -/
structure Spdm where
  version : List Nat := []
  algorithms : List Nat := []
  sessions : List (Nat × Nat × Bool) := []
  nextSession : Nat := 0
  deriving DecidableEq, Repr

/-- The envelope engine, the mailboxes, the clerk and the postmaster. Mailbox m's staging buffer and slot lie at 256 m. -/
structure EngSide where
  outst : List Outst := []
  /-- Envelopes that wait for the clerk, oldest first, each with 16 times its opcode plus its operation (R370). -/
  store : List (Nat × Env) := []
  fences : List FenceWait := []
  /-- The next place in the order of acceptance of near-memory operations. -/
  nmSeq : Nat := 0
  grants : Table GrantE := []
  staging : Memory := []
  slots : Memory := []
  /-- Messages a firmware sender has not yet committed, with whether each is an event (R378). -/
  unsent : Table (List (Bool × List Byte)) := []
  /-- Sources that have been refused by R358, with the time of the latest logbook record. -/
  refused : List (Nat × Nat) := []
  clerk : Firmware := {}
  patch : Firmware := {}
  spdm : Spdm := {}
  /-- Enrolled arbiter public keys by slot (R338). -/
  leaseKeys : Table (List Byte) := []
  /-- BAR0 offsets of the TV registers whose restore runs (R395). -/
  tvPending : List Nat := []
  deriving DecidableEq, Repr

/-! ### What the device sends out -/

/-- A reply slip and the output that goes with it (R363, R357). -/
structure Slip where
  tag : Nat
  status : Nat
  opcode : Nat
  phase : Nat
  detail : Nat
  result : List Byte
  out : List Byte
  deriving DecidableEq, Repr

/-- An event message: code, district, site, round, PTP time and logbook index (R378, R476). -/
structure EventMsg where
  code : Nat
  district : Nat
  site : Nat
  round : Nat
  ptp : Nat
  index : Nat
  deriving DecidableEq, Repr

/-- The kinds of packet the device sends over Noluc (R325, R327, R336 to R354). -/
inductive FabKind where
  | slowRequest | stepDone | heartbeat | leaseRelay | submitCopy | drawCopy | drawAck | stepCopy | sealCopy | freezeCopy
  | endCopy | endAck | resync | handover | dying | copyAck | circBlock | query | partialState | ringAck
  deriving DecidableEq, Repr

/-- What leaves the device or is delivered to an agent outside this model's state, in the order in which it happens (log 11). -/
inductive Emission where
  /-- A reply slip, or a reply message; a ring's slip is one 32-byte write at the address, 0 for the others (R357, R363, R365,
  R366). -/
  | reply (via : Via) (addr : Nat) (s : Slip)
  /-- The read of a slot of an envelope ring: port, host address and bytes (R365, R366). -/
  | slotRead (port addr len : Nat)
  /-- An MSI-X interrupt of a host port's function. -/
  | msix (port func vector : Nat)
  /-- An interrupt to the postmaster or the clerk (R376). -/
  | fwIrq (mbox : Nat)
  /-- An unsolicited event message to MGMT (R378). -/
  | mgmtEvent (m : EventMsg)
  /-- A write into host memory through a port. -/
  | hostWrite (port addr : Nat) (bytes : List Byte)
  /-- The answer to a host, letter-less or mailbox read: the bytes, and whether they are poisoned (R148, R161). -/
  | readData (poison : Bool) (bytes : List Byte)
  /-- A pre-emption image, or its tag, written to the swap pool (R278, R279). -/
  | swapWrite (port addr len : Nat) (tag : Bool)
  /-- A Noluc packet of this device: the port, the destination's and its own FID, the class, the per-flow sequence number, the kind, and
  its 1 to 4,096 bytes, whose number is the header's length (R325). -/
  | fabric (port dst src cls seq : Nat) (kind : FabKind) (body : List Byte)
  /-- A packet of another device that passes through, as it came (R326). -/
  | forward (port dst src : Nat) (body : List Byte)
  /-- A marker on a fabric port (R329). -/
  | marker (port : Nat) (bytes : List Byte)
  /-- A request to the lease arbiter, at its address in flash, for a grant: job, epoch, and the FIDs of the members the device can reach (R340, R372). -/
  | leaseAsk (arbiter job epoch : Nat) (members : List Nat)
  /-- An Ethernet frame passed to the management processors (R320). -/
  | frame (port len : Nat)
  /-- The answer to an SPDM request, on the request's transport (R382). -/
  | spdm (transport code : Nat) (bytes : List Byte)
  /-- A read that completes with Completer Abort (R375). -/
  | abort
  deriving DecidableEq, Repr

/-! ### Fabric, rounds, jobs and twins (chapter 12) -/

/-- A lease grant in force (R338): epoch, expiry in ns, members by JOBIDX, and the grant's bytes, to be relayed. -/
structure Lease where
  epoch : Nat
  expiry : Nat
  members : List Nat
  raw : List Byte := []
  deriving DecidableEq, Repr

/-- A ring configuration (R351). -/
structure CircCfg where
  ports : List Nat
  cspan : Nat
  order : List Nat
  deriving DecidableEq, Repr

/-- A circulation block in a buffer of the district (R352): it is freed when it has been both forwarded and consumed. -/
structure CircBuf where
  block : CircBlock
  forwarded : Bool := false
  consumed : Bool := false
  deriving DecidableEq, Repr

/-- What the device holds of a job beside its registers: members by JOBIDX (R334), what the master keeps (members whose
STEPDONE is owed, standing slow requests as FID, cause and MHz, the last setpoint announced, rounds for which a rise has stood), announcements not
yet in effect as MHz and round, this member's standing requests by cause, rounds without a heartbeat by member, holds and their ends that wait for the next
boundary (R339, R340), the lease, and circulation (R351 to R353). -/
structure JobX where
  members : List Nat := []
  owed : List Nat := []
  reqs : List (Nat × Nat × Nat) := []
  announced : Option Nat := none
  rise : Nat := 0
  pend : List (Nat × Nat) := []
  own : List (Nat × Nat) := []
  missed : List (Nat × Nat) := []
  sent : Bool := false
  holdNext : Bool := false
  freeNext : Bool := false
  lease : Option Lease := none
  circ : Option CircCfg := none
  /-- A ring configuration, or the dissolving of the job, that the district's next admission pass takes (R23). -/
  circNext : Option CircCfg := none
  dissolve : Bool := false
  /-- This member's requests that a marker has echoed, as cause and MHz (R336). -/
  echoed : List (Nat × Nat) := []
  /-- Rounds in which a master outside the job has learned of no further member (R337; log 62). -/
  quiet : Nat := 0
  /-- The position after the last of each circulating stream that this device has met, by STREAM_ID (R351). -/
  heads : List (Nat × Nat) := []
  blocks : List CircBuf := []
  queries : List (Nat × List Byte) := []
  partials : List Partial := []
  deriving DecidableEq, Repr

/-- The fabric, the round domain, jobs and the twin beside their registers. `admBits` holds the ADMIT bits of the marker that
opened the present round (R329, R337); `marker` is the accepted marker whose round is still to open; `deposed` and
`acting` say that a higher epoch has ended this device's mastership and that it issues markers as standby (R333); `fly` counts
consecutive flywheel rounds; `nperiod` is the announced period and its round (R331). `mirrors` are pairs of local and mirror
district, `wanted` an accepted TWIN envelope whose pair is not formed, `handed` mirror districts that await a failover. -/
structure FabSide where
  admBits : Nat := 0
  routes : Table (List Nat) := []
  serials : Table Nat := []
  marker : Option Marker := none
  deposed : Bool := false
  acting : Bool := false
  fly : Nat := 0
  nperiod : Option (Nat × Nat) := none
  period : Nat := 250
  jobs : Table JobX := []
  peerSerial : Nat := 0
  wanted : Bool := false
  mirrors : List (Nat × Nat) := []
  handed : List Nat := []
  devLease : Option Lease := none
  /-- The epoch under which an acting standby issues (R333), and the FID of the master whose marker was accepted last. -/
  epoch : Nat := 0
  master : Option Nat := none
  /-- The next sequence number of a flow, keyed 4 times the destination plus the class (R325). -/
  flows : Table Nat := []
  /-- Packets that wait at their source site for a route change, or for their port to come up (R215, R323): site, port, packet. -/
  packets : List (Nat × Nat × Emission) := []
  deriving DecidableEq, Repr


/-! ### KV managers (chapter 10) -/

/-- An append in a KV manager's input queue: the core, the format code, scales and elements as VAPND sent them, and the
32-byte descriptor as a number (R132, R133, R255). -/
structure Append where
  core : Nat
  fmt : Nat
  sf : Nat
  count : Nat
  data : List Byte
  scales : List Byte
  desc : Nat
  deriving DecidableEq, Repr

/-- One site's KV manager: its queue, and the poste restante pages whose spill failed (R274). -/
structure KvSite where
  queue : List Append := []
  prBad : List (Nat × Nat × Nat) := []
  deriving DecidableEq, Repr

/-- A page of a chain (R245, R250 to R276): where it is resident, its place in poste restante when it is spilled (port,
expander, page), the place a spill in flight copies it to, the page a return in flight fills, its marks, its committed
tokens and the address of its postcode entry. -/
structure ChainPage where
  vault : Nat := 0
  page : Nat := 0
  spilled : Option (Nat × Nat × Nat) := none
  spilling : Option (Nat × Nat × Nat) := none
  back : Option (Nat × Nat) := none
  shared : Bool := false
  opening : Bool := false
  isNew : Bool := false
  tcount : Nat := 0
  pcloc : Nat := 0
  deriving DecidableEq, Repr

/-- A chain (R245, R246): its home vault, committed tokens L, open value block, pages in order, the run of pages that holds
its section head (R271), the counter-area pages of its postcode section, each with its place in the section (R263), its attention set with the round it serves
(R266 to R270), and for each staged page the staging page and whether it has been filled. -/
structure Chain where
  opened : Bool := false
  home : Nat := 0
  len : Nat := 0
  vopen : Nat := 0
  pages : List ChainPage := []
  head : Option (Nat × Nat) := none
  pcs : List (Nat × Nat × Nat) := []
  attend : List Nat := []
  round : Nat := 0
  selected : Bool := false
  qnan : Bool := false
  qstale : Bool := false
  staged : List (Nat × Nat × Bool) := []
  /-- 0 ready; 1 the next attention set is to be built; 2 it is built and pages are still to come (R269, R270). -/
  phase : Nat := 0
  deriving DecidableEq, Repr

/-! ### Streams, handles and books (chapter 11) -/

/-- Stream states (R288). -/
inductive StreamSt where
  | free | ready | running | preempting | ending
  deriving DecidableEq, Repr

/-- A draw whose record is still to be posted (R26, R345): output index, token, log-probability, alternatives, end code and
the round of the draw. -/
structure DrawRec where
  index : Nat
  token : Nat
  logp : Nat
  alts : List (Nat × Nat)
  code : Nat
  round : Nat
  deriving DecidableEq, Repr

/-- A shadow as its last SEAL left it (R344, R348): the sealed round, record fields, bytes 10,240 to 10,303 of the control block,
and the chains' lengths. -/
structure Snap where
  round : Nat
  pos : Nat
  out : Nat
  token : Nat
  lastadm : Nat
  ctl : List Byte
  lens : List (Nat × Nat)
  recent : List Nat
  deriving DecidableEq, Repr

/-- A stream: the fields of its record (R287), its retrieval controls (R266), the handles it refers to (R301), and what the
step in hand and a coming end keep of it. -/
structure Stream where
  st : StreamSt := .free
  id : Nat := 0
  pclass : Nat := 0
  reg : Bool := false
  logp : Bool := false
  cancel : Bool := false
  nanlog : Bool := false
  district : Nat := 0
  nalt : Nat := 0
  fails : Nat := 0
  book : Nat := 0
  ring : Nat := 0
  pos : Nat := 0
  pend : Nat := 0
  out : Nat := 0
  maxout : Nat := 0
  ctxmax : Nat := 0
  lastadm : Nat := 0
  ctl : Nat := 0
  kvbase : Nat := 0
  token : Nat := 0
  defers : Nat := 0
  dcause : Nat := 0
  rthr : Nat := 0
  retn : Nat := 0
  retw : Nat := 0
  rets : Nat := 0
  refs : List Nat := []
  /-- Input tokens, draws and batch position in the step (R293, R294). -/
  nin : Nat := 0
  nout : Nat := 0
  batch : Nat := 0
  /-- What its tokens of the step were charged (R293). -/
  franked : Nat := 0
  /-- The draw of the step has been made (or none could be), and its record is posted. -/
  drawn : Bool := false
  wait : Option DrawRec := none
  /-- The end code of a draw (R309), and that of a refused append or a failed page (R256, R281, R282). -/
  endCode : Nat := 0
  fault : Nat := 0
  /-- The end status of its first refused append in the step; 0 while the refusal mark is not set (R256). -/
  refused : Nat := 0
  /-- The position of the last token of the step that ran last (R271). -/
  qpos : Nat := 0
  /-- Positions that the step adds to this device's own: nin, but in a decode step of a circulating job only where the new position is
  this member's (R351). -/
  adds : Nat := 0
  /-- Its pages that have failed and are counted, as vault and page, or 2^32 and more with the chain and its page (R281). -/
  bad : List (Nat × Nat) := []
  /-- The last output tokens of committed steps, newest first, 15 at most (R309). -/
  recent : List Nat := []
  /-- Its end was posted with a token record (R316). -/
  endRec : Bool := false
  /-- A PREEMPT waits for the running step, or the pre-emption has begun: 1 waits, 2 image under way, 3 every write
  acknowledged, 4 failed and to be retried (R279). -/
  pre : Nat := 0
  stag : Nat := 0
  /-- Handles that a FREEZE has named and that are still to be created, with their lengths (R300). -/
  freezes : List (Nat × Nat) := []
  /-- The PREEMPT envelope that is answered when the pre-emption ends (R369). -/
  preEnv : Option Env := none
  /-- The draw already posted in a step that failed (R295), and draws that a twin recorded before a failover (R348). -/
  kept : Option DrawRec := none
  recorded : List DrawRec := []
  /-- History position and grammar state at the start of the step. -/
  mark : Nat := 0
  /-- The stream gets no further copies (R346). -/
  lapsed : Bool := false
  /-- Its full state has been sent again after a lapse (R346). -/
  resync : Bool := false
  /-- The twin has acknowledged that state: the next SEAL ends the lapse (R346). -/
  resynced : Bool := false
  /-- Direct energy attributed so far to the step that runs, in nJ (R420). -/
  direct : Nat := 0
  /-- MEASURED plus OVERHEAD as its last SEAL copy carried them (R423). -/
  sealedAt : Nat := 0
  /-- It is a twin's shadow, never admitted, with its state at the last SEAL (R343). -/
  shadow : Bool := false
  snap : Option Snap := none
  /-- Its record or control block was lost with its site or slice (R471, R491). -/
  lost : Bool := false
  deriving DecidableEq, Repr

/-- A prefix handle (R300): whether its number is taken, whether it has been created, whether it is released, its length, district and parcel measurement, references, its chains, and
the counter-area page that records it. -/
structure Handle where
  used : Bool := false
  made : Bool := false
  released : Bool := false
  district : Nat := 0
  len : Nat := 0
  measure : Nat := 0
  refs : Nat := 0
  chains : List (Nat × Chain) := []
  where_ : Nat × Nat := (0, 0)
  deriving DecidableEq, Repr

/-- Stamp-book parameters (R297). -/
structure BookP where
  rate : Nat
  depth : Nat
  interval : Nat
  win : Nat
  wout : Nat
  deriving DecidableEq, Repr

/-- A book's pending parameters with the round they were accepted in (R299), and one more than the round of its last refill. -/
structure BookX where
  pend : Option (BookP × Nat) := none
  refilled : Nat := 0
  deriving DecidableEq, Repr

/-- A shard of a sampling configuration (R303). -/
structure Shard where
  site : Nat
  sem : Nat
  count : Nat
  tcore : Nat
  lgbase : Nat
  vfirst : Nat
  vcount : Nat
  lpitch : Nat
  bf16 : Bool
  deriving DecidableEq, Repr

/-- A sampling configuration (R303). -/
structure Samp where
  vocab : Nat
  shards : List Shard
  deriving DecidableEq, Repr

/-- A chain as a pre-emption image carries it (R278): page bytes, postcode entries and section head by page. -/
structure ImgChain where
  c : Nat
  chain : Chain
  pages : List (Nat × List Byte)
  posts : List (Nat × List Byte)
  head : List Byte
  deriving DecidableEq, Repr

/-- A pre-empted stream and its image in the host swap pool (R278, R314). -/
structure Image where
  stream : Stream
  parcel : Nat
  measure : Nat
  ctl : List Byte
  chains : List ImgChain
  port : Nat
  addr : Nat
  len : Nat
  /-- The HMAC-SHA-384 tag, once it is written. -/
  tag : Option (BitVec 384) := none
  /-- A handle that its stream referred to has been freed (R302). -/
  refLost : Bool := false
  deriving DecidableEq, Repr

/-- A receipt or a statement that is held: its ring, its sequence number and the bytes its signature will cover, but PHASE (R424 to R427). -/
structure Held where
  ring : Nat
  seq : Nat
  body : List Byte
  /-- The stream whose last round is not closed; its figures are added when it is (R424). -/
  opened : Option Nat := none
  deriving DecidableEq, Repr

/-- The sorting office beside its registers: streams by slot, chains by 2^20 slot + chain number, handles, books, how many
STREAM_IDs have been issued, poste restante (bytes, and the expanders as port, expander, pages, lost), and the swap pool's
ranges (port, base, length). -/
structure SortSide where
  streams : Table Stream := []
  chains : Table Chain := []
  handles : Table Handle := []
  books : Table BookX := []
  issued : Nat := 0
  pr : Memory := []
  exps : List (Nat × Nat × Nat × Bool) := []
  pool : List (Nat × Nat × Nat) := []
  /-- RESUME envelopes that wait for pages (with the slot once restored, R280), and receipts and statements held (R426). -/
  resumes : List (Env × Option Nat) := []
  held : List Held := []
  /-- Receipts posted since the reset (R426). -/
  posts : Nat := 0
  /-- One more than the time at which each receipt ring's MSI-X vector was last raised (R426). -/
  rung : Table Nat := []
  deriving DecidableEq, Repr

/-! ### Districts (chapters 09 to 11) -/

/-- A loaded grammar table: the pages of the district's home site that hold it, and its bytes (R307). -/
structure Gram where
  pages : List (Nat × Nat)
  bytes : Nat
  deriving DecidableEq, Repr

/-- A micro-batch in flight: its number, its set of step pages and its streams in batch order (R227, R294, R296). -/
structure Micro where
  num : Nat
  set : Nat
  slots : List Nat
  deriving DecidableEq, Repr

/-- A stream of a step that ran in the present round (R417, R420): slot, STREAM_ID, 16 times its units, its stage, whether the
step failed. -/
structure Ran where
  slot : Nat
  id : Nat
  units : Nat
  stage : Nat
  failed : Bool := false
  deriving DecidableEq, Repr

/-- What a district holds beside its registers. -/
structure District where
  /-- Time of the most recent step start point (R109), and one more than its round. -/
  stepStart : Nat := 0
  started : Nat := 0
  /-- A step runs, and the round it started in (R22, R24). -/
  running : Bool := false
  round : Nat := 0
  /-- The micro-batches in flight, that of stage 0 first; one for a spread parcel (R227, R288). -/
  pipe : List Micro := []
  /-- Streams of the step just committed whose look-ahead pass is due (R269). -/
  look : List Nat := []
  /-- The sampling configuration and one that takes effect at the next admission pass (R303). -/
  samp : Option Samp := none
  sampNext : Option Samp := none
  /-- Shards whose trigger is armed, and what the others read: for each stream the logits after steps 1 to 4 of R304. -/
  armed : List Nat := []
  shardOut : List (Nat × List (Nat × List Nat)) := []
  /-- Template operations armed, as stage and number (R229). -/
  armedOps : List (Nat × Nat) := []
  /-- Template operations of the step that have ended, as 16 times the stage and number, with the status the dispatcher was answered
  (R181, R186). -/
  opEnds : List (Nat × Nat) := []
  /-- Nonzero CODEs that the dispatchers passed on with the completion of the last step, by core (R108). -/
  codes : List (Nat × Nat) := []
  /-- Delivery rings to which the step has posted records and whose interrupt is still to come (R312). -/
  rings : List Nat := []
  grammars : List (Nat × Gram) := []
  /-- Step pages by site, four to a set (R296), and the next set. -/
  stepPages : List (Nat × List (Nat × Nat)) := []
  set : Nat := 0
  /-- Pre-empted streams (R314). -/
  preempted : List Image := []
  ran : List Ran := []
  /-- STREAM_IDs whose ROUNDS has been counted in the present round (R421). -/
  counted : List Nat := []
  /-- Submits held while the district is REBINDING (R239). -/
  held : List Env := []
  deriving DecidableEq, Repr

/-! ### Networks (chapter 08) and recoveries (chapter 18) -/

/-- A host access to a vault: port, function, the window it uses, address, and for a write its bytes (R148). -/
structure HostAccess where
  port : Nat
  func : Nat
  vlocal : Bool
  addr : Nat
  data : Option (List Byte)
  deriving DecidableEq, Repr

/-- The wafer network beside its registers. Edge n of site s has key 4 s + n. `subs` lists the failed lanes whose
substitution or rehash is under way (edge, lane, whether a spare takes it). `out` and `down` are the site routers and edges
that the loaded routes leave out (R213); the phase of a route change is 0 for none, 1 until the drain ends, 2 until the new
routes are loaded (R215). `held` are host accesses held at their source during a change. -/
structure NetSide where
  subs : List (Nat × Nat × Bool) := []
  out : List Nat := []
  down : List Nat := []
  phase : Nat := 0
  held : List HostAccess := []
  /-- Routers that have failed by themselves (R215), and the edge of each spare lane found bad at bring-up (R460). -/
  dead : List Nat := []
  badSpares : List Nat := []
  deriving DecidableEq, Repr

/-- A recovery that runs or is deferred (R477 to R479): kind as FLTDEV.STATUS.RKIND, site, unit, detail, the districts
touched at detection, those it has failed, and whether it was deferred or escalated. -/
structure Repair where
  kind : Nat
  site : Nat
  unit : Nat
  detail : Nat
  districts : List Nat
  failed : List Nat := []
  deferred : Bool := false
  escalated : Bool := false
  /-- The vias that have failed (R481) or the stage a base-die reset has reached (R470, R471). -/
  stage : Nat := 0
  deriving DecidableEq, Repr

/-- A dead-letter entry (R492): kind, owner, stream, payload as a number, round and time. -/
structure DeadLetter where
  kind : Nat
  owner : Nat
  stream : Nat
  payload : List Byte
  round : Nat
  ptp : Nat
  deriving DecidableEq, Repr

/-- Faults in service: the running recovery, the deferred ones in order of detection, and the dead-letter queues. -/
structure FaultSide where
  running : Option Repair := none
  deferred : List Repair := []
  dlq : Table (List DeadLetter) := []
  deriving DecidableEq, Repr

/-! ### Power and heat (chapters 15 and 16) -/

/-- A notice of a heavy phase on its way to a cluster's regulator, or in force there (R110, R403). -/
structure Notice where
  cluster : Nat
  level : Nat
  lead : Nat
  dur : Nat
  sent : Nat
  /-- It is a step-start notice of the sorting office. -/
  start : Bool := false
  deriving DecidableEq, Repr

/-- The sums of the energy interval in hand (R427). -/
structure Interval where
  first : Nat := 0
  startPtp : Nat := 0
  input : Nat := 0
  direct : Nat := 0
  overhead : Nat := 0
  unattr : Nat := 0
  sites : Nat := 0
  failed : Nat := 0
  elsewhere : Nat := 0
  rfirst : Nat := 0
  rlast : Nat := 0
  rcount : Nat := 0
  rattrib : Nat := 0
  throt : Nat := 0
  capmin : Nat := 0
  capmax : Nat := 0
  peak : Nat := 0
  vinmin : Nat := 0
  flags : Nat := 0
  deriving DecidableEq, Repr

/-- Power beside its registers: boosts in force (R403), sensed voltages by cluster in mV and the times of the latest droop records (R402, R404), rail
energies of each site and of the input at the last window's end, the last 100 1-ms mean powers of each site (R408), windows
under (R410), input voltage samples of the window (R406), meter readings at the last round boundary by meter, sites in a gated slice (R412), the
energy interval, intervals ended and their statements not yet issued, and the accounting site (R419). -/
structure PowerSide where
  boosts : List Notice := []
  volt : Table Nat := []
  droopLog : Table Nat := []
  winBase : Table Nat := []
  means : Table (List Nat) := []
  under : Table Nat := []
  vin : List Nat := []
  /-- Keys: 0 the input, 1 + site the site meter, 100 + site DRAM, 10000 + cluster its rail. -/
  roundBase : Table Nat := []
  gated : List Nat := []
  interval : Interval := {}
  ended : List (Interval × Nat × Nat) := []
  nextInterval : Nat := 4000
  accounting : Nat := 0
  /-- Mean input power of the last control window in W (R448). -/
  pin : Nat := 0
  /-- A site that measured direct energy of this round was lost, or its base die reset, before it sent its sums (R419). -/
  unsent : Bool := false
  /-- The accounting site was lost or reset, or its base die: the role moves at the next round boundary (R419). -/
  moved : Bool := false
  /-- The partial sums of direct energy of each site for its last 8 rounds, newest first (R419). -/
  sums : Table (List Nat) := []
  deriving DecidableEq, Repr

/-- Heat beside its registers: model estimates by 13 cluster + die (die 0 the CD, 1 to 12 the DRAM layers) and offsets by 13 site + die in units of 0.125 degrees Celsius,
runs of boundaries apart and together and the dies marked UNRELIABLE (R431), runs of readings at or above shutdown by 15 site + diode (R438), heat windows under by cluster
(R435), good coolant samples newest first with their times, runs of good and of bad cycles and of hot inlets, a read to be
retried, the last hub count, and the latest COLD record (R442 to R445). -/
structure HeatSide where
  est : Table Int := []
  offset : Table Int := []
  apart : Table Nat := []
  near : Table Nat := []
  unreliable : Table Bool := []
  hot : Table Nat := []
  under : Table Nat := []
  samples : List (Nat × Coolant) := []
  good : Nat := 0
  bad : Nat := 0
  hotRun : Nat := 0
  retry : Bool := false
  lastCount : Option Nat := none
  coldLog : Option Nat := none
  doubt : Option Nat := none
  /-- The doubt has been logged (R444). -/
  doubtLogged : Bool := false
  /-- Rail energy of a cluster at the model's last update, in nJ (R431). -/
  railBase : Table Nat := []
  deriving DecidableEq, Repr


/-! ### The logbook, and work within a step -/

/-- A logbook record: kind 1 SHUTDOWN, 2 FAULT, 3 NOTE (R448, R475). -/
structure LogRec where
  kind : Nat
  rseq : Nat
  ptp : Nat
  round : Nat
  cls : Nat := 0
  event : Nat := 0
  site : Nat := 255
  unit : Nat := 0
  detail : Nat := 0
  recovery : Nat := 0
  outcome : Nat := 0
  deferred : Bool := false
  escalated : Bool := false
  districts : List Nat := []
  addr : Nat := 0
  /-- SHUTDOWN: the cause and the values of R448. -/
  extra : List Nat := []
  deriving DecidableEq, Repr

/-- Consequences of a fault or an end that are still to be drawn within the step that raised them; empty between steps. -/
inductive Due where
  /-- An event message (R476). -/
  | event (code district site index : Nat)
  /-- A repair has failed in a page (R490). -/
  | pageRetired (v page : Nat)
  /-- A district enters FAILED, or QUARANTINED, its streams ending with a code (R480, R491). -/
  | districtFail (d code : Nat) (quarantine : Bool)
  /-- The running step of a district fails (R216, R295, R487). -/
  | stepFail (d : Nat)
  /-- A staging GATHER of the KV manager has ended with a status (R270, R281). -/
  | kvGather (slot c j status : Nat)
  deriving DecidableEq, Repr

/-- A posted write in progress: the block, the instance, and the fields it will set (R393). -/
structure Posted where
  blk : Block
  inst : Nat
  sets : List (Reg × Nat × Nat)
  deriving DecidableEq, Repr

/-- The state of the W64. -/
structure State where
  /-- Register fields by `regKey`; an unlisted field is at its reset value. -/
  regs : Table Nat
  posted : List Posted
  cores : CoreSide
  vaults : VaultSide
  engines : Table Engine
  kvSites : Table KvSite
  pages : Table PageRec
  districts : Table District
  sort : SortSide
  fab : FabSide
  parcels : Table Parcel
  /-- Stand-ins in force: the stand-in core and the core it replaces (R483). -/
  standIns : List (Nat × Nat)
  notices : List Notice
  eng : EngSide
  net : NetSide
  faults : FaultSide
  boot : BootSide
  power : PowerSide
  heat : HeatSide
  /-- The records of the logbook, oldest first (R475). -/
  logbook : List LogRec
  logSeq : Nat
  due : List Due
  outbox : List Emission
  /-- Time in ns since the reset, one BCLK each; the PTP time (log 9). -/
  now : Nat
  /-- The model's own counter of free values drawn (log 3). -/
  freeCtr : Nat
  pending : List Instr
  deriving DecidableEq, Repr

/-- The machine right after a device reset, before the power-on sequence: every table at its defaults. -/
def State.reset : State where
  regs := []
  posted := []
  cores := ⟨[], [], [], [], [], [], []⟩
  vaults := ⟨[], [], [], [], [], [], [], [], [], [], [], [], []⟩
  engines := []
  kvSites := []
  pages := []
  districts := []
  sort := {}
  fab := {}
  parcels := []
  standIns := []
  notices := []
  eng := {}
  net := {}
  faults := {}
  boot := {}
  power := {}
  heat := {}
  logbook := []
  logSeq := 0
  due := []
  outbox := []
  now := 0
  freeCtr := 0
  pending := []

end Sys2Proof.Machine
end

