-- ==== Sys2Proof/Machine/Table.lean ====
section
/-!
DEFINITION. Sparse tables and byte memories in one canonical form: keys strictly rising, no entry equal to what an
unlisted key reads as. Every read and write of the state's tables goes through `tget` and `tset`, of its memories through
`mget`, `mset` and the byte-list forms.
-/

namespace Sys2Proof.Machine

variable {α : Type}

/-- The value at a key; an unlisted key reads as the default. -/
def tget (d : Nat → α) : Table α → Nat → α
  | [], k => d k
  | (k', v) :: t, k => if k' = k then v else tget d t k

/-- The table without a key. -/
def terase (k : Nat) : Table α → Table α
  | [] => []
  | (k', v) :: t => if k' = k then terase k t else (k', v) :: terase k t

/-- The table with an entry put in its place. -/
def tins (k : Nat) (v : α) : Table α → Table α
  | [] => [(k, v)]
  | (k', v') :: t =>
    if k < k' then (k, v) :: (k', v') :: t
    else if k = k' then (k, v) :: t
    else (k', v') :: tins k v t

/-- Writes a key; writing the default removes the entry. -/
def tset [DecidableEq α] (d : Nat → α) (t : Table α) (k : Nat) (v : α) : Table α :=
  if v = d k then terase k t else tins k v t

/-- The canonical form. -/
def twf [DecidableEq α] (d : Nat → α) : Table α → Bool
  | [] => true
  | [(k, v)] => v != d k
  | (k, v) :: (k', v') :: t => v != d k && decide (k < k') && twf d ((k', v') :: t)

/-- Applies f to the value at a key. -/
def tupd [DecidableEq α] (d : Nat → α) (t : Table α) (k : Nat) (f : α → α) : Table α := tset d t k (f (tget d t k))

/-- What an unlisted byte reads as. -/
def zeroByte : Nat → Byte := fun _ => 0#8

def mget (m : Memory) (a : Nat) : Byte := tget zeroByte m a
def mset (m : Memory) (a : Nat) (b : Byte) : Memory := tset zeroByte m a b

/-- n bytes from an address. -/
def mread (m : Memory) (a : Nat) : Nat → List Byte
  | 0 => []
  | n + 1 => mget m a :: mread m (a + 1) n

/-- A byte list written from an address. -/
def mwrite (m : Memory) (a : Nat) : List Byte → Memory
  | [] => m
  | b :: bs => mwrite (mset m a b) (a + 1) bs

end Sys2Proof.Machine

namespace Sys2Proof

/-- The canonical form of a byte memory. -/
def Memory.wf (m : Memory) : Bool := Machine.twf Machine.zeroByte m

end Sys2Proof
end

