-- ==== Sys2Proof/Machine/Ops.lean ====
section
/-!
DEFINITION. The named operations every meaning uses: reading and writing register fields, the counters, cores, the
logbook and events, what leaves the device, and free values.
-/

namespace Sys2Proof.Machine

/-! Registers. -/

/-- A register field of an instance. -/
def rd (f : Reg) (i : Nat) (s : State) : Nat := tget regDefault s.regs (regKey f i)

/-- Writes a register field, keeping the bits of its width. -/
def wr (f : Reg) (i v : Nat) (s : State) : State :=
  { s with regs := tset regDefault s.regs (regKey f i) (v % 2 ^ (regInfo f).w) }

/-- Adds to a counter that stops at its largest value. -/
def addSat (f : Reg) (i n : Nat) (s : State) : State :=
  wr f i (min (rd f i s + n) (2 ^ (regInfo f).w - 1)) s

def bump (f : Reg) (i : Nat) (s : State) : State := addSat f i 1 s

def flag (f : Reg) (i : Nat) (s : State) : State := wr f i 1 s

/-- A one-bit field as a truth value. -/
def bit (f : Reg) (i : Nat) (s : State) : Bool := rd f i s != 0

def natBool (b : Bool) : Nat := if b then 1 else 0

/-- Sets a field when a condition holds. -/
def flagIf (b : Bool) (f : Reg) (i : Nat) (s : State) : State := if b then flag f i s else s

def wrIf (b : Bool) (f : Reg) (i v : Nat) (s : State) : State := if b then wr f i v s else s

/-- The register table without the entries of one block instance: every field of it at its reset value. -/
def clearBlock (b : Block) (i : Nat) (s : State) : State :=
  { s with regs := s.regs.filter fun p =>
      let r := regInfo (Reg.ofNat (p.1 % 512))
      !(r.blk == b && p.1 / 512 / r.sub == i) }

/-- How many fields there are. -/
def regCount : Nat := Reg.fltsiteDataPages.ctorIdx + 1

/-- The fields of a block's register slot: field, repetition, lowest bit (R389). -/
def fieldsAt (b : Block) (off : Nat) : List (Reg × Nat × Nat) :=
  (List.range regCount).flatMap fun n =>
    let f := Reg.ofNat n
    let r := regInfo f
    if r.blk == b then
      ((List.range r.sub).filter fun k => r.off + r.byteStep * k == off).map fun k => (f, k, r.lo + r.bitStep * k)
    else []

/-- A register slot as it is read: every field at one instant, reserved bits 0 (R392). -/
def regWord (b : Block) (i off : Nat) (s : State) : Nat :=
  (fieldsAt b off).foldl (fun a f => a + rd f.1 (i * (regInfo f.1).sub + f.2.1) s * 2 ^ f.2.2) 0

/-! Units and places (R6). -/

def siteOf (g : Nat) : Nat := g / 2048
/-- The device-wide cluster 32 s + k of core or vault g. -/
def clusterOf (g : Nat) : Nat := 32 * (g / 2048) + 8 * (g % 2048 / 64 / 8) + g % 64 / 8

/-- The cores of cluster 32 s + k. -/
def coresOf (k : Nat) : List Nat :=
  (List.range 64).map fun j => 2048 * (k / 32) + 64 * (8 * (k % 32 / 8) + j / 8) + 8 * (k % 8) + j % 8

/-- The district a cluster is bound to (R219). -/
def clusterDistrict (k : Nat) (s : State) : Option Nat :=
  if bit .clbindCBound k s then some (rd .clbindCDistrict k s) else none

def coreDistrict (g : Nat) (s : State) : Option Nat := clusterDistrict (clusterOf g) s

/-- A core is usable when its array is 30 columns wide or wider and its channel is intact (R3), and its site is not lost. -/
def usable (g : Nat) (s : State) : Bool :=
  30 ≤ rd .coreArrayIdWidth g s && rd .vaultStatusChan g s < 2 && !bit .brsiteStatusLost (siteOf g) s

def clustersOf (d : Nat) (s : State) : List Nat := (List.range 2048).filter fun k => clusterDistrict k s == some d

def coresOfDistrict (d : Nat) (s : State) : List Nat := (clustersOf d s).flatMap coresOf

def districtOnSite (d site : Nat) (s : State) : Bool :=
  (List.range 32).any fun k => clusterDistrict (32 * site + k) s == some d

/-! Pages (R230). -/

def pageFree : Nat → PageRec := fun _ => {}
def pageKey (v page : Nat) : Nat := v * 768 + page
def getPage (v page : Nat) (s : State) : PageRec := tget pageFree s.pages (pageKey v page)

/-- On the free list: free, not withheld, not reserved (R230, R231, R462, R490). -/
def pageOnList (r : PageRec) : Bool :=
  match r.owner with
  | .free => !r.withheld && !r.reserved
  | _ => false

/-- Withheld and in nobody's hands (R462, R490). -/
def pageWithheld (r : PageRec) : Bool :=
  match r.owner with
  | .free => r.withheld
  | _ => false

/-- Writes a page's record; KVSITE.FREE.PAGES counts the site's free coded pages, BRSITE.REPAIR.BADPAGES its withheld pages
(R284, R462). -/
def setPage (v page : Nat) (r : PageRec) (s : State) : State :=
  let old := getPage v page s
  let k := siteOf v
  let s1 := { s with pages := tset pageFree s.pages (pageKey v page) r }
  let s2 := if page < 752 ∧ pageOnList old ≠ pageOnList r then
      wr .kvsiteFreePages k (rd .kvsiteFreePages k s1 + natBool (pageOnList r) - natBool (pageOnList old)) s1 else s1
  if pageWithheld old ≠ pageWithheld r then
    wr .brsiteRepairBadpages k (rd .brsiteRepairBadpages k s2 + natBool (pageWithheld r) - natBool (pageWithheld old)) s2
  else s2

/-- The district bound to a parcel (R226). -/
def boundTo (p : Nat) (s : State) : Option Nat :=
  (List.range 256).find? fun d => bit .distCfgPv d s && rd .distCfgParcel d s == p

/-- The districts a page concerns. -/
def pageDistricts (v page : Nat) (s : State) : List Nat :=
  match (getPage v page s).owner with
  | .district d => [d]
  | .tables d => [d]
  | .parcel p => (boundTo p s).toList
  | .free => []

/-! What leaves the device, the logbook and events. -/

def emit (e : Emission) (s : State) : State := { s with outbox := s.outbox ++ [e] }

def addDue (x : Due) (s : State) : State := { s with due := s.due ++ [x] }

def roundNow (s : State) : Nat := rd .roundCountRound 0 s

/-- Takes out the oldest record that a new one may overwrite: any for a SHUTDOWN record, else none of the 16 newest SHUTDOWN
records (R449). -/
def dropOldest (shutdown : Bool) : List LogRec → List LogRec
  | [] => []
  | r :: rs => if !shutdown && r.kind == 1 && decide ((rs.filter fun x => x.kind == 1).length < 16) then r :: dropOldest shutdown rs else rs

/-- Appends a logbook record under the next sequence number; the log holds 4,096 (R448, R449, R475). -/
def addLog (r : LogRec) (s : State) : State :=
  let r' := { r with rseq := s.logSeq, ptp := s.now, round := roundNow s }
  let old := if s.logbook.length < 4096 then s.logbook else dropOldest (r.kind == 1) s.logbook
  { s with logbook := old ++ [r'], logSeq := (s.logSeq + 1) % 2 ^ 32 }

/-- One event for each district concerned, or one that concerns no district, 256 (R476). -/
def events (code : Nat) (ds : List Nat) (site : Nat) (s : State) : State :=
  let i := (s.logSeq + 4096 * 4095 - 1) % 4096
  (if ds = [] then [256] else ds).foldl (fun u d => addDue (.event code d site i) u) s

/-- A logbook record and its event, if it has one (R475, R476). -/
def logEvent (r : LogRec) (ds : List Nat) (s : State) : State :=
  let s1 := addLog r s
  if r.event = 0 then s1 else events r.event ds (r.site % 64) s1

/-- A NOTE record (R475). -/
def note (site unit detail event : Nat) (s : State) : State :=
  logEvent { kind := 3, rseq := 0, ptp := 0, round := 0, cls := 1, site := site, unit := unit, detail := detail, event := event } [] s

/-- A FAULT record (R475). -/
def faultRec (cls event site unit detail outcome : Nat) : LogRec :=
  { kind := 2, rseq := 0, ptp := 0, round := 0, cls := cls, event := event, site := site, unit := unit, detail := detail,
    outcome := outcome }

/-- A site is in service and no reset of it or of its base die is in progress (R397, R468, R470). -/
def siteUp (k : Nat) (s : State) : Bool := bit .brsiteStatusReady k s && !bit .brsiteStatusResetting k s

/-- BAR0 of a device whose bring-up failed serves DEV and BRDEV only (R467). -/
def barServes (b : Block) (s : State) : Bool := rd .brdevStatusPhase 0 s != 7 || b == .dev || b == .brdev

/-- A stop has been detected: the sorting office admits nothing, engines and sampling units stop, envelopes are no longer fetched
(R446). -/
def stopping (s : State) : Bool := s.boot.stop.isSome

/-! Free values. -/

/-- A fresh unconstrained number (log 3). -/
def fresh (s : State) : Nat × State := (Config.freeNat s.freeCtr, { s with freeCtr := s.freeCtr + 1 })

/-! Cores. -/

def coreDefault : Nat → Core := fun _ => {}

def getCore (g : Nat) (s : State) : Core := tget coreDefault s.cores.cores g
def setCore (g : Nat) (c : Core) (s : State) : State :=
  { s with cores := { s.cores with cores := tset coreDefault s.cores.cores g c } }
def updCore (g : Nat) (f : Core → Core) (s : State) : State := setCore g (f (getCore g s)) s

/-! Districts. -/

def districtDefault : Nat → District := fun _ => {}
def getDistrict (d : Nat) (s : State) : District := tget districtDefault s.districts d
def setDistrict (d : Nat) (x : District) (s : State) : State :=
  { s with districts := tset districtDefault s.districts d x }
def updDistrict (d : Nat) (f : District → District) (s : State) : State := setDistrict d (f (getDistrict d s)) s

/-! Scratchpads and pigeonholes (R57, R58, R113, R198). -/

def noMark : Nat → Bool := fun _ => false
def zeroTag : Nat → Nat := fun _ => 0

def spRead (g off n : Nat) (s : State) : List Byte := mread s.cores.spad (g * 2 ^ 18 + off) n
/-- A line of a scratchpad as a little-endian number. -/
def spLine (g line : Nat) (s : State) : Nat := leNat (spRead g (32 * line) 32 s)
def lineTag (g line : Nat) (s : State) : Nat := tget zeroTag s.cores.lineTag (g * 8192 + line)
def linePoison (g line : Nat) (s : State) : Bool := tget noMark s.cores.linePoison (g * 8192 + line)

def setTag (g line t : Nat) (s : State) : State :=
  { s with cores := { s.cores with lineTag := tset zeroTag s.cores.lineTag (g * 8192 + line) t } }
def setPoison (g line : Nat) (b : Bool) (s : State) : State :=
  { s with cores := { s.cores with linePoison := tset noMark s.cores.linePoison (g * 8192 + line) b } }

/-- The lines of a byte range. -/
def linesOf (off n : Nat) : List Nat :=
  if n = 0 then [] else (List.range ((off + n - 1) / 32 + 1 - off / 32)).map (· + off / 32)

/-- The byte range covers the whole line. -/
def coversLine (off n line : Nat) : Bool := off ≤ 32 * line && 32 * line + 32 ≤ off + n

/-- The first line that a write covers only in part and that is poisoned: such a write is refused (R113). -/
def spRefused (g off n : Nat) (s : State) : Option Nat :=
  (linesOf off n).find? fun l => !coversLine off n l && linePoison g l s

/-- The bytes of a write into a scratchpad, its lines given the tag and, where covered whole, cleared of poison (R58, R113). -/
def spWrite (g off tag : Nat) (bs : List Byte) (s : State) : State :=
  let s1 := { s with cores := { s.cores with spad := mwrite s.cores.spad (g * 2 ^ 18 + off) bs } }
  (linesOf off bs.length).foldl
    (fun t l => setTag g l tag (if coversLine off bs.length l then setPoison g l false t else t)) s1

def pigRead (p off n : Nat) (s : State) : List Byte := mread s.cores.pig (p * 2 ^ 19 + off) n
def pigPoison (p line : Nat) (s : State) : Bool := tget noMark s.cores.pigPoison (p * 16384 + line)
def setPigPoison (p line : Nat) (b : Bool) (s : State) : State :=
  { s with cores := { s.cores with pigPoison := tset noMark s.cores.pigPoison (p * 16384 + line) b } }

/-- The first line of pigeonhole p that a partial write meets poisoned (R198). -/
def pigRefused (p off n : Nat) (s : State) : Option Nat :=
  (linesOf off n).find? fun l => !coversLine off n l && pigPoison p l s

def pigWrite (p off : Nat) (bs : List Byte) (s : State) : State :=
  let s1 := { s with cores := { s.cores with pig := mwrite s.cores.pig (p * 2 ^ 19 + off) bs } }
  (linesOf off bs.length).foldl (fun t l => if coversLine off bs.length l then setPigPoison p l false t else t) s1

/-- The cluster of pigeonhole index 256 s + 8 k + p. -/
def pigCluster (p : Nat) : Nat := p / 8

/-! Posted writes (R393). -/

/-- BUSY and OVERRUN of a block that has them. -/
def busyBits (b : Block) : Option (Reg × Reg) :=
  match b with
  | .core => some (.corePostBusy, .corePostOverrun)
  | .vault => some (.vaultStatusBusy, .vaultStatusOverrun)
  | .vsite => some (.vsiteStatusBusy, .vsiteStatusOverrun)
  | .nme => some (.nmeStatusBusy, .nmeStatusOverrun)
  | .net => some (.netStatusBusy, .netStatusOverrun)
  | .kvsite => some (.kvsiteStatusBusy, .kvsiteStatusOverrun)
  | .kvd => some (.kvdCfgBusy, .kvdCfgOverrun)
  | .sosite => some (.sositeStatusBusy, .sositeStatusOverrun)
  | .sodist => some (.sodistStatusBusy, .sodistStatusOverrun)
  | _ => none

/-- The cluster of a core is dark (R436). -/
def coreDark (b : Block) (i : Nat) (s : State) : Bool := b == .core && bit .thclCtrlDark (clusterOf i) s

/-- A write to a block that finds BUSY set is dropped and sets OVERRUN; else it takes effect (R393). -/
def blockWrite (b : Block) (i : Nat) (act : State → State) (s : State) : State :=
  match busyBits b with
  | some r => if bit r.1 i s then flag r.2 i s else act s
  | none => act s

/-- A write that waits in a posted register until the block's clock domain takes it (R393, R436). -/
def post (b : Block) (i : Nat) (sets : List (Reg × Nat × Nat)) (s : State) : State :=
  match busyBits b with
  | some r => { flag r.1 i s with posted := s.posted ++ [⟨b, i, sets⟩] }
  | none => s

/-- A write of a core's CTRL: one of a darkened cluster waits until it is lit again (R393, R436). -/
def coreWrite (g : Nat) (f : Reg) (act : State → State) (s : State) : State :=
  blockWrite .core g (fun u => if coreDark .core g u then post .core g [(f, g, 1)] u else act u) s

end Sys2Proof.Machine
end

