-- ==== Sys2Proof/Machine/Vault.lean ====
section
/-!
DEFINITION. Vaults and stored-data protection (chapter 06): the checked read of a word, the repair by the strong code,
full and narrow writes, the flip-mask, scrubs, FILL and the address forms R144 to R146.
-/

namespace Sys2Proof.Machine

/-- The first offset of the counter area (R138) and the end of a vault (R137). -/
def counterBase : Nat := 0x2F00000
def vaultEnd : Nat := 0x3000000

/-- Requesters of a vault, as VAULT.ERRADDR.SRC names them (R165). -/
def srcChannel : Nat := 0
def srcEngine : Nat := 1
def srcKv : Nat := 2
def srcDispatcher : Nat := 3
def srcHost : Nat := 4
def srcSide : Nat := 5
def srcScrub : Nat := 6

def wordKey (v off : Nat) : Nat := v * 2 ^ 21 + off / 32
def blockKey (v off : Nat) : Nat := v * 2 ^ 14 + off / 4096

/-- An unlisted word of the coded area reads as the unwritten marker, one of the counter area as zeros (R156). -/
def markDefault (k : Nat) : Mark := if k % 2 ^ 21 < counterBase / 32 then .unwritten else .data

def getMark (v off : Nat) (s : State) : Mark := tget markDefault s.vaults.mark (wordKey v off)
def setMark (v off : Nat) (m : Mark) (s : State) : State :=
  { s with vaults := { s.vaults with mark := tset markDefault s.vaults.mark (wordKey v off) m } }

def noBad : Nat → Nat := fun _ => 0

/-- The bad symbols of a data word: symbol and difference (R149). -/
def badOf (v off : Nat) (s : State) : List (Nat × Nat) :=
  (List.range 34).filterMap fun j =>
    let x := tget noBad s.vaults.bad (64 * wordKey v off + j)
    if x = 0 then none else some (j, x)

def parKey (v off p j : Nat) : Nat := 64 * (4 * blockKey v off + p) + j

def parBadOf (v off p : Nat) (s : State) : List (Nat × Nat) :=
  (List.range 34).filterMap fun j =>
    let x := tget noBad s.vaults.parBad (parKey v off p j)
    if x = 0 then none else some (j, x)

def setBad (v off j x : Nat) (s : State) : State :=
  { s with vaults := { s.vaults with bad := tset noBad s.vaults.bad (64 * wordKey v off + j) x } }

def setParBad (v off p j x : Nat) (s : State) : State :=
  { s with vaults := { s.vaults with parBad := tset noBad s.vaults.parBad (parKey v off p j) x } }

def clearBad (v off : Nat) (s : State) : State :=
  { s with vaults := { s.vaults with bad := s.vaults.bad.filter fun p => p.1 / 64 != wordKey v off } }

def clearParBad (v off p : Nat) (s : State) : State :=
  { s with vaults := { s.vaults with parBad := s.vaults.parBad.filter fun q => q.1 / 64 != 4 * blockKey v off + p } }

def setCntBad (v off x : Nat) (s : State) : State :=
  { s with vaults := { s.vaults with cntBad := tset noBad s.vaults.cntBad (v * 2 ^ 26 + off) x } }

def isEst (v off : Nat) (s : State) : Bool := tget noMark s.vaults.est (blockKey v off)
def setEst (v off : Nat) (b : Bool) (s : State) : State :=
  { s with vaults := { s.vaults with est := tset noMark s.vaults.est (blockKey v off) b } }

/-- The marker pass leaves every parity word with the unwritten marker (R156). -/
def parDefault (_ : Nat) : Mark := .unwritten
def getParMark (v off p : Nat) (s : State) : Mark := tget parDefault s.vaults.parMark (4 * blockKey v off + p)
def setParMark (v off p : Nat) (m : Mark) (s : State) : State :=
  { s with vaults := { s.vaults with parMark := tset parDefault s.vaults.parMark (4 * blockKey v off + p) m } }

/-- The four parity words of a block computed afresh. -/
def freshParity (v off : Nat) (s : State) : State :=
  (List.range 4).foldl (fun t p => clearParBad v off p (setParMark v off p .data t)) s

def dramRead (v off n : Nat) (s : State) : List Byte := mread s.vaults.dram (v * 2 ^ 26 + off) n
def dramWrite (v off : Nat) (bs : List Byte) (s : State) : State :=
  { s with vaults := { s.vaults with dram := mwrite s.vaults.dram (v * 2 ^ 26 + off) bs } }

/-- Opens the row of an access (R137, R140). -/
def openRow (v off : Nat) (s : State) : State :=
  { s with vaults := { s.vaults with
      openRow := tset noBad s.vaults.openRow (48 * v + 4 * (off / 2 ^ 22) + off / 2 ^ 11 % 4) (off / 2 ^ 13 % 512 + 1) } }

/-- Word slots that a vault grants to requesters, or to scrubs (R142, R417; log 44). -/
def grantSlots (scrub : Bool) (v n : Nat) (s : State) : State :=
  if scrub then
    { s with vaults := { s.vaults with scrubSlots := tset noBad s.vaults.scrubSlots (siteOf v) (tget noBad s.vaults.scrubSlots (siteOf v) + n) } }
  else
    { s with vaults := { s.vaults with slots := tset noBad s.vaults.slots (clusterOf v) (tget noBad s.vaults.slots (clusterOf v) + n) } }

/-- Opens both rows of a block: one in each of two banks (R137). -/
def openBlock (v off : Nat) (s : State) : State :=
  openRow v (off / 4096 * 4096 + 2048) (openRow v (off / 4096 * 4096) s)

/-- VAULT.ERRADDR (R165). -/
def errAddr (v off kind src : Nat) (s : State) : State :=
  wr .vaultErraddrRound v (roundNow s)
    (wr .vaultErraddrSrc v src (wr .vaultErraddrKind v kind (wr .vaultErraddrOffset v off s)))

/-- Lost data of a vault: the counters, a FAULT record and DATA_UE (R152, R153, R474, R476). -/
def dataUe (v off kind src : Nat) (s : State) : State :=
  let s1 := bump .fltsiteDataUe (siteOf v) (bump .vaultErrcntUe v (errAddr v off kind src s))
  logEvent { faultRec 2 0x0010 (siteOf v) (v % 2048) (off / 65536) 5 with addr := v * 2 ^ 26 + off } (pageDistricts v (off / 65536) s1) s1

def dsqNone : Nat → List Nat := fun _ => []

/-- Queues a block for a demand scrub; the queue holds four (R162). -/
def queueScrub (v off : Nat) (s : State) : State :=
  let q := tget dsqNone s.vaults.dsq v
  if q.contains (off / 4096) then s
  else if q.length < 4 then { s with vaults := { s.vaults with dsq := tset dsqNone s.vaults.dsq v (q ++ [off / 4096]) } }
  else flag .vaultStatusDsqDrop v s

/-- The raw bytes of a word with its wrong data symbols. -/
def rawBytes (bs : List Byte) (bad : List (Nat × Nat)) : List Byte :=
  bs.zipIdx.map fun p => bad.foldl (fun b q => if q.1 = p.2 then b ^^^ BitVec.ofNat 8 q.2 else b) p.1

/-- What the light code makes of a word's errors (R149): 0 flagged, 1 miscorrected at a symbol by a difference, 2 passed, 3 right or
corrected; with three or more bad symbols an open function of the errors (log 12). -/
def lightOut (bad : List (Nat × Nat)) : Nat × Nat × Nat :=
  if bad.length < 2 then (3, 0, 0)
  else if bad.length = 2 then (0, 0, 0)
  else
    let c := Config.lightCode bad
    (c % 3, c / 3 % 34, c / 102 % 255 + 1)

/-- The content delivered of a word that is not flagged. -/
def lightData (bs : List Byte) (bad : List (Nat × Nat)) : List Byte :=
  let o := lightOut bad
  match o.1 with
  | 1 => rawBytes bs (bad ++ [(o.2.1, o.2.2)])
  | 2 => rawBytes bs bad
  | _ => bs

/-- The word as it is delivered counts as its content from now on. -/
def adoptWord (v off : Nat) (s : State) : State :=
  let bad := badOf v off s
  clearBad v off (if (lightOut bad).1 = 3 then s else dramWrite v off (lightData (dramRead v off 32 s) bad) s)

/-- The errors of word j of a block, 128 data words and then 4 parity words. -/
def wordBad (v base j : Nat) (s : State) : List (Nat × Nat) :=
  if j < 128 then badOf v (base + 32 * j) s else parBadOf v base (j - 128) s

/-- What the repair takes word j for (R149, R150): 3 right or correctable, 0 flagged, else bad unseen, 4 and 5 being one taken for the
unwritten and for the poison marker. -/
def wordClass (v base j : Nat) (s : State) : Nat :=
  let bad := wordBad v base j s
  if bad = [] then 3
  else
    match Config.nearMarker (if j < 128 then dramRead v (base + 32 * j) 32 s else []) bad with
    | 1 => 4
    | 2 => 5
    | _ => (lightOut bad).1

def clearWordBad (v base j : Nat) (s : State) : State :=
  if j < 128 then clearBad v (base + 32 * j) s else clearParBad v base (j - 128) s

/-- A bad data word that a failed repair has not seen: its content as it stands is what the new parity protects (R152). -/
def keepWord (v base c j : Nat) (s : State) : State :=
  let off := base + 32 * j
  if 128 ≤ j then s
  else if c = 4 then clearBad v off (setMark v off .unwritten s)
  else if c = 5 then clearBad v off (setMark v off .poison s)
  else adoptWord v off s

/-- Repair of an established block (R152): word j of the block failed, none for 132, at the offset recorded. The other words are read,
which corrects and counts those with one bad symbol. -/
def strongRepair (v off j src : Nat) (s0 : State) : State :=
  let base := off / 4096 * 4096
  let s := openBlock v off s0
  let cs := (List.range 132).map fun k => (k, if k = j then 0 else wordClass v base k s)
  let e := (cs.filter fun c => c.2 == 0).map (·.1)
  let t := cs.filter fun c => c.2 != 0 && c.2 != 3
  let ones := cs.filter fun c => c.2 == 3 && (wordBad v base c.1 s).length == 1
  let s1 := ones.foldl (fun u _ => queueScrub v off (bump .vaultErrcntCe v u)) s
  if 2 * t.length + e.length ≤ 4 then
    addSat .vaultErrcntRepaired v (e.length + t.length) ((e ++ t.map (·.1)).foldl (fun u k => clearWordBad v base k u) s1)
  else
    let s2 := e.foldl (fun u k => if k < 128 then setMark v (base + 32 * k) .poison (clearBad v (base + 32 * k) u) else u) s1
    let s3 := t.foldl (fun u c => keepWord v base c.2 c.1 u) s2
    addDue (.pageRetired v (off / 65536)) (dataUe v off 1 src (freshParity v base s3))

/-- Reports a marker (R149, R157, R161). -/
def reportMark (v off src : Nat) (m : Mark) (s : State) : WordOut × State :=
  match m with
  | .unwritten => (.unwritten, bump .vaultErrcntUnwr v (errAddr v off 4 src s))
  | _ => (.poisoned, errAddr v off 3 src s)

/-- The word as it stands after an uncorrectable report (R152, R153). -/
def uncorrectable (v off src : Nat) (s : State) : WordOut × State :=
  if isEst v off s then
    let s1 := strongRepair v off (off % 4096 / 32) src s
    if getMark v off s1 = .data then (.ok (dramRead v off 32 s1), s1) else (.poisoned, s1)
  else (.poisoned, dataUe v off 2 src (setMark v off .poison (clearBad v off s)))

/-- What the byte code delivers of a byte with bad bits x: the byte, and 0 as read, 1 corrected, 2 uncorrectable (R138; two or more
bad bits: log 12). -/
def counterOut (b : Byte) (x : Nat) : Byte × Nat :=
  match ((List.range 8).filter fun j => x.testBit j).length with
  | 0 => (b, 0)
  | 1 => (b, 1)
  | _ =>
    let c := Config.counterCode x
    match c % 3 with
    | 0 => (b ^^^ BitVec.ofNat 8 x ^^^ BitVec.ofNat 8 (2 ^ (c / 3 % 12)), 1)
    | 1 => (b, 2)
    | _ => (b ^^^ BitVec.ofNat 8 x, 0)

/-- A byte of the counter area through its code. -/
def counterAt (v off : Nat) (s : State) : Byte × Nat :=
  counterOut (mget s.vaults.dram (v * 2 ^ 26 + off)) (tget noBad s.vaults.cntBad (v * 2 ^ 26 + off))

/-- A byte of the counter area read: delivered byte, whether it is uncorrectable; the record names the word that holds it (R138). The
access opens its row (R140). -/
def counterByte (v off src : Nat) (s0 : State) : (Byte × Bool) × State :=
  let s := openRow v off s0
  let r := counterAt v off s
  match r.2 with
  | 1 => ((r.1, false), bump .vaultErrcntCe v s)
  | 2 => ((r.1, true), dataUe v (off / 32 * 32) 2 src s)
  | _ => ((r.1, false), s)

def counterBytes (v off src : Nat) : Nat → State → (List Byte × Bool) × State
  | 0, s => (([], false), s)
  | n + 1, s =>
    let a := counterByte v off src s
    let r := counterBytes v (off + 1) src n a.2
    ((a.1.1 :: r.1.1, a.1.2 || r.1.2), r.2)

/-- On whose behalf the checker reads a word: a requester, the merge of a narrow write (R155), the patrol or a demand scrub (R162). -/
inductive ReadKind where
  | requester | merge | patrol | demand
  deriving DecidableEq, Repr

def scrubs : ReadKind → Bool
  | .patrol | .demand => true
  | _ => false

/-- The bytes of a counter-area word that read as corrected are written back as delivered (R162). -/
def rewriteCounter (v w : Nat) (s : State) : State :=
  (List.range 32).foldl
    (fun u j =>
      let r := counterAt v (w + j) u
      if r.2 = 1 then setCntBad v (w + j) 0 (dramWrite v (w + j) [r.1] u) else u) s

/-- The reads of a whole page of tables in the counter area: only a byte with wrong bits counts anything (R138, R140). -/
def readTable (v page src : Nat) (s : State) : State :=
  let base := 65536 * page
  let bad := ((s.vaults.cntBad.map (·.1)).filter fun k => k / 2 ^ 26 == v && k % 2 ^ 26 / 65536 == page).map (· % 2 ^ 26)
  let s1 := bad.foldl (fun u o => (counterByte v o src u).2) s
  (List.range 4).foldl (fun u b => openRow v (base + 65536 - 8192 + 2048 * b) u) s1

/-- A word found correctable: counted; a scrub rewrites it, and all but the demand scrub queue its block (R149, R162). -/
def corrected (k : ReadKind) (v off : Nat) (rewrite : State → State) (s : State) : State :=
  let s1 := bump .vaultErrcntCe v (if scrubs k then rewrite s else s)
  if k = .demand then s1 else queueScrub v off s1

/-- A marker met in a read; the merge of a narrow write counts no unwritten word (R149, R155, R157). -/
def metMark (k : ReadKind) (v off src : Nat) (m : Mark) (s : State) : WordOut × State :=
  if k = .merge ∧ m = .unwritten then (.unwritten, s) else reportMark v off src m s

/-- A checked read of the aligned word at off (R138, R149, R152, R153, R157, R162). -/
def vreadAs (k : ReadKind) (v off src : Nat) (s0 : State) : WordOut × State :=
  let s := openRow v off (grantSlots (scrubs k) v 1 s0)
  if counterBase ≤ off then
    let r := counterBytes v off src 32 s
    (if r.1.2 then .poisoned else .ok r.1.1, if scrubs k then rewriteCounter v off r.2 else r.2)
  else
    let bad := badOf v off s
    let m := getMark v off s
    let bs := dramRead v off 32 s
    if m ≠ .data ∧ bad.length ≤ 1 then
      metMark k v off src m (if bad.length = 1 then bump .vaultErrcntCe v (clearBad v off s) else s)
    else if bad = [] then (.ok bs, s)
    else
      match Config.nearMarker bs bad with
      | 1 => metMark k v off src .unwritten (bump .vaultErrcntCe v (setMark v off .unwritten (clearBad v off s)))
      | 2 => metMark k v off src .poison (bump .vaultErrcntCe v (setMark v off .poison (clearBad v off s)))
      | _ =>
        if bad.length = 1 then (.ok bs, corrected k v off (clearBad v off) s)
        else
          let o := lightOut bad
          match o.1 with
          | 0 => uncorrectable v off src s
          | 1 =>
            (.ok (lightData bs bad), corrected k v off
              (fun u => setBad v off o.2.1 (Nat.xor (tget noBad u.vaults.bad (64 * wordKey v off + o.2.1)) o.2.2) u) s)
          | _ => (.ok (lightData bs bad), s)

/-- A read by a requester. -/
def vread (v off src : Nat) (s : State) : WordOut × State := vreadAs .requester v off src s

/-- A parity word of a block read by a scrub (R149, R152, R153, R156, R162). Its two rows hold two parity words each (log 102). -/
def parRead (k : ReadKind) (v base p : Nat) (s0 : State) : State :=
  let s := openRow v (base + p / 2 * 2048) (grantSlots true v 1 s0)
  let bad := parBadOf v base p s
  let m := getParMark v base p s
  if m ≠ .data ∧ bad.length ≤ 1 then
    (reportMark v base srcScrub m (if bad.length = 1 then bump .vaultErrcntCe v (clearParBad v base p s) else s)).2
  else if bad = [] then s
  else
    match Config.nearMarker [] bad with
    | 1 => (reportMark v base srcScrub .unwritten (bump .vaultErrcntCe v (setParMark v base p .unwritten (clearParBad v base p s)))).2
    | 2 => (reportMark v base srcScrub .poison (bump .vaultErrcntCe v (setParMark v base p .poison (clearParBad v base p s)))).2
    | _ =>
      if bad.length = 1 then corrected k v base (clearParBad v base p) s
      else
        let o := lightOut bad
        match o.1 with
        | 0 =>
          if isEst v base s then strongRepair v base (128 + p) srcScrub s
          else dataUe v base 2 srcScrub (setParMark v base p .poison (clearParBad v base p s))
        | 1 =>
          corrected k v base
            (fun u => setParBad v base p o.2.1 (Nat.xor (tget noBad u.vaults.parBad (parKey v base p o.2.1)) o.2.2) u) s
        | _ => s

/-- A byte of a flip mask register (R163). -/
def flipByte (v j : Nat) (s : State) : Nat := rd .vaultFlipDataMask (4 * v + j / 8) s >>> (8 * (j % 8)) % 256

/-- The flip-mask fires on the lowest-offset word of a write (R163). -/
def flipFire (v off : Nat) (s : State) : State :=
  if !bit .vaultFlipCtrlArmed v s then s
  else
    let data := if bit .vaultFlipCtrlDat v s then (List.range 32).map fun j => (j, flipByte v j s) else []
    let chk := if bit .vaultFlipCtrlChk v s then
        [(32, rd .vaultFlipCheckMask v s % 256), (33, rd .vaultFlipCheckMask v s / 256)] else []
    let w := off / 32 * 32
    let cnt := decide (counterBase ≤ off)
    let par := bit .vaultFlipCtrlPar v s && !cnt
    let s1 :=
      if cnt then
        data.foldl (fun u q => setCntBad v (w + q.1) (Nat.xor (tget noBad u.vaults.cntBad (v * 2 ^ 26 + w + q.1)) q.2) u) s
      else if par then
        let p := rd .vaultFlipCtrlParw v s
        (data ++ chk).foldl
          (fun u q => setParBad v off p q.1 (Nat.xor (tget noBad u.vaults.parBad (parKey v off p q.1)) q.2) u) s
      else
        (data ++ chk).foldl
          (fun u q => setBad v w q.1 (Nat.xor (tget noBad u.vaults.bad (64 * wordKey v w + q.1)) q.2) u) s
    wr .vaultFlipCtrlArmed v 0 (wr .vaultFlipLastOnpar v (natBool par) (flag .vaultFlipLastValid v
      (wr .vaultFlipLastOffset v (if par then off / 4096 * 4096 else w) s1)))

/-- Writes a whole word with fresh check bits; the parity of an established block follows (R138, R154). -/
def writeWord (v off : Nat) (bs : List Byte) (s : State) : State :=
  let s1 := dramWrite v off bs (openRow v off (grantSlots false v 1 s))
  if counterBase ≤ off then (List.range 32).foldl (fun u j => setCntBad v (off + j) 0 u) s1
  else clearBad v off (setMark v off .data s1)

/-- Writes part of a word: a read, a merge and a write, or a loss (R138, R155). The outcome is whether it was made. -/
def writePart (v off src : Nat) (bs : List Byte) (s : State) : Bool × State :=
  let w := off / 32 * 32
  let merge (old : List Byte) : List Byte := old.take (off - w) ++ bs ++ old.drop (off - w + bs.length)
  if counterBase ≤ off then
    (true, (List.range bs.length).foldl (fun u j => setCntBad v (off + j) 0 u) (dramWrite v off bs (openRow v off (grantSlots false v 1 s))))
  else
    let r := vreadAs .merge v w src s
    match r.1 with
    | .ok old => (true, writeWord v w (merge old) r.2)
    | .unwritten => (true, bump .vaultErrcntNarrowInit v (writeWord v w (merge (List.replicate 32 0)) r.2))
    | .poisoned =>
      let s1 := bump .fltsiteDataWriteLost (siteOf v) (bump .vaultErrcntWriteLost v (errAddr v w 5 src r.2))
      (false, if src = srcHost then
          logEvent { faultRec 2 0x0011 (siteOf v) (v % 2048) (w / 65536) 5 with addr := v * 2 ^ 26 + w } (pageDistricts v (w / 65536) s1) s1 else s1)

/-- Bytes written by one requester in one operation: vault, offset, length. -/
abbrev Piece := Nat × Nat × Nat

/-- Pieces with each that begins where the one before it ends joined to it. -/
def joinPieces : List Piece → List Piece
  | [] => []
  | a :: ps =>
    match joinPieces ps with
    | b :: qs => if a.1 = b.1 ∧ a.2.1 + a.2.2 = b.2.1 then (a.1, a.2.1, a.2.2 + b.2.2) :: qs else a :: b :: qs
    | [] => [a]

/-- How far pieces in order of their offsets reach from a place without a gap. -/
def reach : List Piece → Nat → Nat
  | [], r => r
  | p :: ps, r => if p.2.1 ≤ r then reach ps (max r (p.2.1 + p.2.2)) else r

/-- The pieces together cover the block at b of vault v. -/
def coversBlock (ps : List Piece) (v b : Nat) : Bool :=
  let qs := (ps.filter fun p => p.1 == v && decide (p.2.1 < b + 4096 ∧ b < p.2.1 + p.2.2)).insertionSort fun p q => p.2.1 ≤ q.2.1
  decide (b + 4096 ≤ reach qs b)

/-- The coded blocks a piece touches: vault and first offset. -/
def blocksOf (p : Piece) : List (Nat × Nat) :=
  if p.2.2 = 0 then []
  else
    ((List.range ((p.2.1 + p.2.2 - 1) / 4096 + 1 - p.2.1 / 4096)).map fun j => (p.1, (p.2.1 / 4096 + j) * 4096)).filter
      fun b => decide (b.2 < counterBase)

/-- Establishes every coded block that the pieces of one operation cover whole (R151). -/
def establish (ps : List Piece) (s : State) : State :=
  let qs := joinPieces ps
  (qs.flatMap blocksOf).foldl (fun u b => if coversBlock qs b.1 b.2 then setEst b.1 b.2 true (freshParity b.1 b.2 u) else u) s

/-- The end of a write operation that wrote these pieces: blocks covered whole are established, but not by a host (R145, R151), and
the flip-mask of each vault fires on its lowest-offset word (R163). -/
def finishWrite (src : Nat) (ps : List Piece) (s : State) : State :=
  let qs := ps.filter fun p => decide (0 < p.2.2)
  (qs.map (·.1)).dedup.foldl
    (fun u v => flipFire v (((qs.filter fun p => p.1 == v).map (·.2.1)).min?.getD 0) u)
    (if src = srcHost then s else establish qs s)

/-- Writes bytes word by word (R154, R155): the first word whose write is lost. A host write goes on behind it, any other operation
ends there. The fuel is the number of words. -/
def writeWords (v src : Nat) : Nat → Nat → List Byte → State → Option Nat × State
  | 0, _, _, s => (none, s)
  | k + 1, off, bs, s =>
    if bs = [] then (none, s)
    else
      let n := 32 - off % 32
      let now := bs.take n
      if now.length = 32 then writeWords v src k (off + 32) (bs.drop n) (writeWord v off now s)
      else
        let r := writePart v off src now s
        if r.1 then writeWords v src k (off + n) (bs.drop n) r.2
        else if src = srcHost then (some off, (writeWords v src k (off + n) (bs.drop n) r.2).2)
        else (some off, r.2)

/-- Part of a write operation: the offset of the word at which it was lost, if any; `finishWrite` ends the operation. -/
def vwriteRaw (v off src : Nat) (bs : List Byte) (s : State) : Option Nat × State :=
  writeWords v src (bs.length / 32 + 2) off bs s

/-- A write operation of one requester over one range (R151, R154, R155, R163): the offset of the word at which it was lost, if any. A
write whose lowest word is lost leaves the flip-mask armed (log 102). -/
def vwrite (v off src : Nat) (bs : List Byte) (s : State) : Option Nat × State :=
  if bs = [] then (none, s)
  else
    let r := vwriteRaw v off src bs s
    (r.1, finishWrite src [(v, off, (r.1.getD (off + bs.length)) - off)] r.2)

/-- Reads bytes word by word: what was read, and the offset of the word that could not be delivered, behind which nothing is read
(log 123). -/
def readWords (v src : Nat) : Nat → Nat → Nat → State → (List Byte × Option Nat) × State
  | 0, _, _, s => (([], none), s)
  | k + 1, off, n, s =>
    if n = 0 then (([], none), s)
    else
      let w := off / 32 * 32
      let m := min n (32 - off % 32)
      let r := vread v w src s
      match r.1 with
      | .ok bs =>
        let q := readWords v src k (off + m) (n - m) r.2
        ((((bs.drop (off - w)).take m) ++ q.1.1, q.1.2), q.2)
      | _ => (([], some w), r.2)

def vreadBytes (v off n src : Nat) (s : State) : (List Byte × Option Nat) × State := readWords v src (n / 32 + 2) off n s

/-! Address forms (R144 to R147). -/

/-- R144: vault (device-wide) and offset of a host-window address. -/
def hostWindow (a : Nat) : Nat × Nat :=
  (2048 * (a / 2 ^ 36 % 64) + Nat.xor (a / 2 ^ 8 % 2 ^ 11) (a / 2 ^ 19 % 2 ^ 11), a / 2 ^ 19 % 2 ^ 17 * 256 + a % 256)

/-- R145: the host-window address of a byte below offset 0x200_0000. -/
def toHostWindow (v off : Nat) : Nat :=
  siteOf v * 2 ^ 36 + off / 256 * 2 ^ 19 + Nat.xor (v % 2048) (off / 2 ^ 8 % 2 ^ 11) * 256 + off % 256

/-- R146: vault and offset of a vault-local address. -/
def vaultLocal (a : Nat) : Nat × Nat := (a / 2 ^ 26 % 131072, a % 2 ^ 26)

/-! Scrubs (R162). -/

/-- Every data word of a block passes the light code (R151). -/
def blockClean (v base : Nat) (s : State) : Bool :=
  (List.range 128).all fun j =>
    getMark v (base + 32 * j) s == .data && (wordClass v base j s == 1 || wordClass v base j s == 2 || wordClass v base j s == 3)

/-- R151: a scrub establishes a block all of whose words pass; their content as delivered is what the parity protects. -/
def establishIfClean (v base : Nat) (s : State) : State :=
  if base < counterBase ∧ !isEst v base s ∧ blockClean v base s then
    setEst v base true (freshParity v base
      ((List.range 128).foldl (fun u j => if wordClass v base j u = 3 then u else adoptWord v (base + 32 * j) u) s))
  else s

/-- Words patrol reads in one pass of a vault: data words, then four parity words a coded block (R162). -/
def patrolWords : Nat := 1572864 + 4 * 12032

/-- Passes that every vault of a site has completed, and the words read beyond them (R162). -/
def patrolSite (k : Nat) (s : State) : Nat × Nat :=
  let at_ (j : Nat) : Nat := tget noBad s.vaults.patrol (2048 * k + j)
  let ps := (List.range 2047).foldl (fun a j => min a (at_ (j + 1) / patrolWords)) (at_ 0 / patrolWords)
  (ps, ((List.range 2048).map fun j => min patrolWords (at_ j - ps * patrolWords)).sum)

/-- VSITE.SCRUB.BEHIND: fewer words of the pass are read than an even advance through the interval has made due (R162, R165; log 102). -/
def patrolBehind (k : Nat) (s : State) : Bool :=
  let due := (s.now - tget noBad s.vaults.patrolFrom k) * (2048 * patrolWords) / (max 1 (rd .vsiteScrubHours k s) * 3600 * 10 ^ 9)
  bit .vsiteScrubEn k s && decide ((patrolSite k s).2 < due)

/-- One word of the patrol scrub (R162). -/
def patrolWord (v k : Nat) (s : State) : State :=
  if 1572864 ≤ k then
    let p := k - 1572864
    parRead .patrol v (p / 4 * 4096) (p % 4) s
  else
    let off := 32 * k
    let s1 := (vreadAs .patrol v off srcScrub s).2
    if off % 4096 = 4064 then establishIfClean v (off / 4096 * 4096) s1 else s1

/-- A demand scrub of a block reads all 132 words of it (R162). -/
def demandScrub (v blk : Nat) (s : State) : State :=
  let base := 4096 * blk
  let s1 := (List.range 128).foldl (fun u j => (vreadAs .demand v (base + 32 * j) srcScrub u).2) (openBlock v base s)
  establishIfClean v base ((List.range 4).foldl (fun u p => parRead .demand v base p u) s1)

end Sys2Proof.Machine
end

