-- ==== Sys2Proof/Machine/Routes.lean ====
section
/-!
DEFINITION. Routes of the wafer network (R203, R213, R215): the route of a pair of sites, and the sites of ports (R204).
-/

namespace Sys2Proof.Machine

/-- The neighbour of a site over edge n: +x, +y, -x, -y (R217). -/
def neighbour (site n : Nat) : Nat :=
  match n with
  | 0 => site + 1
  | 1 => site + 8
  | 2 => site - 1
  | _ => site - 8

def edgeKey (site n : Nat) : Nat := 4 * site + n
/-- The same edge seen from its other end. -/
def otherEnd (e : Nat) : Nat := edgeKey (neighbour (e / 4) (e % 4)) ((e % 4 + 2) % 4)

/-- The cells from a to b, both included. -/
def span (a b : Nat) : List Nat :=
  if a ≤ b then (List.range (b - a + 1)).map (a + ·) else (List.range (a - b + 1)).map (a - ·)

/-- The sites of the x-first and of the y-first route (R203, R213). -/
def xFirst (a b : Nat) : List Nat :=
  ((span (a % 8) (b % 8)).map fun x => 8 * (a / 8) + x) ++ ((span (a / 8) (b / 8)).drop 1).map fun y => 8 * y + b % 8
def yFirst (a b : Nat) : List Nat :=
  ((span (a / 8) (b / 8)).map fun y => 8 * y + a % 8) ++ ((span (a % 8) (b % 8)).drop 1).map fun x => 8 * (b / 8) + x

/-- The edge from a site to the next one of a route. -/
def edgeTo (a b : Nat) : Nat :=
  edgeKey a (if b = a + 1 then 0 else if b = a + 8 then 1 else if b + 1 = a then 2 else 3)

def edgesOf : List Nat → List Nat
  | a :: b :: t => edgeTo a b :: edgesOf (b :: t)
  | _ => []

/-- Every router and edge of a route is in service. -/
def inService (out down : List Nat) (p : List Nat) : Bool :=
  p.all (fun x => !out.contains x) && (edgesOf p).all (fun e => !down.contains e)

/-- The route of an ordered pair in a route set (R213). -/
def routeIn (out down : List Nat) (a b : Nat) : Option (List Nat) :=
  if inService out down (xFirst a b) then some (xFirst a b)
  else if inService out down (yFirst a b) then some (yFirst a b)
  else
    ((List.range 64).find? fun m => inService out down (xFirst a m) && inService out down (yFirst m b)).map
      fun m => xFirst a m ++ (yFirst m b).drop 1

/-- The routers and edges out of service now: an edge is, in both directions, where either end reads DOWN; a router that has failed by
itself stays out though a site reset clears its NET block (R215, R217). -/
def outNow (s : State) : List Nat := (List.range 64).filter fun x => bit .netStatusOut x s || s.net.dead.contains x
def downNow (s : State) : List Nat := (List.range 256).filter fun e => rd .netEdgeState e s == 3 || rd .netEdgeState (otherEnd e) s == 3

/-- A packet of a pair moves: its loaded route exists and passes through nothing that has since gone (R212, R215). -/
def pathOpen (a b : Nat) (s : State) : Bool :=
  a == b ||
  match routeIn s.net.out s.net.down a b with
  | some p => inService (outNow s) (downNow s) p
  | none => false

/-- A packet of the pair is held at its source by a route change. -/
def pathHeld (a b : Nat) (s : State) : Bool :=
  a != b &&
  match routeIn s.net.out s.net.down a b with
  | some p => !inService (outNow s) (downNow s) p
  | none => false

/-- The pair is unreachable by the loaded routes. -/
def unreachable (a b : Nat) (s : State) : Bool := a != b && (routeIn s.net.out s.net.down a b).isNone

/-- The site a host or fabric port's packets enter by: the primary, or the alternate while that is out (R204, R213). -/
def portAt (primary alternate : Nat) (s : State) : Nat := if s.net.out.contains primary then alternate else primary

def hostPortSite (p : Nat) (s : State) : Nat :=
  match p with
  | 0 => portAt 3 2 s
  | 1 => portAt 4 5 s
  | 2 => portAt 59 58 s
  | _ => portAt 60 61 s

def fabricPortSite (n : Nat) (s : State) : Nat :=
  if n < 8 then portAt n (if n = 7 then 6 else n + 1) s
  else if n < 16 then portAt (8 * (n - 8) + 7) (if n = 15 then 55 else 8 * (n - 7) + 7) s
  else if n < 24 then portAt (56 + (23 - n)) (if n = 23 then 57 else 56 + (22 - n)) s
  else portAt (8 * (31 - n)) (if n = 31 then 8 else 8 * (30 - n)) s

/-- A packet that left its source before the route change under way began still drains in its first 20 us (R215). -/
def drains (sent : Bool) (s : State) : Bool := sent && s.net.phase == 1

end Sys2Proof.Machine
end

