-- ==== Sys2Proof/Machine/CoreOps.lean ====
section
/-!
DEFINITION. What every unit of a core shares: fields of an instruction word, traps (R111, R112), the barrier (R104), line
ranges (R77, R85), the numeric flags (R46) and the draws of the generator (R45).
-/

namespace Sys2Proof.Machine

/-- Bits [lo + n - 1 : lo] of a word. -/
def bits (w lo n : Nat) : Nat := w >>> lo % 2 ^ n

/-- The code of a core's state (R115). -/
def coreStCode : CoreSt → Nat
  | .idle => 0 | .running => 1 | .roundWait => 2 | .dmaWait => 3 | .semWait => 4 | .barrierWait => 5 | .halted => 6
  | .trapped => 7 | .stopped => 8

/-- The states in which GO is accepted (R114). -/
def goState : CoreSt → Bool
  | .idle | .halted | .trapped | .stopped => true
  | _ => false

/-- The core gets no CCLK edge, its cluster being dark or its site gated, or is held at its instruction boundary (R412, R436, R481). -/
def stalled (g : Nat) (s : State) : Bool :=
  (getCore g s).dark || bit .thclCtrlDark (clusterOf g) s || s.power.gated.contains (siteOf g)

/-- A line range: first line and number of lines. -/
abbrev Rng := Nat × Nat

def overlap (a b : Rng) : Bool := a.1 < b.1 + b.2 && b.1 < a.1 + a.2
def anyOverlap (xs ys : List Rng) : Bool := xs.any fun x => ys.any fun y => overlap x y

/-- The letter region of a core (R81). -/
def letterRng (g : Nat) (s : State) : Rng := (rd .coreLetterLbase g s, rd .coreLetterLlen g s)

/-- A core whose letter region is protected (R82). -/
def letterLive (g : Nat) (s : State) : Bool := !goState (getCore g s).st

/-- Participants of the barriers of district d: cores started by GO that are not HALTED, STOPPED or TRAPPED (R104). -/
def participant (g : Nat) (s : State) : Bool := !goState (getCore g s).st

/-- A packet of the barrier unit of a site that no route takes is discarded at its source: the step fails (R216). -/
def barrierLoss (d site : Nat) (s : State) : State := addDue (.stepFail d) (flag .netStatusUnreach site s)

/-- Barrier b of district d (R104, R200): a site all of whose participants have arrived sends its arrival to the home site. Once all
have come, and a route change holds none at its source, the release is under way to each participant. -/
def barrierCheck (d b : Nat) (s : State) : State :=
  let ps := (s.cores.cores.map (·.1)).filter fun g => coreDistrict g s == some d && participant g s
  let home := rd .distCfgHome d s
  let waits (g : Nat) : Bool := (getCore g s).arrived == some b && !(getCore g s).releasing
  let sites := (ps.map siteOf).dedup
  let lost := sites.filter fun k => unreachable k home s && (ps.filter fun g => siteOf g == k).all waits
  if lost ≠ [] then lost.foldl (fun u k => barrierLoss d k u) s
  else if ps = [] ∨ !ps.all waits ∨ sites.any (fun k => pathHeld k home s) = true then s
  else
    let s1 := ps.foldl (fun u g => if unreachable home (siteOf g) s then u
      else updCore g (fun c => { c with releasing := true, relSent := pathOpen home (siteOf g) s }) u) s
    if sites.any fun k => unreachable home k s then barrierLoss d home s1 else s1

def barrierChecks (g : Nat) (s : State) : State :=
  match coreDistrict g s with
  | none => s
  | some d => (List.range 4).foldl (fun u b => barrierCheck d b u) s

/-- The queues of a core after a trap or a stop: nothing waits, a drain that moved no row is discarded (R80, R112). -/
def dropQueues (c : Core) : Core := { c with mq := [], drain := none, vq := [], wait := none }

/-- A trap (R111, R112). -/
def trap (g cls cause pc next line ch word : Nat) (s : State) : State :=
  let s1 := wr .coreTrapClass g cls (wr .coreTrapCause g cause (wr .coreTrapPc g pc (wr .coreTrapNextPc g next
    (wr .coreTrapLine g line (wr .coreTrapCh g ch (wr .coreTrapInsnWord g word s))))))
  barrierChecks g (updCore g (fun c => { dropQueues c with st := .trapped, trapDue := true }) s1)

/-- Adds flags to CORE.NUMFLAGS (R46). -/
def setFlags (g : Nat) (f : NumFlags) (s : State) : State :=
  flagIf f.nv .coreNumflagsNv g (flagIf f.of .coreNumflagsOf g (flagIf f.trit .coreNumflagsTrit g
    (flagIf f.scaleNan .coreNumflagsScaleNan g s)))

/-- Held writes of the generator registers take effect (R45). -/
def applySr (g : Nat) (s : State) : State :=
  let c := getCore g s
  let s1 := c.srHeld.foldl (fun u p => wr (if p.1 then .coreSrSeed else .coreSrCtr) g p.2.toNat u) s
  setCore g { c with srHeld := [] } s1

/-- The draws an instruction may take, up to n of them, from the generator as it stands once held writes are in (R44, R45). -/
def drawsFor (g n : Nat) (s : State) : List Nat :=
  coreDraws g (rd .coreSrSeed g s) (rd .coreSrCtr g s) (ceilDiv n 8)

/-- The generator after an instruction has converted n elements: one evaluation for every eight draws begun (R45). -/
def countDraws (g n : Nat) (s : State) : State :=
  if n = 0 then s else wr .coreSrCtr g (rd .coreSrCtr g s + ceilDiv n 8) s

/-- n draws for one instruction: the draws, and the state after its evaluations (R44, R45). -/
def takeDraws (g n : Nat) (s0 : State) : List Nat × State :=
  if n = 0 then ([], s0) else (drawsFor g n (applySr g s0), countDraws g n (applySr g s0))

/-- The first of the lines that fails its check, with the trap cause: a wrong tag (3, 1), a poisoned line (4, 2) (R59, R79). The
lines are taken in the order given, and a line that fails both ways counts as mistagged: the model's order (log 99). -/
def badLine (g tag : Nat) (ls : List Nat) (s : State) : Option (Nat × Nat × Nat) :=
  ls.findSome? fun l =>
    if lineTag g l s ≠ tag then some (3, 1, l) else if linePoison g l s then some (4, 2, l) else none

end Sys2Proof.Machine
end

