-- ==== Sys2Proof/Machine/Array.lean ====
section
/-!
DEFINITION. The matrix array (chapter 03; encodings R87, R88): the issue checks, MLOAD, the streams, drains and clears, and
the running of the matrix instruction queue.
-/

namespace Sys2Proof.Machine

/-- The fields of MLOAD, MSTREAM and MACC that name the stationary operand (R87). -/
def mSfmt (w : Nat) : Nat := bits w 52 4
def mSsf (w : Nat) : Nat := bits w 48 4
def mSse (w : Nat) : Bool := bits w 47 1 == 1
def mTfmt (w : Nat) : Nat := bits w 43 4
def mTsf (w : Nat) : Nat := bits w 39 4
def mTse (w : Nat) : Bool := bits w 38 1 == 1
def mOp (w : Nat) : Nat := bits w 56 8
/-- K of MLOAD (13 bits) and of the streams (split). -/
def mK (w : Nat) : Nat := if mOp w = 0x40 then bits w 34 13 else bits w 34 4 * 512 + bits w 25 9
def mSbase (w : Nat) : Nat := bits w 21 13
def mBase (w : Nat) : Nat := bits w 8 13
def mWcc (w : Nat) : Nat := bits w 23 2
def mBank (w : Nat) : Nat := if mOp w = 0x41 ∨ mOp w = 0x42 then bits w 21 2 else bits w 54 2
def mCvt (w : Nat) : Bool := bits w 53 1 == 1
def mClr (w : Nat) : Bool := bits w 52 1 == 1
def mRnd (w : Nat) : Nat := bits w 50 2
def mSat (w : Nat) : Bool := bits w 49 1 == 1
def mUtag (w : Nat) : Nat := bits w 41 8

/-- Columns of a width class code (R88). -/
def wcOf (wcc : Nat) : Nat := 29 + wcc

/-- Row capacity (R50). -/
def rowCap : Fmt → Nat
  | .fp32 => 256 | .bf16 => 512 | .fp16 => 512 | .e5m2 => 1024 | .e4m3 => 1024 | .int8 => 1024
  | .e3m2 => 1365 | .e2m3 => 1365 | .e2m1 => 2048 | .int4 => 2048 | .t158 => 4096

def wideFmt : Fmt → Bool
  | .fp32 | .bf16 | .fp16 => true
  | _ => false

/-- Narrower than 8 bits (R40). -/
def narrowFmt : Fmt → Bool
  | .e3m2 | .e2m3 | .e2m1 | .int4 | .t158 => true
  | _ => false

/-- R40. -/
def pairOk (a b : Fmt) : Bool := if wideFmt a || wideFmt b then a == b else true

def intFmt (f : Fmt) : Bool := f == .int8 || f == .int4

/-- The accumulator type of R41. -/
def accType (a b : Fmt) (scaled : Bool) : AccTy := if intFmt a && intFmt b && !scaled then .int32 else .fp32

/-- Reduction elements a step (R48). -/
def gOf (a b : Fmt) : Nat := if narrowFmt a && narrowFmt b then 2 else 1

/-- A format with its scale field: scale code and enable (R37, R86). -/
def scaleCause (f : Fmt) (sf : Nat) (se : Bool) : Nat :=
  if se then (if (sfmtOfCode sf).isNone || wideFmt f then 2 else 0) else if f == .t158 || f == .e2m1 then 2 else 0

/-- The scale format in force. -/
def scaleOf (sf : Nat) (se : Bool) : Option SFmt := if se then sfmtOfCode sf else none

/-- Lines of one stationary row, of one row's scales (R50, R51). -/
def rowLines (f : Fmt) (k : Nat) : Nat := ceilDiv (regionBytes f k) 32
def scaleLines (sf : Option SFmt) (k : Nat) : Nat :=
  match sf with
  | none => 0
  | some x => ceilDiv (ceilDiv k (sfmtBlock x)) 32

/-- Wavefronts and lines of a streaming region (R54, R88). -/
def waveCount (k g wc : Nat) : Nat := ceilDiv k g + wc - 1
def streamLines (f : Fmt) (k g wc : Nat) : Nat := ceilDiv (regionBytes f (waveCount k g wc * wc * g)) 32
def streamScaleLines (sf : Option SFmt) (k : Nat) : Nat :=
  match sf with
  | none => 0
  | some x => ceilDiv k (sfmtBlock x)

/-- The first of a list of causes that is not 0. -/
def firstCause (xs : List Nat) : Option Nat := xs.find? (· ≠ 0)

/-- The region-bound trap of the first region that runs past line 8,191; the line recorded is where that region starts
(R79, R111; log 69). -/
def regionTrap (rs : List (Nat × Nat)) : Option (Nat × Nat × Nat) :=
  (rs.find? fun r => decide (8192 < r.1 + r.2)).map fun r => (2, 1, min r.1 8191)

/-- Trap class, cause and line of a matrix instruction at issue (R79, R86, R88, R111); the order among causes is this
model's (log 13). -/
def mCheck (g w : Nat) (s : State) : Option (Nat × Nat × Nat) :=
  let illegal (xs : List Nat) (rest : Option (Nat × Nat × Nat)) : Option (Nat × Nat × Nat) :=
    match firstCause xs with
    | some c => some (1, c, 0)
    | none => rest
  match mOp w with
  | 0x40 =>
    illegal [if bits w 0 8 ≠ 0 then 1 else 0, if !mSse w && (mSsf w ≠ 0 || mBase w ≠ 0) then 1 else 0]
      (match fmtOfCode (mSfmt w) with
        | none => some (1, 2, 0)
        | some f =>
          illegal [scaleCause f (mSsf w) (mSse w), if mK w = 0 ∨ rowCap f < mK w then 4 else 0]
            (regionTrap [(mSbase w, 16 * rowLines f (mK w)), (mBase w, 16 * scaleLines (scaleOf (mSsf w) (mSse w)) (mK w))]))
  | 0x43 =>
    illegal [if bits w 0 41 ≠ 0 then 1 else 0, if mRnd w = 3 then 1 else 0,
      if !mCvt w && (mRnd w ≠ 0 || mSat w) then 1 else 0] none
  | 0x44 => illegal [if bits w 0 54 ≠ 0 then 1 else 0] none
  | _ =>
    illegal [if bits w 0 8 ≠ 0 then 1 else 0, if (!mSse w && mSsf w ≠ 0) || (!mTse w && mTsf w ≠ 0) then 1 else 0]
      (match fmtOfCode (mSfmt w), fmtOfCode (mTfmt w) with
        | some a, some b =>
          let n := streamLines b (mK w) (gOf a b) (wcOf (mWcc w))
          illegal [scaleCause a (mSsf w) (mSse w), scaleCause b (mTsf w) (mTse w), if pairOk a b then 0 else 3,
              if mK w = 0 ∨ rowCap a < mK w then 4 else 0, if mWcc w = 0 then 5 else 0]
            (match regionTrap [(mBase w, n), (mBase w + n, streamScaleLines (scaleOf (mTsf w) (mTse w)) (mK w))] with
             | some r => some r
             | none => if rd .coreArrayIdWidth g s < wcOf (mWcc w) then some (6, 1, 0) else none)
        | _, _ => some (1, 2, 0))

/-- The line ranges a matrix instruction reads (R77). -/
def mReads (w : Nat) : List Rng :=
  match mOp w, fmtOfCode (mSfmt w) with
  | 0x40, some f =>
    [(mSbase w, 16 * rowLines f (mK w)), (mBase w, 16 * scaleLines (scaleOf (mSsf w) (mSse w)) (mK w))]
  | 0x41, some a | 0x42, some a =>
    match fmtOfCode (mTfmt w) with
    | some b => [(mBase w, streamLines b (mK w) (gOf a b) (wcOf (mWcc w)) + streamScaleLines (scaleOf (mTsf w) (mTse w)) (mK w))]
    | none => []
  | _, _ => []

/-- A region of scratchpad lines as one little-endian number. -/
def regionNat (g line n : Nat) (s : State) : Nat := leNat (spRead g (32 * line) (32 * n) s)

def getBank (b : Nat) (c : Core) : Bank := c.banks.getD b {}
def setBank (b : Nat) (k : Bank) (c : Core) : Core := { c with banks := c.banks.set b k }

/-! MLOAD (R50 to R53, R59). -/

/-- The first row that cannot be read, with its failing line: a row's element lines before its scale lines (log 99). -/
def mloadBad (g w rl sl : Nat) (s : State) : Option (Nat × Nat × Nat × Nat) :=
  (List.range 16).findSome? fun n =>
    (badLine g 0 ((List.range rl).map (· + (mSbase w + n * rl)) ++ (List.range sl).map (· + (mBase w + n * sl))) s).map
      fun r => (n, r)

def anyInvalidT158 (f : Fmt) (reg n : Nat) : Bool :=
  f == .t158 && (List.range (ceilDiv n 5)).any fun j => decide (243 ≤ reg >>> (8 * j) % 256)

/-- MLOAD (R50 to R53, R59). Where a line of a row is mistagged or poisoned, invalid T158 bytes of the rows before it set TRIT, not those of
the row itself; streams and their chunks likewise (R33; log 125). -/
def runMload (g : Nat) (q : Queued) (s : State) : State :=
  match fmtOfCode (mSfmt q.word) with
  | none => s
  | some f =>
    let k := mK q.word
    let sf := scaleOf (mSsf q.word) (mSse q.word)
    let rl := rowLines f k
    let sl := scaleLines sf k
    let rows := (List.range 16).map fun n => regionNat g (mSbase q.word + n * rl) rl s
    match mloadBad g q.word rl sl s with
    | some (n, cls, cause, line) =>
      trap g cls cause q.pc (getCore g s).pc line 0 q.word
        (setFlags g { trit := (rows.take n).any fun r => anyInvalidT158 f r k } (updCore g (fun c => { c with stat := none }) s))
    | none =>
      let scs := (List.range 16).map fun n => regionNat g (mBase q.word + n * sl) sl s
      setFlags g { trit := rows.any fun r => anyInvalidT158 f r k }
        (updCore g (fun c => { c with stat := some ⟨f, sf, k, rows, scs⟩ }) s)

/-! Streams (R47, R54 to R56, R63, R64, R79). -/

/-- The layout tag of a stream region (R57). -/
def eszOf : Fmt → Nat
  | .fp32 => 0 | .bf16 => 1 | .fp16 => 1 | .e5m2 => 2 | .e4m3 => 2 | .int8 => 2 | .e3m2 => 3 | .e2m3 => 3
  | .e2m1 => 4 | .int4 => 4 | .t158 => 5
def streamTag (f : Fmt) (g wcc : Nat) : Nat := wcc + 4 * (g - 1) + 8 * eszOf f

/-- Byte range, by first and last byte, of elements a to b - 1 of a region. -/
def elemByte (f : Fmt) (i : Nat) : Nat := if f == .t158 then i / 5 else i * fmtBits f / 8
def elemEndByte (f : Fmt) (i : Nat) : Nat := if f == .t158 then ceilDiv i 5 else ceilDiv (i * fmtBits f) 8

def streamArgs (w : Nat) : Option StreamArgs :=
  match fmtOfCode (mSfmt w), fmtOfCode (mTfmt w) with
  | some a, some b =>
    some ⟨a, b, scaleOf (mSsf w) (mSse w), scaleOf (mTsf w) (mTse w), mK w, gOf a b, mWcc w, mBase w, mBank w⟩
  | _, _ => none

def saWc (x : StreamArgs) : Nat := wcOf x.wcc

/-- The block of a pair's accumulation: 1 where neither operand is scaled (R41). -/
def saBlock (x : StreamArgs) : Nat :=
  match x.sa, x.sb with
  | none, none => 1
  | some p, none => sfmtBlock p
  | none, some p => sfmtBlock p
  | some p, some q => min (sfmtBlock p) (sfmtBlock q)

/-- The block sum's factor: the product of the scales of block n of row i and column j (R41, R51, R56). -/
def scaleByte (reg blk bs : Nat) (x : SFmt) (perBlock : Nat) (col : Nat) : Nat :=
  reg >>> (8 * (perBlock * (blk * bs / sfmtBlock x) + col)) % 256

def stepScale (x : StreamArgs) (scs : List Nat) (tsc : Nat) (i j blk : Nat) : Val × Bool :=
  let one : Val := .fin false 1 0
  let va := match x.sa with
    | none => one
    | some p => decodeScale p (scaleByte (scs.getD i 0) blk (saBlock x) p 1 0)
  let vb := match x.sb with
    | none => one
    | some p => decodeScale p (scaleByte tsc blk (saBlock x) p 32 j)
  (vmul va vb, isNan va || isNan vb)

/-- Formats whose products with each other are integers, summed as an INT32 partial (R41): their zero has no sign. -/
def wholeFmt (f : Fmt) : Bool := intFmt f || f == .t158

/-- One product and whether it made a NaN: stationary element k of row i with the streamed element k of column j (R41, R46,
R49, R54). -/
def streamProduct (x : StreamArgs) (rows : List Nat) (reg i j k : Nat) : Val × Bool :=
  let n := (k / x.g + j) * saWc x * x.g + j * x.g + k % x.g
  let va := decodeElem x.a (elemBits x.a (rows.getD i 0) k).1
  let vb := decodeElem x.b (elemBits x.b reg n).1
  let p := vmul va vb
  (if wholeFmt x.a && wholeFmt x.b && isZero p then .fin false 0 0 else p, madeNan p [va, vb])

/-- The exact sum of a block's products; of negative zeros alone, which a float pair can form, it is -0 (R30, R41). -/
def sumVals : List Val → Val
  | [] => .fin false 0 0
  | v :: vs => vs.foldl vadd v

/-- Adds a value to an FP32 accumulator with one rounding (R41); `made` says that forming the value made a NaN. -/
def accAdd (a : Acc) (v : Val) (made : Bool) : Acc :=
  let old := fp32Val a.w
  let r := vadd old v
  { a with w := fp32Bits r, fl := orFlags a.fl { nv := made || madeNan r [old, v] } }

/-- Adds an integer product to an INT32 accumulator (R64). -/
def accInt (a : Acc) (v : Val) : Acc :=
  if a.stuck then a
  else
    match v with
    | .fin n m e =>
      let i := a.w.toInt + sig n (m * 2 ^ e.toNat)
      if i < -(2 ^ 31 : Int) then { a with w := 0x80000000, stuck := true }
      else if (2 ^ 31 : Int) - 1 < i then { a with w := 0x7FFFFFFF, stuck := true }
      else { a with w := BitVec.ofInt 32 i }
    | _ => a

/-- The accumulator of cell (i, j) after the reduction elements below lim have arrived: whole blocks of a scaled pair,
every product of an unscaled one (R41, R79). An INT32 accumulator takes its limit after each product, not once a step (R64; log 125). -/
def cellRun (x : StreamArgs) (st : Stationary) (reg tsc i j lim : Nat) (a : Acc) : Acc :=
  if accType x.a x.b (x.sa.isSome || x.sb.isSome) == .int32 then
    (List.range lim).foldl (fun c k => accInt c (streamProduct x st.rows reg i j k).1) a
  else if saBlock x = 1 then
    (List.range lim).foldl (fun c k => let p := streamProduct x st.rows reg i j k; accAdd c p.1 p.2) a
  else
    let b := saBlock x
    (List.range (ceilDiv x.k b)).foldl
      (fun c n =>
        if min x.k ((n + 1) * b) ≤ lim then
          let ps := (List.range (min x.k ((n + 1) * b) - n * b)).map fun u => streamProduct x st.rows reg i j (n * b + u)
          let sum := sumVals (ps.map (·.1))
          let sc := stepScale x st.scales tsc i j n
          let v := vmul sum sc.1
          let c1 := accAdd c v (ps.any (·.2) || madeNan sum (ps.map (·.1)) || madeNan v [sum, sc.1])
          { c1 with fl := orFlags c1.fl { scaleNan := sc.2 } }
        else c) a

/-- The accumulator type of a stream as a bank state. -/
def accBank : AccTy → BankSt
  | .fp32 => .fp32
  | .int32 => .int32

/-- The lines read with wavefront f: its elements, and the scale lines of the blocks column 0 reaches (R54, R56, R59). -/
def waveBad (g : Nat) (x : StreamArgs) (f : Nat) (s : State) : Option (Nat × Nat × Nat) :=
  let n := saWc x * x.g
  let b0 := elemByte x.b (f * n) / 32
  let b1 := ceilDiv (elemEndByte x.b ((f + 1) * n)) 32
  match badLine g (streamTag x.b x.g x.wcc) ((List.range (b1 - b0)).map (· + (x.base + b0))) s with
  | some r => some r
  | none =>
    match x.sb with
    | none => none
    | some p =>
      let ts := x.base + streamLines x.b x.k x.g (saWc x)
      badLine g 0 (((List.range (ceilDiv x.k (sfmtBlock p))).filter fun b => b * sfmtBlock p / x.g == f).map (· + ts)) s

/-- The first wavefront that cannot be read. -/
def firstBadWave (g : Nat) (x : StreamArgs) (s : State) : Option (Nat × Nat × Nat × Nat) :=
  (List.range (waveCount x.k x.g (saWc x))).findSome? fun f => (waveBad g x f s).map fun r => (f, r)

/-- Why a stream cannot start at dispatch (R63, R79): the operand-layout cause. -/
def streamConflict (q : Queued) (x : StreamArgs) (c : Core) : Option Nat :=
  match c.stat with
  | none => some 2
  | some st =>
    if st.fmt ≠ x.a ∨ st.scale ≠ x.sa ∨ st.k ≠ x.k then some 3
    else
      let b := getBank x.bank c
      let ty := accBank (accType x.a x.b (x.sa.isSome || x.sb.isSome))
      if mOp q.word = 0x42 ∧ b.st ≠ .empty ∧ (b.st ≠ ty ∨ b.wcb ≠ x.wcc) then some 4 else none

/-- The bank after a stream of which the wavefronts below f arrived, its flags, and whether this stream saturated an INT32
accumulator (R64). The bank takes the instruction's WC, after a trap within the stream too: R63 says both that MSTREAM sets WCB
and that a trap leaves it, and the partial sums are sums of 16 × WC cells (log 99). -/
def streamBank (x : StreamArgs) (st : Stationary) (reg tsc f : Nat) (fromZero : Bool) (b : Bank) : Bank × NumFlags × Bool :=
  let ty := accType x.a x.b (x.sa.isSome || x.sb.isSome)
  let zero := fromZero || b.st == .empty
  let cells := (List.range 16).flatMap fun i => (List.range (saWc x)).map fun j =>
    let n := i * saWc x + j
    cellRun x st reg tsc i j (min x.k (x.g * (f - j)))
      ⟨if zero then 0 else b.vals.getD n 0, !zero && b.stuck.contains n, {}⟩
  let stuck := (cells.zipIdx.filter fun p => p.1.stuck).map (·.2)
  ({ st := accBank ty, wcb := x.wcc, last := ty, vals := cells.map (·.w), stuck := stuck,
     sat := (!zero && b.sat) || !stuck.isEmpty,
     nv := (!zero && b.nv) || (ty == .fp32 && cells.any fun c => isNan (fp32Val c.w)) },
   cells.foldl (fun fl c => orFlags fl c.fl) {}, stuck.any fun n => zero || !b.stuck.contains n)

/-- MSTREAM and MACC once they leave the matrix queue (R63, R79). A dispatch trap concerns no scratchpad line of its own: the
line recorded is TBASE (log 99). -/
def runStream (g : Nat) (q : Queued) (s : State) : State :=
  match streamArgs q.word with
  | none => s
  | some x =>
    let c := getCore g s
    match streamConflict q x c, c.stat with
    | some cause, _ => trap g 3 cause q.pc c.pc x.base 0 q.word s
    | none, none => s
    | none, some st =>
      let n := streamLines x.b x.k x.g (saWc x)
      let reg := regionNat g x.base n s
      let tsc := regionNat g (x.base + n) (streamScaleLines x.sb x.k) s
      let bad := firstBadWave g x s
      let f := match bad with
        | some r => r.1
        | none => waveCount x.k x.g (saWc x)
      let r := streamBank x st reg tsc f (mOp q.word == 0x41) (getBank x.bank c)
      let bank := if bad.isSome then { r.1 with st := .invalid } else r.1
      let s1 := flagIf r.2.2 .coreArrayStatusSatSeen g
        (setFlags g { r.2.1 with trit := anyInvalidT158 x.b reg (f * saWc x * x.g) } (updCore g (setBank x.bank bank) s))
      match bad with
      | none => s1
      | some (_, cls, cause, line) => trap g cls cause q.pc c.pc line 0 q.word s1

/-! Drains and clears (R65 to R69). -/

/-- One drained value (R66). -/
def drainValue (cvt : Bool) (ty : AccTy) (r : Rnd) (u : Nat) (w : BitVec 32) : BitVec 32 × NumFlags :=
  if !cvt then (w, {})
  else
    match ty with
    | .fp32 => convertInt32 r u (fp32Val w)
    | .int32 => let c := convert .fp32 r false u (int32Val w); (BitVec.ofNat 32 c.1, c.2)

def rndOf : Nat → Rnd
  | 1 => .zero
  | 2 => .stochastic
  | _ => .nearest

/-- The bank a drain leaves (R66). -/
def drainedBank (clr : Bool) (b : Bank) : Bank :=
  if clr then { b with st := .empty, sat := false, nv := false, stuck := [] } else b

/-- MDRAIN with a free tile entry (R66, R67). -/
def runDrain (g : Nat) (q : Queued) (s : State) : State :=
  let c := getCore g s
  let b := getBank (mBank q.word) c
  let n := 16 * wcOf b.wcb
  let src := if b.st == .empty then List.replicate n 0 else b.vals
  let dr := takeDraws g (if mCvt q.word && mRnd q.word == 2 then n else 0) s
  let outs := src.zipIdx.map fun p => drainValue (mCvt q.word) b.last (rndOf (mRnd q.word)) (dr.1.getD p.2 0) p.1
  let int := (b.last == .int32) != mCvt q.word
  let tile : Tile :=
    ⟨int, b.wcb, mBank q.word, b.sat, b.st == .invalid, b.nv, mUtag q.word, outs.map (·.1)⟩
  setFlags g (outs.foldl (fun f o => orFlags f o.2) {})
    (updCore g
      (fun c => setBank (mBank q.word) (drainedBank (mClr q.word) b) { c with drain := none, tiles := c.tiles ++ [tile] })
      dr.2)

/-- A drain that draws (R66). -/
def mDraws (q : Queued) : Bool := mOp q.word == 0x43 && mCvt q.word && mRnd q.word == 2

def runMclear (g : Nat) (q : Queued) (s : State) : State :=
  updCore g (fun c => setBank (mBank q.word) (drainedBank true (getBank (mBank q.word) c)) c) s

/-- An older vector instruction in the queue keeps a matrix instruction waiting: one that still has to write a line it reads, or
one that draws where it draws itself (R45, R77). -/
def mWaits (vWrites : Queued → List Rng) (vDraws : Queued → Bool) (q : Queued) (c : Core) : Bool :=
  c.vq.any fun v => decide (v.seq < q.seq) && (anyOverlap (vWrites v) (mReads q.word) || (mDraws q && vDraws v))

/-- Whether a drain cannot begin: no free entry, or an older drawing instruction has not finished (R45, R66). -/
def drainWaits (vWrites : Queued → List Rng) (vDraws : Queued → Bool) (q : Queued) (c : Core) : Bool :=
  8 ≤ c.tiles.length || mWaits vWrites vDraws q c

/-- The head of the matrix queue moves past a drain that waits for an older drawing instruction only: the array stalls for a free tile
entry alone, and a stream into a bank never waits for a drain of another (R69, R75). -/
def passesDrain (vWrites : Queued → List Rng) (vDraws : Queued → Bool) (d q : Queued) (c : Core) : Bool :=
  decide (c.tiles.length < 8) && !mWaits vWrites vDraws q c &&
    (mOp q.word == 0x40 || ((mOp q.word == 0x41 || mOp q.word == 0x42) && mBank q.word != mBank d.word))

/-- One move of the matrix queue: the waiting drain once it can begin, else the head (R69, R75, R76). None: no move. -/
def moveMatrix (vWrites : Queued → List Rng) (vDraws : Queued → Bool) (g : Nat) (s : State) : Option State :=
  let c := getCore g s
  match c.drain with
  | some d =>
    if drainWaits vWrites vDraws d c then
      match c.mq with
      | [] => none
      | q :: rest =>
        if passesDrain vWrites vDraws d q c then
          let s1 := setCore g { c with mq := rest } s
          some (if mOp q.word = 0x40 then runMload g q s1 else runStream g q s1)
        else none
    else some (runDrain g d s)
  | none =>
    match c.mq with
    | [] => none
    | q :: rest =>
      let s1 := setCore g { c with mq := rest } s
      if mOp q.word = 0x43 then
        if drainWaits vWrites vDraws q c then some (updCore g (fun c => { c with drain := some q }) s1) else some (runDrain g q s1)
      else if mWaits vWrites vDraws q c then none
      else
        match mOp q.word with
        | 0x40 => some (runMload g q s1)
        | 0x41 | 0x42 => some (runStream g q s1)
        | _ => some (runMclear g q s1)

end Sys2Proof.Machine
end

