-- ==== Sys2Proof/Machine/Special.lean ====
section
/-!
DEFINITION. The special functions of R126: the exact and special results the rule lists, and elsewhere an unconstrained FP32
value within the bound of the rule around the exact result, which is computed to over 50 bits beyond FP32 (log 4).
-/

namespace Sys2Proof.Machine

/-- ln 2 in units of 2^-128. -/
def ln2Fix : Nat := 235865763225513294137944142764154484399

/-- The sum 1 + r/1 (1 + r/2 (1 + ...)) to n terms in units of 2^-128, for r in the same units. -/
def expSeries (r : Nat) : Nat → Nat → Nat
  | 0, _ => 2 ^ 128
  | n + 1, i => 2 ^ 128 + (r * expSeries r n (i + 1) / (2 ^ 128 * i))

/-- e^x for x in units of 2^-128, as a dyadic number. -/
def expFix (x : Int) : Val :=
  let k := x / (ln2Fix : Int)
  .fin false (expSeries (x - k * ln2Fix).toNat 36 1) (k - 128)

/-- A finite value in units of 2^-128. -/
def toFix (neg : Bool) (m : Nat) (e : Int) : Int :=
  if 0 ≤ e + 128 then sig neg (m * 2 ^ (e + 128).toNat) else sig neg (m / 2 ^ (-(e + 128)).toNat)

/-- |v| is at least 2^7. -/
def isBig (m : Nat) (e : Int) : Bool := !ltMag m e 1 7

def refExp : Val → Val
  | .nan => .nan
  | .inf n => if n then .fin false 0 0 else .inf false
  | .fin n m e =>
    if isBig m e then (if n then .fin false 1 (-400) else .inf false) else expFix (toFix n m e)

/-- The odd series z + z^3/3 + z^5/5 + ... in units of 2^-128; z2 is z squared. -/
def atanhSeries (z2 : Nat) : Nat → Nat → Nat → Nat
  | 0, _, _ => 0
  | n + 1, p, i => p / i + atanhSeries z2 n (p * z2 / 2 ^ 128) (i + 2)

/-- ln of a positive finite value in units of 2^-128. -/
def lnFix (m : Nat) (e : Int) : Int :=
  let l := Nat.log2 m
  let f := m * 2 ^ 128 / 2 ^ l
  let z := (f - 2 ^ 128) * 2 ^ 128 / (f + 2 ^ 128)
  ((l : Int) + e) * ln2Fix + 2 * atanhSeries (z * z / 2 ^ 128) 44 z 1

/-- The integer square root by its bits, from bit n - 1 down. -/
def isqrtBits (x : Nat) : Nat → Nat → Nat
  | 0, r => r
  | n + 1, r => isqrtBits x n (if (r + 2 ^ n) * (r + 2 ^ n) ≤ x then r + 2 ^ n else r)

def refRsq (m : Nat) (e : Int) : Val :=
  let m' := if e % 2 == 0 then m else 2 * m
  let e' := if e % 2 == 0 then e else e - 1
  .fin false (isqrtBits (2 ^ 400 / m') 201 0) (-200 - e' / 2)

def refTanh (n : Bool) (m : Nat) (e : Int) : Val :=
  if isBig m e then .fin n 1 0
  else if ltMag m e 1 (-13) then
    let a2 := vmul (.fin false m e) (.fin false m e)
    vmul (.fin n m e) (vadd (.fin false 1 0) (vneg (quot a2 (.fin false 3 0))))
  else
    let y := expFix (toFix false m (e + 1))
    let t := quot (vadd y (.fin true 1 0)) (vadd y (.fin false 1 0))
    if n then vneg t else t

def refSigm (v : Val) : Val :=
  let y := refExp v
  match y with
  | .inf _ => .fin false 1 0
  | y => quot y (vadd y (.fin false 1 0))

/-- Whether FP32 bits hold a finite value less than n units of 2^q from a reference; 2^-30 of a unit is kept back for the error of
the reference. -/
def nearRef (w : BitVec 32) (ref : Val) (n : Nat) (q : Int) : Bool :=
  match vadd (fp32Val w) (vneg ref) with
  | .fin _ m e => ltMag m e (n * 2 ^ 30 - 1) (q - 30)
  | _ => false

/-- Whether FP32 bits lie within so many units in the last place of an exact result; within one in the subnormal range (R126). -/
def withinUlp (ulp : Nat) (ref : Val) (w : BitVec 32) : Bool :=
  match ref with
  | .fin _ m e => nearRef w ref (if ltMag m e 1 (-126) then 1 else ulp) (ulpExp 23 127 m e)
  | _ => false

/-- The result of a unit whose bound is given: the free value where it meets the bound, else the exact result rounded, which
meets every bound of R126 (log 4). An exact result that overflows gives infinity. -/
def openResult (fn : Nat) (a : BitVec 32) (ref : Val) (ok : BitVec 32 → Bool) : BitVec 32 :=
  let r := fp32Bits ref
  if r.toNat % 2 ^ 31 < 0x7F800000 && ok (Config.special fn a) then Config.special fn a else r

/-- A result open within a bound in units in the last place (R126). -/
def openUlp (fn ulp : Nat) (a : BitVec 32) (ref : Val) : BitVec 32 := openResult fn a ref (withinUlp ulp ref)

def infBits (neg : Bool) : BitVec 32 := if neg then 0xFF800000 else 0x7F800000
def nanBits : BitVec 32 := 0x7FC00000

/-- VEXP (R126). -/
def spExp (a : BitVec 32) : BitVec 32 :=
  match fp32Val a with
  | .nan => nanBits
  | .inf n => if n then 0 else infBits false
  | .fin n m e => if m == 0 then 0x3F800000 else openUlp 0 2 a (refExp (.fin n m e))

/-- VLOG (R126): from 0.5 to 2 the bound is the absolute one, 2^-22, which the 2 ulp of such small results do not reach. -/
def spLog (a : BitVec 32) : BitVec 32 :=
  match fp32Val a with
  | .nan => nanBits
  | .inf n => if n then nanBits else infBits false
  | .fin n m e =>
    if m == 0 then infBits true
    else if n then nanBits
    else if a == 0x3F800000 then 0
    else
      let x := lnFix m e
      let ref : Val := .fin (x < 0) x.natAbs (-128)
      if 0x3F000000 ≤ a.toNat && a.toNat ≤ 0x40000000 then openResult 1 a ref fun w => nearRef w ref 1 (-22)
      else openUlp 1 2 a ref

/-- VRCP (R126): magnitudes below 2^-128 give infinity. -/
def spRcp (a : BitVec 32) : BitVec 32 :=
  match fp32Val a with
  | .nan => nanBits
  | .inf n => if n then 0x80000000 else 0
  | .fin n m e =>
    if m == 0 || ltMag m e 1 (-128) then infBits n
    else openUlp 2 1 a (quot (.fin false 1 0) (.fin n m e))

/-- VRSQ (R126). -/
def spRsq (a : BitVec 32) : BitVec 32 :=
  match fp32Val a with
  | .nan => nanBits
  | .inf n => if n then nanBits else 0
  | .fin n m e =>
    if m == 0 then infBits n else if n then nanBits else openUlp 3 1 a (refRsq m e)

/-- VTANH (R126). -/
def spTanh (a : BitVec 32) : BitVec 32 :=
  match fp32Val a with
  | .nan => nanBits
  | .inf n => if n then 0xBF800000 else 0x3F800000
  | .fin n m e => if m == 0 then a else openUlp 4 3 a (refTanh n m e)

/-- VSIGM (R126). -/
def spSigm (a : BitVec 32) : BitVec 32 :=
  match fp32Val a with
  | .nan => nanBits
  | .inf n => if n then 0 else 0x3F800000
  | .fin n m e => if m == 0 then 0x3F000000 else openUlp 5 3 a (refSigm (.fin n m e))

/-- Whether a special function makes a NaN from an operand that is none (R30, R46). -/
def spInvalid (log : Bool) (rsq : Bool) (a : BitVec 32) : Bool :=
  match fp32Val a with
  | .nan => false
  | .inf n => n && (log || rsq)
  | .fin n m _ => n && m != 0 && (log || rsq)

end Sys2Proof.Machine
end

