-- ==== Sys2Proof/Machine/Vector.lean ====
section
/-!
DEFINITION. The vector engine (chapter 05; encodings R89 to R92): the issue checks, the line ranges, the arithmetic of
every operation, and the running of the vector instruction queue.
-/

namespace Sys2Proof.Machine

def vOp (w : Nat) : Nat := bits w 56 8
def vCount (w : Nat) : Nat := bits w 41 15
def vDst (w : Nat) : Nat := bits w 28 13
def vSa (w : Nat) : Nat := bits w 15 13
def vSb (w : Nat) : Nat := bits w 2 13
def vQa (w : Nat) : Bool := bits w 1 1 == 1
def vPop (w : Nat) : Bool := bits w 0 1 == 1

/-- The configuration a VCFG word sets (R89, R90). -/
def vcfgOf (w : Nat) : VecCfg :=
  { fa := bits w 52 4, fb := bits w 48 4, fd := bits w 44 4, sf := bits w 40 4, rnd := bits w 38 2,
    sat := bits w 37 1 == 1, sea := bits w 36 1 == 1, sed := bits w 35 1 == 1,
    sabase := bits w 13 13, sdbase := bits w 0 13 }

/-! Classes of opcodes (R92, R116). -/

/-- Reads COUNT elements of source B. -/
def vReadsB (op : Nat) : Bool := 0x81 ≤ op && op ≤ 0x86
/-- Reads element 0 of line SB. -/
def vReadsB0 (op : Nat) : Bool := op == 0x88 || op == 0x89
def vIsReduce (op : Nat) : Bool := 0xA0 ≤ op && op ≤ 0xA3
def vIsSpecial (op : Nat) : Bool := 0x90 ≤ op && op ≤ 0x95
/-- Has a state line at SB. -/
def vHasState (op : Nat) : Bool := op == 0xA8 || op == 0xA9
/-- Uses the SB field. -/
def vUsesSb (op : Nat) : Bool := vReadsB op || vReadsB0 op || vHasState op || op == 0x8A || op == 0xB0 || op == 0xB2
/-- Writes one element. -/
def vOneElem (op : Nat) : Bool := vIsReduce op || op == 0xA8

def fmtOr (c : Nat) : Fmt := (fmtOfCode c).getD .fp32

def cfgBlock (c : VecCfg) : Nat := match sfmtOfCode c.sf with | some x => sfmtBlock x | none => 32

/-- Lines of n elements. -/
def elemLines (f : Fmt) (n : Nat) : Nat := ceilDiv (regionBytes f n) 32

/-- The ranges source data is read from: elements, scales, source B, old destination, auxiliary lines (R116). -/
def vReads (w : Nat) (c : VecCfg) : List Rng :=
  let n := vCount w
  let op := vOp w
  (if vQa w then [] else [(vSa w, elemLines (fmtOr c.fa) n)]) ++
  (if c.sea then [(c.sabase, ceilDiv (ceilDiv n (cfgBlock c)) 32)] else []) ++
  (if vReadsB op then [(vSb w, elemLines (fmtOr c.fb) n)] else []) ++
  (if vReadsB0 op then [(vSb w, 1)] else []) ++
  (if op == 0x84 then [(vDst w, elemLines (fmtOr c.fd) n)] else []) ++
  (if op == 0xB0 then [(vSb w, ceilDiv n 8)] else []) ++
  (if vHasState op || op == 0xB2 then [(vSb w, 1)] else [])

/-- The ranges of the destination elements (R116, R92). -/
def vDstRngs (w : Nat) (c : VecCfg) : List Rng :=
  let n := vCount w
  let op := vOp w
  let f := fmtOr c.fd
  if op == 0xB2 then []
  else if op == 0x8A then (List.range 16).map fun i => (vDst w + i * vSb w, elemLines f (n / 16))
  else [(vDst w, elemLines f (if vOneElem op then 1 else n))]

/-- The range of the destination scales (R116, R92). -/
def vScaleRngs (w : Nat) (c : VecCfg) : List Rng :=
  let n := vCount w
  if !c.sed || vOp w == 0xB2 then []
  else if vOp w == 0x8A then [(c.sdbase, 16 * ceilDiv (ceilDiv (n / 16) (cfgBlock c)) 32)]
  else [(c.sdbase, ceilDiv (ceilDiv n (cfgBlock c)) 32)]

/-- The state line (R128, R129). -/
def vStateRngs (w : Nat) : List Rng := if vHasState (vOp w) then [(vSb w, 1)] else []

/-- The ranges a vector instruction writes (R116, R92). -/
def vWritesOf (w : Nat) (c : VecCfg) : List Rng := vDstRngs w c ++ vScaleRngs w c ++ vStateRngs w

/-- The ranges a queued vector instruction writes. -/
def vWrites (q : Queued) : List Rng := vWritesOf q.word q.cfg

/-- R134: the FORMAT checks against the configuration. -/
def vFormat (w : Nat) (c : VecCfg) : Bool :=
  let op := vOp w
  let wide (x : Nat) : Bool := decide (x < 3)
  let tight (x : Nat) : Bool := x == 10 || x == 7
  let writes := op != 0xB2
  let readsFb := vReadsB op || vReadsB0 op
  (!vQa w && 10 < c.fa) || (readsFb && 10 < c.fb) || (writes && 10 < c.fd) ||
  (c.sea && (vQa w || wide c.fa)) || (tight c.fa && !vQa w && !c.sea) || (readsFb && tight c.fb) ||
  (writes && tight c.fd && !c.sed) || (c.sed && wide c.fd) ||
  (c.sed && (vIsReduce op || op == 0xA8 || op == 0xB2)) ||
  (op == 0xB1 && (!c.sed || wide c.fd || c.fd == 10))

/-- The bytes a VAPND sends (R132). -/
def apndBytes (w : Nat) (c : VecCfg) : Nat :=
  regionBytes (fmtOr c.fa) (vCount w) + (if c.sea then ceilDiv (vCount w) (cfgBlock c) else 0)

/-- Trap class and cause of a vector instruction at issue, with the line (R86, R91, R92, R134). -/
def vCheck (g w : Nat) (c : VecCfg) (s : State) : Option (Nat × Nat × Nat) :=
  let op := vOp w
  let n := vCount w
  match firstCause [
      if !vUsesSb op && vSb w ≠ 0 then 1 else 0,
      if op = 0xB2 ∧ vDst w ≠ 0 then 1 else 0,
      if vPop w && !vQa w then 7 else 0,
      if 16384 < n then 6 else 0,
      if vFormat w c then 2 else 0,
      if n ≠ 0 ∧ op = 0x8A ∧ n % 16 ≠ 0 then 6 else 0,
      if op = 0xB0 ∧ n % 2 = 1 then 6 else 0,
      if op = 0xB2 ∧ 4096 < apndBytes w c then 6 else 0,
      if op == 0xB2 && vQa w then 7 else 0] with
  | some x => some (1, x, 0)
  | none =>
    if n = 0 then none
    else if vQa w && decide (512 < vSa w + n) then some (2, 4, 0)
    else
      match (vReads w c ++ vWritesOf w c).find? fun r => decide (8192 < r.1 + r.2) with
      | some r => some (2, 1, min r.1 8191)
      | none =>
        match (vWritesOf w c).find? fun r => overlap r (letterRng g s) with
        | some r => some (2, 2, r.1)
        | none => none

/-! Lane counts (R92). -/

def vLanes (w : Nat) (c : VecCfg) : Nat :=
  let op := vOp w
  let wa := if vQa w then 32 else fmtBits (fmtOr c.fa)
  let wb := if vReadsB op || vReadsB0 op then fmtBits (fmtOr c.fb) else 0
  let wd := if op == 0xB2 then 0 else fmtBits (fmtOr c.fd)
  let m := max (max wa wb) (max wd (if op == 0xB0 then 32 else 0))
  let l := if m = 32 then 32 else if m = 16 then 64 else 128
  if vIsSpecial op || op == 0xA9 then l / 2 else l

/-! Elements in the scratchpad. -/

/-- The stored bits of element i of a region at a byte address, and whether its T158 byte is invalid. -/
def readElem (m : Memory) (a : Nat) (f : Fmt) (i : Nat) : Nat × Bool :=
  match f with
  | .t158 => let r := elemBits .t158 (leNat (mread m (a + i / 5) 1)) (i % 5); r
  | f =>
    let sb := fmtBits f * i
    let n := (sb % 8 + fmtBits f + 7) / 8
    (leNat (mread m (a + sb / 8) n) >>> (sb % 8) % 2 ^ fmtBits f, false)

/-- Writes the bits of element i; the last element of a region zeroes the rest of its byte (R31, R32, R117). -/
def writeElem (m : Memory) (a : Nat) (f : Fmt) (i v : Nat) (last : Bool) : Memory :=
  match f with
  | .t158 =>
    let b := leNat (mread m (a + i / 5) 1)
    let b := if 243 ≤ b then 121 else b
    let p := 3 ^ (i % 5)
    let low := b % p
    let high := if last then (121 / (3 * p)) * (3 * p) else b / (3 * p) * (3 * p)
    mset m (a + i / 5) (BitVec.ofNat 8 (low + v * p + high))
  | f =>
    let sb := fmtBits f * i
    let n := (sb % 8 + fmtBits f + 7) / 8
    let old := leNat (mread m (a + sb / 8) n)
    let lo := old % 2 ^ (sb % 8)
    let top := sb % 8 + fmtBits f
    let hi := if last then 0 else old >>> top <<< top
    mwrite m (a + sb / 8) (natLe n (lo + v <<< (sb % 8) + hi))

/-- The lines element i of a region from a line touches. -/
def elemLinesAt (line : Nat) (f : Fmt) (i : Nat) : List Nat :=
  let a := elemByte f i / 32
  let b := (elemEndByte f (i + 1) - 1) / 32
  if a = b then [line + a] else [line + a, line + b]

/-! Arithmetic (R120, R125 to R130). -/

/-- A result with whether a NaN was made (R46). -/
def vres (r : Val) (xs : List Val) : BitVec 32 × NumFlags := (fp32Bits r, { nv := madeNan r xs })

def vmaxOf (a b : Val) : Val := if isNan a || isNan b then .nan else if vlt a b then b else a
def vminOf (a b : Val) : Val := if isNan a || isNan b then .nan else if vlt b a then b else a

/-- The element-wise operations on FP32 operands a, b and the old destination d (R125, R126). -/
def vElem (op : Nat) (a b d : BitVec 32) : BitVec 32 × NumFlags :=
  let x := fp32Val a
  let y := fp32Val b
  let z := fp32Val d
  match op with
  | 0x81 | 0x88 => vres (vadd x y) [x, y]
  | 0x82 => vres (vadd x (vneg y)) [x, y]
  | 0x83 | 0x89 => vres (vmul x y) [x, y]
  | 0x84 => vres (vadd (vmul x y) z) [x, y, z]
  | 0x85 => (fp32Bits (vmaxOf x y), {})
  | 0x86 => (fp32Bits (vminOf x y), {})
  | 0x90 => (spExp a, {})
  | 0x91 => (spLog a, { nv := spInvalid true false a })
  | 0x92 => (spRcp a, {})
  | 0x93 => (spRsq a, { nv := spInvalid false true a })
  | 0x94 => (spTanh a, {})
  | 0x95 => (spSigm a, {})
  | _ => (fp32Bits x, {})

/-- A partial of a reduction, and whether an addition made a NaN in it (R46, R127). -/
abbrev RedPart := Val × Bool

/-- An addition of a reduction: rounded, and noted where it makes a NaN (R127: each is an operation of its own). -/
def addStep (a b : Val) : RedPart := let r := round32 (vadd a b); (r, madeNan r [a, b])

/-- One step of a reduction (R127). -/
def redStep (op : Nat) (p : RedPart) (x : Val) : RedPart :=
  match op with
  | 0xA1 | 0xA8 => (vmaxOf p.1 x, p.2)
  | 0xA2 => (vminOf p.1 x, p.2)
  | 0xA3 => let r := addStep p.1 (vmul x x); (r.1, p.2 || r.2)
  | _ => let r := addStep p.1 x; (r.1, p.2 || r.2)

def redIdentity (op : Nat) : Val :=
  match op with
  | 0xA1 | 0xA8 => .inf true
  | 0xA2 => .inf false
  | _ => .fin false 0 0

/-- Combines two partials (R127). -/
def redJoin (op : Nat) (a b : RedPart) : RedPart :=
  let r := redStep (if op = 0xA3 then 0xA0 else op) a b.1
  (r.1, r.2 || b.2)

/-- Halves the partials down to one; the fuel is at least their logarithm. -/
def halve (op : Nat) : Nat → List RedPart → RedPart
  | 0, ps => ps.headD (.nan, false)
  | k + 1, ps =>
    if ps.length ≤ 1 then ps.headD (.nan, false)
    else halve op k (List.zipWith (redJoin op) (ps.take (ps.length / 2)) (ps.drop (ps.length / 2)))

/-- A reduction of values over n lanes (R127). -/
def reduce (op n : Nat) (vs : List Val) : RedPart :=
  halve op 8 ((List.range n).map fun l =>
    (vs.zipIdx.filter fun p => p.2 % n == l).foldl (fun a p => redStep op a p.1) (redIdentity op, false))

/-- The factor e^(M - M') of VSMAX, within the VEXP bound of the exact difference (R128; log 4). -/
def expDiff (mx m1 : BitVec 32) : BitVec 32 :=
  match vadd (fp32Val mx) (vneg (fp32Val m1)) with
  | .nan => nanBits
  | .inf n => if n then 0 else infBits false
  | .fin n m e => if m == 0 then 0x3F800000 else openUlp (6 + 8 * m1.toNat) 2 mx (refExp (.fin n m e))

/-- One element of VSEXP (R129). -/
def vsexpElem (a mx : BitVec 32) : BitVec 32 × NumFlags :=
  if a == infBits true then (0, {})
  else
    let d := vadd (fp32Val a) (vneg (fp32Val mx))
    (spExp (fp32Bits d), { nv := madeNan d [fp32Val a, fp32Val mx] })

/-- One rotary pair (R130). -/
def ropePair (a0 a1 c n : BitVec 32) : (BitVec 32 × BitVec 32) × NumFlags :=
  let x := fp32Val a0
  let y := fp32Val a1
  let co := fp32Val c
  let si := fp32Val n
  let p := vadd (vmul x co) (vneg (vmul y si))
  let q := vadd (vmul x si) (vmul y co)
  ((fp32Bits p, fp32Bits q), { nv := madeNan p [x, y, co, si] || madeNan q [x, y, co, si] })

/-- The INT32 or FP32 value of a tile element as FP32 (R120). -/
def tileElem (t : Tile) (i : Nat) : BitVec 32 :=
  let w := t.vals.getD i 0
  if t.int32 then fp32Bits (int32Val w) else fp32Bits (fp32Val w)

/-- The source scale in use: the number of its block plus 1, 0 before the first, and its byte (R124: read with its block). -/
abbrev HeldScale := Nat × Nat

/-- The source scale of element i: the one held where its block is the same, else read (R116, R124). -/
def srcScale (g : Nat) (c : VecCfg) (h : HeldScale) (i : Nat) (s : State) : HeldScale :=
  let b := i / cfgBlock c
  if !c.sea || h.1 = b + 1 then h else (b + 1, leNat (mread s.cores.spad (g * 2 ^ 18 + 32 * c.sabase + b) 1))

/-- Element i of source A as FP32 (R120), under a source scale: bits and flags. -/
def sourceA (g w : Nat) (c : VecCfg) (tile : Option Tile) (h : HeldScale) (i : Nat) (s : State) : BitVec 32 × NumFlags :=
  match tile with
  | some t => (tileElem t (vSa w + i), {})
  | none =>
    let f := fmtOr c.fa
    let r := readElem s.cores.spad (g * 2 ^ 18 + 32 * vSa w) f i
    let v := decodeElem f r.1
    if c.sea then
      match sfmtOfCode c.sf with
      | some x =>
        let sc := decodeScale x h.2
        let p := vmul v sc
        (fp32Bits p, { trit := r.2, scaleNan := isNan sc, nv := madeNan p [v, sc] })
      | none => (fp32Bits v, { trit := r.2 })
    else (fp32Bits v, { trit := r.2 })

/-- Element i of an unscaled FP32-decoded region (sources B and D). -/
def sourceOf (g line : Nat) (f : Fmt) (i : Nat) (s : State) : BitVec 32 × NumFlags :=
  let r := readElem s.cores.spad (g * 2 ^ 18 + 32 * line) f i
  (fp32Bits (decodeElem f r.1), { trit := r.2 })

/-! The run of an instruction (R117, R124, R135). -/

/-- Chunks of elements handled together: a scale block when the engine chooses scales, a rotary pair, else one element. -/
def vChunks (w : Nat) (c : VecCfg) : List (Nat × Nat) :=
  let n := vCount w
  let step := if c.sed then cfgBlock c else if vOp w = 0xB0 then 2 else 1
  if vOp w = 0x8A then
    (List.range 16).flatMap fun r =>
      (List.range (ceilDiv (n / 16) step)).map fun b => (r * (n / 16) + b * step, min step (n / 16 - b * step))
  else (List.range (ceilDiv n step)).map fun b => (b * step, min step (n - b * step))

/-- Where destination element i goes: first line of its region, its index there, and the number of elements there. -/
def vDest (w : Nat) (i : Nat) : Nat × Nat × Nat :=
  let n := vCount w
  if vOp w = 0x8A then (vDst w + i / (n / 16) * vSb w, i % (n / 16), n / 16)
  else (vDst w, i, if vOneElem (vOp w) then 1 else n)

/-- The byte address of the scale of the block that starts at element i. -/
def vScaleAddr (w : Nat) (c : VecCfg) (i : Nat) : Nat :=
  let n := vCount w
  let b := cfgBlock c
  if vOp w = 0x8A then
    32 * (c.sdbase + i / (n / 16) * ceilDiv (ceilDiv (n / 16) b) 32) + i % (n / 16) / b
  else 32 * c.sdbase + i / b

/-- The scale region has this many bytes from this line, for the line of an address (R113, R117). -/
def vScaleCover (w : Nat) (c : VecCfg) (i : Nat) : Nat × Nat :=
  let n := vCount w
  if vOp w = 0x8A then
    let k := ceilDiv (n / 16) (cfgBlock c)
    (32 * (c.sdbase + i / (n / 16) * ceilDiv k 32), k)
  else (32 * c.sdbase, ceilDiv n (cfgBlock c))

/-- Lines a chunk reads. -/
def chunkReads (w : Nat) (c : VecCfg) (i m : Nat) : List Nat :=
  let es := (List.range m).map (· + i)
  (if vQa w then [] else es.flatMap fun j => elemLinesAt (vSa w) (fmtOr c.fa) j) ++
  (if c.sea then es.map fun j => c.sabase + j / cfgBlock c / 32 else []) ++
  (if vReadsB (vOp w) then es.flatMap fun j => elemLinesAt (vSb w) (fmtOr c.fb) j else []) ++
  (if vReadsB0 (vOp w) then [vSb w] else []) ++
  (if vOp w = 0x84 then es.flatMap fun j => elemLinesAt (vDst w) (fmtOr c.fd) j else []) ++
  (if vOp w = 0xB0 then es.map fun j => vSb w + j / 8 else [])

/-- Lines a chunk writes, each with whether the instruction covers the whole line. -/
def chunkWrites (w : Nat) (c : VecCfg) (i m : Nat) : List (Nat × Bool) :=
  let f := fmtOr c.fd
  ((List.range m).flatMap fun j =>
    let d := vDest w (i + j)
    (elemLinesAt d.1 f d.2.1).map fun l => (l, coversLine (32 * d.1) (regionBytes f d.2.2) l)) ++
  (if c.sed then
    let a := vScaleAddr w c i
    let k := vScaleCover w c i
    [(a / 32, coversLine k.1 k.2 (a / 32))] else [])

/-- The source scale held after the elements i to i + m - 1 of a chunk. -/
def chunkScale (g : Nat) (c : VecCfg) (h : HeldScale) (i m : Nat) (s : State) : HeldScale :=
  (List.range m).foldl (fun h j => srcScale g c h (i + j) s) h

/-- The FP32 results of a chunk and its flags, from the memory as it stands and the source scale held. -/
def chunkCompute (g w : Nat) (c : VecCfg) (tile : Option Tile) (mx : BitVec 32) (h : HeldScale) (i m : Nat) (s : State) :
    List (BitVec 32) × NumFlags :=
  let op := vOp w
  let as := (List.range m).map fun j => sourceA g w c tile (srcScale g c h (i + j) s) (i + j) s
  let fa := as.foldl (fun f x => orFlags f x.2) {}
  if op = 0xB0 then
    (List.range (m / 2)).foldl
      (fun (acc : List (BitVec 32) × NumFlags) p =>
        let a0 := (as.getD (2 * p) (0, {})).1
        let a1 := (as.getD (2 * p + 1) (0, {})).1
        let co := sourceOf g (vSb w) .fp32 (i + 2 * p) s
        let si := sourceOf g (vSb w) .fp32 (i + 2 * p + 1) s
        let r := ropePair a0 a1 co.1 si.1
        (acc.1 ++ [r.1.1, r.1.2], orFlags acc.2 r.2)) ([], fa)
  else
    as.zipIdx.foldl
      (fun (acc : List (BitVec 32) × NumFlags) p =>
        let b := if vReadsB op then sourceOf g (vSb w) (fmtOr c.fb) (i + p.2) s
          else if vReadsB0 op then sourceOf g (vSb w) (fmtOr c.fb) 0 s else (0, {})
        let d := if op = 0x84 then sourceOf g (vDst w) (fmtOr c.fd) (i + p.2) s else (0, {})
        let r := if op = 0xA9 then vsexpElem p.1.1 mx else vElem op p.1.1 b.1 d.1
        (acc.1 ++ [r.1], orFlags acc.2 (orFlags b.2 (orFlags d.2 r.2)))) ([], fa)

/-- The run so far: state, flags, lines written, FP32 values kept for a sum, the line that failed, the elements converted to
FD and the source scale held. -/
structure VRun where
  s : State
  fl : NumFlags
  wrote : List Nat
  vals : List (BitVec 32)
  fail : Option Nat
  conv : Nat := 0
  scale : HeldScale := (0, 0)

/-- Puts the lines of a write in order: tag PLAIN, poison cleared where covered whole (R58, R113). -/
def touchLines (g : Nat) (ls : List (Nat × Bool)) (s : State) : State :=
  ls.foldl (fun t p => setTag g p.1 0 (if p.2 then setPoison g p.1 false t else t)) s

def pokeElem (g line : Nat) (f : Fmt) (i n v : Nat) (s : State) : State :=
  { s with cores := { s.cores with
      spad := writeElem s.cores.spad (g * 2 ^ 18 + 32 * line) f i v (i + 1 == n) } }

def pokeByte (g a v : Nat) (s : State) : State :=
  { s with cores := { s.cores with spad := mset s.cores.spad (g * 2 ^ 18 + a) (BitVec.ofNat 8 v) } }

/-- Writes a chunk's results, converted to FD (R39, R42, R43, R120). A block's scale byte is written before its elements, which shows
only where the scale region overlaps the destination: R124 says no more than 'with their block' (log 100). -/
def chunkStore (g w : Nat) (c : VecCfg) (draws : List Nat) (i : Nat) (outs : List (BitVec 32)) (s : State) :
    State × NumFlags :=
  let f := fmtOr c.fd
  let sat := c.sat || vOp w == 0xB1
  let sc : Option (SFmt × Nat) :=
    if c.sed then (sfmtOfCode c.sf).map fun x => (x, chooseScale x f (outs.map fp32Val)) else none
  let s1 := match sc with
    | some p => pokeByte g (vScaleAddr w c i) p.2 s
    | none => s
  outs.zipIdx.foldl
    (fun (acc : State × NumFlags) p =>
      let v := match sc with
        | some q => underScale q.1 q.2 (fp32Val p.1)
        | none => fp32Val p.1
      let r := if f = .fp32 then (p.1.toNat, {}) else convert f (rndOf c.rnd) sat (draws.getD (i + p.2) 0) v
      let d := vDest w (i + p.2)
      (pokeElem g d.1 f d.2.1 d.2.2 r.1 acc.1, orFlags acc.2 r.2)) (s1, {})

/-- Handles one chunk: its reads, its results, its writes. -/
def chunkStep (g w : Nat) (c : VecCfg) (tile : Option Tile) (mx : BitVec 32) (draws : List Nat) (r : VRun)
    (ch : Nat × Nat) : VRun :=
  match r.fail with
  | some _ => r
  | none =>
    match (chunkReads w c ch.1 ch.2).find? fun l => linePoison g l r.s with
    | some l => { r with fail := some l }
    | none =>
      let outs := chunkCompute g w c tile mx r.scale ch.1 ch.2 r.s
      let h := chunkScale g c r.scale ch.1 ch.2 r.s
      if vOneElem (vOp w) then { r with fl := orFlags r.fl outs.2, vals := r.vals ++ outs.1, scale := h }
      else
        let ws := chunkWrites w c ch.1 ch.2
        let st := chunkStore g w c draws ch.1 outs.1 r.s
        let fl := orFlags r.fl (orFlags outs.2 st.2)
        match ws.find? fun p => !p.2 && linePoison g p.1 r.s with
        | some p => { r with fail := some p.1, fl := fl, conv := r.conv + ch.2 }
        | none =>
          { r with s := touchLines g ws st.1, fl := fl,
                   wrote := r.wrote ++ ws.map (·.1), conv := r.conv + ch.2, scale := h,
                   vals := if vOp w = 0xA9 then r.vals ++ outs.1 else r.vals }

/-- Writes words of the state line (R128, R129). -/
def pokeWord (g line k : Nat) (v : BitVec 32) (s : State) : State :=
  touchLines g [(line, false)] { s with cores := { s.cores with
      spad := mwrite s.cores.spad (g * 2 ^ 18 + 32 * line + 4 * k) (natLe 4 v.toNat) } }

def stateWord (g line k : Nat) (s : State) : BitVec 32 :=
  BitVec.ofNat 32 (leNat (mread s.cores.spad (g * 2 ^ 18 + 32 * line + 4 * k) 4))

/-- Writes one FP32 result to element 0 of DST in FD; fails on a poisoned line. -/
def storeOne (g w : Nat) (c : VecCfg) (draws : List Nat) (v : BitVec 32) (r : VRun) : VRun :=
  let st := chunkStore g w { c with sed := false } draws 0 [v] r.s
  let r1 := { r with fl := orFlags r.fl st.2, conv := r.conv + 1 }
  if linePoison g (vDst w) r.s then { r1 with fail := some (vDst w) }
  else { r1 with s := touchLines g [(vDst w, false)] st.1, wrote := r.wrote ++ [vDst w] }

/-- What follows the elements: reductions, VSMAX and VSEXP (R127 to R129). -/
def vFinish (g w : Nat) (c : VecCfg) (draws : List Nat) (sum mx : BitVec 32) (r : VRun) : VRun :=
  match r.fail with
  | some _ => r
  | none =>
    let op := vOp w
    let vs := r.vals.map fp32Val
    let n := vLanes w c
    if vIsReduce op then
      let x := reduce op n vs
      storeOne g w c draws (fp32Bits x.1) { r with fl := orFlags r.fl { nv := x.2 } }
    else if op = 0xA8 then
      let m1 := vmaxOf (fp32Val mx) (reduce op n vs).1
      let f := if fp32Bits m1 = fp32Bits (fp32Val mx) ∧ !isNan m1 then (0x3F800000 : BitVec 32) else expDiff mx (fp32Bits m1)
      let p := vmul (fp32Val sum) (fp32Val f)
      let r1 := storeOne g w c draws f { r with fl := orFlags r.fl { nv := madeNan p [fp32Val sum, fp32Val f] } }
      match r1.fail with
      | some _ => r1
      | none =>
        { r1 with s := pokeWord g (vSb w) 1 (fp32Bits m1) (pokeWord g (vSb w) 0 (fp32Bits p) r1.s), wrote := r1.wrote ++ [vSb w] }
    else if op = 0xA9 then
      let x := reduce 0xA0 n vs
      let t := vadd (fp32Val sum) x.1
      { r with s := pokeWord g (vSb w) 0 (fp32Bits t) r.s,
               fl := orFlags r.fl { nv := x.2 || madeNan t [fp32Val sum, x.1] }, wrote := r.wrote ++ [vSb w] }
    else r

/-- The width of an element as R124 compares it: T158 elements are of no other format's width. -/
def laneBits (f : Fmt) : Nat := if f == .t158 then 0 else fmtBits f

/-- Overlapping regions that make an instruction run serially (R124). A destination does not, over a source (A, B or the old
destination) that starts on its line with the same bits per element; nor does the state line over its own read. -/
def vSerial (w : Nat) (c : VecCfg) : Bool :=
  let n := vCount w
  let op := vOp w
  let fd := fmtOr c.fd
  let twin (start : Nat) (f : Fmt) : Bool := start == vDst w && laneBits f == laneBits fd
  let srcA : List (Rng × Bool) := if vQa w then [] else [((vSa w, elemLines (fmtOr c.fa) n), twin (vSa w) (fmtOr c.fa))]
  let srcB : List (Rng × Bool) :=
    if vReadsB op then [((vSb w, elemLines (fmtOr c.fb) n), twin (vSb w) (fmtOr c.fb))]
    else if vReadsB0 op then [((vSb w, 1), twin (vSb w) (fmtOr c.fb))] else []
  let rest : List Rng := (if c.sea then [(c.sabase, ceilDiv (ceilDiv n (cfgBlock c)) 32)] else []) ++
    (if op == 0xB0 then [(vSb w, ceilDiv n 8)] else [])
  let old : List Rng := if op == 0x84 then [(vDst w, elemLines fd n)] else []
  let elems := (srcA ++ srcB).map (·.1) ++ rest
  (srcA ++ srcB).any (fun p => !p.2 && anyOverlap (vDstRngs w c) [p.1]) ||
    anyOverlap (vDstRngs w c) (rest ++ vStateRngs w) ||
    anyOverlap (vScaleRngs w c) (elems ++ old ++ vStateRngs w) || anyOverlap (vStateRngs w) elems

def popTile (pop : Bool) (c : Core) : Core := if pop then { c with tiles := c.tiles.drop 1 } else c

/-- A vector instruction that draws (R121). -/
def vDraws (q : Queued) : Bool := q.cfg.rnd == 2 && q.cfg.fd != 0 && vOp q.word != 0xB2

/-- A vector instruction but VAPND on its operands: what it leaves, or the trap of R135. The generator advances for the elements
converted only (R45, R121; log 80). -/
def runVector (g : Nat) (q : Queued) (s0 : State) : State :=
  let w := q.word
  let c := q.cfg
  let op := vOp w
  let core := getCore g s0
  let tile := if vQa w then core.tiles.head? else none
  let s2 := if vDraws q then applySr g s0 else s0
  let draws := if vDraws q then drawsFor g (if vOneElem op then 1 else vCount w) s2 else []
  let sum := stateWord g (vSb w) 0 s2
  let mx := stateWord g (vSb w) 1 s2
  let start : VRun := { s := s2, fl := {}, wrote := [], vals := [],
                        fail := if vHasState op && linePoison g (vSb w) s2 then some (vSb w) else none }
  let r := vFinish g w c draws sum mx ((vChunks w c).foldl (chunkStep g w c tile mx draws) start)
  let s1 := setFlags g r.fl (countDraws g (if vDraws q then r.conv else 0) r.s)
  let s3 := flagIf (vSerial w c) .coreVecStatusSerial g s1
  match r.fail with
  | some l =>
    trap g 4 2 q.pc core.pc l 0 w (r.wrote.foldl (fun t x => setTag g x 0 (setPoison g x true t)) s3)
  | none => updCore g (popTile (vPop w)) s3

def kvDefault : Nat → KvSite := fun _ => {}
def getKv (site : Nat) (s : State) : KvSite := tget kvDefault s.kvSites site
def setKv (site : Nat) (k : KvSite) (s : State) : State := { s with kvSites := tset kvDefault s.kvSites site k }

/-- KVSITE.STATUS.QOCC (R284). -/
def showQocc (site : Nat) (s : State) : State := wr .kvsiteStatusQocc site (getKv site s).queue.length s

/-- Whether bytes of a region hold an invalid T158 byte (R33). -/
def anyBadTritBytes (f : Fmt) (bs : List Byte) : Bool := f == .t158 && bs.any fun b => decide (243 ≤ b.toNat)

/-- VAPND hands its data to the site's KV manager (R132); an invalid T158 byte among them sets TRIT (R33, R46). -/
def runVapnd (g : Nat) (q : Queued) (s : State) : State :=
  let w := q.word
  let c := q.cfg
  let lines := ((vReads w c).flatMap fun r => (List.range r.2).map (· + r.1))
  match lines.find? fun l => linePoison g l s with
  | some l => trap g 4 2 q.pc (getCore g s).pc l 0 w s
  | none =>
    let n := vCount w
    let a : Append :=
      { core := g, fmt := c.fa, sf := if c.sea then c.sf else 0, count := n,
        data := spRead g (32 * vSa w) (regionBytes (fmtOr c.fa) n) s,
        scales := if c.sea then spRead g (32 * c.sabase) (ceilDiv n (cfgBlock c)) s else [],
        desc := spLine g (vSb w) s }
    let s1 := setFlags g { trit := anyBadTritBytes (fmtOr c.fa) a.data } s
    let k := getKv (siteOf g) s1
    showQocc (siteOf g) (setKv (siteOf g) { k with queue := k.queue ++ [a] } s1)

/-- The scratchpad ranges a DMA transfer in flight still reads (R85); its descriptor is decoded here. -/
def dmaSrcRng (desc : Nat) : List Rng :=
  let kind := bits desc 0 4
  if kind = 3 ∨ kind = 5 ∨ kind = 6 then
    let src := bits desc 32 18
    let rb := bits desc 128 19
    let rows := bits desc 152 16
    let pitch := bits desc 168 24
    (List.range rows).map fun r =>
      let a := src + r * pitch
      (a / 32, (a + rb + 31) / 32 - a / 32)
  else []

/-- Why a queued vector instruction cannot begin: its tile, the KV queue, an older read by the array or a DMA transfer, an older
drawing drain where it draws itself (R45, R77, R85, R91, R132). -/
def vBlocked (g : Nat) (q : Queued) (s : State) : Bool :=
  let c := getCore g s
  (vQa q.word && c.tiles.isEmpty) ||
  (vOp q.word == 0xB2 && 64 ≤ (getKv (siteOf g) s).queue.length) ||
  ((c.drain.toList ++ c.mq).any fun m =>
    decide (m.seq < q.seq) && (anyOverlap (mReads m.word) (vWrites q) || (vDraws q && mDraws m))) ||
  (c.chans.any fun h => h.st == .busy && decide (h.seq < q.seq) && anyOverlap (dmaSrcRng h.desc) (vWrites q))

/-- The late check of a bound entry (R91, R92): class and cause. -/
def tileCheck (w : Nat) (c : Core) : Option (Nat × Nat) :=
  match c.tiles.head? with
  | none => none
  | some t =>
    if !vQa w then none
    else if 16 * wcOf t.wcc < vSa w + vCount w then some (2, 4)
    else if vOp w = 0x8A ∧ vCount w ≠ 16 * wcOf t.wcc then some (1, 7) else none

/-- One move of the vector queue. None: no move. -/
def moveVector (g : Nat) (s : State) : Option State :=
  let c := getCore g s
  match c.vq with
  | [] => none
  | q :: rest =>
    if vBlocked g q s then none
    else
      let s1 := setCore g { c with vq := rest } s
      match tileCheck q.word c with
      | some (cls, cause) => some (trap g cls cause q.pc c.pc 0 0 q.word s1)
      | none => if vOp q.word = 0xB2 then some (runVapnd g q s1) else some (runVector g q s1)

/-- Runs the units of a core until neither queue can move; the fuel covers every queued instruction. -/
def runUnits (g : Nat) : Nat → State → State
  | 0, s => s
  | k + 1, s =>
    match moveMatrix vWrites vDraws g s with
    | some t => runUnits g k t
    | none =>
      match moveVector g s with
      | some t => runUnits g k t
      | none => s

/-- The fuel of `runUnits`: a drain moves twice, and four instructions stand in each queue. -/
def unitFuel : Nat := 24

end Sys2Proof.Machine
end

