-- ==== Sys2Proof/Machine/Dma.lean ====
section
/-!
DEFINITION. DMA transfers (R94 to R101, R147, R233, R235): the descriptor and its checks, translation through the district's
page tables, and the movement of the data with every way it can halt.
-/

namespace Sys2Proof.Machine

/-! The descriptor (R95). -/

def dKind (d : Nat) : Nat := bits d 0 4
def dAdm (d : Nat) : Bool := bits d 4 1 == 1
def dAdv (d : Nat) : Bool := bits d 5 1 == 1
def dFmt (d : Nat) : Nat := bits d 6 4
def dWcc (d : Nat) : Nat := bits d 10 2
def dG2 (d : Nat) : Nat := bits d 12 1
def dTrn (d : Nat) : Bool := bits d 13 1 == 1
def dSrc (d : Nat) : Nat := bits d 32 48
def dDst (d : Nat) : Nat := bits d 80 48
def dRbytes (d : Nat) : Nat := bits d 128 19
def dRows (d : Nat) : Nat := bits d 152 16
def dSpitch (d : Nat) : Nat := bits d 168 24
def dDpitch (d : Nat) : Nat := bits d 192 16
def dStep (d : Nat) : Nat := bits d 208 32

/-- Kinds of the table of R96. -/
def isSkew (k : Nat) : Bool := k == 2 || k == 7
/-- The source, the destination lies in the own vault. -/
def srcVault (k : Nat) : Bool := k == 1 || k == 2
def dstVault (k : Nat) : Bool := k == 3
def srcPig (k : Nat) : Bool := k == 4 || k == 7
def dstPig (k : Nat) : Bool := k == 5
def srcSpad (k : Nat) : Bool := k == 3 || k == 5 || k == 6
/-- The far side is the destination (R99). -/
def farIsDst (k : Nat) : Bool := k == 3 || k == 5 || k == 6

/-- The pigeonhole (device-wide index) and the offset of an address (R97). -/
def pigOf (g a : Nat) : Nat := 256 * siteOf g + 8 * (a / 2 ^ 22 % 32) + a / 2 ^ 19 % 8

/-- Bytes of a skewing kind's source and lines of its destination (R98). -/
def skewG (d : Nat) : Nat := 1 + dG2 d
def skewSrcExtent (d : Nat) : Nat :=
  let f := fmtOr (dFmt d)
  let wc := wcOf (dWcc d)
  if dTrn d then (wc - 1) * dSpitch d + regionBytes f (dRows d) else (dRows d - 1) * dSpitch d + regionBytes f wc
def skewLines (d : Nat) : Nat := streamLines (fmtOr (dFmt d)) (dRows d) (skewG d) (wcOf (dWcc d))

/-- The lines of the own scratchpad a transfer writes, and of a remote one (R82, R85). -/
def dmaDstRng (d : Nat) : List Rng :=
  let k := dKind d
  if isSkew k then [(dDst d / 32, skewLines d)]
  else if dstVault k || dstPig k then []
  else (List.range (dRows d)).map fun r =>
    let a := dDst d % 2 ^ 18 + r * dDpitch d
    (a / 32, (a + dRbytes d + 31) / 32 - a / 32)

/-- The core whose scratchpad a transfer writes. -/
def dmaDstCore (g d : Nat) : Nat := if dKind d = 6 then dDst d / 2 ^ 18 else g

/-- BAD_DESC (R100). -/
def badDesc (d : Nat) : Bool :=
  let k := dKind d
  k == 0 || 8 ≤ k || bits d 14 18 != 0 || bits d 147 5 != 0 || bits d 240 16 != 0 ||
  (if isSkew k then 10 < dFmt d || dWcc d == 0 || dDst d % 32 != 0 || dRbytes d != 0 || dDpitch d != 0
   else dFmt d != 0 || dWcc d != 0 || dG2 d != 0 || dTrn d) ||
  (4 ≤ k && dAdm d)

/-- A start address out of its form's range (R97). -/
def badAddr (d : Nat) : Bool :=
  let k := dKind d
  let vaultBad (a : Nat) : Bool := if dAdm d then decide (2 ^ 43 ≤ a) else decide (vaultEnd ≤ a)
  let src := if srcVault k then vaultBad (dSrc d) else if srcPig k then decide (2 ^ 27 ≤ dSrc d) else decide (2 ^ 18 ≤ dSrc d)
  let dst := if dstVault k then vaultBad (dDst d) else if dstPig k then decide (2 ^ 27 ≤ dDst d)
    else if k == 6 then decide (2 ^ 35 ≤ dDst d) else decide (2 ^ 18 ≤ dDst d)
  src || dst

/-- FOREIGN_TARGET (R97, R100). -/
def foreignTarget (g d : Nat) (s : State) : Bool :=
  let k := dKind d
  let own := coreDistrict g s
  let pigBad (a : Nat) : Bool := own.isNone || clusterDistrict (pigCluster (pigOf g a)) s != own
  if srcPig k then pigBad (dSrc d)
  else if dstPig k then pigBad (dDst d)
  else if k == 6 then own.isNone || coreDistrict (dDst d / 2 ^ 18) s != own || !usable (dDst d / 2 ^ 18) s
  else false

/-- LENGTH_EXCEEDS (R100). -/
def tooLong (d : Nat) : Bool :=
  let k := dKind d
  let rows := dRows d
  let vaultLim := if dAdm d then 2 ^ 43 else vaultEnd
  let srcLim := if srcVault k then vaultLim else if srcPig k then 2 ^ 19 else 2 ^ 18
  let srcOff := if srcVault k then dSrc d else if srcPig k then dSrc d % 2 ^ 19 else dSrc d % 2 ^ 18
  let dstLim := if dstVault k then vaultLim else if dstPig k then 2 ^ 19 else 2 ^ 18
  let dstOff := if dstVault k then dDst d else if dstPig k then dDst d % 2 ^ 19 else dDst d % 2 ^ 18
  if isSkew k then
    4096 < rows || srcLim < srcOff + skewSrcExtent d || dstLim < dstOff + 32 * skewLines d
  else
    262144 < dRbytes d || srcLim < srcOff + (rows - 1) * dSpitch d + dRbytes d ||
    dstLim < dstOff + (rows - 1) * dDpitch d + dRbytes d

/-- LETTER_REGION (R82, R100). -/
def intoLetter (g d : Nat) (s : State) : Bool :=
  let t := dmaDstCore g d
  !(dstVault (dKind d) || dstPig (dKind d)) && letterLive t s && anyOverlap (dmaDstRng d) [letterRng t s]

/-- The before-data checks in the order of R100: a halt code, 0 for none. -/
def dmaCheck (g d : Nat) (s : State) : Nat :=
  if badDesc d then 1
  else if (!isSkew (dKind d) && dRbytes d == 0) || dRows d == 0 then 2
  else if badAddr d then 4
  else if foreignTarget g d s then 6
  else if tooLong d then 3
  else if intoLetter g d s then 5
  else 0

/-! Translation (R147, R233, R235). -/

/-- A page-table entry, read at a vault-local byte address through the byte code of the counter area; one with an uncorrectable byte
maps nothing (R138, R233; log 78). -/
def pteAt (a : Nat) (s : State) : Nat :=
  let bs := (List.range 8).map fun j => counterAt (vaultLocal a).1 ((vaultLocal a).2 + j) s
  if bs.any fun b => b.2 == 2 then 0 else leNat (bs.map (·.1))

def pteValid (e : Nat) : Bool := bits e 0 1 == 1
def pteWrite (e : Nat) : Bool := bits e 1 1 == 1
/-- Vault (device-wide) and page of an entry. -/
def pteVault (e : Nat) : Nat := 2048 * bits e 8 6 + bits e 14 11
def ptePage (e : Nat) : Nat := bits e 25 10

/-- The address of the leaf entry of a district virtual address, where its root entry is valid. -/
def leafEntryAddr (root va : Nat) (s : State) : Option Nat :=
  let e := pteAt (root + 8 * (va / 2 ^ 29 % 16384)) s
  if pteValid e then some (pteVault e * 2 ^ 26 + ptePage e * 65536 + 8 * (va / 2 ^ 16 % 8192)) else none

/-- The leaf entry of a district virtual address. -/
def translate (d va : Nat) (s : State) : Option Nat :=
  let root := rd .distPtRootAddr d s
  if root = 0 then none
  else
    match leafEntryAddr root va s with
    | none => none
    | some a => let e := pteAt a s; if pteValid e then some e else none

/-- The entries a translation reads, through the byte code of the counter area: what that counts (R138). -/
def walkReads (d va src : Nat) (s : State) : State :=
  let root := rd .distPtRootAddr d s
  let read (a : Nat) (t : State) : State :=
    (counterBytes (vaultLocal a).1 (vaultLocal a).2 src 8 (grantSlots false (vaultLocal a).1 1 t)).2
  if root = 0 then s
  else
    let s1 := read (root + 8 * (va / 2 ^ 29 % 16384)) s
    match leafEntryAddr root va s with
    | none => s1
    | some a => read a s1

/-- A page of a sealed or impaired parcel, read-only to every agent (R224). -/
def pageSealed (v page : Nat) (s : State) : Bool :=
  match (getPage v page s).owner with
  | .parcel p => let st := (tget (fun _ => ({} : Parcel)) s.parcels p).st; st == 2 || st == 3
  | _ => false

/-- The vault a core's vertical channel reaches; a stand-in works on the vault of the core it replaces (R483). -/
def ownVault (g : Nat) (s : State) : Nat :=
  match s.standIns.find? fun p => p.1 == g with
  | some p => p.2
  | none => g

/-- A piece of an address range: vault and offset, or a halt code (R97, R100). A write to a page of a sealed parcel halts with
PAGE_FAULT, as one that meets WRITE = 0 (R224, R235; log 103). -/
def dmaPiece (g d a : Nat) (write : Bool) (s : State) : Nat × Nat × Nat :=
  let v := ownVault g s
  if !dAdm d then (if write && pageSealed v (a / 65536) s then (7, 0, 0) else (0, v, a))
  else
    match coreDistrict g s with
    | none => (7, 0, 0)
    | some x =>
      match translate x a s with
      | none => (7, 0, 0)
      | some e =>
        if write && (!pteWrite e || pageSealed (pteVault e) (ptePage e) s) then (7, 0, 0)
        else if pteVault e ≠ v then (8, 0, 0)
        else (0, v, ptePage e * 65536 + a % 65536)

/-- The page-table reads of a piece (R97). -/
def dmaWalk (g d a : Nat) (s : State) : State :=
  match coreDistrict g s with
  | some x => if dAdm d then walkReads x a srcChannel s else s
  | none => s

/-- Reads n bytes of the vault side: the bytes before a failure, and its halt code. -/
def dmaVaultRead (g d : Nat) : Nat → Nat → Nat → State → (List Byte × Nat) × State
  | 0, _, _, s => (([], 0), s)
  | k + 1, a, n, s0 =>
    if n = 0 then (([], 0), s0)
    else
      let s := dmaWalk g d a s0
      let p := dmaPiece g d a false s
      if p.1 ≠ 0 then (([], p.1), s)
      else
        let m := if dAdm d then min n (65536 - a % 65536) else n
        let r := vreadBytes p.2.1 p.2.2 m srcChannel s
        match r.1.2 with
        | some _ => ((r.1.1, 9), r.2)
        | none =>
          let q := dmaVaultRead g d k (a + m) (n - m) r.2
          ((r.1.1 ++ q.1.1, q.1.2), q.2)

/-- Writes bytes to the vault side: a halt code or 0, and the pieces written. -/
def dmaVaultWrite (g d : Nat) : Nat → Nat → List Byte → State → (Nat × List Piece) × State
  | 0, _, _, s => ((0, []), s)
  | k + 1, a, bs, s0 =>
    if bs = [] then ((0, []), s0)
    else
      let s := dmaWalk g d a s0
      let p := dmaPiece g d a true s
      if p.1 ≠ 0 then ((p.1, []), s)
      else
        let m := min bs.length (65536 - a % 65536)
        let r := vwriteRaw p.2.1 p.2.2 srcChannel (bs.take m) s
        match r.1 with
        | some o => ((9, [(p.2.1, p.2.2, o - p.2.2)]), r.2)
        | none =>
          let q := dmaVaultWrite g d k (a + m) (bs.drop m) r.2
          ((q.1.1, (p.2.1, p.2.2, m) :: q.1.2), q.2)

/-- Reads n bytes of the source from an address: the bytes before a failure, and its halt code. -/
def dmaRead (g d a n : Nat) (s : State) : (List Byte × Nat) × State :=
  let k := dKind d
  if srcVault k then dmaVaultRead g d (n / 65536 + 2) a n s
  else if srcPig k then
    let p := pigOf g (dSrc d)
    let off := a % 2 ^ 19
    match (linesOf off n).find? fun l => pigPoison p l s with
    | some l => ((pigRead p off (32 * l - off) s, 11), bump .phStatUe (pigCluster p) s)
    | none => ((pigRead p off n s, 0), s)
  else
    match (linesOf a n).find? fun l => linePoison g l s with
    | some l => ((spRead g a (32 * l - a) s, 11), s)
    | none => ((spRead g a n s, 0), s)

/-- Writes bytes to the destination at an address: a halt code or 0, and the pieces of vaults written; the bytes before the failing
line are written. -/
def dmaWrite (g d a : Nat) (bs : List Byte) (s : State) : (Nat × List Piece) × State :=
  let k := dKind d
  if dstVault k then dmaVaultWrite g d (bs.length / 65536 + 2) a bs s
  else if dstPig k then
    let p := pigOf g (dDst d)
    let off := a % 2 ^ 19
    match pigRefused p off bs.length s with
    | some l => ((11, []), pigWrite p off (bs.take (32 * l - off)) s)
    | none => ((0, []), pigWrite p off bs s)
  else
    let t := dmaDstCore g d
    let off := a % 2 ^ 18
    match spRefused t off bs.length s with
    | some l => ((11, []), spWrite t off 0 (bs.take (32 * l - off)) s)
    | none => ((0, []), spWrite t off 0 bs s)

/-- The rows of a linear transfer, at most lim bytes in all: a halt code, 0 when all rows are moved, 64 when lim was reached; and
the pieces of vaults written. -/
def moveRows (g d : Nat) : List Nat → Nat → State → (Nat × List Piece) × State
  | [], _, s => ((0, []), s)
  | r :: rs, lim, s =>
    let n := min (dRbytes d) lim
    let rd := dmaRead g d (dSrc d + r * dSpitch d) n s
    let w := dmaWrite g d (dDst d + r * dDpitch d) rd.1.1 rd.2
    if w.1.1 ≠ 0 then w
    else if rd.1.2 ≠ 0 then ((rd.1.2, w.1.2), w.2)
    else if n < dRbytes d then ((64, w.1.2), w.2)
    else
      let q := moveRows g d rs (lim - n) w.2
      ((q.1.1, w.1.2 ++ q.1.2), q.2)

/-- Source rows of a skewing transfer, read in order: the bytes of each, and the halt code of the first that failed. -/
def skewRows (g d n : Nat) : List Nat → State → (List (List Byte) × Nat) × State
  | [], s => (([], 0), s)
  | r :: rs, s =>
    let a := dmaRead g d (dSrc d + r * dSpitch d) n s
    if a.1.2 ≠ 0 then (([a.1.1], a.1.2), a.2)
    else
      let q := skewRows g d n rs a.2
      ((a.1.1 :: q.1.1, q.1.2), q.2)

/-- The element of wavefront position n of a skewing transfer (R54, R98): none when its source has not been read; the
bits and whether its T158 byte is invalid. -/
def skewElem (d : Nat) (rows : List (List Byte)) (n : Nat) : Option (Nat × Bool) :=
  let f := fmtOr (dFmt d)
  let g := skewG d
  let wc := wcOf (dWcc d)
  let pad := if f = .t158 then 1 else 0
  let fw := n / (wc * g)
  let j := n % (wc * g) / g
  if fw < j then some (pad, false)
  else
    let k := g * (fw - j) + n % g
    if dRows d ≤ k then some (pad, false)
    else
      let row := if dTrn d then rows[j]? else rows[k]?
      let i := if dTrn d then k else j
      match row with
      | none => none
      | some bs => if bs.length < elemEndByte f (i + 1) then none else some (elemBits f (leNat bs) i)

/-- The elements whose bits a destination line holds (R31, R54). -/
def lineElems (d l : Nat) : List Nat :=
  let f := fmtOr (dFmt d)
  let total := waveCount (dRows d) (skewG d) (wcOf (dWcc d)) * wcOf (dWcc d) * skewG d
  let a := if f = .t158 then 160 * l else 256 * l / fmtBits f
  let b := if f = .t158 then 160 * (l + 1) else ceilDiv (256 * (l + 1)) (fmtBits f)
  (List.range (min b total - a)).map (· + a)

/-- A destination line of a skewing transfer: its number and whether an invalid T158 byte was met; none when an element
has not been read. -/
def skewLine (d : Nat) (rows : List (List Byte)) (l : Nat) : Option (Nat × Bool) :=
  let f := fmtOr (dFmt d)
  let es := lineElems d l
  let vs := es.map fun n => skewElem d rows n
  if vs.any Option.isNone then none
  else
    let xs := vs.map fun v => (v.getD (0, false)).1
    let bad := vs.any fun v => (v.getD (0, false)).2
    if f = .t158 then some (packElems f xs, bad)
    else
      let shift := (es.headD 0) * fmtBits f
      let whole := packElems f xs * 2 ^ (shift - 256 * l)
      some (whole / 2 ^ (256 * l - shift) % 2 ^ 256, bad)

/-- The bytes that a skewing transfer writes in its destination line l: the last line only as far as the region goes (R31). -/
def skewLineBytes (d l : Nat) : Nat :=
  let total := waveCount (dRows d) (skewG d) (wcOf (dWcc d)) * wcOf (dWcc d) * skewG d
  min 32 (regionBytes (fmtOr (dFmt d)) total - 32 * l)

/-- Writes the lines of a skewing transfer in order, at most lim of them: how many were written; 0 for all, 11 for a refused
write (R113), 64 otherwise; TRIT. -/
def skewWrite (g d : Nat) (rows : List (List Byte)) : List Nat → Nat → State → (Nat × Nat × Bool) × State
  | [], _, s => ((0, 0, false), s)
  | l :: ls, lim, s =>
    match lim with
    | 0 => ((0, 64, false), s)
    | lim' + 1 =>
      match skewLine d rows l with
      | none => ((0, 64, false), s)
      | some x =>
        if (spRefused g (dDst d + 32 * l) (skewLineBytes d l) s).isSome then ((0, 11, false), s)
        else
          let tag := streamTag (fmtOr (dFmt d)) (skewG d) (dWcc d)
          let s1 := spWrite g (dDst d + 32 * l) tag (natLe (skewLineBytes d l) x.1) s
          let r := skewWrite g d rows ls lim' s1
          ((r.1.1 + 1, r.1.2.1, x.2 || r.1.2.2), r.2)

/-- Whether rows of source bytes hold an invalid T158 byte (R33). -/
def anyBadTrit (f : Fmt) (rows : List (List Byte)) : Bool := rows.any (anyBadTritBytes f)

/-- A skewing transfer, at most lim lines of it: a halt code, 0 when it is whole, 64 when lim was reached (R98). TRIT comes of every
source byte read; of a transfer that an outside cause ends after lim lines, of those that the written lines hold (log 101). -/
def moveSkew (g d lim : Nat) (s : State) : Nat × State :=
  let f := fmtOr (dFmt d)
  let wc := wcOf (dWcc d)
  let nrows := if dTrn d then wc else dRows d
  let n := if dTrn d then regionBytes f (dRows d) else regionBytes f wc
  let rr := skewRows g d n (List.range nrows) s
  let w := skewWrite g d rr.1.1 (List.range (skewLines d)) lim rr.2
  let s1 := setFlags g { trit := if w.1.2.1 = 64 ∧ rr.1.2 = 0 then w.1.2.2 else anyBadTrit f rr.1.1 } w.2
  if w.1.2.1 == 0 && rr.1.2 == 0 then (0, s1)
  else
    let code := if w.1.2.1 = 11 then 11 else if rr.1.2 ≠ 0 ∧ w.1.1 < lim then rr.1.2 else 64
    (code, if w.1.1 = 0 then s1
      else (List.range (skewLines d)).foldl (fun t l => setTag g (dDst d / 32 + l) 0 t) s1)

/-- A transfer moved, at most lim bytes (lines for a skewing kind): a halt code, 0 done, 64 lim reached. A destination in the letter
region of a core that has come to run since the DMAX was taken is not written (R82). To a vault it is one write operation
(R151, R163). -/
def moveDma (g d lim : Nat) (s : State) : Nat × State :=
  if intoLetter g d s then (5, s)
  else if isSkew (dKind d) then moveSkew g d lim s
  else
    let r := moveRows g d (List.range (dRows d)) lim s
    (r.1.1, finishWrite srcChannel r.1.2 r.2)

/-- Marks free lines of a list poisoned: which reads were in flight the state does not say (R470). -/
def poisonSome (g : Nat) : List Nat → State → State
  | [], s => s
  | l :: ls, s =>
    let f := fresh s
    poisonSome g ls (if f.1 % 2 = 1 then setTag g l 0 (setPoison g l true f.2) else f.2)

/-- A transfer that the reset of the base die ends after lim bytes (lines for a skewing kind): lines filled from reads in flight arrive
poisoned, and a skewing kind sets its region PLAIN (R98, R113, R470). -/
def cutMove (g d lim : Nat) (s : State) : State :=
  let k := dKind d
  let ls := if k = 2 then (List.range (skewLines d)).map (dDst d / 32 + ·)
    else if k = 1 then (dmaDstRng d).flatMap fun r => (List.range r.2).map (r.1 + ·)
    else []
  let s2 := poisonSome g ls (moveDma g d lim s).2
  if k = 2 then ls.foldl (fun u l => setTag g l 0 u) s2 else s2

/-- Where byte n of a transfer's source lies, rows one after another; of a skewing kind, where its source's byte n lies. -/
def srcByte (d n : Nat) : Nat :=
  if isSkew (dKind d) then dSrc d + n % max 1 (skewSrcExtent d) else dSrc d + n / max 1 (dRbytes d) * dSpitch d + n % max 1 (dRbytes d)

/-- Where byte n of its destination lies. -/
def dstByte (d n : Nat) : Nat :=
  if isSkew (dKind d) then dDst d + n % max 1 (32 * skewLines d)
  else dDst d + n / max 1 (dRbytes d) * dDpitch d + n % max 1 (dRbytes d)

/-- The check bits of the SRAM line that holds byte n of a transfer have failed: the source's where the source is a scratchpad or a
pigeonhole, else the destination's; n counts on into the destination past the source's last byte. The line becomes poisoned
(R113, R198). None where neither side is SRAM there. -/
def spoilLine (g d n : Nat) (s : State) : State :=
  let k := dKind d
  let total := if isSkew k then skewSrcExtent d else dRows d * dRbytes d
  let sram := srcSpad k || srcPig k
  if sram && decide (n < total) then
    if srcPig k then setPigPoison (pigOf g (dSrc d)) (srcByte d n % 2 ^ 19 / 32) true s else setPoison g (srcByte d n / 32) true s
  else
    let m := if sram then n - total else n
    if dstVault k then s
    else if dstPig k then setPigPoison (pigOf g (dDst d)) (dstByte d m % 2 ^ 19 / 32) true s
    else setPoison (dmaDstCore g d) (dstByte d m % 2 ^ 18 / 32) true s

/-- A corrected check-bit error of a transfer is counted, at the pigeonhole it touches or at the core (R113, R198). -/
def countCorrected (g d : Nat) (s : State) : State :=
  let k := dKind d
  if srcPig k then bump .phStatCe (pigCluster (pigOf g (dSrc d))) s
  else if dstPig k then bump .phStatCe (pigCluster (pigOf g (dDst d))) s
  else bump .coreStateSpCe g s

/-- The path of a transfer: vertical channel, crossbar, mesh (R96, R101). -/
def dmaPath (g d : Nat) : Nat :=
  let k := dKind d
  if srcVault k || dstVault k then 0
  else if k == 6 then 2
  else if pigCluster (pigOf g (if srcPig k then dSrc d else dDst d)) = clusterOf g then 1 else 2

def getChan (ch : Nat) (c : Core) : Chan := c.chans.getD ch {}
def setChan (ch : Nat) (x : Chan) (c : Core) : Core := { c with chans := c.chans.set ch x }

/-- Whether a transfer must still wait: an older one on its path, or an older instruction that has yet to read a line it
writes or to write a line it reads (R85, R101). -/
def dmaHeld (g ch : Nat) (s : State) : Bool :=
  let c := getCore g s
  let x := getChan ch c
  let dst := if dmaDstCore g x.desc = g then dmaDstRng x.desc else []
  (c.chans.any fun y => y.st == .busy && decide (y.seq < x.seq) && dmaPath g y.desc == dmaPath g x.desc) ||
  ((c.drain.toList ++ c.mq).any fun m => decide (m.seq < x.seq) && anyOverlap (mReads m.word) dst) ||
  (c.vq.any fun v => decide (v.seq < x.seq) &&
    (anyOverlap (vReads v.word v.cfg) dst || anyOverlap (vWrites v) (dmaSrcRng x.desc)))

end Sys2Proof.Machine
end

