-- ==== Sys2Proof/Machine/Faults.lean ====
section
/-!
DEFINITION. Recoveries and the second fault (R477 to R479), the districts a fault touches (R478), and events for several
districts (R476).
-/

namespace Sys2Proof.Machine

def setFaults (f : FaultSide) (s : State) : State := { s with faults := f }
def setNet (n : NetSide) (s : State) : State := { s with net := n }

/-- DIST.CFG.STATE codes (R222). -/
def distStActive : Nat := 1

/-- Districts with a cluster on a site. -/
def districtsOnSite (site : Nat) (s : State) : List Nat :=
  ((List.range 32).filterMap fun k => clusterDistrict (32 * site + k) s).dedup

/-- Districts that hold a page in a vault (R478). -/
def districtsInVault (v : Nat) (s : State) : List Nat :=
  ((s.pages.filter fun p => p.1 / 768 == v).filterMap fun p =>
    match p.2.owner with
    | .district d => some d
    | .tables d => some d
    | _ => none).dedup

/-- The districts touched by a channel fault, a lane or edge fault, and a site loss or base-die reset (R478). -/
def touchedByChannel (g : Nat) (s : State) : List Nat :=
  ((coreDistrict g s).toList ++ districtsInVault g s).dedup

def touchedByEdge (a b : Nat) (s : State) : List Nat := (districtsOnSite a s ++ districtsOnSite b s).dedup

/-- A repair as detected. -/
def mkRepair (kind site unit detail : Nat) (ds : List Nat) : Repair :=
  { kind := kind, site := site, unit := unit, detail := detail, districts := ds }

/-- Shows the running recovery in FLTDEV. -/
def showRecovery (s : State) : State :=
  let s1 := wr .fltdevStatusDeferred 0 (natBool (!s.faults.deferred.isEmpty)) s
  match s.faults.running with
  | none => wr .fltdevStatusRecovering 0 0 (wr .fltdevStatusRkind 0 0 (wr .fltdevStatusRsite 0 0 s1))
  | some r => wr .fltdevStatusRecovering 0 1 (wr .fltdevStatusRkind 0 r.kind (wr .fltdevStatusRsite 0 (r.site % 64) s1))

/-- A recovery starts (R477). -/
def startRecovery (r : Repair) (s : State) : State :=
  let s1 := bump .fltdevCountRecoveries 0 (setFaults { s.faults with running := some r } s)
  showRecovery (wr .fltdevRecovUnit 0 r.unit (wr .fltdevRecovRound 0 (roundNow s) s1))

/-- A fault of a unit or a site is detected: its recovery starts (true), or, while another runs, every district either
touches is quarantined and the repair is deferred (R479). -/
def detect (r : Repair) (s : State) : Bool × State :=
  match s.faults.running with
  | none => (true, startRecovery r s)
  | some q =>
    let ds := ((q.districts.filter fun d => !q.failed.contains d) ++ r.districts.filter fun d => !q.districts.contains d).filter
      fun d => rd .distCfgState d s == 1 || rd .distCfgState d s == 2
    let esc := !ds.isEmpty
    let s1 := ds.foldl (fun u d => addDue (.districtFail d 35 true) u) s
    let s2 := if esc then bump .fltdevCountEscalations 0 s1 else s1
    (false, showRecovery (setFaults { s2.faults with
      running := some { q with escalated := q.escalated || esc },
      deferred := s2.faults.deferred ++ [{ r with deferred := true, escalated := esc }] } s2))

/-- The running recovery, when it is of a kind on a site and unit. -/
def runs (kind site unit : Nat) (s : State) : Bool :=
  match s.faults.running with
  | some r => r.kind == kind && r.site == site && r.unit == unit
  | none => false

/-- Districts that the running recovery has failed. -/
def noteFailed (ds : List Nat) (s : State) : State :=
  match s.faults.running with
  | some r => setFaults { s.faults with running := some { r with failed := r.failed ++ ds } } s
  | none => s

/-- The FAULT record of the running recovery and its event (R474 to R477). -/
def logRecovery (cls event outcome : Nat) (s : State) : State :=
  match s.faults.running with
  | none => s
  | some r =>
    let rec_ : LogRec := { faultRec cls event (if r.site < 64 then r.site else 255) r.unit r.detail outcome with
      recovery := rd .fltdevCountRecoveries 0 s, deferred := r.deferred, escalated := r.escalated, districts := r.districts }
    let s1 := addLog rec_ s
    if event = 0 then s1 else events event r.districts (r.site % 64) s1

/-- A failover is serialised with the other recoveries and fails no district (R350). -/
def serialise (r : Repair) (s : State) : Bool × State :=
  match s.faults.running with
  | none => (true, startRecovery r s)
  | some _ => (false, showRecovery (setFaults { s.faults with deferred := s.faults.deferred ++ [{ r with deferred := true }] } s))

/-- The running recovery ends: RECOVERY_DONE (R477). -/
def finishRecovery (s : State) : State :=
  match s.faults.running with
  | none => s
  | some r => showRecovery (events 0x0041 r.districts (r.site % 64) (setFaults { s.faults with running := none } s))

def endRecovery (cls event outcome : Nat) (s : State) : State := finishRecovery (logRecovery cls event outcome s)

end Sys2Proof.Machine
end

