-- ==== Sys2Proof/Machine/Network.lean ====
section
/-!
DEFINITION. The wafer network (chapter 08): lanes and edges (R211, R212), route changes (R215), what becomes of a discarded packet
(R216), and fabric packets on their way to a port node (R204).
-/

namespace Sys2Proof.Machine

/-! Signals and releases that a route change discards (R216). -/

def signalSite (x : Signal) : Nat := if x.src < 131072 then siteOf x.src else (x.src - 131072) / 32

/-- The steps of the districts at both ends of a lost signal fail. -/
def signalLoss (x : Signal) (s : State) : State :=
  let ds := ((if x.src < 131072 then (coreDistrict x.src s).toList else []) ++ (coreDistrict x.dst s).toList).dedup
  ds.foldl (fun u d => addDue (.stepFail d) u) s

/-- A signal is offered to the network: one to a site that no route reaches is discarded at its source (R216). -/
def sendSignal (g t sem val : Nat) (s : State) : State :=
  let x : Signal := ⟨g, t, sem, val, true⟩
  let a := signalSite x
  if unreachable a (siteOf t) s then signalLoss x (flag .netStatusUnreach a s)
  else { s with cores := { s.cores with signals := s.cores.signals ++ [{ x with sent := pathOpen a (siteOf t) s }] } }

/-- Signals under way that are discarded; UNREACH is set at their source (R216, R217; log 106). -/
def dropSignals (bad : Signal → Bool) (s : State) : State :=
  let lost := s.cores.signals.filter bad
  lost.foldl (fun u x => signalLoss x (flag .netStatusUnreach (signalSite x) u))
    { s with cores := { s.cores with signals := s.cores.signals.filter fun x => !bad x } }

/-- Releases of barriers and of steps under way, with whether each has left the district's home site, that are discarded (R200, R216). -/
def dropReleases (bad : Bool → Nat → Nat → Bool) (s : State) : State :=
  s.cores.cores.foldl
    (fun u p =>
      match coreDistrict p.1 s with
      | some d =>
        let home := rd .distCfgHome d s
        let bar := p.2.releasing && bad p.2.relSent home (siteOf p.1)
        let step := p.2.rel && bad p.2.stepSent home (siteOf p.1)
        if bar || step then
          addDue (.stepFail d) (flag .netStatusUnreach home
            (updCore p.1 (fun c => { c with releasing := c.releasing && !bar, rel := c.rel && !step }) u))
        else u
      | none => u) s

/-- The far site of a transfer between sites. -/
def farSite (x : Chan) : Nat := x.desc / 2 ^ 80 % 2 ^ 48 / 2 ^ 29

/-- Transfers between sites, with whether their packets have left the source, whose packets are discarded: they will not be
acknowledged (R216). -/
def loseTransfers (bad : Bool → Nat → Nat → Bool) (s : State) : State :=
  s.cores.cores.foldl
    (fun u p =>
      let hit (x : Chan) : Bool := x.st == .busy && x.desc % 16 == 6 && bad x.sent (siteOf p.1) (farSite x)
      let cut (x : Chan) : Chan := if hit x then { x with lost := true } else x
      if p.2.chans.any hit then flag .netStatusUnreach (siteOf p.1) (updCore p.1 (fun c => { c with chans := c.chans.map cut }) u)
      else u) s

/-! Fabric packets between a site and a port node (R204, R216, R326). -/

/-- A NOLUC port that carries traffic (R323, R355). -/
def portUp (p : Nat) (s : State) : Bool := 2 ≤ rd .nolucpPortState p s && rd .nolucpPortMode p s == 1

/-- A NOLUC port that takes packets: one that is up, or that trains and holds them until it is up (R323). -/
def portTakes (p : Nat) (s : State) : Bool := rd .nolucpPortState p s != 0 && rd .nolucpPortMode p s == 1

/-- The ports of a list whose port node a site reaches; neither its primary nor its alternate site may be out (R204, R213). -/
def portsFrom (a : Nat) (ps : List Nat) (s : State) : List Nat :=
  ps.filter fun p => !s.net.out.contains (fabricPortSite p s) && !unreachable a (fabricPortSite p s) s

/-- What a site sends out over a port: discarded at its source where it reaches the port's node by no route (R216), held there while a
route change or the port's retraining lasts (R215, R323). -/
def launch (a p : Nat) (e : Emission) (s : State) : State :=
  let b := fabricPortSite p s
  if s.net.out.contains b || unreachable a b s then flag .netStatusUnreach a s
  else if pathHeld a b s || rd .nolucpPortState p s == 1 then { s with fab := { s.fab with packets := s.fab.packets ++ [(a, p, e)] } }
  else emit e s

/-- The packets that wait are tried again in order: one whose port is down is discarded and counted (R215, R323, R326). -/
def relaunch (s : State) : State :=
  s.fab.packets.foldl
    (fun u x => if rd .nolucpPortState x.2.1 u = 0 then bump .nolucStatusUnrouted 0 u else launch x.1 x.2.1 x.2.2 u)
    { s with fab := { s.fab with packets := [] } }

/-- The class of a kind of packet (R325, R327, R344). -/
def kindClass : FabKind → Nat
  | .circBlock | .query | .partialState | .ringAck => 1
  | .submitCopy | .stepCopy | .sealCopy | .freezeCopy | .resync | .copyAck => 2
  | _ => 0

/-- The packets that carry a body: pieces of at most 4,096 bytes (R325). -/
def pieces4k (body : List Byte) : List (List Byte) :=
  (List.range (max 1 (ceilDiv body.length 4096))).map fun i => (body.drop (4096 * i)).take 4096

/-- One packet under the next sequence number of its flow. -/
def sendPiece (a p dst : Nat) (k : FabKind) (s : State) (bs : List Byte) : State :=
  let f := 4 * dst + kindClass k
  let n := tget (fun _ => 0) s.fab.flows f
  launch a p (.fabric p dst (rd .nolucStatusFid 0 s) (kindClass k) n k bs)
    { s with fab := { s.fab with flows := tset (fun _ => 0) s.fab.flows f (n + 1) } }

/-- The port of a list that a packet takes, by a hash of its source and destination (R326). -/
def pickPort (src dst : Nat) (ps : List Nat) : Nat := ps.getD (Config.routeHash src dst % max 1 ps.length) 0

/-- A body for another device that a site offers to the ports of a list that take packets: where it reaches none of their nodes it is
discarded at its source (R216). -/
def offer (a : Nat) (ps : List Nat) (dst : Nat) (k : FabKind) (body : List Byte) (s : State) : State :=
  let qs := portsFrom a ps s
  if ps = [] then s
  else if qs = [] then flag .netStatusUnreach a s
  else (pieces4k body).foldl (sendPiece a (pickPort (rd .nolucStatusFid 0 s) dst qs) dst k) s

/-- The ports of the twin's links (R342). -/
def twinPorts : List Nat := [0, 8, 16, 24]

/-- No twin port is up or retraining. -/
def twinCut (s : State) : Bool := twinPorts.all fun p => rd .nolucpPortState p s == 0

/-- A packet to the twin from a site, over a twin port (R320, R325). -/
def sendTwin (a : Nat) (k : FabKind) (body : List Byte) (s : State) : State :=
  offer a (twinPorts.filter fun p => portTakes p s) (rd .twinCfgPeer 0 s) k body s

/-! Route changes (R215). -/

def sitesLost (s : State) : List Nat := (List.range 64).filter fun x => bit .brsiteStatusLost x s

/-- A route change starts; one already running starts its drain again. -/
def startRoute (s : State) : State :=
  (List.range 64).foldl (fun u x => wr .netStatusRouting x 1 u) (setNet { s.net with phase := 1 } s)

/-- 20 us: what remains inside a lost site's router and what is bound to a lost site is discarded. A packet that has left its source
for a route through the lost router and has not arrived is inside it. -/
def drainExpired (s : State) : State :=
  if s.net.phase ≠ 1 then s
  else
    let lost := sitesLost s
    let held (sent : Bool) (a b : Nat) : Bool := a != b && (lost.contains b || lost.contains a || (sent &&
      match routeIn s.net.out s.net.down a b with
      | some p => p.any fun x => lost.contains x
      | none => false))
    let s1 := loseTransfers held (dropReleases held (dropSignals (fun x => held x.sent (signalSite x) (siteOf x.dst)) s))
    setNet { s1.net with phase := 2 } { s1 with fab := { s1.fab with packets := s1.fab.packets.filter fun x => !lost.contains x.1 } }

/-- Ordered pairs of sites in the mesh that no route joins. -/
def unreachablePairs (s : State) : Nat :=
  ((List.range 64).map fun a => ((List.range 64).filter fun b => unreachable a b s).length).sum

/-- Held packets leave their source (R215). -/
def markSent (s : State) : State :=
  (s.cores.cores.map (·.1)).foldl
    (fun u g => updCore g (fun c => { c with relSent := true, stepSent := true, chans := c.chans.map fun x => { x with sent := true } }) u)
    { s with cores := { s.cores with signals := s.cores.signals.map fun x => { x with sent := true } } }

/-- The new routes are loaded: packets of unreachable pairs are discarded, the others go on; the note names the sites and edges that
have left the route set (R215, R216). -/
def routesLoaded (s : State) : State :=
  let s1 := setNet { s.net with phase := 0, out := outNow s, down := downNow s } s
  let s2 := dropSignals (fun x => unreachable (signalSite x) (siteOf x.dst) s1) s1
  let s3 := markSent (loseTransfers (fun _ a b => unreachable a b s1) (dropReleases (fun _ a b => unreachable a b s1) s2))
  let s4 := (List.range 64).foldl
    (fun u x => wr .netStatusRouting x 0 (wr .netStatusEpoch x (rd .netStatusEpoch x u + 1) u)) (relaunch s3)
  addLog { kind := 3, rseq := 0, ptp := 0, round := 0, cls := 3, detail := unreachablePairs s1,
           extra := (outNow s).filter (fun x => !s.net.out.contains x) ++ (downNow s).filter fun e => !s.net.down.contains e } s4

/-! Lanes and edges (R212). -/

def edgeExists (e : Nat) : Bool :=
  match e % 4 with
  | 0 => e / 4 % 8 != 7
  | 1 => e / 4 / 8 != 7
  | 2 => e / 4 % 8 != 0
  | _ => e / 4 / 8 != 0

/-- An edge goes down in both directions (R212). -/
def markDown (e : Nat) (s : State) : State :=
  let s1 := wr .netEdgeState e 3 (wr .netEdgeState (otherEnd e) 3 s)
  setNet { s1.net with subs := s1.net.subs.filter fun x => x.1 != e && x.1 != otherEnd e } s1

/-- The recovery of an edge that is down starts: its record and event, and the route change (R215). -/
def startEdge (s : State) : State := startRoute (logRecovery 3 0x0023 0 s)

/-- An edge goes down and leaves the route set; a recovery of its lanes becomes that of the edge. -/
def edgeDown (e : Nat) (s : State) : State :=
  let s2 := markDown e s
  let rep := mkRepair 4 (e / 4) (e % 4) 0 (touchedByEdge (e / 4) (otherEnd e / 4) s2)
  match s2.faults.running with
  | some q =>
    if q.kind = 3 ∧ q.site = e / 4 ∧ q.unit = e % 4 then
      startEdge (showRecovery (setFaults { s2.faults with running := some { rep with escalated := q.escalated, deferred := q.deferred } } s2))
    else (detect rep s2).2
  | none => startEdge (detect rep s2).2

/-- Lanes of an edge that have failed and whose repair is deferred (R212, R479). -/
def waitingLanes (e : Nat) (s : State) : Nat :=
  (s.faults.deferred.filter fun r => r.kind == 3 && r.site == e / 4 && r.unit == e % 4).length

/-- Spare lanes of an edge neither taken, nor being taken, nor bad since bring-up (R212, R460). -/
def freeSpares (e : Nat) (s : State) : Nat :=
  2 - (rd .netEdgeSpares e s + (s.net.subs.filter fun x => x.1 == e && x.2.2).length + (s.net.badSpares.filter (· == e)).length)

/-- The edge has a spare lane left. -/
def spareLeft (e : Nat) (s : State) : Bool := decide (0 < freeSpares e s)

/-- What a lane's substitution or rehash sets going at once (R212). -/
def startLane (e lane : Nat) (s : State) : State :=
  let spare := spareLeft e s
  let s1 := setNet { s.net with subs := s.net.subs ++ [(e, lane, spare)] } s
  wr .netEdgeState e 1 (if spare then s1 else wr .netEdgeActive e (rd .netEdgeActive e s1 - 1) s1)

/-- The loss of one more lane leaves the edge fewer than 16, those counted whose repair is deferred (R212). -/
def lastLane (e : Nat) (s : State) : Bool := decide (rd .netEdgeActive e s + freeSpares e s ≤ 16 + waitingLanes e s)

/-- A deferred lane repair starts: what is left of the edge decides, as when a lane fails; an edge that has gone down meanwhile needs
no repair of a lane (R212, R479). -/
def startDeferredLane (e lane : Nat) (s : State) : State :=
  if rd .netEdgeState e s = 3 then finishRecovery s
  else if lastLane e s then edgeDown e (wr .netEdgeActive e (rd .netEdgeActive e s - 1) s)
  else startLane e lane s

/-- A lane fails: more than 16 replays in 1 ms, or its training (R212, R479: new flits stop at once). -/
def laneFails (e lane : Nat) (s : State) : State :=
  if !edgeExists e || rd .netEdgeState e s == 3 || bit .netStatusOut (e / 4) s then s
  else
    if lastLane e s then edgeDown e (wr .netEdgeActive e (rd .netEdgeActive e s - 1) s)
    else
      let rep : Repair := mkRepair 3 (e / 4) (e % 4) lane (touchedByEdge (e / 4) (otherEnd e / 4) s)
      let r := detect rep s
      if r.1 then startLane e lane r.2 else wr .netEdgeState e 1 r.2

/-- The substitution or rehash of an edge is done (R212). -/
def laneDone (e : Nat) (s : State) : State :=
  match s.net.subs.find? fun x => x.1 == e with
  | none => s
  | some x =>
    let s1 := setNet { s.net with subs := s.net.subs.erase x } s
    let s2 := if x.2.2 then wr .netEdgeSpares e (rd .netEdgeSpares e s1 + 1) s1 else s1
    let more := s2.net.subs.any fun y => y.1 == e
    let s3 := wr .netEdgeState e (if more then 1 else if rd .netEdgeActive e s2 < 32 then 2 else 0) s2
    if runs 3 (e / 4) (e % 4) s3 then endRecovery 3 0x0022 0 (bump .fltdevCountRepairs 0 s3) else s3

/-- A flit of an edge is replayed; one of a mesh link or a vertical via is not counted (R211). -/
def replayIw (e : Nat) (s : State) : State := if edgeExists e then bump .netEdgeReplay e s else s

/-- A site router fails by itself: the packets inside it, of those that have left their source, are lost at once (R215); inside are those of
every pair that is routed through it (log 126). -/
def routerFails (site : Nat) (s : State) : State :=
  if (outNow s).contains site then s
  else
    let through (sent : Bool) (a b : Nat) : Bool := sent && a != b &&
      match routeIn s.net.out s.net.down a b with
      | some p => p.contains site
      | none => false
    let s1 := loseTransfers through <| dropReleases through (dropSignals (fun x => through x.sent (signalSite x) (siteOf x.dst)) s)
    startRoute (wr .netStatusOut site 1 (setNet { s1.net with dead := s1.net.dead ++ [site] } s1))

end Sys2Proof.Machine
end

