-- ==== Sys2Proof/Machine/Control.lean ====
section
/-!
DEFINITION. Letters (chapter 04): fetch and issue, the control and movement instructions, DMA completion and halts, signals,
barriers, releases, GO and STOP. Each instruction and each event of a core has its meaning here.
-/

namespace Sys2Proof.Machine

/-! Fetch and issue (R84, R106). -/

/-- Where issue goes on after the instruction at pc, and the loops then active (R106). -/
def loopNext (pc : Nat) : List LoopFrame → Nat × List LoopFrame
  | [] => (pc + 1, [])
  | f :: fs =>
    if f.last = pc then (if f.left = 0 then loopNext pc fs else (f.first, { f with left := f.left - 1 } :: fs))
    else (pc + 1, f :: fs)

/-- The instruction at PC has issued: PC and loops go on, nothing waits. -/
def advanceFrom (pc : Nat) (c : Core) : Core :=
  let n := loopNext pc c.loops
  { c with pc := n.1, loops := n.2, wait := none, seq := c.seq + 1, st := .running }

def advance (g : Nat) (s : State) : State := updCore g (fun c => advanceFrom c.pc c) s

/-- The instruction waits at issue in a state of R115. -/
def waitIn (g w : Nat) (st : CoreSt) (s : State) : State := updCore g (fun c => { c with st := st, wait := some w }) s

/-- A precise trap of the instruction at PC (R111). -/
def trapNow (g cls cause line ch w : Nat) (s : State) : State :=
  trap g cls cause (getCore g s).pc (getCore g s).pc line ch w s

/-- The issue of a matrix instruction (R76, R79, R84). -/
def issueMatrix (g w : Nat) (s : State) : State :=
  match mCheck g w s with
  | some (cls, cause, line) => trapNow g cls cause line 0 w s
  | none =>
    let c := getCore g s
    if 4 ≤ c.mq.length then waitIn g w .running s
    else
      runUnits g unitFuel
        (setCore g (advanceFrom c.pc { c with mq := c.mq ++ [⟨w, c.pc, c.seq, c.vcfg⟩] }) s)

/-- VCFG at issue (R86, R89, R90): class 1 cause, 0 for none. A scale line of a side that carries no scales is an unused field. -/
def vcfgCause (w : Nat) : Nat :=
  let c := vcfgOf w
  if bits w 28 7 ≠ 0 ∨ bits w 26 2 ≠ 0 ∨ c.rnd = 3 ∨ (!c.sea ∧ c.sabase ≠ 0) ∨ (!c.sed ∧ c.sdbase ≠ 0) then 1
  else if c.sea || c.sed then (if (sfmtOfCode c.sf).isNone then 2 else 0)
  else if c.sf ≠ 0 then 1 else 0

def issueVcfg (g w : Nat) (s : State) : State :=
  if vcfgCause w ≠ 0 then trapNow g 1 (vcfgCause w) 0 0 w s
  else updCore g (fun c => { advanceFrom c.pc c with vcfg := vcfgOf w }) s

/-- The issue of a vector instruction of the common layout (R84, R91, R134). -/
def issueVector (g w : Nat) (s : State) : State :=
  let c := getCore g s
  match vCheck g w c.vcfg s with
  | some (cls, cause, line) => trapNow g cls cause line 0 w s
  | none =>
    if vCount w = 0 then advance g s
    else if 4 ≤ c.vq.length then waitIn g w .running s
    else
      runUnits g unitFuel
        (setCore g (advanceFrom c.pc { c with vq := c.vq ++ [⟨w, c.pc, c.seq, c.vcfg⟩] }) s)

/-! What an X instruction waits for. -/

def chansIn (mask : Nat) : List Nat := (List.range 8).filter fun j => mask.testBit j
/-- The lowest HALTED channel of a mask: the one CORE.TRAP.CH names where several are HALTED (log 70). -/
def haltedIn (mask : Nat) (c : Core) : Option Nat := (chansIn mask).find? fun j => (getChan j c).st == .halted
def busyIn (mask : Nat) (c : Core) : Bool := (chansIn mask).any fun j => (getChan j c).st == .busy

/-- The DMA-halt trap of a channel (R111). -/
def haltTrap (g ch w : Nat) (s : State) : State := trapNow g 5 (getChan ch (getCore g s)).code 0 ch w s

/-- Matrix and vector instructions that have not retired. -/
def unitsBusy (c : Core) : Bool := c.drain.isSome || !c.mq.isEmpty || !c.vq.isEmpty

/-- VAPND data of the core that the KV manager has not written (R104, R108): in its queue, or still in the core's own. -/
def apndOpen (g : Nat) (s : State) : Bool :=
  ((getKv (siteOf g) s).queue.any fun a => a.core == g) || (getCore g s).vq.any fun v => vOp v.word == 0xB2

/-- An older vector instruction still has to write the line (R85). -/
def lineUnwritten (line : Nat) (c : Core) : Bool := c.vq.any fun v => anyOverlap (vWrites v) [(line, 1)]
def lineUnread (line : Nat) (c : Core) : Bool :=
  (c.drain.toList ++ c.mq).any (fun m => anyOverlap (mReads m.word) [(line, 1)]) ||
  c.vq.any fun v => anyOverlap (vReads v.word v.cfg) [(line, 1)]

def reservedTrap (g w : Nat) (s : State) : State := trapNow g 1 1 0 0 w s

/-! X instructions (R93 to R110). -/

def xNop (g w : Nat) (s : State) : State := if bits w 0 56 ≠ 0 then reservedTrap g w s else advance g s

def xHalt (g w : Nat) (s : State) : State :=
  let c := getCore g s
  if bits w 0 40 ≠ 0 then reservedTrap g w s
  else if unitsBusy c || busyIn 255 c || apndOpen g s then waitIn g w (if busyIn 255 c then .dmaWait else .running) s
  else
    barrierChecks g (updCore g (fun c => { advanceFrom c.pc c with st := .halted, reported := true })
      (wr .coreStateHaltCode g (bits w 40 16) s))

/-- The address a descriptor's far side advances to (R99). -/
def advancedDesc (d : Nat) : Nat :=
  let st : Int := toSigned 32 (dStep d)
  if farIsDst (dKind d) then
    d - dDst d * 2 ^ 80 + (((dDst d : Int) + st) % 2 ^ 48).toNat * 2 ^ 80
  else d - dSrc d * 2 ^ 32 + (((dSrc d : Int) + st) % 2 ^ 48).toNat * 2 ^ 32

/-- A channel accepts its descriptor, or halts before any data (R94, R99, R100). The write-back of ADV = 1 into the core's own letter
region is not made, no unit writing it while the core runs (R82); neither a halt nor a trap is named for it (log 101). -/
def startDma (g ch line : Nat) (s : State) : State :=
  let d := spLine g line s
  let code := dmaCheck g d s
  let c := getCore g s
  let far := siteOf (dmaDstCore g d)
  let away := decide (code = 0) && dKind d == 6 && siteOf g != far
  let x : Chan := if code = 0 then { st := .busy, desc := d, seq := c.seq, sent := !away || pathOpen (siteOf g) far s }
    else { st := .halted, code := code, desc := d, seq := c.seq }
  let s1 := flagIf (away && unreachable (siteOf g) far s) .netStatusUnreach (siteOf g) (setCore g (setChan ch x c) s)
  if code = 0 ∧ dAdv d ∧ anyOverlap [(line, 1)] [letterRng g s] = false then spWrite g (32 * line) 0 (natLe 32 (advancedDesc d)) s1 else s1

def xDmax (g w : Nat) (s : State) : State :=
  let c := getCore g s
  let ch := bits w 53 3
  let line := bits w 40 13
  if bits w 0 40 ≠ 0 then reservedTrap g w s
  else
    match (getChan ch c).st with
    | .busy => waitIn g w .dmaWait s
    | .halted => haltTrap g ch w s
    | .idle =>
      if lineUnwritten line c then waitIn g w .running s
      else if linePoison g line s then trapNow g 4 3 line ch w s
      else if dAdv (spLine g line s) && lineUnread line c then waitIn g w .running s
      else advance g (startDma g ch line s)

def xDwait (g w : Nat) (s : State) : State :=
  let c := getCore g s
  let m := bits w 48 8
  if bits w 0 48 ≠ 0 then reservedTrap g w s
  else if busyIn m c then waitIn g w .dmaWait s
  else
    match haltedIn m c with
    | some ch => haltTrap g ch w s
    | none => advance g s

/-- SIG (R103). While it waits for the channels of its FENCE mask the core shows DMA_WAIT (log 70). -/
def xSig (g w : Nat) (s : State) : State :=
  let c := getCore g s
  let t := bits w 39 17
  let m := bits w 11 8
  if bits w 0 11 ≠ 0 then reservedTrap g w s
  else if (coreDistrict g s).isNone || coreDistrict t s != coreDistrict g s || !usable t s then trapNow g 1 0x0A 0 0 w s
  else
    match haltedIn m c with
    | some ch => haltTrap g ch w s
    | none =>
      if busyIn m c then waitIn g w .dmaWait s
      else advance g (sendSignal g t (bits w 35 4) (bits w 19 16) s)

def xSwait (g w : Nat) (s : State) : State :=
  let i := 16 * g + bits w 52 4
  let v := bits w 36 16
  if bits w 0 36 ≠ 0 then reservedTrap g w s
  else if v ≤ rd .coreSemValue i s then advance g (wr .coreSemValue i (rd .coreSemValue i s - v) s)
  else waitIn g w .semWait s

/-- BAR (R104). While it waits for transfers or VAPND data the core shows BARRIER_WAIT (log 70). -/
def xBar (g w : Nat) (s : State) : State :=
  let c := getCore g s
  if bits w 0 54 ≠ 0 then reservedTrap g w s
  else if c.arrived.isSome then waitIn g w .barrierWait s
  else
    match haltedIn 255 c with
    | some ch => haltTrap g ch w s
    | none =>
      if busyIn 255 c || apndOpen g s then waitIn g w .barrierWait s
      else barrierChecks g (updCore g (fun c => { c with arrived := some (bits w 54 2), st := .barrierWait, wait := some w }) s)

/-- The checks a hardware loop makes of its body (R106). -/
def badLoop (g body : Nat) (s : State) : Bool :=
  let c := getCore g s
  body == 0 || 4 * rd .coreLetterLlen g s ≤ c.pc + body || 4 ≤ c.loops.length ||
  (match c.loops with | f :: _ => decide (f.last < c.pc + body) | [] => false)

/-- Starts a loop, or skips its body (R106). -/
def startLoop (g count body : Nat) (s : State) : State :=
  updCore g (fun c =>
    if count = 0 then advanceFrom (c.pc + body) c
    else { c with loops := ⟨c.pc + 1, c.pc + body, count - 1⟩ :: c.loops, pc := c.pc + 1, wait := none, seq := c.seq + 1,
                  st := .running }) s

def xLoop (g w : Nat) (s : State) : State :=
  if bits w 0 28 ≠ 0 then reservedTrap g w s
  else if badLoop g (bits w 28 13) s then trapNow g 1 8 0 0 w s
  else startLoop g (bits w 41 15) (bits w 28 13) s

/-- Word k of a line (R106, R107). -/
def spWord (g line k : Nat) (s : State) : Nat := leNat (spRead g (32 * line + 4 * k) 4 s)

def xLoopi (g w : Nat) (s : State) : State :=
  let line := bits w 43 13
  if bits w 0 27 ≠ 0 then reservedTrap g w s
  else if badLoop g (bits w 27 13) s then trapNow g 1 8 0 0 w s
  else if lineUnwritten line (getCore g s) then waitIn g w .running s
  else if linePoison g line s then trapNow g 4 3 line 0 w s
  else
    let n := spWord g line (bits w 40 3) s
    if 32767 < n then trapNow g 1 6 0 0 w s else startLoop g n (bits w 27 13) s

/-- A taken branch (R107): loops whose body does not hold the target end. -/
def branchTo (g t : Nat) (s : State) : State :=
  updCore g (fun c =>
    { c with pc := t, loops := c.loops.dropWhile (fun f => !(f.first ≤ t && t ≤ f.last)), wait := none, seq := c.seq + 1,
             st := .running }) s

def xBr (g w : Nat) (s : State) : State :=
  let cond := bits w 54 2
  let line := bits w 41 13
  let k := bits w 38 3
  let t := bits w 25 13
  if bits w 0 25 ≠ 0 ∨ cond = 3 ∨ (cond = 0 ∧ (line ≠ 0 ∨ k ≠ 0)) then reservedTrap g w s
  else if 4 * rd .coreLetterLlen g s ≤ t then trapNow g 1 9 0 0 w s
  else if cond = 0 then branchTo g t s
  else if lineUnwritten line (getCore g s) then waitIn g w .running s
  else if linePoison g line s then trapNow g 4 3 line 0 w s
  else if (spWord g line k s == 0) == (cond == 1) then branchTo g t s
  else advance g s

def xNotice (g w : Nat) (s : State) : State :=
  let lead := bits w 36 20
  if bits w 0 15 ≠ 0 ∨ lead = 0 then reservedTrap g w s
  else
    let k := clusterOf g
    let n : Notice := ⟨k, bits w 32 4, lead * 1000 / max 1 (rd .pwrclSetpMhz k s), bits w 16 16, s.now, false⟩
    advance g { s with notices := s.notices ++ [n] }

/-- The offset of an RWAIT has been reached (R109). -/
def offsetReached (g off : Nat) (s : State) : Bool :=
  match coreDistrict g s with
  | some d => off ≤ s.now - (getDistrict d s).stepStart
  | none => false

/-- RWAIT (R109). The first one with NEXT = 1 after GO reports no part, however often it is tried again: the core stays fresh until it
takes its release. While NEXT = 1 waits for the units the core shows ROUND_WAIT (log 70). -/
def xRwait (g w : Nat) (s : State) : State :=
  let c := getCore g s
  let off := bits w 32 24
  if bits w 0 31 ≠ 0 then reservedTrap g w s
  else if bits w 31 1 = 0 then (if offsetReached g off s then advance g s else waitIn g w .roundWait s)
  else
    match haltedIn 255 c with
    | some ch => haltTrap g ch w s
    | none =>
      if unitsBusy c || busyIn 255 c || apndOpen g s then waitIn g w .roundWait s
      else if c.took then
        (if offsetReached g off s then advance g (updCore g (fun c => { c with took := false }) s)
         else waitIn g w .roundWait s)
      else if c.held then
        let s1 := updCore g (fun c => { c with held := false, fresh := false, reported := false, took := true }) s
        if offsetReached g off s1 then advance g (updCore g (fun c => { c with took := false }) s1)
        else waitIn g w .roundWait s1
      else
        updCore g (fun c => { c with reported := c.reported || !c.fresh, st := .roundWait, wait := some w }) s

/-- Whether an opcode of the classes M and V is listed (R86, R87, R92). -/
def listedOp (op : Nat) : Bool :=
  (0x40 ≤ op && op ≤ 0x44) || (0x81 ≤ op && op ≤ 0x8A) || vIsSpecial op || vIsReduce op || vHasState op ||
    op == 0xB0 || op == 0xB1 || op == 0xB2

/-- One instruction word at issue, by its opcode; an unlisted one is illegal (R86). -/
def issueWord (g w : Nat) (s : State) : State :=
  match bits w 56 8 with
  | 0x00 => xNop g w s
  | 0x01 => xHalt g w s
  | 0x02 => xDmax g w s
  | 0x03 => xDwait g w s
  | 0x04 => xSig g w s
  | 0x05 => xSwait g w s
  | 0x06 => xBar g w s
  | 0x07 => xLoop g w s
  | 0x08 => xLoopi g w s
  | 0x09 => xBr g w s
  | 0x0A => xNotice g w s
  | 0x0B => xRwait g w s
  | 0x80 => issueVcfg g w s
  | op =>
    if !listedOp op then reservedTrap g w s
    else if op < 0x80 then issueMatrix g w s else issueVector g w s

/-- Whether the instruction that waits at issue is to be tried again: nothing but its own release ends a barrier wait
already arrived at. -/
def retry (g : Nat) (s : State) : Option Nat :=
  if goState (getCore g s).st || stalled g s then none else (getCore g s).wait

/-- Tries the waiting instruction of a core again, after its units have moved (R84, R94, R102, R108, R109). -/
def wake (g : Nat) (s : State) : State :=
  let s1 := if stalled g s then s else runUnits g unitFuel s
  match retry g s1 with
  | some w => issueWord g w (updCore g (fun c => { c with st := .running, wait := none }) s1)
  | none => s1

/-- Tries the waiting instructions of a site's cores again, appends having left its KV queue (R104, R109, R132). -/
def wakeSite (site : Nat) (s : State) : State :=
  ((s.cores.cores.map (·.1)).filter fun g => siteOf g == site).foldl (fun u g => wake g u) s

/-- A core's next instruction is issued: nothing happens unless the core is RUNNING and ready; a fetch past the letter and
a poisoned letter line trap (R84, R108, R111, R113). The word is the command's own (log 1). -/
def issue (f : Nat → Nat → State → State) (g w : Nat) (s : State) : State :=
  let c := getCore g s
  let line := rd .coreLetterLbase g s + c.pc / 4
  if c.st ≠ .running ∨ c.wait ≠ none ∨ stalled g s then s
  else if 4 * rd .coreLetterLlen g s ≤ c.pc then trapNow g 2 3 line 0 w s
  else if linePoison g line s then trapNow g 4 1 line 0 w s
  else wake g (f g w s)

/-- The instruction word of an opcode and the low 56 bits. -/
def wordOf (op : Nat) (w : BitVec 56) : Nat := op * 2 ^ 56 + w.toNat

/-! GO, STOP and the start of a core (R81, R114). -/

def letterOk (g : Nat) (s : State) : Bool :=
  let l := rd .coreLetterLlen g s
  1 ≤ l && l ≤ 2048 && rd .coreLetterLbase g s + l ≤ 8192 && rd .coreLetterSdbase g s ≤ 8184

/-- What GO does once no channel is BUSY (R114). -/
def startCore (g : Nat) (s : State) : State :=
  let s1 := wr .coreTrapClass g 0 (wr .coreTrapCause g 0 (wr .coreTrapPc g 0 (wr .coreTrapNextPc g 0
    (wr .coreTrapLine g 0 (wr .coreTrapCh g 0 s)))))
  let s2 := (List.range 16).foldl (fun t j => wr .coreSemValue (16 * g + j) 0 t) s1
  updCore g (fun c =>
    { c with st := .running, pc := rd .coreLetterEntry g s, loops := [], vcfg := {}, wait := none, held := false, took := false,
             fresh := true, reported := false, arrived := none, releasing := false, goWait := false,
             chans := c.chans.map fun h => if h.st = .halted then { h with st := .idle, code := 0 } else h }) s2

def goCore (g : Nat) (s : State) : State :=
  let c := getCore g s
  if !goState c.st || !letterOk g s then s
  else if busyIn 255 c then updCore g (fun c => { c with goWait := true }) s
  else startCore g s

/-- A GO that waited for the last BUSY channel (R114): R81 was checked when it was accepted, and is not again (log 101). -/
def goIfWaiting (g : Nat) (s : State) : State :=
  if (getCore g s).goWait && !busyIn 255 (getCore g s) then startCore g s else s

/-- STOP, and the stopping of a district's cores (R105, R112, R114). -/
def stopCore (g : Nat) (s : State) : State :=
  if goState (getCore g s).st then s
  else barrierChecks g (updCore g (fun c => { dropQueues c with st := .stopped, held := false, took := false }) s)

/-! DMA events (R100, R101). -/

/-- A channel ends its transfer: IDLE for code 0, else HALTED with it; the core goes on. -/
def endDma (g ch code : Nat) (s : State) : State :=
  let s1 := updCore g (fun c =>
    setChan ch { getChan ch c with st := if code = 0 then .idle else .halted, code := code } c) s
  wake g (goIfWaiting g s1)

/-- The transfer goes to another site and its packets cannot reach it, or reach none that is still supplied (R215, R216). -/
def dmaCut (g : Nat) (x : Chan) (s : State) : Bool :=
  dKind x.desc == 6 && (x.lost || bit .brsiteStatusLost (siteOf (dmaDstCore g x.desc)) s || !(pathOpen (siteOf g) (siteOf (dmaDstCore g x.desc)) s || drains x.sent s))

def completeDma (g ch : Nat) (s : State) : State :=
  let x := getChan ch (getCore g s)
  if x.st ≠ .busy ∨ stalled g s ∨ dmaHeld g ch s ∨ dmaCut g x s then s
  else
    let r := moveDma g x.desc (2 ^ 64) s
    endDma g ch r.1 r.2

/-- A halt during movement: what the data meet within the first n bytes (lines for a skewing kind), or an outside cause after n:
BASE_RESET, REMOTE_ERROR, or SP_POISON, which is here an SRAM line whose check bits fail (R113, R198). Code 0, which halts no
channel, is a check-bit error that was corrected (log 2). -/
def haltDma (g ch code n : Nat) (s : State) : State :=
  let x := getChan ch (getCore g s)
  let d := x.desc
  if x.st ≠ .busy ∨ dmaHeld g ch s then s
  else if code = 0 then countCorrected g d s
  else
    let r := moveDma g d n s
    let spoilt := moveDma g d (2 ^ 64) (spoilLine g d n s)
    if r.1 ≠ 0 ∧ r.1 ≠ 64 then endDma g ch r.1 r.2
    else if code = 10 ∧ (srcVault (dKind d) ∨ dstVault (dKind d)) then endDma g ch 10 (cutMove g d n s)
    else if code = 10 ∨ code = 12 then
      endDma g ch code (if isSkew (dKind d) ∧ r.1 = 0 then
        (List.range (skewLines d)).foldl (fun t l => setTag g (dDst d / 32 + l) 0 t) r.2 else r.2)
    else if code = 11 ∧ spoilt.1 ≠ 0 then endDma g ch spoilt.1 spoilt.2
    else s

/-- The acknowledgement of a transfer is 100 us overdue: one whose packets were discarded, after n bytes, or whose pair is
unreachable halts with REMOTE_ERROR (R216). -/
def ackTimeout (g ch n : Nat) (s : State) : State :=
  let x := getChan ch (getCore g s)
  let a := siteOf g
  let b := siteOf (dmaDstCore g x.desc)
  if x.st ≠ .busy ∨ dKind x.desc ≠ 6 then s
  else if x.lost then
    let r := moveDma g x.desc n s
    endDma g ch 12 r.2
  else if unreachable a b s then endDma g ch 12 (flag .netStatusUnreach a s)
  else s

/-! Signals (R102). -/

/-- Adds a value to a semaphore, saturating (R102). -/
def addSem (g sem v : Nat) (s : State) : State :=
  let i := 16 * g + sem
  let n := rd .coreSemValue i s + v
  if 65535 < n then flag .coreStateSemOvf g (wr .coreSemValue i 65535 s) else wr .coreSemValue i n s

/-- The first signal under way from a source to a core, and the others. -/
def takeSignal (src dst : Nat) : List Signal → Option (Signal × List Signal)
  | [] => none
  | x :: xs =>
    if x.src = src ∧ x.dst = dst then some (x, xs)
    else (takeSignal src dst xs).map fun r => (r.1, x :: r.2)

def deliverSignal (src g : Nat) (s : State) : State :=
  match takeSignal src g s.cores.signals with
  | none => s
  | some (x, rest) =>
    if stalled g s || bit .brsiteStatusLost (siteOf g) s || !(pathOpen (signalSite x) (siteOf g) s || drains x.sent s) then s
    else wake g (addSem g x.sem x.val { s with cores := { s.cores with signals := rest } })

/-! Releases (R104, R109). -/

def releaseBarrier (g : Nat) (s : State) : State :=
  let home := match coreDistrict g s with
    | some d => rd .distCfgHome d s
    | none => siteOf g
  if !stalled g s ∧ (getCore g s).releasing ∧ (getCore g s).st = .barrierWait ∧ (pathOpen home (siteOf g) s ∨ drains (getCore g s).relSent s) then
    advance g (updCore g (fun c => { c with releasing := false, arrived := none }) s)
  else s

/-- The dispatcher's release of a step reaches a core; a core that has been reset or stopped does not keep it. -/
def releaseStep (g : Nat) (s : State) : State :=
  let home := match coreDistrict g s with
    | some d => rd .distCfgHome d s
    | none => siteOf g
  if !(getCore g s).rel || stalled g s || !(pathOpen home (siteOf g) s || drains (getCore g s).stepSent s) then s
  else if goState (getCore g s).st then updCore g (fun c => { c with rel := false }) s
  else wake g (updCore g (fun c => { c with rel := false, held := true }) s)

/-- The OFFSET of a waiting RWAIT is reached, or its round ends (R109). -/
def releaseRound (g : Nat) (s : State) : State :=
  let c := getCore g s
  match c.wait with
  | some w =>
    if c.st = .roundWait ∧ !stalled g s ∧ bits w 56 8 = 0x0B ∧ (bits w 31 1 = 0 ∨ c.took) then
      advance g (updCore g (fun c => { c with took := false }) s)
    else s
  | none => s

/-- The drain has stalled 2^20 CCLK on a full queue (R70). While an instruction that reads the queue head is in the vector queue, one
has been issued and the stall is no deadlock (log 101). -/
def tileDeadlock (g : Nat) (s : State) : State :=
  let c := getCore g s
  match c.drain with
  | some q =>
    if 8 ≤ c.tiles.length ∧ !goState c.st ∧ !(c.vq.any fun v => vQa v.word) then trap g 1 0x0B q.pc c.pc 0 0 q.word s else s
  | none => s

/-! Writes of the generator registers (R45). -/

def holdSr (g : Nat) (seed : Bool) (v : Word64) (s : State) : State :=
  updCore g (fun c => { c with srHeld := c.srHeld ++ [(seed, v)] }) s

end Sys2Proof.Machine
end

