-- ==== Sys2Proof/Machine/Envelope.lean ====
section
/-!
DEFINITION. Envelopes (chapter 13): the fields of an envelope, its checks (R358 to R362), its reply slip (R363, R366, R378),
the mailboxes (R374 to R378), and grants (R236, R359).
-/

namespace Sys2Proof.Machine

/-! Fields. -/

def hNat (e : Env) (off n : Nat) : Nat := leNat ((e.raw.drop off).take n)
/-- A little-endian number in the parameter area. -/
def pNat (e : Env) (off n : Nat) : Nat := hNat e (64 + off) n
def pBytes (e : Env) (off n : Nat) : List Byte := (((e.raw.drop (64 + off)).take n) ++ List.replicate n 0).take n

def envLen (e : Env) : Nat := hNat e 4 2 % 8192
def envTag (e : Env) : Nat := hNat e 8 8

/-! Grants (R236, R359). -/

def noGrant : Nat → GrantE := fun _ => .none_
def setEng (x : EngSide) (s : State) : State := { s with eng := x }
def grantKey (port func entry : Nat) : Nat := (port * 8 + func) * 16 + entry
def grantsOf (port func : Nat) (s : State) : List GrantE :=
  (List.range 16).map fun i => tget noGrant s.eng.grants (grantKey port func i)

/-- The function holds a grant naming the district, READ_WRITE when asked. -/
def holdsGrant (port func d : Nat) (write : Bool) (s : State) : Bool :=
  (grantsOf port func s).any fun x =>
    match x with
    | .district d' w => d' == d && (w || !write)
    | _ => false

/-- The source may act on a district: a HOST function needs a READ_WRITE grant (R359). -/
def mayAct (e : Env) (d : Nat) (s : State) : Bool :=
  match e.cls with
  | .host => holdsGrant e.port.val e.func.val d true s
  | _ => true

/-- A HOSTS source configures only the functions of its own port (R359). -/
def mayConfigure (e : Env) (port : Nat) : Bool :=
  match e.cls with
  | .mgmt => true
  | _ => e.port.val == port

/-! Mailboxes (R374 to R378). -/

def mboxPort (m : Nat) : Nat := if m < 16 then m / 4 else (m - 16) / 12
def mboxSecure (m : Nat) : Bool := m < 16
/-- Host to firmware. -/
def mboxToFw (m : Nat) : Bool := if m < 16 then m % 4 < 2 else (m - 16) % 12 < 6
def mboxFunc (m : Nat) (s : State) : Nat := if mboxSecure m then 0 else rd .mboxCfgFunc m s
/-- The mailbox that carries the replies of a host-to-firmware mailbox. -/
def mboxPair (m : Nat) : Nat := if m < 16 then m + 2 else m + 6

def noUnsent : Nat → List (Bool × List Byte) := fun _ => []

/-- Copies a committed message to the counter area (R378). -/
def mboxCopy (m : Nat) (bs : List Byte) (s : State) : State :=
  if mboxSecure m ∨ !bit .mboxCfgCopy m s then s
  else
    let a := rd .mboxCopyaddrAddr m s + 256 * (rd .mboxStatusSeq m s % 16)
    let v := (vaultLocal a).1
    let off := (vaultLocal a).2
    let ok := match (getPage v (off / 65536) s).owner with
      | .district d => counterBase ≤ off && off + 256 ≤ vaultEnd && holdsGrant (mboxPort m) (mboxFunc m s) d true s
      | _ => false
    if ok then (vwrite v off srcDispatcher bs s).2 else flag .mboxStatusCopyErr m s

/-- The interrupt to a mailbox's receiver (R376). -/
def mboxIrq (m : Nat) (s : State) : State :=
  if mboxToFw m then emit (.fwIrq m) s else emit (.msix (mboxPort m) (mboxFunc m s) (rd .mboxCfgVector m s)) s

/-- A message goes into an empty slot (R375, R376). -/
def mboxFill (m : Nat) (bs : List Byte) (s : State) : State :=
  let bs' := (bs ++ List.replicate 256 0).take 256
  let s1 := setEng { s.eng with slots := mwrite s.eng.slots (256 * m) bs' } s
  let s2 := wr .mboxStatusSeq m (rd .mboxStatusSeq m s1 + 1) (flag .mboxStatusFull m s1)
  mboxIrq m (mboxCopy m bs' s2)

/-- A firmware sender commits a message; a full mailbox refuses it, with REJECT, and the sender keeps it until the slot is empty: at
most 64 events a mailbox (R375, R378; log 129). -/
def fwSend (m : Nat) (event : Bool) (bs : List Byte) (s : State) : State :=
  if !bit .mboxStatusFull m s then mboxFill m bs s
  else
    let q := tget noUnsent s.eng.unsent m
    let s := flag .mboxStatusReject m s
    let full := event && 64 ≤ (q.filter (·.1)).length
    let q' := if full then q.eraseP (·.1) else q
    let s1 := setEng { s.eng with unsent := tset noUnsent s.eng.unsent m (q' ++ [(event, bs)]) } s
    if full then bump .mboxStatusLost m s1 else s1

/-- The slot is empty again: the next message a firmware sender keeps is committed. -/
def fwNext (m : Nat) (s : State) : State :=
  match tget noUnsent s.eng.unsent m with
  | [] => s
  | x :: xs => mboxFill m x.2 (setEng { s.eng with unsent := tset noUnsent s.eng.unsent m xs } s)

/-- An event message (R378). -/
def eventBytes (m : EventMsg) : List Byte :=
  [2] ++ List.replicate 31 0 ++ natLe 2 m.code ++ natLe 1 m.district ++ natLe 1 m.site ++ natLe 4 0 ++ natLe 6 m.round ++
    natLe 2 0 ++ natLe 8 m.ptp ++ natLe 4 m.index

/-- Sends an event to MGMT and to the mailboxes that take it; district 256 stands for none (R378, R476). -/
def sendEvent (code d site index : Nat) (s : State) : State :=
  let m : EventMsg := ⟨code, if d < 256 then d else 0, site, roundNow s, s.now, index⟩
  (List.range 64).foldl
    (fun u b =>
      let f := mboxFunc b u
      if !mboxToFw b && bit .mboxCfgEvt b u && (f == 0 || (decide (d < 256) && holdsGrant (mboxPort b) f d false u)) then
        fwSend b true (eventBytes m) u
      else u) (emit (.mgmtEvent m) s)

/-! Reply slips (R363, R366, R378). -/

/-- What an opcode answers: status, detail, RESULT bytes 16 to 31, output. -/
structure Ans where
  status : Nat
  detail : Nat := 0
  result : List Byte := []
  out : List Byte := []

def okAns : Ans := { status := 0 }
def refuse (st : Nat) : Ans := { status := st }
/-- A refusal whose DETAIL names parameter byte off (R363). -/
def refuseAt (st off : Nat) : Ans := { status := st, detail := 64 + off }

def ringFunc (n : Nat) (s : State) : Nat := if n % 64 < 8 then 0 else rd .eringCfgFunc n s

def slipBytes (x : Slip) : List Byte :=
  natLe 8 x.tag ++ natLe 2 x.status ++ natLe 2 x.opcode ++ natLe 1 x.phase ++ natLe 3 x.detail ++
    ((x.result ++ List.replicate 16 0).take 16)

/-- STATUS.IDLE: EN is 0 and nothing is outstanding (R384). -/
def ringIdle (n : Nat) (s : State) : State :=
  let out := (s.eng.outst.filter fun o => o.ring == n).length
  wr .eringStatusOutst n out (wr .eringStatusIdle n (natBool (!bit .eringCfgEn n s && out == 0)) s)

/-- The reply to an envelope: its output, its slip and the interrupt (R357, R363, R366, R368, R378). -/
def reply (opcode : Nat) (e : Env) (a : Ans) (s : State) : State :=
  let addr := hNat e 16 8
  let fails := e.outFault && !a.out.isEmpty && a.status == 0
  let st := if fails then 10 else a.status
  let toHost := addr != 0 && !a.out.isEmpty && !fails
  let slip (ph : Nat) : Slip :=
    ⟨envTag e, st, opcode, ph, a.detail, a.result, if toHost || fails then [] else a.out⟩
  match e.via with
  | .ring n pos =>
    match s.eng.outst.find? fun o => o.ring == n.val && o.pos == pos && o.raw == e.raw with
    | none => s
    | some o =>
      let s1 := setEng { s.eng with outst := s.eng.outst.erase o } s
      if o.dead then bump .eringStatusDropped n.val (ringIdle n.val s1)
      else
        let s2 := if toHost then emit (.hostWrite (n.val / 64) addr a.out) s1 else s1
        let ph := (pos / 2 ^ rd .eringCfgLog2size n.val s + 1) % 2
        let s3 := emit (.reply e.via (rd .eringRbaseAddr n.val s * 64 + pos % 2 ^ rd .eringCfgLog2size n.val s * 32) (slip ph)) s2
        let s4 := ringIdle n.val (wr .eringRprodIndex n.val (rd .eringRprodIndex n.val s3 + 1) s3)
        if hNat e 3 1 / 2 % 2 = 1 then s4
        else emit (.msix (n.val / 64) (ringFunc n.val s4) (rd .eringCfgVector n.val s4)) s4
  | .mbox m =>
    let s1 := if toHost then emit (.hostWrite (mboxPort m.val) addr a.out) s else s
    let x := slip 0
    fwSend (mboxPair m.val) false ([1] ++ List.replicate 31 0 ++ slipBytes x ++ x.out.take 192) s1
  | v => emit (.reply v 0 (slip 0)) s

/-! Checks (R358, R361, R362). -/

/-- What the opcode table says of an opcode: code and operation, whether MGMT may send it (2: only secured), HOSTS, HOST, PEER, whether the
class check stands later (R361) and then first among the opcode's own checks, whether the clerk handles it, the parameter bytes it uses, its counted fields (offset,
count, maximum, where the entries end in the envelope), its fields (offset, length), its output bytes. -/
structure OpInfo where
  code : Nat
  op : Nat := 0
  m : Nat
  hosts : Bool
  host : Bool
  peer : Bool := false
  late : Bool := false
  first : Bool := false
  clerk : Bool := false
  need : Nat := 0
  counts : List (Nat × Nat × Nat × Nat) := []
  fields : List (Nat × Nat) := []
  out : Nat := 0

def classAllowed (o : OpInfo) (e : Env) : Bool :=
  match e.cls with
  | .mgmt => o.m == 1 || (o.m == 2 && e.secured)
  | .hosts => o.hosts
  | .host => o.host
  | .peer => o.peer

def sourceKey (e : Env) : Nat :=
  match e.cls with
  | .mgmt => 0
  | .peer => match e.via with
    | .peer p => 1 + p.val
    | _ => 1
  | _ => 64 + 8 * e.port.val + e.func.val

def classCode : PortClass → Nat
  | .mgmt => 0 | .hosts => 1 | .host => 2 | .peer => 3

/-- A refusal with AUTHORITY is counted, and the first of a source in a second is logged (R358). -/
def countAuthority (o : OpInfo) (e : Env) (s : State) : State :=
  let k := sourceKey e
  let s1 := bump .engAuthCount 0 s
  if s.eng.refused.any fun x => x.1 == k && decide (s.now < x.2 + 10 ^ 9) then s1
  else
    let s2 := setEng { s1.eng with refused := (k, s1.now) :: s1.eng.refused.filter fun x => x.1 != k } s1
    addLog { kind := 3, rseq := 0, ptp := 0, round := 0, cls := 1, unit := k, detail := o.code, extra := [classCode e.cls] } s2

/-- The first byte of [a, b) of the envelope that is not zero. -/
def firstNonzero (e : Env) (a b : Nat) : Option Nat :=
  ((List.range (b - a)).find? fun j => hNat e (a + j) 1 != 0).map (a + ·)

/-- Steps 1 to 4 of R361: status and detail of the first failure. -/
def headerCheck (o : OpInfo) (e : Env) : Option (Nat × Nat) :=
  let len := envLen e
  let fromRing := match e.via with
    | .ring _ _ => true
    | _ => false
  let room := match e.via with
    | .mbox _ => 192
    | _ => 4064
  let inAddr := hNat e 28 8
  let inLen := hNat e 36 4
  let outAddr := hNat e 16 8
  let outLen := hNat e 24 4
  if len = 0 then some (2, 4)
  else if 4096 < len then some (3, 4)
  else if len < 64 then some (1, 4)
  else if hNat e 2 1 ≠ 1 then some (1, 2)
  else if 4 ≤ hNat e 3 1 then some (1, 3)
  else if 8192 ≤ hNat e 4 2 then some (1, 4)
  else if hNat e 6 2 ≠ 0 then some (1, 6)
  else if (firstNonzero e 40 64).isSome then some (1, (firstNonzero e 40 64).getD 40)
  else if !o.late && !classAllowed o e then some (4, 0)
  else if (e.cls = .mgmt ∨ e.cls = .peer) ∧ (inAddr ≠ 0 ∨ outAddr ≠ 0) then some (6, 0)
  else if outLen = 0 ∧ outAddr ≠ 0 then some (2, 24)
  else if inLen = 0 ∧ inAddr ≠ 0 then some (2, 36)
  else if outLen = 2 ^ 32 - 1 then some (3, 24)
  else if inLen = 2 ^ 32 - 1 then some (3, 36)
  else if fromRing = true ∧ outLen ≠ 0 ∧ outAddr = 0 then some (1, 24)
  else if inLen ≠ 0 ∧ inAddr = 0 then some (1, 36)
  else if outLen < o.out then some (3, 24)
  else if outAddr = 0 ∧ room < o.out then some (3, 24)
  else none

/-- Length and reserved bytes of the parameter area (R362). -/
def paramCheck (o : OpInfo) (e : Env) : Option (Nat × Nat) :=
  let len := envLen e
  let used (j : Nat) : Bool := o.fields.any fun f => decide (f.1 ≤ j ∧ j < f.1 + f.2)
  if len < 64 + o.need then some (1, 4)
  else
    match o.counts.findSome? fun c =>
      if c.2.1 = 0 then some (2, 64 + c.1)
      else if c.2.2.1 < c.2.1 ∨ len < c.2.2.2 then some (3, 64 + c.1) else none with
    | some r => some r
    | none =>
      match (List.range (len - 64)).find? fun j => !used j && pNat e j 1 != 0 with
      | some j => some (1, 64 + j)
      | none => none

/-- The class of a host function's envelopes (R356, R364). -/
def funcClass (f : Nat) : PortClass := if f = 0 then .hosts else .host

/-- The source of an envelope has the class that R356 gives it, a session that secures it is open on MCTP, and a host function is the
one that owns the ring or the mailbox (R358, R364, R374, R378). -/
def sourceOk (e : Env) (s : State) : Bool :=
  let owner (port f : Nat) : Bool := e.cls == funcClass f && e.port.val == port && e.func.val == f
  (match e.via with
  | .ring n pos => s.eng.outst.any fun o => o.ring == n.val && o.pos == pos && owner (n.val / 64) o.func
  | .mbox m => mboxToFw m.val && owner (mboxPort m.val) (mboxFunc m.val s)
  | .mgmt => e.cls == .mgmt
  | .peer p => if rd .nolucpPortMode p.val s = 1 then e.cls == .peer else rd .nolucpPortMode p.val s == 2 && e.cls == .mgmt) &&
  (match e.session with
  | some n => s.eng.spdm.sessions.contains (n, 0, true)
  | none => true)

/-- The envelope of a ring has been fetched and may now be passed to its handler: earlier ones of the ring have been, and
with FENCE_PREV are answered (R367). -/
def inOrder (e : Env) (s : State) : Bool :=
  match e.via with
  | .ring n pos =>
    let mine := s.eng.outst.filter fun o => o.ring == n.val
    match mine.find? fun o => !o.passed with
    | some o => o.pos == pos && o.raw == e.raw &&
        (hNat e 3 1 % 2 == 0 || (match mine with | x :: _ => x.pos == pos && x.raw == e.raw | [] => false))
    | none => false
  | _ => true

/-- An envelope of a source of R356 whose turn has come. -/
def ready (e : Env) (s : State) : Bool := sourceOk e s && inOrder e s

def markPassed (e : Env) (s : State) : State :=
  match e.via with
  | .ring n pos => setEng { s.eng with outst := s.eng.outst.map fun o =>
      if o.ring == n.val && o.pos == pos && o.raw == e.raw then { o with passed := true } else o } s
  | _ => s

/-- The clerk takes envelopes (R370). -/
def clerkUp (s : State) : Bool := bit .brdevStatusClerkUp 0 s

/-- The handler's part: the class where the opcode's own list has it first (R291), parameters, then the opcode's own checks and effect; no answer yet for one that replies later. -/
def handle (o : OpInfo) (e : Env) (body : State → Option Ans × State) (s : State) : State :=
  if o.first && !classAllowed o e then countAuthority o e (reply o.code e (refuse 4) s)
  else match paramCheck o e with
  | some r => reply o.code e { status := r.1, detail := r.2 } s
  | none =>
    let r := body s
    match r.1 with
    | some a =>
      let s1 := reply o.code e a r.2
      if a.status = 4 then countAuthority o e s1 else s1
    | none => r.2

/-- An envelope as it reaches the W64: header, class, the clerk's store, its handler (R361, R367, R369, R370). -/
def envelope (o : OpInfo) (e : Env) (body : State → Option Ans × State) (s : State) : State :=
  if !ready e s then s
  else
    let s0 := markPassed e s
    match headerCheck o e with
    | some r =>
      let s1 := if r.1 = 4 then countAuthority o e s0 else s0
      reply o.code e { status := r.1, detail := if r.1 ≤ 3 then r.2 else 0 } s1
    | none =>
      if o.clerk ∧ !clerkUp s0 then
        if 256 ≤ s0.eng.store.length then reply o.code e (refuse 7) s0
        else setEng { s0.eng with store := s0.eng.store ++ [(16 * o.code + o.op, e)] } s0
      else handle o e body s0

/-- A body that answers at once. -/
def atOnce (f : State → Ans × State) (s : State) : Option Ans × State := let r := f s; (some r.1, r.2)

end Sys2Proof.Machine
end

