-- ==== Sys2Proof/Machine/Pages.lean ====
section
/-!
DEFINITION. Memory pages and page tables (R230 to R235), FILL (R159) and the shape of districts (R219, R244).
-/

namespace Sys2Proof.Machine

/-! FILL (R159). -/

/-- Writes a pattern into every word of the ranges of one FILL, establishing the coded blocks covered whole (R151, R159). -/
def fillPieces (ps : List Piece) (pat : List Byte) (s : State) : State :=
  finishWrite srcDispatcher ps
    (ps.foldl (fun u p => (List.range (p.2.2 / 32)).foldl (fun u j => writeWord p.1 (p.2.1 + 32 * j) pat u) u) s)

def fillRange (v off n : Nat) (pat : List Byte) (s : State) : State := fillPieces [(v, off, n)] pat s

def zeroWord : List Byte := List.replicate 32 0

/-- Writes zero into every byte of a page (R224, R232). -/
def zeroPage (v page : Nat) (s : State) : State := fillRange v (65536 * page) 65536 zeroWord s

/-! Allocation (R230 to R232). -/

/-- A page of the free list: free, not withheld (R462, R490). -/
def pageIsFree (v page : Nat) (s : State) : Bool := pageOnList (getPage v page s)

/-- Numbers of the coded pages, or of the counter-area pages (R230). -/
def pageNumbers (coded : Bool) : List Nat := if coded then List.range 752 else (List.range 16).map (752 + ·)

/-- A vault that holds data: its site is not lost. -/
def vaultAlive (v : Nat) (s : State) : Bool := !bit .brsiteStatusLost (siteOf v) s

def freePageIn (v : Nat) (coded : Bool) (s : State) : Option Nat :=
  if vaultAlive v s then (pageNumbers coded).find? fun p => pageIsFree v p s else none

/-- T_DL of a cluster in 0.125 degrees Celsius (R432, R451). -/
def clusterTdl (k : Nat) (s : State) : Int := toSigned 16 (rd .thclEstTdl k s)

/-- Clusters by T_DL, then by number (R441). -/
def coolest (ks : List Nat) (s : State) : List Nat :=
  ks.insertionSort fun a b => clusterTdl a s < clusterTdl b s ∨ (clusterTdl a s = clusterTdl b s ∧ a ≤ b)

/-- The vaults of a district's clusters, in the allocator's order, on all sites or on one (R230, R441). -/
def vaultsOf (d : Nat) (s : State) : List Nat := (coolest (clustersOf d s) s).flatMap coresOf
def vaultsOn (d site : Nat) (s : State) : List Nat :=
  (coolest ((clustersOf d s).filter fun k => k / 32 == site) s).flatMap coresOf

/-- Gives a page to an owner of district d, zeroed first when another owner last held it (R232). -/
def takePage (d v page : Nat) (o : PageOwner) (s : State) : State :=
  let r := getPage v page s
  let own := rd .distOwnerId d s
  let s1 := if r.last.isSome ∧ r.last ≠ some own then zeroPage v page s else s
  let s2 := setPage v page { r with owner := o, last := none, chain := false } s1
  wr .distUsePages d (rd .distUsePages d s2 + 1) s2

/-- n more pages fit the district's limit (R231). -/
def underLimit (d n : Nat) (s : State) : Bool := rd .distUsePages d s + n ≤ rd .distResPageLimit d s

/-- The first free page in the first of the vaults that has one. -/
def findPage (vs : List Nat) (coded : Bool) (s : State) : Option (Nat × Nat) :=
  vs.findSome? fun v => (freePageIn v coded s).map fun p => (v, p)

/-- Frees a page of district d; it keeps its last OWNER (R230). -/
def freePage (d v page : Nat) (s : State) : State :=
  let r := getPage v page s
  let s1 := setPage v page { r with owner := .free, last := some (rd .distOwnerId d s), chain := false } s
  wr .distUsePages d (rd .distUsePages d s1 - 1) s1

/-! Page tables (R233, R234). -/

/-- A page-table entry that maps a page (R233). -/
def pteOf (v page : Nat) (write parcel : Bool) : Nat :=
  1 + 2 * natBool write + 4 * natBool parcel + siteOf v * 2 ^ 8 + v % 2048 * 2 ^ 14 + page * 2 ^ 25

def writeCounter (a n w : Nat) (s : State) : State :=
  (vwrite (vaultLocal a).1 (vaultLocal a).2 srcDispatcher (natLe n w) s).2

/-- The address of the leaf entry of district virtual page n, where its leaf exists. -/
def leafAddr (d n : Nat) (s : State) : Option Nat := leafEntryAddr (rd .distPtRootAddr d s) (n * 65536) s

/-- Where a root can lie: a vault and i with counter-area pages 752 + 2 i and 753 + 2 i free (R233). -/
def findRoot (vs : List Nat) (s : State) : Option (Nat × Nat) :=
  vs.findSome? fun v =>
    if vaultAlive v s then
      ((List.range 8).find? fun i => pageIsFree v (752 + 2 * i) s && pageIsFree v (753 + 2 * i) s).map fun i => (v, i)
    else none

/-- Allocates the root of a district's page tables, zeroed (R231, R233): a status, 30 or 31, or 0. -/
def makeRoot (d : Nat) (s : State) : Nat × State :=
  if !underLimit d 2 s then (30, s)
  else
    match findRoot (vaultsOn d (rd .distCfgHome d s) s) s with
    | none => (31, s)
    | some (v, i) =>
      let s1 := takePage d v (753 + 2 * i) (.tables d) (takePage d v (752 + 2 * i) (.tables d) s)
      let s2 := zeroPage v (753 + 2 * i) (zeroPage v (752 + 2 * i) s1)
      (0, wr .distPtRootAddr d (v * 2 ^ 26 + (752 + 2 * i) * 65536) s2)

/-- Allocates the leaf that district virtual page n needs, when it needs one. -/
def makeLeaf (d n : Nat) (s : State) : Nat × State :=
  if (leafAddr d n s).isSome then (0, s)
  else if !underLimit d 1 s then (30, s)
  else
    match findPage (vaultsOn d (rd .distCfgHome d s) s) false s with
    | none => (31, s)
    | some (v, p) =>
      let s1 := zeroPage v p (takePage d v p (.tables d) s)
      (0, writeCounter (rd .distPtRootAddr d s + 8 * (n / 8192 % 16384)) 8 (pteOf v p false false) s1)

/-- Maps district virtual page n (R234). -/
def mapPage (d n v page : Nat) (write parcel : Bool) (s : State) : Nat × State :=
  let r := makeLeaf d n (walkReads d (n * 65536) srcDispatcher s)
  if r.1 ≠ 0 then r
  else
    match leafAddr d n r.2 with
    | some a => (0, writeCounter a 8 (pteOf v page write parcel) r.2)
    | none => (31, s)

/-- Writes the leaf entry of a page, where its leaf exists. -/
def writeEntry (d n w : Nat) (s : State) : State :=
  match leafAddr d n s with
  | some a => writeCounter a 8 w s
  | none => s

def unmapPage (d n : Nat) (s : State) : State := writeEntry d n 0 s

/-- Allocates a coded page in the first of the vaults that has one and maps it at district virtual page n (R231): status and
where it lies. A new leaf is allocated together with it. -/
def allocMapped (d n : Nat) (vs : List Nat) (s : State) : (Nat × Option (Nat × Nat)) × State :=
  let leaf := if (leafAddr d n s).isSome then 0 else 1
  if !underLimit d (1 + leaf) s then ((30, none), s)
  else
    match findPage vs true s with
    | none => ((31, none), s)
    | some (v, p) =>
      let r := mapPage d n v p true false s
      if r.1 ≠ 0 then ((r.1, none), s) else ((0, some (v, p)), takePage d v p (.district d) r.2)

/-- Every page of a district, tables included. -/
def pagesOf (d : Nat) (s : State) : List (Nat × Nat) :=
  s.pages.filterMap fun x =>
    match x.2.owner with
    | .district d' => if d' = d then some (x.1 / 768, x.1 % 768) else none
    | .tables d' => if d' = d then some (x.1 / 768, x.1 % 768) else none
    | _ => none

/-- Vault and offset of a district virtual address that a valid entry maps. -/
def dvaTarget (d va : Nat) (write : Bool) (s : State) : Option (Nat × Nat) :=
  match translate d va s with
  | some e => if write && !pteWrite e then none else some (pteVault e, ptePage e * 65536 + va % 65536)
  | none => none

/-- Reads n bytes at a district virtual address within one page: the bytes when every word is delivered. -/
def dvaRead (d va n src : Nat) (s : State) : Option (List Byte) × State :=
  match dvaTarget d va false s with
  | none => (none, walkReads d va src s)
  | some t =>
    let r := vreadBytes t.1 t.2 n src (walkReads d va src s)
    (if r.1.2.isSome then none else some r.1.1, r.2)

/-- Writes bytes at a district virtual address within one page by the W64's own units: whether the write was made (R155). -/
def dvaWrite (d va src : Nat) (bs : List Byte) (s : State) : Bool × State :=
  match dvaTarget d va false s with
  | none => (false, walkReads d va src s)
  | some t =>
    let r := vwrite t.1 t.2 src bs (walkReads d va src s)
    (r.1.isNone, r.2)

/-- DIST.SHAPE and DIST.CFG.HOME of a district from its clusters (R219, R220, R244). -/
def reshape (d : Nat) (s : State) : State :=
  let ks := clustersOf d s
  let home := match ks with
    | k :: _ => k / 32
    | [] => 0
  wr .distCfgHome d home (wr .distShapeClusters d ks.length
    (wr .distShapeCores d ((ks.flatMap coresOf).filter fun g => usable g s).length s))

end Sys2Proof.Machine
end

