-- ==== Sys2Proof/Machine/Host.lean ====
section
/-!
DEFINITION. Host accesses to vaults through the two windows (R144 to R148, R179, R216, R236).
-/

namespace Sys2Proof.Machine

def engineDefault : Nat → Engine := fun _ => {}
def getEngine (k : Nat) (s : State) : Engine := tget engineDefault s.engines k
def setEngine (k : Nat) (x : Engine) (s : State) : State :=
  { s with engines := tset engineDefault s.engines k x }

/-- A parcel as its grants see it: state code by R224. -/
def parcelSt (p : Nat) (s : State) : Nat := (tget (fun _ => ({} : Parcel)) s.parcels p).st

/-- A function may make an access to a page (R236). -/
def grantAllows (port func v page : Nat) (write : Bool) (s : State) : Bool :=
  let r := getPage v page s
  (grantsOf port func s).any fun x =>
    match x, r.owner with
    | .district d w, .district d' => d == d' && (!write || (w && !r.chain))
    | .parcel p, .parcel p' => p == p' && (parcelSt p s == 1 || (!write && (parcelSt p s == 2 || parcelSt p s == 3)))
    | _, _ => false

/-- Vault and offset a host access names, where it is no hole (R137, R144, R146). -/
def hostTarget (vlocal : Bool) (a : Nat) : Option (Nat × Nat) :=
  if vlocal then (if a < 2 ^ 43 ∧ a % 2 ^ 26 < vaultEnd then some (vaultLocal a) else none)
  else if a < 2 ^ 42 then some (hostWindow a) else none

/-- The site a host address names. -/
def hostSite (vlocal : Bool) (a : Nat) : Nat := if vlocal then a / 2 ^ 37 % 64 else a / 2 ^ 36 % 64

/-- Host access served in a vault: operations that run there meet it (R179). -/
def meetHost (v : Nat) (s : State) : State :=
  s.engines.foldl
    (fun u x =>
      match x.2.running with
      | some op => if op.vaults.contains v then setEngine x.1 { x.2 with met := true } u else u
      | none => u) s

/-- A host access that is neither held nor bound to a site out of service. -/
def serveHost (x : HostAccess) (s : State) : State :=
  let t := match hostTarget x.vlocal x.addr with
    | some t => if grantAllows x.port x.func t.1 (t.2 / 65536) x.data.isSome s then some t else none
    | none => none
  match t, x.data with
  | none, some _ => flag .vsiteStatusHole (hostSite x.vlocal x.addr) s
  | none, none => emit (.readData true []) (flag .vsiteStatusHole (hostSite x.vlocal x.addr) s)
  | some t, some bs => (vwrite t.1 t.2 srcHost bs (meetHost t.1 s)).2
  | some t, none =>
    let r := vreadBytes t.1 t.2 (64 - t.2 % 64) srcHost (meetHost t.1 s)
    match r.1.2 with
    | some _ => emit (.readData true []) r.2
    | none => emit (.readData false r.1.1) r.2

/-- A host access: held during a route change, poisoned or discarded where no route is, the site is not in service or in reset, or both
of the port's sites are out, else served (R148, R204, R215, R216, R468, R470). -/
def hostAccess (x : HostAccess) (s : State) : State :=
  let a := hostPortSite x.port s
  let b := hostSite x.vlocal x.addr
  if !siteUp b s || unreachable a b s || s.net.out.contains a then
    let s1 := flag .netStatusUnreach a s
    if x.data.isSome then s1 else emit (.readData true []) s1
  else if pathHeld a b s then setNet { s.net with held := s.net.held ++ [x] } s
  else serveHost x s

/-- The host accesses that a route change held go on, in order (R215). -/
def releaseHeld (s : State) : State :=
  s.net.held.foldl (fun u x => hostAccess x u) (setNet { s.net with held := [] } s)

end Sys2Proof.Machine
end

