-- ==== Sys2Proof/Machine/NearMem.lean ====
section
/-!
DEFINITION. Near-memory engines (chapter 07): the descriptor and its checks (R168 to R174, R183), gather and reduce (R170,
R173 to R178), tag regions (R182, R183), start, completion and abort (R172, R181, R185, R186, R440), and FENCE (R180).
-/

namespace Sys2Proof.Machine

/-! The descriptor (R168). -/

def nOp (d : Nat) : Nat := bits d 0 4
def nRtype (d : Nat) : Nat := bits d 4 3
def nRg (d : Nat) : Bool := bits d 7 1 == 1
def nIfmt (d : Nat) : Nat := bits d 8 4
def nOfmt (d : Nat) : Nat := bits d 12 4
def nTadm (d : Nat) : Nat := bits d 16 2
def nDadm (d : Nat) : Nat := bits d 18 2
def nLadm (d : Nat) : Nat := bits d 20 2
def nSat (d : Nat) : Bool := bits d 22 1 == 1
def nCen (d : Nat) : Bool := bits d 23 1 == 1
def nEngine (d : Nat) : Nat := bits d 24 5
def nTable (d : Nat) : Nat := bits d 32 48
def nDst (d : Nat) : Nat := bits d 80 48
def nIdx (d : Nat) : Nat := bits d 128 48
def nWgt (d : Nat) : Nat := bits d 176 48
def nRstride (d : Nat) : Nat := bits d 224 32
def nTrows (d : Nat) : Nat := bits d 256 32
def nRowBytes (d : Nat) : Nat := bits d 288 17
def nNidx (d : Nat) : Nat := bits d 312 21
def nG (d : Nat) : Nat := bits d 336 13
def nDpitch (d : Nat) : Nat := bits d 352 32
def nCrec (d : Nat) : Nat := bits d 384 48
def nTcore (d : Nat) : Nat := bits d 432 17
def nSem (d : Nat) : Nat := bits d 449 4
def nSen (d : Nat) : Bool := bits d 453 1 == 1

def isReduce (d : Nat) : Bool := nOp d == 2
def isWsum (d : Nat) : Bool := isReduce d && nRtype d == 1

/-- Input and output element sizes of a REDUCE in bytes; 0 for a format it does not take (R174). -/
def inSize (d : Nat) : Nat :=
  match nIfmt d with
  | 0 => 4 | 1 => 2 | 2 => 2 | 3 => 1 | 4 => 1 | 8 => 1 | _ => 0
def outSize (d : Nat) : Nat :=
  match nOfmt d with
  | 0 => 4 | 1 => 2 | 2 => 2 | _ => 0

/-- A format that a REDUCE does not take, or a format given for a GATHER (R174). -/
def badFormat (d : Nat) : Bool :=
  (isReduce d && (inSize d == 0 || outSize d == 0)) || (!isReduce d && (nIfmt d != 0 || nOfmt d != 0))

/-- Bytes of a destination row (R168, R174); 0 where the formats give none. -/
def nOutBytes (d : Nat) : Nat :=
  if !isReduce d then nRowBytes d else if inSize d = 0 then 0 else nRowBytes d / inSize d * outSize d
/-- Destination rows. -/
def nOutRows (d : Nat) : Nat := nNidx d / max 1 (nG d)
/-- Bytes from the first destination row to the end of the last. -/
def nExtent (d : Nat) : Nat := (nOutRows d - 1) * nDpitch d + nOutBytes d

/-- The conditions of BAD_DESC (R174, R177, R184). A G of 0 or above 4,096, a WGT without WSUM and a CREC with CEN = 0 break R168's
table, and no status names them: they are refused as BAD_DESC too (log 105). -/
def badDescriptor (d : Nat) : Bool :=
  !(nOp d == 1 || nOp d == 2) || 5 ≤ nRtype d || nTadm d == 3 || nDadm d == 3 || nLadm d == 3 ||
  bits d 29 3 != 0 || bits d 305 7 != 0 || bits d 333 3 != 0 || bits d 349 3 != 0 || bits d 454 58 != 0 ||
  (!isReduce d && (nRtype d != 0 || nG d != 1)) || nG d == 0 || 4096 < nG d || nNidx d % max 1 (nG d) != 0 ||
  (isReduce d && inSize d != 0 && nRowBytes d % inSize d != 0) || nDpitch d < nOutBytes d ||
  (!isWsum d && nWgt d != 0) || (nRg d && nDadm d == 2) || (!nCen d && nCrec d != 0) || nCrec d % 16 != 0

/-! Addresses (R169). -/

/-- An address in range for engine e: vault-local on its site, district virtual, or a pigeonhole of its cluster. -/
def nmInRange (e adm a : Nat) : Bool :=
  match adm with
  | 0 => a < 2 ^ 43 && a % 2 ^ 26 < vaultEnd && a / 2 ^ 37 == e / 32
  | 1 => a < 2 ^ 43
  | _ => a < 2 ^ 27 && a / 2 ^ 22 == e % 32

/-- The first byte past the space that holds the address. -/
def nmSpaceEnd (adm a : Nat) : Nat :=
  match adm with
  | 0 => a / 2 ^ 26 * 2 ^ 26 + vaultEnd
  | 1 => 2 ^ 43
  | _ => a / 2 ^ 19 * 2 ^ 19 + 2 ^ 19

/-- Pieces of a byte range: a vault-local range is one; of district virtual addresses each page is one, none where it is unmapped. -/
def nmPieces (d : Option Nat) (adm a n : Nat) (write : Bool) (s : State) : List (Option Piece) :=
  if n = 0 then []
  else if adm = 0 then [some ((vaultLocal a).1, (vaultLocal a).2, n)]
  else
    (List.range ((a + n - 1) / 65536 + 1 - a / 65536)).map fun j =>
      let lo := max a ((a / 65536 + j) * 65536)
      let hi := min (a + n) ((a / 65536 + j + 1) * 65536)
      (d.bind fun x => dvaTarget x lo write s).map fun t => (t.1, t.2, hi - lo)

/-- The page-table entries that the engine reads for a district virtual range (R138, R147). -/
def nmWalk (d : Option Nat) (adm a n : Nat) (s : State) : State :=
  match d with
  | some x => if adm = 1 ∧ n ≠ 0 then
      (List.range ((a + n - 1) / 65536 + 1 - a / 65536)).foldl (fun u j => walkReads x ((a / 65536 + j) * 65536) srcEngine u) s
    else s
  | none => s

/-- The requester of an engine's accesses to a vault: its own cluster's vault controllers know it, the others reach it by the side
door (R142, R166). -/
def engineSrc (e v : Nat) : Nat := if clusterOf v = e then srcEngine else srcSide

/-- The pages of a vault range. -/
def pagesIn (p : Piece) : List (Nat × Nat) :=
  (List.range ((p.2.1 + p.2.2 - 1) / 65536 + 1 - p.2.1 / 65536)).map fun j => (p.1, p.2.1 / 65536 + j)

/-- The host function that submitted, if one did. -/
def nmHost (w : NmBy) : Option (Nat × Nat) :=
  match w with
  | .envelope e => match e.cls with
    | .hosts => some (e.port.val, e.func.val)
    | .host => some (e.port.val, e.func.val)
    | _ => none
  | _ => none

/-- A page lies in the submitter's district, its bound parcel (for reading) or its window grants (R171, R173, R184). -/
def nmAllowed (op : NmOp) (write : Bool) (v page : Nat) (s : State) : Bool :=
  (match op.district, (getPage v page s).owner with
   | some d, .district d' => d == d'
   | some d, .parcel p => !write && boundTo p s == some d
   | _, _ => false) ||
  match nmHost op.who with
  | some h => grantAllows h.1 h.2 v page write s
  | none => false

def nmAllAllowed (op : NmOp) (write : Bool) (ps : List Piece) (s : State) : Bool :=
  (ps.flatMap pagesIn).all fun x => nmAllowed op write x.1 x.2 s

/-! Tag regions (R182). -/

/-- Tag region n of a site, in force and not void: base, length, tuple table. A region whose BASE, PAGES or tuple table breaks R182 is
not in force (log 122). -/
def tagRegion (site n : Nat) (s : State) : Option (Nat × Nat × Nat) :=
  let i := 16 * site + n
  let base := rd .nmsiteTagBaseBase i s * 2 ^ 16
  let len := rd .nmsiteTagLenPages i s * 65536
  let tt := rd .nmsiteTagTtTtbase i s * 8
  if bit .nmsiteTagBaseValid i s ∧ len ≠ 0 ∧ len ≤ 2 ^ 36 ∧ base / 2 ^ 36 = site ∧ tt / 2 ^ 36 = site ∧
      (tt + len / 64 - 1) / 2 ^ 36 = site then some (base, len, tt)
  else none

/-- The tag regions that hold a vault byte. -/
def tagsOf (v off : Nat) (s : State) : List (Nat × Nat × Nat) :=
  if 0x2000000 ≤ off then []
  else
    let a := toHostWindow v off
    (List.range 16).filterMap fun n => (tagRegion (siteOf v) n s).filter fun r => decide (r.1 ≤ a ∧ a < r.1 + r.2.1)

/-- The granules of a vault range: vault, offset, length, none longer than 256 bytes (R145). -/
def granules (p : Piece) : List Piece :=
  if p.2.2 = 0 then []
  else (List.range ((p.2.1 + p.2.2 - 1) / 256 + 1 - p.2.1 / 256)).map fun j =>
    let lo := max p.2.1 ((p.2.1 / 256 + j) * 256)
    (p.1, lo, min (p.2.1 + p.2.2) ((p.2.1 / 256 + j + 1) * 256) - lo)

def touchesTag (ps : List Piece) (s : State) : Bool :=
  (ps.flatMap granules).any fun g => !(tagsOf g.1 g.2.1 s).isEmpty

/-! The checks before data (R168 to R174, R183, R184): the status of the first that fails, or 0. -/

/-- The destination rows as vault pieces. -/
def dstPieces (op : NmOp) (s : State) : List (Option Piece) :=
  if nDadm op.desc = 2 then []
  else (List.range (nOutRows op.desc)).flatMap fun r =>
    nmPieces op.district (nDadm op.desc) (nDst op.desc + r * nDpitch op.desc) (nOutBytes op.desc) true s

/-- The lists of an operation, and their vault pieces. -/
def nmLists (d : Nat) : List Nat := if isWsum d then [nIdx d, nWgt d] else [nIdx d]

def listPieces (op : NmOp) (s : State) : List (Option Piece) :=
  if nLadm op.desc = 2 then []
  else (nmLists op.desc).flatMap fun a => nmPieces op.district (nLadm op.desc) a (4 * nNidx op.desc) false s

/-- ROWBYTES or NIDX is above its maximum, or an address in range has its destination or list run past the end of its space. -/
def nmTooLong (e d : Nat) : Bool :=
  decide (65536 < nRowBytes d ∨ 1048576 < nNidx d) ||
  (nmInRange e (nDadm d) (nDst d) && decide (nmSpaceEnd (nDadm d) (nDst d) < nDst d + nExtent d)) ||
  (nmLists d).any fun a => nmInRange e (nLadm d) a && decide (nmSpaceEnd (nLadm d) a < a + 4 * nNidx d)

/-- An address is out of range, or on another site (R166). -/
def nmOutOfRange (e d : Nat) (ps : List Piece) : Bool :=
  !nmInRange e (nDadm d) (nDst d) || (nmLists d).any (fun a => !nmInRange e (nLadm d) a) ||
  (nCen d && !(nmInRange e 0 (nCrec d) && counterBase ≤ nCrec d % 2 ^ 26)) || ps.any fun p => siteOf p.1 != e / 32

/-- An address lies outside the submitter's district or window grants, or TCORE is not usable in the district; pigeonholes are those of
clusters of the district (R97, R169, R184). -/
def nmForeign (e : Nat) (op : NmOp) (ds ls : List Piece) (s : State) : Bool :=
  let d := op.desc
  ((nDadm d == 2 || nLadm d == 2) && !(op.district.isSome && clusterDistrict e s == op.district)) ||
  (nSen d && !(op.district.isSome && coreDistrict (nTcore d) s == op.district && usable (nTcore d) s)) ||
  (nCen d && !nmAllowed op true (nCrec d / 2 ^ 26) (nCrec d % 2 ^ 26 / 65536) s) ||
  !nmAllAllowed op true ds s || !nmAllAllowed op false ls s

def nmCheck (e : Nat) (op : NmOp) (s : State) : Nat :=
  let d := op.desc
  let ds := dstPieces op s
  let ls := listPieces op s
  if badDescriptor d then 1
  else if nTrows d = 0 ∨ nRowBytes d = 0 ∨ nNidx d = 0 then 2
  else if nmTooLong e d then 3
  else if nmOutOfRange e d ((ds ++ ls).filterMap id) then 4
  else if badFormat d then 5
  else if nmForeign e op (ds.filterMap id) (ls.filterMap id) s then 6
  else if !nRg d && touchesTag (ds.filterMap id) s then 7
  else if (ds ++ ls).any (·.isNone) then 12
  else 0

/-! Reading (R170, R173, R178). -/

/-- Reads vault pieces one after another: none when a word cannot be delivered. BYTES counts the piece that holds such a word whole
(log 122). -/
def readPieces (e : Nat) : List (Option Piece) → State → Option (List Byte) × State
  | [], s => (some [], s)
  | none :: _, s => (none, s)
  | some p :: ps, s =>
    let r := vreadBytes p.1 p.2.1 p.2.2 (engineSrc e p.1) (addSat .nmeBytesCount e p.2.2 s)
    if r.1.2.isSome then (none, r.2)
    else
      let q := readPieces e ps r.2
      (q.1.map (r.1.1 ++ ·), q.2)

/-- Reads bytes of an index or weight list: none when a word cannot be delivered. -/
def nmListRead (e : Nat) (op : NmOp) (a n : Nat) (s : State) : Option (List Byte) × State :=
  if nLadm op.desc = 2 then
    let p := 8 * e + a / 2 ^ 19 % 8
    let off := a % 2 ^ 19
    if (linesOf off n).any fun l => pigPoison p l s then (none, bump .phStatUe e s) else (some (pigRead p off n s), s)
  else readPieces e (nmPieces op.district (nLadm op.desc) a n false s) (nmWalk op.district (nLadm op.desc) a n s)

/-- The vault and offset of a table row, or the status that ends the operation: of several, the lowest (R173, R184; log 88). -/
def rowAt (e : Nat) (op : NmOp) (i : Nat) (s : State) : Nat × Nat × Nat :=
  let d := op.desc
  let a := nTable d + i * nRstride d
  let n := nRowBytes d
  match nTadm d with
  | 0 =>
    let t := vaultLocal a
    if 2 ^ 43 ≤ a ∨ vaultEnd ≤ t.2 then (6, 0, 0)
    else if !nmAllAllowed op false [(t.1, t.2, min n (vaultEnd - t.2))] s then (6, 0, 0)
    else if vaultEnd < t.2 + n then (10, 0, 0)
    else if siteOf t.1 ≠ e / 32 then (11, 0, 0)
    else (0, t)
  | 1 =>
    if 2 ^ 43 ≤ a then (6, 0, 0)
    else
      match op.district with
      | none => (6, 0, 0)
      | some x =>
        if 65536 < a % 65536 + n then (10, 0, 0)
        else match dvaTarget x a false s with
        | none => (12, 0, 0)
        | some t => if siteOf t.1 ≠ e / 32 then (11, 0, 0) else (0, t)
  | _ =>
    if 2 ^ 42 ≤ a then (6, 0, 0)
    else
      let t := hostWindow a
      if !nmAllowed op false t.1 (t.2 / 65536) s then (6, 0, 0)
      else if 256 < a % 256 + n then (10, 0, 0)
      else if siteOf t.1 ≠ e / 32 then (11, 0, 0)
      else (0, t)

/-- The working values of a run: rows computed, the status that stopped it and the list position, flags. -/
structure NmRun where
  rows : List (List Byte) := []
  status : Nat := 0
  pos : Nat := 0xFFFFFFFF
  empty : Bool := false
  nv : Bool := false
  of : Bool := false

/-- One list entry: its row bytes and weight, or none for a pad, or the status that ends the operation (R170). -/
def nmEntry (e : Nat) (op : NmOp) (p : Nat) (s : State) : (Nat × Option (List Byte × Nat)) × State :=
  let d := op.desc
  let r := nmListRead e op (nIdx d + 4 * p) 4 s
  match r.1 with
  | none => ((13, none), r.2)
  | some ib =>
    let i := leNat ib
    if i = 0xFFFFFFFF then ((0, none), r.2)
    else if nTrows d ≤ i then ((9, none), r.2)
    else
      let w := if isWsum d then nmListRead e op (nWgt d + 4 * p) 4 r.2 else (some [], r.2)
      match w.1 with
      | none => ((13, none), w.2)
      | some wb =>
        let u := nmWalk op.district (nTadm d) (nTable d + i * nRstride d) 1 w.2
        let t := rowAt e op i u
        if t.1 ≠ 0 then ((t.1, none), u)
        else
          let q := readPieces e [some (t.2.1, t.2.2, nRowBytes d)] (bump .nmeRowsCount e u)
          match q.1 with
          | none => ((13, none), q.2)
          | some bs => ((0, some (bs, leNat wb)), q.2)

/-- The entries of one group from list position p. -/
def nmGroup (e : Nat) (op : NmOp) : Nat → Nat → State → (Nat × Nat × List (List Byte × Nat)) × State
  | 0, p, s => ((0, p, []), s)
  | n + 1, p, s =>
    let r := nmEntry e op p s
    if r.1.1 ≠ 0 then ((r.1.1, p, []), r.2)
    else
      let q := nmGroup e op n (p + 1) r.2
      ((q.1.1, q.1.2.1, r.1.2.toList ++ q.1.2.2), q.2)

/-! Reduction (R175, R176). -/

/-- One step of the combination. -/
def redCombine (d : Nat) (acc : Val) (w : Nat) (x : Val) : Val :=
  match nRtype d with
  | 1 => round32 (vadd acc (vmul (fp32Val (BitVec.ofNat 32 w)) x))
  | 2 => vmaxOf acc x
  | 3 => vminOf acc x
  | _ => round32 (vadd acc x)

/-- A step with whether it makes a NaN of operands that are none (R46, R176). -/
def nmStep (d : Nat) (acc : Val × Bool) (x : Val × Nat) : Val × Bool :=
  let v := redCombine d acc.1 x.2 x.1
  (v, acc.2 || madeNan v ([acc.1, x.1] ++ (if nRtype d = 1 then [fp32Val (BitVec.ofNat 32 x.2)] else [])))

/-- One element of the output row: bits, and whether NV and OF are raised. -/
def redElem (d j : Nat) (g : List (List Byte × Nat)) : Nat × Bool × Bool :=
  let n := inSize d
  let f := fmtOr (nIfmt d)
  let xs := g.map fun r => (decodeElem f (leNat ((r.1.drop (n * j)).take n)), r.2)
  let zero : Val := .fin false 0 0
  let ident : Val := match nRtype d with
    | 2 => .inf true
    | 3 => .inf false
    | _ => zero
  let acc := xs.foldl (nmStep d) (ident, false)
  let v := if nRtype d = 4 then round32 (quot acc.1 (ofInt xs.length)) else acc.1
  if g = [] then (0, false, false)
  else
    let c := convert (fmtOr (nOfmt d)) .nearest (nSat d) 0 v
    (c.1, acc.2 || c.2.nv, c.2.of)

def redRow (d : Nat) (g : List (List Byte × Nat)) : List Byte × Bool × Bool :=
  let es := (List.range (nRowBytes d / max 1 (inSize d))).map fun j => redElem d j g
  (es.flatMap fun x => natLe (outSize d) x.1, es.any (·.2.1), es.any (·.2.2))

/-- The destination row of a group. -/
def nmRow (d : Nat) (g : List (List Byte × Nat)) (r : NmRun) : NmRun :=
  if isReduce d then
    let o := redRow d g
    { r with rows := r.rows ++ [o.1], empty := r.empty || g.isEmpty, nv := r.nv || o.2.1, of := r.of || o.2.2 }
  else
    { r with rows := r.rows ++ [match g with
      | x :: _ => x.1
      | [] => List.replicate (nRowBytes d) 0] }

/-- Computes n destination rows from row k. All rows are read before any is written (R180). -/
def nmCompute (e : Nat) (op : NmOp) : Nat → Nat → NmRun → State → NmRun × State
  | 0, _, r, s => (r, s)
  | n + 1, k, r, s =>
    let g := nmGroup e op (nG op.desc) (k * nG op.desc) s
    if g.1.1 ≠ 0 then ({ r with status := g.1.1, pos := g.1.2.1 }, g.2)
    else nmCompute e op n (k + 1) (nmRow op.desc g.1.2.2 r) g.2

/-! Writing (R177, R183). -/

/-- The T10 CRC-16 of bytes, most significant bit first (R182). -/
def crcBit (c : Nat) : Nat := if c.testBit 15 then (Nat.xor (c * 2) 0x8BB7) % 65536 else c * 2 % 65536
def crcByte (c : Nat) (b : Byte) : Nat := (List.range 8).foldl (fun x _ => crcBit x) (Nat.xor c (b.toNat * 256))
def crc16 (bs : List Byte) : Nat := bs.foldl crcByte 0

/-- Bytes for a place in a vault: the vault, the offset and the bytes. -/
abbrev Chunk := Nat × Nat × List Byte

/-- Pieces with their bytes. -/
def chunksOf : List Piece → List Byte → List Chunk
  | [], _ => []
  | p :: ps, bs => (p.1, p.2.1, bs.take p.2.2) :: chunksOf ps (bs.drop p.2.2)

/-- Destination row k with its bytes, in granules. -/
def rowChunks (op : NmOp) (k : Nat) (bs : List Byte) (s : State) : List Chunk :=
  let ps := (nmPieces op.district (nDadm op.desc) (nDst op.desc + k * nDpitch op.desc) bs.length true s).filterMap id
  chunksOf (if nRg op.desc then ps.flatMap granules else ps) bs

/-- What the writes of an operation have done: the status of the one that failed, the pieces written, and the data blocks of tag
regions already written with their guards. -/
structure NmOut where
  status : Nat := 0
  pieces : List Piece := []
  blocks : List Nat := []

/-- Writes chunks in order until a write is lost (R177). -/
def writeChunks (e : Nat) : List Chunk → NmOut → State → NmOut × State
  | [], o, s => (o, s)
  | c :: cs, o, s =>
    let r := vwriteRaw c.1 c.2.1 (engineSrc e c.1) c.2.2 s
    match r.1 with
    | none => writeChunks e cs { o with pieces := o.pieces ++ [(c.1, c.2.1, c.2.2.length)] } r.2
    | some x => ({ o with status := 14, pieces := o.pieces ++ [(c.1, c.2.1, x - c.2.1)] }, r.2)

/-- The data block of tag regions that a chunk of a granule lies in, as host-window address / 512; regions begin at multiples of
64 KiB, so a block is the same in each (R182). -/
def chunkBlock (c : Chunk) : Nat := toHostWindow c.1 c.2.1 / 512

/-- The byte that chunks put at a place. -/
def chunkByte (cs : List Chunk) (v off : Nat) : Option Byte :=
  cs.reverse.findSome? fun c => if c.1 = v ∧ c.2.1 ≤ off ∧ off < c.2.1 + c.2.2.length then c.2.2[off - c.2.1]? else none

/-- The words of a data block as they will stand, from host-window address a: a word that the operation does not write whole is
read; none where one cannot be read (R183). -/
def blockWords (e : Nat) (cs : List Chunk) (a : Nat) : Nat → State → Option (List Byte) × State
  | 0, s => (some [], s)
  | n + 1, s =>
    let t := hostWindow a
    let new := (List.range 32).map fun j => chunkByte cs t.1 (t.2 + j)
    let need := (new.filter (·.isNone)).length
    let r := if need = 0 then (WordOut.ok [], s) else vread t.1 t.2 (engineSrc e t.1) (addSat .nmeBytesCount e need s)
    match r.1 with
    | .ok w =>
      let q := blockWords e cs (a + 32) n r.2
      (q.1.map ((new.zipIdx.map fun x => x.1.getD (w.getD x.2 0)) ++ ·), q.2)
    | _ => (none, r.2)

/-- The place of the tuple of data block b in a tag region (R182). -/
def tuplePlace (b : Nat) (t : Nat × Nat × Nat) : Nat × Nat := hostWindow (t.2.2 + 8 * ((512 * b - t.1) / 512))

/-- The read that the merge of a guard into the tuple at a place begins with, when its word cannot be read (R155, R183). -/
def tupleLost (e : Nat) (s : State) (p : Nat × Nat) : Option State :=
  let r := vreadAs .merge p.1 (p.2 / 32 * 32) (engineSrc e p.1) s
  if r.1 = .poisoned then some r.2 else none

/-- Writes all that the operation writes of a data block, then its guard in the tuple of each region. A word of the block or of a tuple
that cannot be read ends the operation before the block is written (R183). -/
def writeBlock (e : Nat) (cs : List Chunk) (tags : List (Nat × Nat × Nat)) (b : Nat) (o : NmOut) (s : State) : NmOut × State :=
  let r := blockWords e cs (512 * b) 16 s
  let ts := tags.map (tuplePlace b)
  match r.1, ts.findSome? (tupleLost e r.2) with
  | none, _ => ({ o with status := 13 }, r.2)
  | some _, some u => ({ o with status := 13 }, u)
  | some blk, none =>
    let w := writeChunks e cs { o with blocks := b :: o.blocks } r.2
    if w.1.status ≠ 0 then w
    else
      let c := crc16 blk
      writeChunks e (ts.map fun p => (p.1, p.2, [BitVec.ofNat 8 (c / 256), BitVec.ofNat 8 c])) w.1 w.2

/-- Writes the chunks of a row under RG = 1; `all` holds those of every row. A data block of a tag region is written when its first
chunk is met (R183). -/
def guardWrite (e : Nat) (all : List Chunk) : List Chunk → NmOut → State → NmOut × State
  | [], o, s => (o, s)
  | c :: cs, o, s =>
    let tags := tagsOf c.1 c.2.1 s
    let r :=
      if tags.isEmpty then writeChunks e [c] o s
      else if o.blocks.contains (chunkBlock c) then (o, s)
      else writeBlock e (all.filter fun x => x.2.1 < 0x2000000 && chunkBlock x == chunkBlock c) tags (chunkBlock c) o s
    if r.1.status ≠ 0 then r else guardWrite e all cs r.1 r.2

/-- Writes destination row k. A pigeonhole line that refuses a write of part of a unit ends the operation with WRITE_LOST (R177, R198;
log 122). -/
def nmWriteRow (e : Nat) (op : NmOp) (all : List Chunk) (k : Nat) (bs : List Byte) (o : NmOut) (s : State) : NmOut × State :=
  let a := nDst op.desc + k * nDpitch op.desc
  if nDadm op.desc = 2 then
    let p := 8 * e + a / 2 ^ 19 % 8
    let off := a % 2 ^ 19
    match pigRefused p off bs.length s with
    | some l => ({ o with status := 14 }, pigWrite p off (bs.take (32 * l - off)) s)
    | none => (o, pigWrite p off bs s)
  else
    let s1 := nmWalk op.district (nDadm op.desc) a bs.length s
    if nRg op.desc then guardWrite e all (rowChunks op k bs s) o s1 else writeChunks e (rowChunks op k bs s) o s1

/-- Writes destination rows from row k until one fails: what was done, and the rows fully written. -/
def nmWriteRows (e : Nat) (op : NmOp) (all : List Chunk) : Nat → List (List Byte) → NmOut → State → (NmOut × Nat) × State
  | k, [], o, s => ((o, k), s)
  | k, bs :: t, o, s =>
    let r := nmWriteRow e op all k bs o s
    if r.1.status ≠ 0 then ((r.1, k), r.2) else nmWriteRows e op all (k + 1) t r.1 r.2

/-- Runs an operation up to lim destination rows and `part` bytes of the row behind them: the run, and the rows fully written. Its
writes are one operation, which establishes the blocks that its rows cover together (R151, R177). -/
def nmRun (e : Nat) (op : NmOp) (lim part : Nat) (s : State) : (NmRun × Nat) × State :=
  let c := nmCheck e op s
  if c ≠ 0 then (({ status := c }, 0), s)
  else
    let r := nmCompute e op (min (lim + natBool (part != 0)) (nOutRows op.desc)) 0 {} s
    let rows := r.1.rows.zipIdx.map fun x => if x.2 < lim then x.1 else x.1.take part
    let all := if nRg op.desc then (rows.zipIdx.flatMap fun x => rowChunks op x.2 x.1 r.2) else []
    let w := nmWriteRows e op all 0 rows {} r.2
    let s1 := finishWrite srcEngine w.1.1.pieces w.2
    if w.1.1.status ≠ 0 then (({ r.1 with status := w.1.1.status, pos := w.1.2 * nG op.desc }, w.1.2), s1)
    else ((r.1, min lim w.1.2), s1)

/-! The queue (R172), completion (R181), FENCE (R180). -/

def showEngine (e : Nat) (s : State) : State :=
  let x := getEngine e s
  wr .nmeStatusQocc e x.queue.length (wr .nmeStatusRunning e (natBool x.running.isSome) (wr .nmeStatusHeld e (natBool x.held) s))

def fencePass (seq : Nat) (s : State) : State :=
  let fs := s.eng.fences.map fun f => { f with ops := f.ops.filter (· ≠ seq) }
  let s1 := setEng { s.eng with fences := fs.filter fun f => !f.ops.isEmpty } s
  (fs.filter fun f => f.ops.isEmpty).foldl (fun u f => reply 0x0202 f.env okAns u) s1

/-- The completion record (R181). -/
def nmRecord (r : NmRun) (done : Nat) (met : Bool) (s : State) : List Byte :=
  natLe 1 r.status ++ natLe 1 (natBool met + 2 * natBool r.empty + 4 * natBool r.nv + 8 * natBool r.of) ++ natLe 2 0 ++
    natLe 4 done ++ natLe 4 r.pos ++ natLe 4 (roundNow s)

/-- Answers the submitter (R181, R186, R373). The dispatcher keeps the status of a template operation of the step, which is what it
reports to the sorting office after a reset (R186; log 104). -/
def nmAnswer (op : NmOp) (status : Nat) (rec_ : List Byte) (s : State) : State :=
  match op.who with
  | .envelope e =>
    reply 0x0301 e (if status = 0 then { status := 0, result := rec_ }
      else if status = 8 then refuse 8 else { status := 9, detail := status }) s
  | .kv slot c j => addDue (.kvGather slot c j status) s
  | .dispatcher d i => updDistrict d (fun x => { x with opEnds := x.opEnds ++ [(i, status)] }) s

/-- The status belongs to the class before data: nothing of the operation has been done (R184). -/
def beforeData (r : NmRun) : Bool := r.pos == 0xFFFFFFFF && (decide (r.status ≠ 0 ∧ r.status < 8) || r.status == 12)

/-- Ends an operation that has not begun its data, or that a reset ends: no record and no signal (R184, R185, R186). -/
def nmDrop (e : Nat) (op : NmOp) (status : Nat) (s : State) : State :=
  fencePass op.seq (nmAnswer op status [] (wr .nmeStatusLast e status s))

/-- Ends an operation that has run: record, signal, answer, in this order (R181, R184). -/
def nmEnd (e : Nat) (op : NmOp) (r : NmRun) (done : Nat) (s : State) : State :=
  let met := (getEngine e s).met
  let d := op.desc
  if beforeData r then nmDrop e op r.status (if met then flag .nmeStatusHostMet e s else s)
  else
    let bs := nmRecord r done met s
    let s1 := if nCen d then (vwrite (nCrec d / 2 ^ 26) (nCrec d % 2 ^ 26) (engineSrc e (nCrec d / 2 ^ 26)) bs s).2 else s
    let s2 := if nSen d then sendSignal (131072 + e) (nTcore d) (nSem d) 1 s1 else s1
    let s3 := wr .nmeStatusLast e r.status (if met then flag .nmeStatusHostMet e s2 else s2)
    fencePass op.seq (nmAnswer op r.status bs s3)

/-- Waiting submissions take the free queue entries (R172). -/
def admitWaiting (e : Nat) (s : State) : State :=
  let x := getEngine e s
  let n := 16 - x.queue.length
  setEngine e { x with queue := x.queue ++ x.waiting.take n, waiting := x.waiting.drop n } s

/-- Completes the running operation. -/
def nmComplete (e : Nat) (s : State) : State :=
  match (getEngine e s).running with
  | none => s
  | some op =>
    let r := nmRun e op (2 ^ 20) 0 s
    let s1 := nmEnd e op r.1.1 r.1.2 r.2
    showEngine e (admitWaiting e (setEngine e { getEngine e s1 with running := none, met := false, abort := false } s1))

/-- Vaults that hold its rows, lists or destination, from the stored list as it stands (R179). -/
def nmVaults (e : Nat) (op : NmOp) (s : State) : List Nat :=
  let d := op.desc
  let ds := ((dstPieces op s).filterMap id).map (·.1)
  let rs := (List.range (nNidx d)).filterMap fun p =>
    match (nmListRead e op (nIdx d + 4 * p) 4 s).1 with
    | some ib =>
      let t := rowAt e op (leNat ib) s
      if leNat ib < nTrows d ∧ t.1 = 0 then some t.2.1 else none
    | none => none
  (ds ++ rs).dedup

/-- The order in which queued operations start: those of the KV manager first (R172). -/
def nextOp (q : List NmOp) : Option NmOp :=
  match q.find? fun o => match o.who with | .kv _ _ _ => true | _ => false with
  | some o => some o
  | none => q.head?

def clusterColour (k : Nat) : Nat := (k % 32 / 8 + k % 8) % 2

/-- The clusters beside cluster k in its site. -/
def beside (k : Nat) : List Nat :=
  let r := k % 32 / 8
  let c := k % 8
  (if c = 0 then [] else [k - 1]) ++ (if c = 7 then [] else [k + 1]) ++ (if r = 0 then [] else [k - 8]) ++
    (if r = 3 then [] else [k + 8])

/-- The CHECKER conditions hold a start (R440). -/
def checkerHolds (e : Nat) (busy : Bool) (s : State) : Bool :=
  bit .thdevCfgChecker 0 s && (busy || (clusterColour e != rd .thdevCfgColour 0 s &&
    (beside e).any fun k => (getEngine k s).running.isSome))

/-- The conditions of R440: the DL margin (0), and the checkerboard (1); 2 when the start is allowed. -/
def startHold (e : Nat) (busy : Bool) (s : State) : Nat :=
  if 720 ≤ clusterTdl e s then 0 else if checkerHolds e busy s then 1 else 2

/-- An engine starts no operation in a stop, in a gated slice, or in a site that is lost or in reset (R412, R446). -/
def engineStopped (e : Nat) (s : State) : Bool :=
  stopping s || s.power.gated.contains (e / 32) || bit .brsiteStatusLost (e / 32) s || bit .brsiteStatusResetting (e / 32) s

/-- Starts an operation of the queue. -/
def startOp (e : Nat) (s : State) : State :=
  let x := getEngine e s
  match x.running, nextOp x.queue with
  | none, some op =>
    let run := { op with vaults := nmVaults e op s }
    let y := { x with queue := x.queue.erase op, running := some run, held := false, checker := false, met := false, abort := false }
    showEngine e (admitWaiting e (setEngine e y s))
  | _, _ => s

/-- NM_OP_START: the next start, which the activity placement may hold (R172, R440). The engine keeps whether the CHECKER conditions
hold it. -/
def nmStart (e : Nat) (busy : Bool) (s : State) : State :=
  let x := getEngine e s
  if x.running.isSome || x.queue.isEmpty || engineStopped e s then s
  else if startHold e busy s = 2 then startOp e s
  else
    let s1 := if x.held then s else bump .thsiteHoldHeld (e / 32) s
    showEngine e (setEngine e { x with held := true, checker := checkerHolds e busy s } s1)

/-- 50 us held by the CHECKER conditions: the engine starts at once; the margin has no time limit (R440). -/
def nmHoldExpired (e : Nat) (s : State) : State :=
  let x := getEngine e s
  if x.held ∧ x.checker ∧ startHold e false s ≠ 0 ∧ !engineStopped e s then startOp e (bump .thsiteHoldExpired (e / 32) s) else s

/-- The running operation ends with ABORTED, or with BASE_RESET, at a segment boundary: after as many destination rows, and bytes of
the row behind them, as free values say; FAIL_POS is an index of the row at which it stops (R181, R185, R186; log 104). -/
def nmStop (e : Nat) (op : NmOp) (code : Nat) (s0 : State) : State :=
  let g := fresh s0
  let f := fresh g.2
  let n := nOutRows op.desc
  let r := nmRun e op (f.1 % (n + 1)) (g.1 % max 1 (nOutBytes op.desc)) f.2
  let pos := if r.1.1.status ≠ 0 then r.1.1.pos else if r.1.2 < n then r.1.2 * nG op.desc + f.1 / (n + 1) % max 1 (nG op.desc) else 0xFFFFFFFF
  let s1 := if code = 16 then nmDrop e op 16 r.2 else nmEnd e op { r.1.1 with status := code, pos := pos } r.1.2 r.2
  setEngine e { getEngine e s1 with running := none, met := false, abort := false } s1

/-- Operations of one engine end with ABORTED: those of one district, or all (R185), or all with BASE_RESET (R186). -/
def nmAbort (e : Nat) (mine : NmOp → Bool) (code : Nat) (s : State) : State :=
  let s1 := match (getEngine e s).running with
    | some op => if mine op then nmStop e op code s else s
    | none => s
  let y := getEngine e s1
  let left := y.queue.filter fun o => !mine o
  let s2 := setEngine e { y with queue := left, waiting := y.waiting.filter fun o => !mine o, held := y.held && !left.isEmpty, checker := y.checker && !left.isEmpty } s1
  showEngine e (admitWaiting e (((y.queue ++ y.waiting).filter mine).foldl (fun u op => nmDrop e op code u) s2))

/-- An operation reaches its engine: an envelope is refused where the queue is full, other submitters wait (R172, R184). -/
def nmSubmit (e : Nat) (op : NmOp) (s : State) : State :=
  let op' := { op with seq := s.eng.nmSeq }
  let s1 := setEng { s.eng with nmSeq := s.eng.nmSeq + 1 } s
  let x := getEngine e s1
  let c := nmCheck e op' s1
  let isEnv := match op.who with
    | .envelope _ => true
    | _ => false
  if c ≠ 0 then nmAnswer op' c [] s
  else if x.queue.length < 16 then showEngine e (setEngine e { x with queue := x.queue ++ [op'] } s1)
  else if isEnv then nmAnswer op' 8 [] s
  else setEngine e { x with waiting := x.waiting ++ [op'] } s1

/-- An operation's rows or destination touch a vault range (R180). -/
def nmTouches (e : Nat) (op : NmOp) (v off n : Nat) (s : State) : Bool :=
  let hit (p : Piece) : Bool := p.1 == v && decide (p.2.1 < off + n) && decide (off < p.2.1 + p.2.2)
  ((dstPieces op s).filterMap id).any hit ||
  (List.range (nNidx op.desc)).any fun p =>
    match (nmListRead e op (nIdx op.desc + 4 * p) 4 s).1 with
    | some ib =>
      let t := rowAt e op (leNat ib) s
      decide (leNat ib < nTrows op.desc) && t.1 == 0 && hit (t.2.1, t.2.2, nRowBytes op.desc)
    | none => false

/-- The operations accepted and not completed that touch a range. -/
def fenceOps (v off n : Nat) (s : State) : List Nat :=
  s.engines.flatMap fun x =>
    ((x.2.running.toList ++ x.2.queue ++ x.2.waiting).filter fun op => nmTouches x.1 op v off n s).map (·.seq)

end Sys2Proof.Machine
end

