-- ==== Sys2Proof/Machine/Kv.lean ====
section
/-!
DEFINITION. Chains (chapter 10): the KV format word and page geometry (R247 to R250), the tables of streams and chains, opening
of pages (R251, R259, R260, R263), appends (R252 to R256, R262, R264) and commits (R257).
-/

namespace Sys2Proof.Machine

/-! Streams and chains. -/

def setSort (x : SortSide) (s : State) : State := { s with sort := x }

def noStream : Nat → Stream := fun _ => {}
def getStream (slot : Nat) (s : State) : Stream := tget noStream s.sort.streams slot
def setStream (slot : Nat) (x : Stream) (s : State) : State :=
  setSort { s.sort with streams := tset noStream s.sort.streams slot x } s
def updStream (slot : Nat) (f : Stream → Stream) (s : State) : State := setStream slot (f (getStream slot s)) s

def noChain : Nat → Chain := fun _ => {}
def chainKey (slot c : Nat) : Nat := slot * 2 ^ 20 + c
def getChain (slot c : Nat) (s : State) : Chain := tget noChain s.sort.chains (chainKey slot c)
def setChain (slot c : Nat) (x : Chain) (s : State) : State :=
  setSort { s.sort with chains := tset noChain s.sort.chains (chainKey slot c) x } s
def updChain (slot c : Nat) (f : Chain → Chain) (s : State) : State := setChain slot c (f (getChain slot c s)) s

/-- The chains of a stream, by chain number. -/
def chainsOf (slot : Nat) (s : State) : List (Nat × Chain) :=
  (s.sort.chains.filter fun x => x.1 / 2 ^ 20 == slot).map fun x => (x.1 % 2 ^ 20, x.2)

def updPage (slot c j : Nat) (f : ChainPage → ChainPage) (s : State) : State :=
  updChain slot c (fun x => { x with pages := x.pages.modify j f }) s

def noParcel : Nat → Parcel := fun _ => {}
def getParcel (p : Nat) (s : State) : Parcel := tget noParcel s.parcels p
def setParcel (p : Nat) (x : Parcel) (s : State) : State := { s with parcels := tset noParcel s.parcels p x }

/-- The KV format word of a district's parcel (R247). -/
def kvWord (d : Nat) (s : State) : Nat := (getParcel (rd .distCfgParcel d s) s).kvfmt

/-! The KV format word (R247) and the page geometry (R249). -/

def kKf (w : Nat) : Fmt := fmtOr (bits w 0 4)
def kKs (w : Nat) : Option SFmt := sfmtOfCode (bits w 4 4)
def kVf (w : Nat) : Fmt := fmtOr (bits w 8 4)
def kVs (w : Nat) : Option SFmt := sfmtOfCode (bits w 12 4)
def kGrp (w : Nat) : Bool := bits w 16 1 == 1
def kHd (w : Nat) : Nat := bits w 18 10
def kNh (w : Nat) : Nat := bits w 28 5
def kG (w : Nat) : Nat := bits w 33 7
def kNg (w : Nat) : Nat := bits w 40 9
def kLm1 (w : Nat) : Nat := bits w 49 12

def kE (w : Nat) : Nat := kNh w * kHd w
def kKb (w : Nat) : Nat := kE w * fmtBits (kKf w) / 8
def kVb (w : Nat) : Nat := kE w * fmtBits (kVf w) / 8
def kBk (w : Nat) : Nat := match kKs w with | some f => sfmtBlock f | none => 1
def kBv (w : Nat) : Nat := match kVs w with | some f => sfmtBlock f | none => 1
def kKsB (w : Nat) : Nat := if (kKs w).isSome then kE w / kBk w else 0
def kVsB (w : Nat) : Nat := if kGrp w then kE w / 16 else if (kVs w).isSome then kE w / kBv w else 0
def kSt (w : Nat) : Nat := if kGrp w then 32 * kE w else 0
def kP (w : Nat) : Nat := kKb w + kVb w + kKsB w + kVsB w
def kTpp (w : Nat) : Nat := 32 * ((65280 - kSt w) / (32 * kP w))

def kOff (_ : Nat) : Nat := 256
def kVoff (w : Nat) : Nat := kOff w + kTpp w * kKb w
def kKsoff (w : Nat) : Nat := kVoff w + kTpp w * kVb w
def kVsoff (w : Nat) : Nat := kKsoff w + kKsB w * kTpp w
def kStoff (w : Nat) : Nat := kVsoff w + kTpp w / 16 * kE w

/-- A KV format code may go with a scale code (R37). -/
def scaleOk (f sf : Nat) : Bool := scaleCause (fmtOr f) sf (sf != 0) == 0

/-- The rules of R248. -/
def kvGeometry (w : Nat) : Bool :=
  let f (c : Nat) : Bool := decide (1 ≤ c ∧ c ≤ 9)
  let sc (c : Nat) : Bool := c == 0 || c == 11 || c == 12
  let isFloat (c : Nat) : Bool := decide (3 ≤ c ∧ c ≤ 7)
  f (bits w 0 4) && f (bits w 8 4) && sc (bits w 4 4) && sc (bits w 12 4) &&
  scaleOk (bits w 0 4) (bits w 4 4) && scaleOk (bits w 8 4) (bits w 12 4) &&
  (decide (16 ≤ kHd w ∧ kHd w ≤ 512) && kHd w % 16 == 0) && decide (1 ≤ kNh w ∧ kNh w ≤ 16) &&
  decide (1 ≤ kG w ∧ kG w ≤ 64) && decide (1 ≤ kNg w ∧ kNg w ≤ 256) &&
  kE w % kBk w == 0 && kE w % kBv w == 0 && kKb w % 32 == 0 && kVb w % 32 == 0 &&
  kE w * fmtBits (kKf w) % 256 == 0 && kE w * fmtBits (kVf w) % 256 == 0 &&
  (!kGrp w || (bits w 12 4 == 12 && isFloat (bits w 8 4))) &&
  decide (kNh w * kG w * kHd w ≤ 16384) && decide (32 ≤ kTpp w) && bits w 17 1 == 0 && bits w 61 3 == 0

/-- Chains of a stream under a format word, and the pages its range gives a chain (R245, R258). -/
def kChains (w : Nat) : Nat := (kLm1 w + 1) * kNg w
def kPpc (w ctxmax : Nat) : Nat := ceilDiv ctxmax (kTpp w)

/-- District virtual page of page j of chain c of a stream (R258). -/
def kvPageVpn (x : Stream) (w c j : Nat) : Nat := x.kvbase / 65536 + c * kPpc w x.ctxmax + j

/-! Reading and writing by the KV manager. -/

/-- Bytes of a vault when every word is delivered. -/
def kvRead (v off n : Nat) (s : State) : Option (List Byte) × State :=
  let r := vreadBytes v off n srcKv s
  (if r.1.2.isSome then none else some r.1.1, r.2)

/-- A chain page fails, once: its stream ends with KV_FAILED, or with PR_LOST (R281, R282). The page is named by vault and page, or, where
it is not resident, by 2^32 and its chain and number. -/
def failPage (site slot : Nat) (page : Nat × Nat) (code : Nat) (s : State) : State :=
  let x := getStream slot s
  if x.bad.contains page then s
  else setStream slot { x with bad := page :: x.bad, fault := if x.fault = 0 then code else x.fault } (bump .kvsiteCnt2Failed site s)

/-- The name of a page that is not resident. -/
def awayPage (c j : Nat) : Nat × Nat := (2 ^ 32 + c, j)

/-- Reads as above; a word that is not delivered fails the page of the slot's stream. -/
def kvReadOr (slot v off n : Nat) (s : State) : List Byte × State :=
  let r := kvRead v off n s
  match r.1 with
  | some bs => (bs, r.2)
  | none => (List.replicate n 0, failPage (siteOf v) slot (v, off / 65536) 24 r.2)

/-- Writes for a chain of the slot's stream; a write that is lost, the word it merges with being unreadable, fails the page as a read
would (R155, R281). -/
def kvWrite (slot v off : Nat) (bs : List Byte) (s : State) : State :=
  let r := vwrite v off srcKv bs s
  if r.1.isNone then r.2 else failPage (siteOf v) slot (v, off / 65536) 24 r.2

/-! The page header (R250) and the postcode entry (R263). -/

def kvHeader (slot c j : Nat) (s : State) : List Byte :=
  let x := getStream slot s
  let ch := getChain slot c s
  let p := ch.pages.getD j {}
  let w := kvWord x.district s
  natLe 8 x.id ++ natLe 4 slot ++ natLe 2 (c / max 1 (kNg w)) ++ natLe 1 (c % max 1 (kNg w)) ++ natLe 1 (natBool p.shared) ++
    natLe 4 (j * kTpp w) ++ natLe 2 p.tcount ++ natLe 2 (kTpp w) ++ natLe 8 w ++ natLe 4 j ++
    natLe 4 (if kGrp w then ch.vopen else 0) ++ natLe 1 x.district ++ natLe 7 0 ++ natLe 8 p.pcloc ++ natLe 200 0

/-- Writes the header of a resident page. -/
def writeHeader (slot c j : Nat) (s : State) : State :=
  let p := (getChain slot c s).pages.getD j {}
  if p.spilled.isSome then s else kvWrite slot p.vault (65536 * p.page) (kvHeader slot c j s) s

def pcSize (w : Nat) : Nat := 32 + 2 * kE w
/-- Postcode entries in one page. -/
def pcPer (w : Nat) : Nat := 65536 / pcSize w

/-- An entry as it opens: every MAX at -448, every MIN at 448 (R264). -/
def pcOpen (w : Nat) : List Byte := List.replicate 32 0 ++ List.replicate (kE w) 0xFE ++ List.replicate (kE w) 0x7E

def pcWrite (slot loc : Nat) (bs : List Byte) (s : State) : State := kvWrite slot (vaultLocal loc).1 (vaultLocal loc).2 bs s

/-- LSR of pages, each a slot, a chain and a page number: the round of the last attention set that named the page (R263). A page whose
entry cannot be read fails (R281) and is left out. -/
def withLsr : List (Nat × Nat × Nat) → State → List (Nat × Nat × Nat × Nat) × State
  | [], s => ([], s)
  | x :: xs, s =>
    let loc := ((getChain x.1 x.2.1 s).pages.getD x.2.2 {}).pcloc
    let r := kvRead (vaultLocal loc).1 (vaultLocal loc).2 4 s
    let t := withLsr xs (if r.1.isSome then r.2 else failPage (siteOf (vaultLocal loc).1) x.1 ((vaultLocal loc).1, (vaultLocal loc).2 / 65536) 24 r.2)
    (match r.1 with
     | some bs => (leNat bs, x) :: t.1
     | none => t.1, t.2)

/-! Making room (R260). -/

/-- Pages of streams that lie in a vault: slot, chain, page number. -/
def chainPagesIn (v : Nat) (s : State) : List (Nat × Nat × Nat) :=
  s.sort.chains.flatMap fun x =>
    (x.2.pages.zipIdx.filter fun p => p.1.vault == v && p.1.spilled.isNone).map fun p => (x.1 / 2 ^ 20, x.1 % 2 ^ 20, p.2)

/-- Page j is the page that the next append reaches or a later one. -/
def isTail (ch : Chain) (tpp j : Nat) : Bool := ch.len < (j + 1) * tpp

/-- A page may be moved to another vault (R260, R262). The pages of a stream that is being pre-empted stay (R279 step 1); one whose
pre-emption was aborted is as before. -/
def mayMove (slot c j : Nat) (s : State) : Bool :=
  let ch := getChain slot c s
  let p := ch.pages.getD j {}
  let x := getStream slot s
  !ch.attend.contains j && !isTail ch (kTpp (kvWord x.district s)) j && !p.shared && !p.opening && p.spilling.isNone &&
    p.back.isNone && p.spilled.isNone && (x.st == .ready || x.st == .running) && (x.pre == 0 || x.pre == 4)

/-- Moves a chain page to another page of the site, already taken, and frees the old one (R234, R260). The engine of the home cluster
copies it as one row of 64 KiB; the copy counts as its own (R187), and ends within the opening that needs it (log 107). -/
def movePage (slot c j v page : Nat) (s : State) : State :=
  let x := getStream slot s
  let p := (getChain slot c s).pages.getD j {}
  let e := clusterOf p.vault
  let r := vreadBytes p.vault (65536 * p.page) 65536 (engineSrc e p.vault) (addSat .nmeBytesCount e 65536 (bump .nmeRowsCount e s))
  let z := zeroPage v page (if r.1.2.isNone then r.2 else failPage (siteOf p.vault) slot (p.vault, p.page) 24 r.2)
  let s1 := updPage slot c j (fun q => { q with vault := v, page := page }) (vwrite v (65536 * page) (engineSrc e v) r.1.1 z).2
  let n := kvPageVpn x (kvWord x.district s) c j
  freePage x.district p.vault p.page (writeEntry x.district n (pteOf v page false false) s1)

def markChain (v page : Nat) (s : State) : State := setPage v page { getPage v page s with chain := true } s

/-- Takes a coded page of a vault for chains of a district, when one is free and the limit allows it. -/
def takeChainPage (d v : Nat) (s : State) : Option (Nat × State) :=
  if !underLimit d 1 s then none
  else (freePageIn v true s).map fun p => (p, markChain v p (takePage d v p (.district d) s))

/-- Moves the page of vault v with the oldest LSR, the first of several, to another vault, the home cluster's first (R260). -/
def moveOldest (d v : Nat) (s : State) : Option State :=
  let r := withLsr ((chainPagesIn v s).filter fun x => mayMove x.1 x.2.1 x.2.2 s) s
  match r.1 with
  | [] => none
  | x :: xs =>
    let m := (xs.foldl (fun a b => if b.1 < a.1 then b else a) x).2
    let near := (coresOf (clusterOf v)).filter (· ≠ v)
    let far := (vaultsOn d (siteOf v) s).filter fun u => clusterOf u ≠ clusterOf v
    (findPage (near ++ far) true r.2).map fun up =>
      bump .kvsiteCnt2Migrations (siteOf v)
        (movePage m.1 m.2.1 m.2.2 up.1 up.2 (markChain up.1 up.2 (takePage d up.1 up.2 (.district d) r.2)))

/-- The first of n adjoining free coded pages of a vault. -/
def freeRun (v n : Nat) (s : State) : Option Nat :=
  if !vaultAlive v s then none
  else (List.range 752).find? fun p => (List.range n).all fun i => pageIsFree v (p + i) s && decide (p + i < 752)

/-- Pages of vault v move out of it until it has n adjoining free coded pages, or no page is left that may move. -/
def makeRun (d v n : Nat) : Nat → State → State
  | 0, s => s
  | k + 1, s =>
    if (freeRun v n s).isSome then s
    else
      match moveOldest d v s with
      | some s1 => makeRun d v n k s1
      | none => s

/-- Room for n pages in vault v, by migration where it lacks them (R260). -/
def makeRoom (d v n : Nat) (s : State) : State := if underLimit d n s then makeRun d v n 752 s else s

/-! Opening (R251, R259, R263, R271). -/

/-- The counter-area page that entry j of a chain's section needs, allocated when the section has not reached it (R263). -/
def growSection (slot c j : Nat) (s : State) : Option State :=
  let x := getStream slot s
  let ch := getChain slot c s
  let w := kvWord x.district s
  let g := j / max 1 (pcPer w)
  if ch.pcs.any (fun y => y.1 == g) then some s
  else if !underLimit x.district 1 s then none
  else
    (findPage (vaultsOn x.district (siteOf ch.home) s) false s).map fun vp =>
      updChain slot c (fun y => { y with pcs := y.pcs ++ [(g, vp.1, vp.2)] }) (takePage x.district vp.1 vp.2 (.district x.district) s)

/-- The vault-local address of entry j. -/
def pcAddr (ch : Chain) (w j : Nat) : Nat :=
  let vp := match ch.pcs.find? fun y => y.1 == j / max 1 (pcPer w) with
    | some y => y.2
    | none => (0, 0)
  vp.1 * 2 ^ 26 + vp.2 * 65536 + j % max 1 (pcPer w) * pcSize w

/-- Starts opening page j, the next of a chain, in its home vault: its page, its leaf and its postcode entry, or nothing. -/
def openPage (slot c : Nat) (s : State) : Option State :=
  let x := getStream slot s
  let d := x.district
  let ch := getChain slot c s
  let w := kvWord d s
  let j := ch.pages.length
  match takeChainPage d ch.home (makeRoom d ch.home 1 s) with
  | none => none
  | some (p, s1) =>
    let l := makeLeaf d (kvPageVpn x w c j) s1
    if l.1 ≠ 0 then none
    else
      (growSection slot c j l.2).map fun s2 =>
        updChain slot c (fun y => { y with pages := y.pages ++
          [{ vault := ch.home, page := p, opening := true, isNew := true, pcloc := pcAddr y w j }] }) s2

/-- Opens pages until a chain has n of them. -/
def openTo (slot c n : Nat) : Nat → State → Option State
  | 0, s => some s
  | k + 1, s =>
    if n ≤ (getChain slot c s).pages.length then some s
    else
      match openPage slot c s with
      | some s1 => openTo slot c n k s1
      | none => none

/-- Bytes of a section head and its pages (R271). -/
def queryBytes (x : Stream) (w : Nat) : Nat := if x.rthr < x.ctxmax then 2 * kNh w * kG w * kHd w else 0
def listOff (x : Stream) (w : Nat) : Nat := 64 + ceilDiv (queryBytes x w) 32 * 32
def headPages (x : Stream) (w : Nat) : Nat := ceilDiv (listOff x w + 8 * (kPpc w x.ctxmax + 1)) 65536

/-- Takes a run of n coded pages of the home vault for a section head. -/
def openHead (slot c : Nat) (s : State) : Option State :=
  let x := getStream slot s
  let d := x.district
  let ch := getChain slot c s
  let n := headPages x (kvWord d s)
  if ch.head.isSome then some s
  else if !underLimit d n s then none
  else
    let s0 := makeRoom d ch.home n s
    (freeRun ch.home n s0).map fun p =>
      let s1 := (List.range n).foldl
        (fun u i => zeroPage ch.home (p + i) (markChain ch.home (p + i) (takePage d ch.home (p + i) (.district d) u))) s0
      updChain slot c (fun y => { y with head := some (p, n) }) s1

/-! The section head (R271). -/

/-- A LIST entry of page j. -/
def listEntry (ch : Chain) (j : Nat) : List Byte :=
  let p := ch.pages.getD j {}
  let st := ch.staged.find? fun x => x.1 == j
  let vp := match st with
    | some x => x.2.1
    | none => p.page
  natLe 8 (j + vp * 2 ^ 32 + natBool st.isSome * 2 ^ 42 + natBool p.isNew * 2 ^ 43)

/-- Writes the fields and LIST of a chain's head; QTOKEN and QUERY are the letter's. -/
def writeHead (slot c : Nat) (s : State) : State :=
  let x := getStream slot s
  let ch := getChain slot c s
  match ch.head with
  | none => s
  | some (p, _) =>
    let off := 65536 * p
    let fl := natBool ch.selected + 2 * natBool ch.qnan + 4 * natBool ch.qstale
    let s1 := kvWrite slot ch.home off
      (natLe 4 ch.len ++ natLe 4 ch.attend.length ++ natLe 4 (ch.round % 2 ^ 32) ++ natLe 1 fl ++ natLe 19 0) s
    kvWrite slot ch.home (off + listOff x (kvWord x.district s)) (ch.attend.flatMap (listEntry ch)) s1

/-- The pages of a step's appends, up to page n, that hold no committed token and are not in the attention set join it, as new
pages, and the head is written again (R266, R269, R271). -/
def attendNew (slot c n : Nat) (s : State) : State :=
  let ch := getChain slot c s
  let np := ceilDiv ch.len (max 1 (kTpp (kvWord (getStream slot s).district s)))
  let new := (List.range (min n ch.pages.length)).filter fun j => decide (np ≤ j) && !ch.attend.contains j
  if new = [] then s
  else
    let r := roundNow s
    let s1 := updChain slot c (fun y => { y with
      attend := y.attend ++ new, round := r, pages := y.pages.zipIdx.map fun p => { p.1 with isNew := p.1.isNew || new.contains p.2 } }) s
    writeHead slot c ((new.filter fun j => !(ch.pages.getD j {}).opening).foldl
      (fun u j => pcWrite slot ((getChain slot c u).pages.getD j {}).pcloc (natLe 4 (r % 2 ^ 32)) u) s1)

/-- Opens a chain at its first append, in the vault of the appending core (R246, R259): head and first n pages, which the chain's
first attention set names (R266). -/
def openChain (slot c v n : Nat) (s : State) : Option State :=
  let s1 := setChain slot c { opened := true, home := v } s
  match openHead slot c s1 with
  | none => none
  | some s2 => (openTo slot c n (n + 1) s2).map (attendNew slot c n)

/-- The opening of page j ends: zeros, header and map entry, and its postcode entry, with LSR where the attention set names it (R251,
R263). -/
def finishOpen (slot c j : Nat) (s : State) : State :=
  let x := getStream slot s
  let p := (getChain slot c s).pages.getD j {}
  let w := kvWord x.district s
  if !p.opening then s
  else
    let s1 := zeroPage p.vault p.page (updPage slot c j (fun q => { q with opening := false }) s)
    let ch := getChain slot c s
    let lsr := if ch.attend.contains j then ch.round % 2 ^ 32 else 0
    let s2 := writeHeader slot c j (pcWrite slot p.pcloc (natLe 4 lsr ++ (pcOpen w).drop 4) s1)
    writeEntry x.district (kvPageVpn x w c j) (pteOf p.vault p.page false false) s2

/-! Postcodes (R264). -/

/-- The E4M3 code next below, in magnitude, a finite magnitude up to 448. -/
def e4m3Down (m : Nat) (e : Int) : Nat := (convert .e4m3 .zero true 0 (.fin false m e)).1
def e4m3Up (m : Nat) (e : Int) : Nat :=
  let t := e4m3Down m e
  match decodeElem .e4m3 t with
  | .fin _ a b => if ltMag a b m e then t + 1 else t
  | _ => t

/-- A value rounded toward plus infinity (true) or minus infinity; 0x7F and 0xFF are the markers. -/
def pcRound (up : Bool) (v : Val) : Nat :=
  match v with
  | .nan => if up then 0x7F else 0xFF
  | .inf n => if n then (if up then 0xFE else 0xFF) else (if up then 0x7F else 0x7E)
  | .fin n m e =>
    let big := ltMag 448 0 m e
    if n == up then (if big then (if n then 0xFE else 0x7E) else (if n then 0x80 else 0) + e4m3Down m e)
    else if big then (if n then 0xFF else 0x7F) else (if n then 0x80 else 0) + e4m3Up m e

/-- The value of a postcode byte, markers included. -/
def pcVal (b : Nat) : Val := if b = 0x7F then .inf false else if b = 0xFF then .inf true else decodeElem .e4m3 b

/-- Merges a value into a MAX or a MIN byte. -/
def pcMerge (up : Bool) (b : Byte) (v : Val) : Byte :=
  let r := pcRound up v
  if up then (if vlt (pcVal b.toNat) (pcVal r) then BitVec.ofNat 8 r else b)
  else (if vlt (pcVal r) (pcVal b.toNat) then BitVec.ofNat 8 r else b)

/-- A key append's elements, with their scales, merge into the entry at loc from channel off on. -/
def pcUpdate (slot loc off : Nat) (w : Nat) (vs : List Val) (s : State) : State :=
  let v := (vaultLocal loc).1
  let o := (vaultLocal loc).2 + 32 + off
  let n := vs.length
  let hi := kvReadOr slot v o n s
  let lo := kvReadOr slot v (o + kE w) n hi.2
  let a := (hi.1.zip vs).map fun p => pcMerge true p.1 p.2
  let b := (lo.1.zip vs).map fun p => pcMerge false p.1 p.2
  kvWrite slot v (o + kE w) b (kvWrite slot v o a lo.2)

/-! The append descriptor (R133) and its checks (R252). -/

def apSlot (d : Nat) : Nat := bits d 0 18
def apLayer (d : Nat) : Nat := bits d 32 12
def apHgrp (d : Nat) : Nat := bits d 48 8
def apVal (d : Nat) : Bool := bits d 56 1 == 1
def apToken (d : Nat) : Nat := bits d 64 32
def apOff (d : Nat) : Nat := bits d 96 14

def apReserved (d : Nat) : Bool := bits d 18 14 != 0 || bits d 44 4 != 0 || bits d 57 7 != 0 || bits d 110 146 != 0

/-- The block size of an append's scales. -/
def apBlock (a : Append) : Nat := match sfmtOfCode a.sf with | some f => sfmtBlock f | none => 1

/-- The stream of an append, when its slot is in the running step of the core's district. -/
def apStream (a : Append) (s : State) : Option Stream :=
  let x := getStream (apSlot a.desc) s
  if x.st = .running ∧ coreDistrict a.core s = some x.district then some x else none

/-- The refusal code of an append, 0 for none; KV_NOSPACE comes from the opening. -/
def kvCheck (site : Nat) (a : Append) (s : State) : Nat :=
  let d := a.desc
  let slot := apSlot d
  let dist := (coreDistrict a.core s).getD 256
  let w := kvWord dist s
  let c := apLayer d * kNg w + apHgrp d
  let ch := getChain slot c s
  let x := getStream slot s
  let o := apOff d
  let e := kE w
  if apReserved d || decide (kNg w ≤ apHgrp d) || decide (kLm1 w < apLayer d) || decide (e < o + a.count) ||
      (a.sf != 0 && (o % apBlock a != 0 || (a.count % apBlock a != 0 && o + a.count != e))) then 1
  else if (apStream a s).isNone then 2
  else if ch.opened ∧ siteOf ch.home ≠ site then 3
  else if apToken d < ch.len ∨ ch.len + x.nin ≤ apToken d then 4
  else if a.fmt ≠ (if !apVal d then bits w 0 4 else if kGrp w then 1 else bits w 8 4) ∨
      a.sf ≠ (if !apVal d then bits w 4 4 else if kGrp w then 0 else bits w 12 4) then 5
  else if kGrp w ∧ apToken d / 16 ≠ ch.vopen then 6
  else 0

/-- A refused append: the refusal mark of the stream of its slot is set, counted and recorded (R256). A slot that is not bound to the
core's district names no stream of that district, and no other district's stream is marked (log 108). -/
def refuseAppend (site : Nat) (a : Append) (code : Nat) (s : State) : State :=
  let slot := apSlot a.desc
  let s1 := bump .kvsiteCnt0Refused site (wr .kvsiteLastRefuseSlot site slot (wr .kvsiteLastRefuseCode site code
    (wr .kvsiteLastRefuseLayer site (apLayer a.desc) (wr .kvsiteLastRefuseHgrp site (apHgrp a.desc) s))))
  let s2 := flagIf (code == 7) .kvsiteStatusNospace site s1
  let x := getStream slot s
  if (x.st = .running ∨ x.st = .ready) ∧ coreDistrict a.core s = some x.district ∧ x.refused = 0 then
    setStream slot { x with refused := 16 + code } s2
  else s2

/-! Writing an append (R253, R254, R262). -/

/-- Writes n elements of b bits from element off of a row. A first or last byte that they cover only in part is read and merged; what
they cover whole is not read. -/
def rowMerge (slot v base b off n : Nat) (data : Nat) (s : State) : State :=
  let lo := off * b / 8
  let hi := ceilDiv ((off + n) * b) 8
  let sh := off * b - 8 * lo
  let up := sh + n * b
  let r1 := if sh = 0 then ([0], s) else kvReadOr slot v (base + lo) 1 s
  let r2 := if up % 8 = 0 then ([0], r1.2) else kvReadOr slot v (base + hi - 1) 1 r1.2
  let part := data % 2 ^ (n * b)
  let new := leNat r1.1 % 2 ^ sh + part * 2 ^ sh + leNat r2.1 / 2 ^ (up % 8) * 2 ^ up
  kvWrite slot v (base + lo) (natLe (hi - lo) new) r2.2

/-- Writes scale bytes: byte b of the list goes to base + (b0 + b) * pitch. -/
def scaleWrites (slot v base pitch b0 : Nat) (bs : List Byte) (s : State) : State :=
  bs.zipIdx.foldl (fun u x => kvWrite slot v (base + (b0 + x.2) * pitch) [x.1] u) s

/-- The exact values of an append's elements under their scales (R36). -/
def apVals (a : Append) : List Val :=
  let f := fmtOr a.fmt
  let reg := leNat a.data
  (List.range a.count).map fun i =>
    let x := decodeElem f (elemBits f reg i).1
    match sfmtOfCode a.sf with
    | some sf => vmul x (decodeScale sf ((a.scales.getD (i / sfmtBlock sf) 0).toNat))
    | none => x

/-- Closes the value block of rows 16 r to 16 r + 15 of page j (R254). The conversion is the KV manager's: R46 names instructions of the core,
and no flag of one is set (log 125). -/
def closeBlock (slot c j r : Nat) (s : State) : State :=
  let x := getStream slot s
  let w := kvWord x.district s
  let p := (getChain slot c s).pages.getD j {}
  let base := 65536 * p.page
  let e := kE w
  let st := kvReadOr slot p.vault (base + kStoff w) (32 * e) s
  let val (t i : Nat) : Val := decodeElem .bf16 (leNat ((st.1.drop (2 * (t * e + i))).take 2))
  let scales := (List.range e).map fun i => chooseScale .fine (kVf w) ((List.range 16).map fun t => val t i)
  let row (t : Nat) : Nat := packElems (kVf w) ((List.range e).map fun i =>
    (convert (kVf w) .nearest true 0 (underScale .fine (scales.getD i 0) (val t i))).1)
  let s1 := (List.range 16).foldl
    (fun u t => kvWrite slot p.vault (base + kVoff w + (16 * r + t) * kVb w) (natLe (kVb w) (row t)) u) st.2
  let s2 := kvWrite slot p.vault (base + kVsoff w + r * e) (scales.map (BitVec.ofNat 8)) s1
  let s3 := kvWrite slot p.vault (base + kStoff w) (List.replicate (32 * e) 0) s2
  writeHeader slot c j (updChain slot c (fun y => { y with vopen := y.vopen + 1 }) s3)

/-- Restores the open value block of page j from its closed rows: the first n rows come back into staging in BF16, the others
are zero (R257, R300). -/
def reopenRows (slot c j r n : Nat) (s : State) : State :=
  let x := getStream slot s
  let w := kvWord x.district s
  let p := (getChain slot c s).pages.getD j {}
  let base := 65536 * p.page
  let e := kE w
  let sc := kvReadOr slot p.vault (base + kVsoff w + r * e) e s
  (List.range 16).foldl
    (fun u t =>
      if t < n then
        let q := kvReadOr slot p.vault (base + kVoff w + (16 * r + t) * kVb w) (kVb w) u
        let reg := leNat q.1
        let row := (List.range e).map fun i =>
          (convert .bf16 .nearest true 0 (vmul (decodeElem (kVf w) (elemBits (kVf w) reg i).1)
            (decodeScale .fine (sc.1.getD i 0).toNat))).1
        kvWrite slot p.vault (base + kStoff w + t * 2 * e) (row.flatMap (natLe 2)) q.2
      else kvWrite slot p.vault (base + kStoff w + t * 2 * e) (List.replicate (2 * e) 0) u) sc.2

/-- Copies a shared page and its postcode entry to a page of the stream's own (R262): nothing when no page can be opened. -/
def copyShared (slot c j : Nat) (s : State) : Option State :=
  let x := getStream slot s
  let d := x.district
  let ch := getChain slot c s
  let w := kvWord d s
  let p := ch.pages.getD j {}
  match takeChainPage d ch.home (makeRoom d ch.home 1 s) with
  | none => none
  | some (np, s1) =>
    (growSection slot c j s1).map fun s2 =>
      let r := kvReadOr slot p.vault (65536 * p.page) 65536 s2
      let e := kvReadOr slot (vaultLocal p.pcloc).1 (vaultLocal p.pcloc).2 (pcSize w) r.2
      let loc := pcAddr (getChain slot c e.2) w j
      let s3 := pcWrite slot loc e.1 (kvWrite slot ch.home (65536 * np) r.1 (zeroPage ch.home np e.2))
      let s4 := updPage slot c j (fun q => { q with vault := ch.home, page := np, shared := false, pcloc := loc }) s3
      writeEntry d (kvPageVpn x w c j) (pteOf ch.home np false false) (writeHeader slot c j s4)

/-- Writes an accepted append into page j (R253, R254, R264). -/
def putAppend (a : Append) (c j : Nat) (s : State) : State :=
  let slot := apSlot a.desc
  let x := getStream slot s
  let w := kvWord x.district s
  let p := (getChain slot c s).pages.getD j {}
  let base := 65536 * p.page
  let t := apToken a.desc % kTpp w
  let o := apOff a.desc
  let n := a.count
  let data := leNat a.data
  if apVal a.desc && kGrp w then
    let s1 := rowMerge slot p.vault (base + kStoff w + t % 16 * 2 * kE w) 16 o n data s
    if t % 16 = 15 ∧ o + n = kE w then closeBlock slot c j (t / 16) s1 else s1
  else if apVal a.desc then
    scaleWrites slot p.vault (base + kVsoff w + t) (kTpp w) (o / kBv w) a.scales
      (rowMerge slot p.vault (base + kVoff w + t * kVb w) (fmtBits (kVf w)) o n data s)
  else
    pcUpdate slot p.pcloc o w (apVals a)
      (scaleWrites slot p.vault (base + kKsoff w + t) (kTpp w) (o / kBk w) a.scales
        (rowMerge slot p.vault (base + kOff w + t * kKb w) (fmtBits (kKf w)) o n data s))

/-- The append at a queue's head leaves it. -/
def popAppend (site : Nat) (s : State) : State :=
  let k := getKv site s
  showQocc site (setKv site { k with queue := k.queue.tail } s)

/-- Room for the append's pages: the state in which page j stands (open or still opening), or nothing (R259, R262). -/
def appendRoom (a : Append) (c j : Nat) (s : State) : Option State :=
  let slot := apSlot a.desc
  let x := getStream slot s
  let w := kvWord x.district s
  let ch := getChain slot c s
  let n := ceilDiv (ch.len + x.nin) (kTpp w)
  let s1 := if ch.opened then openTo slot c n (n + 1) s else openChain slot c (ownVault a.core s) n s
  match s1 with
  | none => none
  | some u => if ((getChain slot c u).pages.getD j {}).shared then copyShared slot c j u else some u

/-- The append at the head of a site's queue is checked and written, or waits for an opening (R251 to R256, R259). -/
def headAppend (site : Nat) (s : State) : State :=
  match (getKv site s).queue with
  | [] => s
  | a :: _ =>
    let code := kvCheck site a s
    if code ≠ 0 then popAppend site (refuseAppend site a code s)
    else
      let slot := apSlot a.desc
      let x := getStream slot s
      let w := kvWord x.district s
      let c := apLayer a.desc * kNg w + apHgrp a.desc
      let j := apToken a.desc / kTpp w
      match appendRoom a c j s with
      | none => s
      | some u =>
        if ((getChain slot c u).pages.getD j {}).opening then u
        else popAppend site (bump .kvsiteCnt0Appends site (putAppend a c j u))

/-- The waiting append at the head still finds no page (R259). -/
def failAppend (site : Nat) (s : State) : State :=
  match (getKv site s).queue with
  | [] => s
  | a :: _ =>
    let slot := apSlot a.desc
    let x := getStream slot s
    let w := kvWord x.district s
    let c := apLayer a.desc * kNg w + apHgrp a.desc
    if kvCheck site a s = 0 ∧ (appendRoom a c (apToken a.desc / kTpp w) s).isNone then
      popAppend site (refuseAppend site a 7 s)
    else s

/-! Commit and failure of a step (R257). -/

/-- A chain's committed tokens become n; headers follow. -/
def setLen (slot c n : Nat) (s : State) : State :=
  let w := kvWord (getStream slot s).district s
  let t := max 1 (kTpp w)
  let ch := getChain slot c s
  let s1 := setChain slot c { ch with len := n, pages := ch.pages.zipIdx.map fun p =>
    { p.1 with tcount := min t (n - p.2 * t) } } s
  ((List.range ch.pages.length).filter fun j => (ch.pages.getD j {}).tcount ≠ min t (n - j * t)).foldl
    (fun u j => writeHeader slot c j u) s1

def commitKv (slot n : Nat) (s : State) : State :=
  (chainsOf slot s).foldl (fun u x => setLen slot x.1 (x.2.len + n) u) s

/-- A failed step: a value block closed by uncommitted tokens is reopened. -/
def uncommitKv (slot : Nat) (s : State) : State :=
  let w := kvWord (getStream slot s).district s
  if !kGrp w then s
  else
    (chainsOf slot s).foldl
      (fun u x =>
        let l := x.2.len
        if l / 16 < x.2.vopen then
          let j := l / max 1 (kTpp w)
          writeHeader slot x.1 j (updChain slot x.1 (fun y => { y with vopen := l / 16 })
            (reopenRows slot x.1 j (l % max 1 (kTpp w) / 16) (l % 16) u))
        else u) s

end Sys2Proof.Machine
end

