-- ==== Sys2Proof/Machine/Lookahead.lean ====
section
/-!
DEFINITION. Attention sets and the look-ahead pass (R266 to R271), poste restante (R272 to R276, R281, R282), and the release
of a stream's pages.
-/

namespace Sys2Proof.Machine

/-! Scores (R267, R268). -/

/-- A query element times a postcode value; a zero element times a marker gives 0. -/
def pcMul (q m : Val) : Val := if isZero q then (if isNeg q then .fin true 0 0 else .fin false 0 0) else vmul q m

/-- The bound of one query head over the channels of its key head. -/
def headBound (q hi lo : List Val) : Val :=
  ((q.zip (hi.zip lo)).foldl (fun a p => round32 (vadd a (vmaxOf (pcMul p.1 p.2.1) (pcMul p.1 p.2.2)))) (.fin false 0 0))

/-- The score of a page from its entry's MAX and MIN bytes and the query. -/
def pageScore (w : Nat) (q : List Val) (hi lo : List Byte) : Val :=
  let part (l : List Val) (h : Nat) : List Val := (l.drop (h * kHd w)).take (kHd w)
  let vh := hi.map fun b => pcVal b.toNat
  let vl := lo.map fun b => pcVal b.toNat
  (List.range (kNh w * kG w)).foldl
    (fun a h => vmaxOf a (headBound (part q h) (part vh (h / kG w)) (part vl (h / kG w)))) (.inf true)

/-- The query of a section head: its values, and whether a NaN was met. -/
def readQuery (slot c : Nat) (s : State) : (List Val × Bool) × State :=
  let x := getStream slot s
  let ch := getChain slot c s
  let w := kvWord x.district s
  let n := kNh w * kG w * kHd w
  match ch.head with
  | none => (([], false), s)
  | some (p, _) =>
    let r := kvReadOr slot ch.home (65536 * p + 64) (2 * n) s
    let vs := (List.range n).map fun i => decodeElem .bf16 (leNat ((r.1.drop (2 * i)).take 2))
    ((vs.map fun v => if isNan v then .fin false 0 0 else v, vs.any isNan), r.2)

/-- Scores of pages in order. -/
def scorePages (slot c w : Nat) (q : List Val) : List Nat → State → List (Nat × Val) × State
  | [], s => ([], s)
  | j :: js, s =>
    let loc := ((getChain slot c s).pages.getD j {}).pcloc
    let r := kvReadOr slot (vaultLocal loc).1 ((vaultLocal loc).2 + 32) (2 * kE w) s
    let t := scorePages slot c w q js r.2
    ((j, pageScore w q (r.1.take (kE w)) (r.1.drop (kE w))) :: t.1, t.2)

/-- The n pages with the highest scores, ties to the lower page. -/
def topPages (n : Nat) (xs : List (Nat × Val)) : List Nat :=
  ((xs.insertionSort fun a b => vlt b.2 a.2 = true ∨ (vlt a.2 b.2 = false ∧ a.1 ≤ b.1)).take n).map (·.1)

/-! Poste restante (R272). -/

/-- Pages of one share of an expander. -/
def shareOf (x : Nat × Nat × Nat × Bool) : Nat := x.2.2.1 / 64

/-- A RESUME still restores the stream (R280). -/
def resuming (slot : Nat) (s : State) : Bool := s.sort.resumes.any fun r => r.2 == some slot

/-- The poste restante pages of a site's shares in use by chains, and those not reused after a failed spill; an expander that is lost has
no share (R282). -/
def prInUse (site : Nat) (s : State) : List (Nat × Nat × Nat) :=
  ((s.sort.chains.flatMap fun x => x.2.pages.flatMap fun p => p.spilled.toList ++ p.spilling.toList).filter
    (fun l => s.sort.exps.any fun e => e.1 == l.1 && e.2.1 == l.2.1 && l.2.2 / max 1 (shareOf e) == site) ++
  (getKv site s).prBad).filter fun l => s.sort.exps.any fun e => e.1 == l.1 && e.2.1 == l.2.1 && !e.2.2.2

def prShare (site : Nat) (s : State) : Nat :=
  if site < 64 then ((s.sort.exps.filter fun e => !e.2.2.2).map shareOf).sum else 0

def showPr (site : Nat) (s : State) : State :=
  let n := prShare site s
  wr .kvsiteStatusPrPresent site (natBool (n != 0)) (wr .kvsitePrShare site n (wr .kvsitePrUsed site (prInUse site s).length s))

/-! The attention set (R266, R269, R271). -/

/-- The token index of the query that the letter wrote. -/
def readQtoken (slot c : Nat) (s : State) : Nat × State :=
  let ch := getChain slot c s
  match ch.head with
  | none => (0, s)
  | some (p, _) => let r := kvReadOr slot ch.home (65536 * p + 32) 8 s; (leNat r.1, r.2)

/-- Frees the staging pages of a chain (R270). -/
def dropStaging (slot c : Nat) (s : State) : State :=
  let ch := getChain slot c s
  updChain slot c (fun y => { y with staged := [] })
    (ch.staged.foldl (fun u x => freePage (getStream slot u).district ch.home x.2.1 u) s)

/-- Cancels the spills in flight of the pages of an attention set (R275). -/
def cancelSpills (slot c : Nat) (js : List Nat) (s : State) : State :=
  js.foldl
    (fun u j =>
      if ((getChain slot c u).pages.getD j {}).spilling.isSome then
        bump .kvsiteCnt1Cancels (siteOf (getChain slot c u).home) (updPage slot c j (fun p => { p with spilling := none }) u)
      else u) s

/-- Builds the attention set of a chain for the stream's next step, and sets LSR of its pages (R266, R269). The query is that of the
last token of the step just run, committed or not (R271; log 109); the pages that the next step's appends open join at its admission. -/
def buildSet (slot c : Nat) (s : State) : State :=
  let x := getStream slot s
  let ch := getChain slot c s
  let w := kvWord x.district s
  let np := ceilDiv ch.len (kTpp w)
  let all := List.range np
  let full := x.pos < x.pend || x.pos ≤ x.rthr || x.rthr == 0
  let t := readQtoken slot c s
  let stale := !full && t.1 != x.qpos
  let fixed := all.filter fun j => decide (j < x.rets ∨ np ≤ j + x.retw)
  let rest := all.filter fun j => !fixed.contains j
  let q := if full || stale then (([], false), t.2) else readQuery slot c t.2
  let sc := if full || stale then ([], q.2) else scorePages slot c w q.1.1 rest q.2
  let set :=
    if full then all
    else if stale then all.filter fun j => ch.attend.contains j || (ch.pages.getD j {}).isNew
    else all.filter fun j => fixed.contains j || (topPages x.retn sc.1).contains j
  let r := max (getDistrict x.district s).started (roundNow s)
  let s1 := showPr (siteOf ch.home) (cancelSpills slot c set (dropStaging slot c sc.2))
  let s2 := set.foldl (fun u j => pcWrite slot ((getChain slot c u).pages.getD j {}).pcloc (natLe 4 r) u) s1
  updChain slot c (fun y => { y with
    attend := set, round := r, selected := if stale then ch.selected else !full, qnan := q.1.2, qstale := stale, phase := 2,
    pages := y.pages.map fun p => { p with isNew := false } }) s2

/-! Staging (R270) and returns (R276). -/

/-- The descriptor of the GATHER that copies a page into a staging page; its one index is the zero at byte 16 of the section
head. -/
def stageDesc (x : Stream) (w c j home page head : Nat) : Nat :=
  1 + 2 ^ 16 + clusterOf home % 32 * 2 ^ 24 + kvPageVpn x w c j * 65536 * 2 ^ 32 + (home * 2 ^ 26 + 65536 * page) * 2 ^ 80 +
    (home * 2 ^ 26 + 65536 * head + 16) * 2 ^ 128 + 2 ^ 256 + 65536 * 2 ^ 288 + 2 ^ 312 + 2 ^ 336 + 65536 * 2 ^ 352

/-- Stages page j: takes a staging page of the home vault and submits the GATHER, when there is room. -/
def stagePage (slot c j : Nat) (s : State) : State :=
  let x := getStream slot s
  let d := x.district
  let ch := getChain slot c s
  match takeChainPage d ch.home (makeRoom d ch.home 1 s), ch.head with
  | some (p, s1), some (h, _) =>
    let s2 := updChain slot c (fun y => { y with staged := y.staged ++ [(j, p, false)] }) (zeroPage ch.home p s1)
    nmSubmit (clusterOf ch.home)
      { desc := stageDesc x (kvWord d s) c j ch.home p h, district := some d, who := .kv slot c j } s2
  | _, _ => s

/-- Returns in flight to a site. -/
def returnsOn (site : Nat) (s : State) : Nat :=
  (s.sort.chains.map fun x => if siteOf x.2.home = site then (x.2.pages.filter fun p => p.back.isSome).length else 0).sum

/-- Opens a page for a spilled page, in the home vault when possible (R276). -/
def startReturn (slot c j : Nat) (s : State) : State :=
  let d := (getStream slot s).district
  let ch := getChain slot c s
  if 64 ≤ returnsOn (siteOf ch.home) s ∨ !underLimit d 1 s then s
  else
    let s0 := makeRoom d ch.home 1 s
    match findPage (ch.home :: vaultsOn d (siteOf ch.home) s0) true s0 with
    | none => s
    | some (v, p) =>
      updPage slot c j (fun q => { q with back := some (v, p) }) (markChain v p (takePage d v p (.district d) s0))

/-- What one page of the attention set still needs. -/
def fetchPage (slot c j : Nat) (s : State) : State :=
  let ch := getChain slot c s
  let p := ch.pages.getD j {}
  if p.spilled.isSome then (if p.back.isSome then s else startReturn slot c j s)
  else if p.vault = ch.home ∨ ch.staged.any (fun x => x.1 == j) then s
  else stagePage slot c j s

/-- Every page of the set is in the home vault or staged. -/
def setPresent (ch : Chain) : Bool :=
  ch.attend.all fun j =>
    let p := ch.pages.getD j {}
    p.spilled.isNone && (p.vault == ch.home || ch.staged.any fun x => x.1 == j && x.2.2)

/-- Brings a built chain forward; it is ready once its head is written (R269). -/
def advanceChain (slot c : Nat) (s : State) : State :=
  let ch := getChain slot c s
  if ch.phase ≠ 2 then s
  else
    match openHead slot c s with
    | none => s
    | some s0 =>
      let s1 := ch.attend.foldl (fun u j => fetchPage slot c j u) s0
      if setPresent (getChain slot c s1) then updChain slot c (fun y => { y with phase := 0 }) (writeHead slot c s1) else s1

/-- Every chain of a stream is ready (R270). -/
def chainsReady (slot : Nat) (s : State) : Bool := (chainsOf slot s).all fun x => x.2.phase == 0

/-- The pass over one stream. -/
def lookStream (slot : Nat) (s : State) : State :=
  (chainsOf slot s).foldl
    (fun u x => advanceChain slot x.1 (if (getChain slot x.1 u).phase = 1 then buildSet slot x.1 u else u)) s

/-- A staging page has been filled, or its GATHER has ended otherwise: the page it copies has failed, or the GATHER goes to the engine
again, which was reset or aborted and read nothing wrong (R185, R186, R270, R281). -/
def stagedDone (slot c j status : Nat) (s : State) : State :=
  if !(getChain slot c s).staged.any (fun x => x.1 == j) then s
  else if status = 0 then
    advanceChain slot c (updChain slot c (fun y => { y with staged := y.staged.map fun x => if x.1 = j then (x.1, x.2.1, true) else x }) s)
  else
    let x := getStream slot s
    let ch := getChain slot c s
    let p := ch.pages.getD j {}
    match ch.staged.find? (fun y => y.1 == j), ch.head with
    | some y, some (h, _) =>
      if status = 15 ∨ status = 16 then
        nmSubmit (clusterOf ch.home)
          { desc := stageDesc x (kvWord x.district s) c j ch.home y.2.1 h, district := some x.district, who := .kv slot c j } s
      else failPage (siteOf ch.home) slot (p.vault, p.page) 24 s
    | _, _ => s

/-! Spills and returns (R273 to R276). -/

/-- The first free page of the site's shares. -/
def freePr (site : Nat) (s : State) : Option (Nat × Nat × Nat) :=
  let used := prInUse site s
  (s.sort.exps.filter fun e => !e.2.2.2).findSome? fun e =>
    ((List.range (shareOf e)).find? fun i => !used.contains (e.1, e.2.1, site * shareOf e + i)).map fun i =>
      (e.1, e.2.1, site * shareOf e + i)

/-- A page is eligible for spill (R273, R279). A chain's next attention set is built in one event and is then its current one. -/
def maySpill (slot c j : Nat) (s : State) : Bool :=
  let x := getStream slot s
  let ch := getChain slot c s
  let np := ceilDiv ch.len (kTpp (kvWord x.district s))
  mayMove slot c j s && decide (x.rthr ≠ 0 ∧ x.rthr < x.pos ∧ x.pend ≤ x.pos) && decide (x.rets ≤ j ∧ j + x.retw < np) &&
    !resuming slot s

/-- The eligible pages of a site: slot, chain, page. -/
def spillable (site : Nat) (s : State) : List (Nat × Nat × Nat) :=
  s.sort.chains.flatMap fun x =>
    if siteOf x.2.home ≠ site then []
    else
      let slot := x.1 / 2 ^ 20
      let c := x.1 % 2 ^ 20
      ((List.range x.2.pages.length).filter fun j => maySpill slot c j s).map fun j => (slot, c, j)

def lexLt : List Nat → List Nat → Bool
  | a :: as, b :: bs => if a = b then lexLt as bs else a < b
  | _, _ => false

/-- The eligible page of a site that is spilled next, by oldest LSR, district, slot, chain and page (R273). -/
def firstSpill (site : Nat) (s : State) : Option (Nat × Nat × Nat) × State :=
  let r := withLsr (spillable site s) s
  let key (x : Nat × Nat × Nat × Nat) : List Nat := [x.1, (getStream x.2.1 s).district, x.2.1, x.2.2.1, x.2.2.2]
  (match r.1 with
   | [] => none
   | x :: xs => some (xs.foldl (fun a b => if lexLt (key b) (key a) then b else a) x).2, r.2)

def spillsOn (site : Nat) (s : State) : Nat :=
  (s.sort.chains.map fun x => if siteOf x.2.home = site then (x.2.pages.filter fun p => p.spilling.isSome).length else 0).sum

/-- The poste restante address of a page. -/
def prAddr (l : Nat × Nat × Nat) : Nat := ((4 * l.1 + l.2.1) * 2 ^ 31 + l.2.2) * 65536

/-- The page-table entry of a spilled page (R233, R274). -/
def spillPte (l : Nat × Nat × Nat) : Nat := 8 + l.1 * 16 + l.2.1 * 64 + l.2.2 * 256

/-- A spill's writes are complete, or one of them failed (R274, R281). -/
def spillDone (slot c j : Nat) (ok : Bool) (s : State) : State :=
  let x := getStream slot s
  let ch := getChain slot c s
  let site := siteOf ch.home
  let p := ch.pages.getD j {}
  match p.spilling with
  | none => s
  | some l =>
    let s0 := updPage slot c j (fun q => { q with spilling := none }) s
    if !ok then
      showPr site (addLog (faultRec 4 0 site (4 * l.1 + l.2.1) l.2.2 0)
        (setKv site { getKv site s0 with prBad := (getKv site s0).prBad ++ [l] } s0))
    else
      let r := kvRead p.vault (65536 * p.page) 65536 s0
      match r.1 with
      | none => showPr site (failPage site slot (p.vault, p.page) 24 r.2)
      | some bs =>
        let s1 := setSort { r.2.sort with pr := mwrite r.2.sort.pr (prAddr l) bs } r.2
        let s2 := writeEntry x.district (kvPageVpn x (kvWord x.district s) c j) (spillPte l) s1
        let s3 := updPage slot c j (fun q => { q with spilled := some l, vault := 0, page := 0 })
          (freePage x.district p.vault p.page s2)
        showPr site (bump .kvsiteCnt1Spills site s3)

/-- The header of a returned page is the chain's own (R276). -/
def headerMatches (slot c j : Nat) (bs : List Byte) (s : State) : Bool :=
  let h := kvHeader slot c j s
  let eq (a n : Nat) : Bool := (bs.drop a).take n == (h.drop a).take n
  eq 0 8 && eq 12 3 && eq 32 4 && eq 48 8

/-- A spilled page has been read back (R276, R281). -/
def pageReturned (slot c j : Nat) (poison : Bool) (s : State) : State :=
  let x := getStream slot s
  let ch := getChain slot c s
  let site := siteOf ch.home
  let p := ch.pages.getD j {}
  match p.back, p.spilled with
  | some (v, q), some l =>
    let bs := mread s.sort.pr (prAddr l) 65536
    if poison || !headerMatches slot c j bs s then
      failPage site slot (awayPage c j) 24 (updPage slot c j (fun y => { y with back := none }) (freePage x.district v q s))
    else
      let s1 := kvWrite slot v (65536 * q) bs (zeroPage v q s)
      let s2 := writeEntry x.district (kvPageVpn x (kvWord x.district s) c j) (pteOf v q false false) s1
      let s3 := updPage slot c j (fun y => { y with back := none, spilled := none, vault := v, page := q }) s2
      advanceChain slot c (showPr site (bump .kvsiteCnt2Returns site s3))
  | _, _ => s

/-- An expander, or every expander of a port whose link is lost (R282). -/
def expanderGone (port : Nat) (exp : Option Nat) (s : State) : State :=
  let hit (l : Nat × Nat × Nat) : Bool := l.1 == port && (match exp with | some e => l.2.1 == e | none => true)
  let exps := s.sort.exps.map fun e => if hit (e.1, e.2.1, 0) then (e.1, e.2.1, e.2.2.1, true) else e
  let s1 := setSort { s.sort with exps := exps } s
  let s2 := s1.sort.chains.foldl
    (fun u x => x.2.pages.zipIdx.foldl
      (fun t p =>
        let t1 := match p.1.spilled with
          | some l => if hit l then failPage (siteOf x.2.home) (x.1 / 2 ^ 20) (awayPage (x.1 % 2 ^ 20) p.2) 25 t else t
          | none => t
        match p.1.spilling with
        | some l => if hit l then updPage (x.1 / 2 ^ 20) (x.1 % 2 ^ 20) p.2 (fun q => { q with spilling := none }) t1 else t1
        | none => t1) u) s1
  (List.range 64).foldl (fun u x => showPr x u) s2

/-! The end of a stream's pages (R316). -/

/-- A handle's pages have their postcode entries in a page (R300, R302). -/
def postHeld (v p : Nat) (s : State) : Bool :=
  s.sort.handles.any fun h => h.2.chains.any fun c => c.2.pages.any fun q => q.pcloc / 65536 == v * 1024 + p

/-- Frees the pages of one chain; shared pages are only unmapped, and the section pages that hold their postcode entries stay with
the handle. -/
def freeChain (slot c : Nat) (s : State) : State :=
  let x := getStream slot s
  let d := x.district
  let ch := getChain slot c s
  let w := kvWord d s
  let s1 := dropStaging slot c s
  let s2 := ch.pages.zipIdx.foldl
    (fun u p =>
      let u1 := unmapPage d (kvPageVpn x w c p.2) u
      let u2 := match p.1.back with
        | some b => freePage d b.1 b.2 u1
        | none => u1
      if p.1.shared || p.1.spilled.isSome then u2 else freePage d p.1.vault p.1.page u2) s1
  let s3 := match ch.head with
    | some (h, n) => (List.range n).foldl (fun u i => freePage d ch.home (h + i) u) s2
    | none => s2
  let s4 := (ch.pcs.filter fun y => !postHeld y.2.1 y.2.2 s).foldl (fun u vp => freePage d vp.2.1 vp.2.2 u) s3
  showPr (siteOf ch.home) (setChain slot c {} s4)

def freeChains (slot : Nat) (s : State) : State := (chainsOf slot s).foldl (fun u x => freeChain slot x.1 u) s

end Sys2Proof.Machine
end

