-- ==== Sys2Proof/Machine/Streams.lean ====
section
/-!
DEFINITION. Streams (chapter 11): control blocks (R289), delivery rings (R310 to R313), receipts (R421, R424 to R426), the
end of a stream (R316), prefix handles (R300 to R302), pre-emption and resumption (R277 to R280), dead letters (R492).
-/

namespace Sys2Proof.Machine

/-! Counts shown in registers (R244, R318). -/

def heldBy (p : Stream → Bool) (s : State) : Nat :=
  (s.sort.streams.filter fun x => x.2.st != .free && p x.2).length

def showStream (slot : Nat) (d ring : Nat) (s : State) : State :=
  let recs := (s.sort.streams.filter fun x => x.1 / 4096 == slot / 4096 && x.2.st != .free).length
  wr .sositeStatusRecords (slot / 4096) recs
    (wr .distUseSlots d (heldBy (fun x => x.district == d) s)
      (wr .sodistStatusRunning d (heldBy (fun x => x.district == d && x.st == .running) s)
        (wr .dringStatusStreams ring (heldBy (fun x => x.ring == ring) s) s)))

def setSt (slot : Nat) (st : StreamSt) (s : State) : State :=
  let x := getStream slot s
  showStream slot x.district x.ring (setStream slot { x with st := st } s)

/-! Dead letters (R492). -/

def noDlq : Nat → List DeadLetter := fun _ => []
def dlqOf (d : Nat) (s : State) : List DeadLetter := tget noDlq s.faults.dlq d

/-- FLTDEV.DLQ_STATE.COUNT of the selected district. -/
def showDlq (s : State) : State := wr .fltdevDlqStateCount 0 (dlqOf (rd .fltdevDlqSelDistrict 0 s) s).length s

/-- An entry reaches a district's queue; the 65th displaces the oldest. -/
def deadLetter (d kind stream : Nat) (payload : List Byte) (s : State) : State :=
  let q := dlqOf d s
  let x : DeadLetter := ⟨kind, rd .distOwnerId d s, stream, payload, roundNow s, s.now⟩
  let s1 := if 64 ≤ q.length then bump .fltdevDlqStateLost 0 s else s
  let s2 := setFaults { s1.faults with dlq := tset noDlq s1.faults.dlq d ((if 64 ≤ q.length then q.tail else q) ++ [x]) } s1
  showDlq (if q = [] then events 0x0040 [d] 0 s2 else s2)

/-! Control blocks (R289). -/

/-- The district virtual page at which the page of a control block is mapped (R296). -/
def ctlVpn (page : Nat) : Nat := 2 ^ 27 - 131072 + page / 1024 % 2048 * 16 + (page % 1024 - 752)

/-- Pages that hold control blocks of a district, as vault-local address over 65,536. -/
def ctlPages (d : Nat) (s : State) : List Nat :=
  ((s.sort.streams.filter fun x => x.2.st != .free && x.2.district == d).map fun x => x.2.ctl / 65536).dedup

def ctlUsed (a : Nat) (s : State) : Bool := s.sort.streams.any fun x => x.2.st != .free && x.2.ctl == a

/-- A free block for a stream of district d: status and address (R231, R289). -/
def allocCtl (d : Nat) (s : State) : (Nat × Nat) × State :=
  let home := rd .distCfgHome d s
  let here := (ctlPages d s).filter fun p => p / 1024 / 2048 == home
  match here.findSome? fun p => (List.range 4).findSome? fun q =>
      let a := p * 65536 + q * 16384
      if ctlUsed a s then none else some a with
  | some a => ((0, a), s)
  | none =>
    if !underLimit d 1 s then ((30, 0), s)
    else
      match findPage (vaultsOn d home s) false s with
      | none => ((31, 0), s)
      | some (v, p) =>
        let a := v * 2 ^ 26 + p * 65536
        let r := mapPage d (ctlVpn (a / 65536)) v p false false (takePage d v p (.district d) s)
        if r.1 ≠ 0 then ((r.1, 0), s) else ((0, a), r.2)

/-- Frees the page of a control block with its last block. -/
def freeCtl (slot : Nat) (s : State) : State :=
  let x := getStream slot s
  let p := x.ctl / 65536
  if s.sort.streams.any fun y => y.1 != slot && y.2.st != .free && y.2.ctl / 65536 == p then s
  else freePage x.district (vaultLocal x.ctl).1 ((vaultLocal x.ctl).2 / 65536) (unmapPage x.district (ctlVpn p) s)

/-- Bytes of a stream's control block, as the sorting office reads them; none when a word cannot be delivered. -/
def cbRead (slot off n : Nat) (s : State) : Option (List Byte) × State :=
  let a := (getStream slot s).ctl + off
  let r := vreadBytes (vaultLocal a).1 (vaultLocal a).2 n srcDispatcher s
  (if r.1.2.isSome then none else some r.1.1, r.2)

def cbWrite (slot off : Nat) (bs : List Byte) (s : State) : State :=
  let a := (getStream slot s).ctl + off
  (vwrite (vaultLocal a).1 (vaultLocal a).2 srcDispatcher bs s).2

/-- A little-endian number of the control block as the sorting office has read it: at submit, or in the check of an admission pass
(`cbCheck`), which lets no stream run whose fixed part cannot be read (log 124). -/
def cbNat (slot off n : Nat) (s : State) : Nat := leNat (((cbRead slot off n s).1).getD [])

/-- The reads of a control block that an admission makes, the fixed part with the history position and the grammar state: whether every
word is delivered (R138, R161, R289). -/
def cbCheck (slot : Nat) (s : State) : Bool × State :=
  let r := cbRead slot 0 512 s
  let q := cbRead slot 10240 8 r.2
  (r.1.isSome && q.1.isSome, q.2)

/-- Adds to an accumulator of R421; off counts from byte 10,248. One that cannot be read stays as it is (R138, R424). -/
def cbAdd (slot off n k : Nat) (s : State) : State :=
  let r := cbRead slot (10248 + off) n s
  match r.1 with
  | some b => cbWrite slot (10248 + off) (natLe n (leNat b + k)) r.2
  | none => r.2

/-- Sets bits of the accumulators' FLAGS. -/
def cbFlag (slot bit_ : Nat) (s : State) : State :=
  let r := cbRead slot (10248 + 47) 1 s
  match r.1 with
  | some b => cbWrite slot (10248 + 47) (natLe 1 (Nat.lor (leNat b) bit_)) r.2
  | none => r.2

/-- Tokens enter the history ring (R289); a position that cannot be read takes none. -/
def pushHistory (slot : Nat) (ts : List Nat) (s : State) : State :=
  ts.foldl
    (fun u t =>
      let r := cbRead slot 10240 4 u
      match r.1 with
      | none => r.2
      | some b =>
        let h := leNat b % 2048
        let n := leNat b / 2048 % 2048
        cbWrite slot 10240 (natLe 4 ((h + 1) % 1024 + min 1024 (n + 1) * 2048)) (cbWrite slot (6144 + 4 * (h % 1024)) (natLe 4 t) r.2)) s

/-! Delivery rings (R310 to R313). -/

def ringSize (r : Nat) (s : State) : Nat := 2 ^ rd .dringCfgLog2size r s

/-- Free records of a ring less those reserved: one for each stream's end, one for each draw still to come (R313). -/
def ringRoom (r : Nat) (s : State) : Nat :=
  let used := (rd .dringProdIndex r s + 2 ^ 21 - rd .dringConsIndex r s) % 2 ^ 21
  let ends := heldBy (fun x => x.ring == r && !x.endRec) s
  let toks := ((s.sort.streams.filter fun x => x.2.ring == r && x.2.st == .running && (!x.2.drawn || x.2.wait.isSome)).map
    fun x => x.2.nout).sum
  ringSize r s - used - ends - toks

/-- Records free without regard to reservations. -/
def ringFree (r : Nat) (s : State) : Nat :=
  ringSize r s - (rd .dringProdIndex r s + 2 ^ 21 - rd .dringConsIndex r s) % 2 ^ 21

/-- The bytes of a delivery record (R311): kind 0 token, 1 token and end, 2 end only. -/
def recordBytes (x : Stream) (kind token index logp code phase : Nat) (alts : List (Nat × Nat)) (round : Nat) (big : Bool) :
    List Byte :=
  natLe 8 x.id ++ natLe 4 token ++ natLe 4 index ++ natLe 4 (if x.logp then logp else 0) ++ natLe 1 (kind + 4 * phase) ++
    natLe 1 (if kind = 0 then 0 else code) ++ natLe 1 (if big then alts.length else 0) ++ natLe 1 0 ++ natLe 6 round ++ natLe 2 0 ++
    (if big then ((List.range 20).flatMap fun i =>
        match alts[i]? with
        | some a => natLe 4 a.1 ++ natLe 4 a.2
        | none => natLe 4 0xFFFFFFFF ++ natLe 4 0)
     else [])

/-- Posts a record to its stream's ring, bytes 32 to 191 before the rest; a ring that is gone sends it to the dead-letter
queue (R312, R313, R492). -/
def postRecord (slot kind token index logp code : Nat) (alts : List (Nat × Nat)) (s : State) : State :=
  let x := getStream slot s
  let r := x.ring
  let prod := rd .dringProdIndex r s
  let big := bit .dringCfgR193 r s
  let phase := (prod / ringSize r s + 1) % 2
  let bs := recordBytes x kind token index logp code phase alts (roundNow s) big
  if !bit .dringCfgEn r s then deadLetter x.district 1 x.id (bs.take 32) s
  else
    let a := rd .dringBaseAddr r s + prod % ringSize r s * (if big then 192 else 32)
    let port := rd .dringCfgPort r s
    let s1 := if big then emit (.hostWrite port (a + 32) (bs.drop 32)) s else s
    wr .dringProdIndex r (prod + 1) (emit (.hostWrite port a (bs.take 32)) s1)

def ringIrq (r : Nat) (s : State) : State :=
  if bit .dringCfgEn r s then emit (.msix (rd .dringCfgPort r s) 0 (rd .dringCfgVector r s)) s else s

/-! Receipts (R424 to R426). -/

def natBe (n v : Nat) : List Byte := (natLe n v).reverse

/-- Signs the first 416 bytes and appends r and s: what is posted, with its PHASE, is what the signature covers (R425; log 128). -/
def signed (body : List Byte) : List Byte :=
  body ++ natBe 96 (Config.ecdsaSign 1 (Config.sha384 body)).toNat

/-- The store of 16,384 receipts and the overflow region of 65,536; statements beyond 256 are dropped oldest first (R426, R427). -/
def holdReceipt (ring seq : Nat) (bs : List Byte) (opened : Option Nat) (s : State) : State :=
  let mine := s.sort.held.filter fun h => (h.ring == 256) == (ring == 256)
  let x : Held := ⟨ring, seq, bs, opened⟩
  let lose := bump .energyStatLost 0
  if ring = 256 then
    if 256 ≤ mine.length then
      lose (addLog (faultRec 4 0 255 0 seq 0) (setSort { s.sort with held := s.sort.held.eraseP (fun h => h.ring == 256) ++ [x] } s))
    else setSort { s.sort with held := s.sort.held ++ [x] } s
  else if 16384 + 65536 ≤ mine.length then lose (addLog (faultRec 4 0 255 0 seq 0) s)
  else setSort { s.sort with held := s.sort.held ++ [x] } s

def showHeld (ring : Nat) (s : State) : State :=
  wr .energyStatHeld 0 (min 16384 (s.sort.held.filter fun h => h.ring != 256).length)
    (wr .rringStatusHeld ring (min 65535 (s.sort.held.filter fun h => h.ring == ring).length) s)

/-- The round of a stream's last step, from LASTADM's 32 bits: the latest round that ends in them (R289, R424). -/
def lastRound (x : Stream) (s : State) : Nat := let r := roundNow s; r - (r + 2 ^ 32 - x.lastadm % 2 ^ 32) % 2 ^ 32

/-- The receipt of a stream that ends with a code (R424). -/
def receiptBody (x : Stream) (code seq : Nat) (acc : Option (List Byte)) (s : State) : List Byte :=
  let d := x.district
  let a (off n : Nat) : Nat := leNat ((acc.getD []).drop off |>.take n)
  let m := a 0 8
  let o := a 16 8
  let known (n v : Nat) : List Byte := natLe n (if acc.isSome then v else 0)
  natLe 2 1 ++ natLe 2 512 ++ natLe 2 (Nat.lor (a 47 1 % 16) (if acc.isNone then 16 else if Config.ptpLocked s.now then 0 else 8)) ++ natLe 1 code ++ known 1 (a 46 1) ++
    natLe 8 seq ++ natLe 16 Config.serial ++ natLe 8 x.id ++ natLe 4 (rd .distOwnerId d s) ++ natLe 1 d ++
    known 1 x.pclass ++ known 2 x.book ++ known 8 (a 48 8) ++ known 8 s.now ++ known 6 (lastRound x s) ++
    known 2 (a 44 2) ++ known 4 (a 40 4) ++ known 4 (a 32 4) ++ known 4 (a 36 4) ++ natLe 4 0 ++ known 8 m ++ known 8 (a 8 8) ++
    known 8 o ++ known 8 (m + o) ++ known 8 (ceilDiv (15 * m + 20 * o) 1000) ++ known 8 (a 24 8) ++
    natLe 16 (if a 47 1 % 2 = 1 then s.fab.peerSerial else 0) ++
    (if acc.isSome then natBe 48 (getParcel (rd .distCfgParcel d s) s).measure else natLe 48 0) ++ natLe 216 0

/-- A receipt is signed (R425, R427). -/
def countReceipt (seq attributed : Nat) (s : State) : State :=
  let i := s.power.interval
  { s with power := { s.power with interval := { i with
      rfirst := if i.rcount = 0 then seq else i.rfirst, rlast := seq, rcount := i.rcount + 1, rattrib := i.rattrib + attributed } } }

/-- Forms a receipt and holds it; its sequence number is used. It is signed when the stream's last round is closed (R424, R425). -/
def issueReceipt (x : Stream) (code : Nat) (acc : Option (List Byte)) (s : State) : State :=
  let seq := rd .energyRseqNext 0 s
  let s0 := wr .energyRseqNext 0 (seq + 1) s
  let s1 := { s0 with boot := { s0.boot with flash := { s0.boot.flash with issuedTo := seq + 1 } } }
  let body := receiptBody x code seq acc s1
  let wait := acc.isSome && (getDistrict x.district s).ran.any fun r => r.id == x.id
  let s2 := if wait then holdReceipt x.district seq body (some x.id) s1
    else countReceipt seq (leNat (body.drop 112 |>.take 8)) (holdReceipt x.district seq body none s1)
  showHeld x.district s2

/-- The accumulators of a stream, when its record and control block can be read (R424, R491). -/
def accumulators (slot : Nat) (s : State) : Option (List Byte) × State :=
  let x := getStream slot s
  if x.lost || bit .brsiteStatusLost (slot / 4096) s || bit .brsiteStatusResetting (slot / 4096) s ||
      bit .brsiteStatusLost (x.ctl / 2 ^ 37) s then (none, s)
  else cbRead slot 10248 56 s

/-- A receipt has been posted: every 64 postings the last SEQ is recorded in flash (R426). -/
def notePosting (seq : Nat) (s : State) : State :=
  let n := s.sort.posts + 1
  let f := s.boot.flash
  { s with
    sort := { s.sort with posts := n },
    boot := { s.boot with flash := if n % 64 = 0 then { f with postedTo := seq + 1 } else f } }

/-- A receipt ring's MSI-X vector is raised, unless it was within the last 100 us (R426; log 128). -/
def ringReceipt (ring : Nat) (s : State) : State :=
  let last := tget (fun _ => 0) s.sort.rung ring
  if last ≠ 0 ∧ s.now < last - 1 + 100000 then s
  else
    emit (.msix (rd .rringCfgPort ring s) 0 (rd .rringCfgVector ring s))
      (setSort { s.sort with rung := tset (fun _ => 0) s.sort.rung ring (s.now + 1) } s)

/-- Posts the oldest held receipt of a ring, when it is enabled and has room (R425, R426). -/
def postReceipt (ring : Nat) (s : State) : State :=
  let size := 2 ^ rd .rringCfgLog2size ring s
  let prod := rd .rringProdIndex ring s
  let used := (prod + 2 ^ 17 - rd .rringConsIndex ring s) % 2 ^ 17
  match s.sort.held.find? fun h => h.ring == ring with
  | none => s
  | some h =>
    if h.opened.isSome || !bit .rringCfgEn ring s || decide (size ≤ used) then s
    else
      let fl := leNat (h.body.drop 4 |>.take 2) % 32768 + (prod / size + 1) % 2 * 32768
      let bs := signed (h.body.take 4 ++ natLe 2 fl ++ h.body.drop 6)
      let port := rd .rringCfgPort ring s
      let a := rd .rringBaseAddr ring s * 512 + prod % size * 512
      let s0 := setSort { s.sort with held := s.sort.held.erase h } (emit (.hostWrite port a bs) s)
      let s1 := if ring = 256 then s0 else notePosting h.seq s0
      let s2 := wr .rringProdIndex ring (prod + 1) s1
      showHeld ring (ringReceipt ring s2)

/-! Handles (R300 to R302). -/

def noHandle : Nat → Handle := fun _ => {}
def getHandle (h : Nat) (s : State) : Handle := tget noHandle s.sort.handles h
def setHandle (h : Nat) (x : Handle) (s : State) : State :=
  setSort { s.sort with handles := tset noHandle s.sort.handles h x } s

/-- A page is shared by a handle. -/
def handleHas (v p : Nat) (s : State) : Bool :=
  s.sort.handles.any fun x => x.2.chains.any fun c => c.2.pages.any fun q => q.vault == v && q.page == p

/-- A page is part of the postcode section of a resident stream's chain. -/
def inSection (v p : Nat) (s : State) : Bool := s.sort.chains.any fun c => c.2.pcs.any fun y => y.2 == (v, p)

/-- A handle is freed: images that name it cannot resume any more (R302). -/
def forgetHandle (h d : Nat) (s : State) : State :=
  let note (i : Image) : Image := { i with refLost := i.refLost || i.stream.refs.contains h }
  updDistrict d (fun y => { y with preempted := y.preempted.map note }) (setHandle h {} s)

/-- A released handle without references goes with its pages and the section pages that hold their postcode entries, but those that
another handle or a stream still holds (R302). -/
def dropHandle (h : Nat) (s : State) : State :=
  let x := getHandle h s
  if !x.used || !x.made || !x.released || x.refs ≠ 0 then s
  else
    let qs := x.chains.flatMap fun c => c.2.pages
    let s1 := forgetHandle h x.district s
    let pages := (qs.map fun q => (q.vault, q.page)).filter fun p => !handleHas p.1 p.2 s1
    let posts := ((qs.map fun q => (q.pcloc / 65536 / 1024, q.pcloc / 65536 % 1024)).dedup).filter
      fun p => !postHeld p.1 p.2 s1 && !inSection p.1 p.2 s1
    freePage x.district x.where_.1 x.where_.2 ((pages ++ posts).foldl (fun u p => freePage x.district p.1 p.2 u) s1)

def unref (h : Nat) (s : State) : State :=
  let x := getHandle h s
  dropHandle h (setHandle h { x with refs := x.refs - 1 } s)

def releaseHandle (h : Nat) (s : State) : State := dropHandle h (setHandle h { getHandle h s with released := true } s)

/-! The end of a stream (R316). -/

/-- The sites whose KV managers keep chains of a stream. -/
def sitesOf (slot : Nat) (s : State) : List Nat := ((chainsOf slot s).map fun x => siteOf x.2.home).dedup

def showPreempt (s : State) : State :=
  let busy := (s.sort.streams.filter fun x => x.2.pre == 1 || x.2.pre == 2 || x.2.pre == 3).flatMap fun x => sitesOf x.1 s
  (List.range 64).foldl (fun u k => wr .kvsiteStatusPreempt k (natBool (busy.contains k)) u) s

/-- A stream leaves PREEMPTING for READY, and what was written of its image goes (R279, R288). -/
def leavePreempt (slot : Nat) (s : State) : State :=
  let x := getStream slot s
  if x.st ≠ .preempting then s
  else
    let kept (is : List Image) : List Image := is.filter fun i => i.stream.id != x.id || i.tag.isSome
    setSt slot .ready (updDistrict x.district (fun y => { y with preempted := kept y.preempted }) s)

/-- A stream enters ENDING with a code, from PREEMPTING by way of READY (R288); one whose end has begun keeps it. -/
def beginEnd (slot code : Nat) (s : State) : State :=
  let x := getStream slot s
  if x.st = .free ∨ x.st = .ending then s
  else
    let s1 := updStream slot (fun y => { y with endCode := code, pre := 0, preEnv := none, wait := none }) (leavePreempt slot s)
    let s2 := match x.preEnv with
      | some e => reply 0x0403 e (refuse 50) s1
      | none => s1
    setSt slot .ending (if x.pre = 0 then s2 else showPreempt s2)

/-- The district has a mirror on the twin (R342). -/
def mirrored (d : Nat) (s : State) : Bool := bit .twinCfgPaired 0 s && s.fab.mirrors.any (·.1 == d)

/-- The stream's copies go to the twin (R343, R344). -/
def protects (x : Stream) (s : State) : Bool := x.reg && !x.lapsed && !x.shadow && mirrored x.district s

/-- TWIN.STATUS.LAPSED (R355). -/
def showLapsed (s : State) : State := wr .twinStatusLapsed 0 (s.sort.streams.filter fun x => x.2.lapsed).length s

/-- A registered stream lapses; a resynchronisation under way comes to nothing (R346). -/
def lapse (slot : Nat) (s : State) : State :=
  let x := getStream slot s
  if protects x s then showLapsed (setStream slot { x with lapsed := true } s)
  else if x.resync then setStream slot { x with resync := false, resynced := false } s
  else s

/-- With every twin port down a registered stream lapses (R346). -/
def lapseIfCut (slot : Nat) (s : State) : State := if twinCut s then lapse slot s else s

/-- Frees everything a stream holds and its slot (R316 step 4). -/
def freeStream (slot : Nat) (s : State) : State :=
  let x := getStream slot s
  let s1 := freeCtl slot (freeChains slot s)
  let s2 := x.refs.foldl (fun u h => unref h u) s1
  let s3 := showLapsed (setStream slot {} s2)
  showStream slot x.district x.ring s3

/-! Pre-emption (R277 to R279). -/

/-- Reads the non-shared pages of a chain, resident or spilled, and their postcode entries for an image. -/
def imagePages (slot w : Nat) : List (ChainPage × Nat) → State → (List (Nat × List Byte) × List (Nat × List Byte)) × State
  | [], s => (([], []), s)
  | (p, j) :: ps, s =>
    let r := match p.spilled with
      | some l => (mread s.sort.pr (prAddr l) 65536, s)
      | none => kvReadOr slot p.vault (65536 * p.page) 65536 s
    let e := kvReadOr slot (vaultLocal p.pcloc).1 (vaultLocal p.pcloc).2 (pcSize w) r.2
    let t := imagePages slot w ps e.2
    (((j, r.1) :: t.1.1, (j, e.1) :: t.1.2), t.2)

def imageChains (slot w : Nat) : List (Nat × Chain) → State → List ImgChain × State
  | [], s => ([], s)
  | y :: ys, s =>
    let r := imagePages slot w (y.2.pages.zipIdx.filter fun p => !p.1.shared) s
    let h := match y.2.head with
      | some (p, n) => kvReadOr slot y.2.home (65536 * p) (65536 * n) r.2
      | none => ([], r.2)
    let t := imageChains slot w ys h.2
    ({ c := y.1, chain := y.2, pages := r.1.1, posts := r.1.2, head := h.1 } :: t.1, t.2)

/-- The image of a stream as it stands (R278, R422); a chain page that cannot be read fails (R281). -/
def imageOf (slot : Nat) (s : State) : Image × State :=
  let x := getStream slot s
  let d := x.district
  let w := kvWord d s
  let r := imageChains slot w (chainsOf slot s) s
  let c := cbRead slot 0 16384 r.2
  let bytes := 16384 + 65536 +
    (r.1.map fun c => (c.pages.length + ceilDiv c.head.length 65536) * 65536 + c.posts.length * pcSize w).sum
  ({ stream := x, parcel := rd .distCfgParcel d s, measure := (getParcel (rd .distCfgParcel d s) s).measure,
     ctl := c.1.getD (List.replicate 16384 0), chains := r.1, port := 0, addr := 0, len := ceilDiv bytes 65536 * 65536 }, c.2)

/-- What the tag of an image covers; how the image is laid out in host memory is not given (R278; log 110). -/
def imageWords (i : Image) : List Nat :=
  let nat (b : Byte) : Nat := b.toNat
  let blk (p : Nat × List Byte) : List Nat := p.1 :: p.2.map nat
  let place (p : ChainPage) : List Nat := [p.vault, p.page, p.tcount, p.pcloc, natBool p.shared]
  let chain (c : ImgChain) : List Nat :=
    [c.c, c.chain.home, c.chain.len, c.chain.vopen] ++ c.chain.pages.flatMap place ++ c.head.map nat ++ c.pages.flatMap blk ++
      c.posts.flatMap blk
  let x := i.stream
  [x.id, x.pclass, x.district, x.book, x.ring, x.pos, x.pend, x.out, x.maxout, x.ctxmax, x.lastadm, x.token, x.rthr, x.retn, x.retw, x.rets,
    i.parcel, i.measure] ++ i.ctl.map nat ++ i.chains.flatMap chain

/-- Ranges of the pool that images hold. -/
def poolUsed (s : State) : List (Nat × Nat × Nat) :=
  s.districts.flatMap fun x => x.2.preempted.map fun i => (i.port, i.addr, i.len)

/-- A place for an image in the swap pool, lowest first in each range. -/
def poolPlace (n : Nat) (s : State) : Option (Nat × Nat) :=
  let used := poolUsed s
  s.sort.pool.findSome? fun r =>
    let starts := r.2.1 :: (used.filter fun u => u.1 == r.1).map fun u => u.2.1 + u.2.2
    (starts.find? fun a => decide (r.2.1 ≤ a ∧ a + n ≤ r.2.1 + r.2.2) &&
      !used.any fun u => u.1 == r.1 && decide (u.2.1 < a + n ∧ a < u.2.1 + u.2.2)).map fun a => (r.1, a)

/-- A host write of a pre-emption fails: the stream returns to admission unchanged, which is logged, and counted where its other
pre-emptions are (R279; log 110). -/
def abortPreempt (slot : Nat) (s : State) : State :=
  let s1 := (sitesOf slot s).foldl (fun u k => bump .kvsiteCnt1Preempts k u) (addLog (faultRec 4 0 255 slot 0 0) s)
  showPreempt (updStream slot (fun x => { x with pre := 4 }) (leavePreempt slot s1))

/-- Sites write the image (R278, R279 step 3); a write that fails, of the image or then of its tag, aborts the pre-emption. A page that cannot be read fails its stream (R281); a pool that cannot take the image
ends the stream. -/
def writeImage (slot : Nat) (ok : Bool) (s : State) : State :=
  let x := getStream slot s
  if x.st ≠ .preempting ∨ (x.pre ≠ 2 ∧ (ok ∨ x.pre ≠ 3)) then s
  else if !ok then abortPreempt slot s
  else
    let r := imageOf slot s
    let y := getStream slot r.2
    if y.fault ≠ 0 then r.2
    else
      match poolPlace r.1.len r.2 with
      | none => beginEnd slot 23 r.2
      | some (port, a) =>
        let s1 := updDistrict x.district (fun z => { z with preempted := z.preempted ++ [{ r.1 with port := port, addr := a }] }) r.2
        emit (.swapWrite port a r.1.len false) (setStream slot { y with pre := 3 } s1)

/-- The tag is computed and written last; then the stream's resources are freed and it is listed as pre-empted (R279 steps 4, 5). -/
def tagImage (slot : Nat) (s : State) : State :=
  let x := getStream slot s
  if x.st ≠ .preempting ∨ x.pre ≠ 3 then s
  else
    let mark (i : Image) : Image := if i.stream.id = x.id then { i with tag := some (Config.hmacTag (imageWords i)) } else i
    let s1 := updDistrict x.district (fun y => { y with preempted := y.preempted.map mark }) s
    let s2 := match (getDistrict x.district s).preempted.find? fun i => i.stream.id == x.id with
      | some i => emit (.swapWrite i.port i.addr i.len true) s1
      | none => s1
    let s3 := (sitesOf slot s2).foldl (fun u k => bump .kvsiteCnt1Preempts k u) s2
    let s4 := freeStream slot (updStream slot (fun y => { y with endRec := true }) s3)
    showPreempt (match x.preEnv with
      | some e => reply 0x0403 e okAns s4
      | none => s4)

/-! Slots and ranges (R221, R258). -/

/-- The sites of a district, home first. -/
def sitesOfDistrict (d : Nat) (s : State) : List Nat :=
  let home := rd .distCfgHome d s
  home :: ((List.range 64).filter fun k => k != home && districtOnSite d k s)

def freeSlot (d : Nat) (s : State) : Option Nat :=
  (sitesOfDistrict d s).findSome? fun k =>
    ((List.range 4096).find? fun i => (getStream (4096 * k + i) s).st == .free).map (4096 * k + ·)

/-- A free range of n district virtual pages, below the pages that the W64 itself maps. -/
def freeRange (d n : Nat) (s : State) : Option Nat :=
  let w := kvWord d s
  let mine := (s.sort.streams.filter fun x => x.2.st != .free && x.2.district == d).map fun x =>
    (x.2.kvbase / 65536, kChains w * kPpc w x.2.ctxmax)
  let p := getParcel (rd .distCfgParcel d s) s
  let used := (if bit .distCfgPv d s then [(p.pvbase, p.pvlen)] else []) ++ mine
  (0 :: used.map fun u => u.1 + u.2).find? fun a =>
    decide (a + n ≤ 2 ^ 27 - 131072) && !used.any fun u => decide (u.1 < a + n ∧ a < u.1 + u.2)

/-! Resumption (R280). -/

/-- A page for a restored chain page: one of the home vault first, by migration where it has none (R260), then one of the site. -/
def restorePage (slot c home : Nat) (img : ImgChain) (j : Nat) (p : ChainPage) (s : State) : Option State :=
  let x := getStream slot s
  let d := x.district
  let w := kvWord d s
  let n := kvPageVpn x w c j
  if p.shared then
    let r := mapPage d n p.vault p.page false false s
    if r.1 ≠ 0 then none else some (updChain slot c (fun y => { y with pages := y.pages ++ [p] }) r.2)
  else if !underLimit d 1 s then none
  else
    let s0 := makeRoom d home 1 s
    match findPage (home :: vaultsOn d (siteOf home) s0) true s0 with
    | none => none
    | some (v, q) =>
      let r := mapPage d n v q false false (markChain v q (takePage d v q (.district d) s0))
      if r.1 ≠ 0 then none
      else
        (growSection slot c j r.2).map fun s1 =>
          let loc := pcAddr (getChain slot c s1) w j
          let data := ((img.pages.find? fun y => y.1 == j).map (·.2)).getD []
          let post := ((img.posts.find? fun y => y.1 == j).map (·.2)).getD []
          let s2 := pcWrite slot loc post (kvWrite slot v (65536 * q) data (zeroPage v q s1))
          let s3 := updChain slot c (fun y => { y with pages := y.pages ++
            [{ p with vault := v, page := q, pcloc := loc, spilled := none, spilling := none, back := none }] }) s2
          writeHeader slot c j s3

def restorePages (slot c home : Nat) (img : ImgChain) : Nat → List ChainPage → State → Option State
  | _, [], s => some s
  | j, p :: ps, s =>
    match restorePage slot c home img j p s with
    | some s1 => restorePages slot c home img (j + 1) ps s1
    | none => none

/-- The vault that keeps a restored chain: its own if the district still owns it, else the first of the district. -/
def restoredHome (d home : Nat) (s : State) : Nat :=
  if coreDistrict home s = some d then home else ((vaultsOf d s).head?).getD home

def restoreChain (slot : Nat) (img : ImgChain) (s : State) : Option State :=
  let d := (getStream slot s).district
  let home := restoredHome d img.chain.home s
  let s1 := setChain slot img.c { img.chain with
    home := home, pages := [], head := none, pcs := [], staged := [], phase := 1 } s
  match openHead slot img.c s1 with
  | none => none
  | some s2 =>
    let s3 := match (getChain slot img.c s2).head with
      | some (h, _) => if img.head = [] then s2 else kvWrite slot home (65536 * h) img.head s2
      | none => s2
    restorePages slot img.c home img 0 img.chain.pages s3

def restoreChains (slot : Nat) : List ImgChain → State → Option State
  | [], s => some s
  | i :: is, s =>
    match restoreChain slot i s with
    | some s1 => restoreChains slot is s1
    | none => none

/-- The first check that a RESUME of a pre-empted stream fails, 0 for none: the parcel and its measurement (R280), a handle that has
been freed (R302), its delivery ring (R310; log 111). -/
def resumeBar (d : Nat) (i : Image) (s : State) : Nat :=
  let r := i.stream.ring
  if !bit .distCfgPv d s || rd .distCfgParcel d s != i.parcel || (getParcel i.parcel s).measure != i.measure then 51
  else if i.refLost then 41
  else if !bit .dringCfgEn r s || rd .dringCfgDistrict r s != d then 37
  else if 2 ^ (rd .dringCfgLog2size r s - 1) ≤ rd .dringStatusStreams r s then 38
  else 0

/-- Restores a stream from its image whole, or nothing: the slot (R280, R422). -/
def restoreStream (d : Nat) (i : Image) (s : State) : Option (Nat × State) :=
  let w := kvWord d s
  if rd .distResSlots d s ≤ rd .distUseSlots d s then none
  else
    match freeSlot d s, freeRange d (kChains w * kPpc w i.stream.ctxmax) s with
    | some slot, some base =>
      let cb := allocCtl d s
      if cb.1.1 ≠ 0 then none
      else
        let x := { i.stream with
          st := .ready, kvbase := base * 65536, ctl := cb.1.2, pre := 0, preEnv := none, stag := 0, wait := none, endRec := false }
        let s1 := setStream slot x cb.2
        let s2 := cbAdd slot 46 1 1 (cbFlag slot 2 (cbWrite slot 0 i.ctl s1))
        let s3 := x.refs.foldl (fun u h => setHandle h { getHandle h u with refs := (getHandle h u).refs + 1 } u) s2
        (restoreChains slot i.chains s3).map fun s4 =>
          let s5 := updDistrict d (fun y =>
            { y with preempted := y.preempted.filter fun k => k.stream.id != i.stream.id, look := y.look ++ [slot] }) s4
          (slot, lapseIfCut slot (showLapsed (showStream slot d x.ring s5)))
    | _, _ => none

/-- A RESUME envelope no longer waits. -/
def endResume (r : Env × Option Nat) (a : Ans) (s : State) : State :=
  reply 0x0404 r.1 a (setSort { s.sort with resumes := s.sort.resumes.erase r } s)

/-- A waiting RESUME is checked again and tries again; while its district re-binds it waits (R239, R280). -/
def tryResume (r : Env × Option Nat) (s : State) : State :=
  let id := pNat r.1 0 8
  match s.districts.findSome? fun x => (x.2.preempted.find? fun i => i.stream.id == id && i.tag.isSome).map fun i => (x.1, i) with
  | none => endResume r (refuse 50) s
  | some (d, i) =>
    if rd .distCfgState d s = 2 then s
    else if rd .distCfgState d s ≠ 1 then endResume r (refuse 18) s
    else if resumeBar d i s ≠ 0 then endResume r (refuse (resumeBar d i s)) s
    else
      match restoreStream d i s with
      | some (slot, s1) => setSort { s1.sort with resumes := s1.sort.resumes.erase r ++ [(r.1, some slot)] } s1
      | none => s

/-- RESUME envelopes that wait for pages try again, and those whose stream is ready join admission and are answered (R280, R369). -/
def tryResumes (s : State) : State :=
  s.sort.resumes.foldl
    (fun u r =>
      match r.2 with
      | some slot =>
        if (getStream slot u).st = .free ∨ (getStream slot u).st = .ending then endResume r (refuse 50) u
        else if chainsReady slot u then endResume r { status := 0, result := natLe 4 slot } u
        else u
      | none => tryResume r u) s

/-! Creating a handle (R300). -/

/-- Brings a spilled page back at once, so that it can be shared. -/
def recallPage (slot c j : Nat) (s : State) : Option State :=
  if ((getChain slot c s).pages.getD j {}).spilled.isNone then some s
  else
    let s1 := pageReturned slot c j false (startReturn slot c j s)
    if ((getChain slot c s1).pages.getD j {}).spilled.isNone then some s1 else none

/-- Zeroes the rows and scales of tokens r on of a page, and of the whole value block that holds token r where blocks are grouped. -/
def trimRows (slot w v page r : Nat) (s : State) : State :=
  let tpp := kTpp w
  let rv := if kGrp w then r / 16 * 16 else r
  let zero (u : State) (x : Nat × Nat) : State := kvWrite slot v (65536 * page + x.1) (List.replicate x.2 0) u
  let column (off b : Nat) : Nat × Nat := (off + b * tpp + r, tpp - r)
  let vs := if kGrp w then [(kVsoff w + r / 16 * kE w, (tpp / 16 - r / 16) * kE w)] else (List.range (kVsB w)).map (column (kVsoff w))
  ([(kOff w + r * kKb w, (tpp - r) * kKb w), (kVoff w + rv * kVb w, (tpp - rv) * kVb w)] ++
    (List.range (kKsB w)).map (column (kKsoff w)) ++ vs).foldl zero s

/-- Leaves tokens up to t only in the copy of the page that holds token t; the value block of t is open in it, as R257 restores it
(R300). The copy stands in the chain while this is done. -/
def trimCopy (slot c j t was : Nat) (s : State) : State :=
  let w := kvWord (getStream slot s).district s
  let r := t % max 1 (kTpp w)
  let p := (getChain slot c s).pages.getD j {}
  let s1 := if !kGrp w then s
    else if t / 16 < was then reopenRows slot c j (r / 16) (t % 16) s
    else kvWrite slot p.vault (65536 * p.page + kStoff w + t % 16 * 2 * kE w) (List.replicate ((16 - t % 16) * 2 * kE w) 0) s
  writeHeader slot c j (trimRows slot w p.vault p.page r s1)

/-- Shares the first T tokens of one chain: its pages as the handle keeps them (R300). -/
def shareChain (slot c t : Nat) (s : State) : Option (Chain × State) :=
  let x := getStream slot s
  let d := x.district
  let w := kvWord d s
  let tpp := max 1 (kTpp w)
  let full := t / tpp
  let recalled := (List.range (ceilDiv t tpp)).foldl (fun o j => o.bind fun u => recallPage slot c j u) (some s)
  match recalled with
  | none => none
  | some s1 =>
    let s2 := showPr (siteOf (getChain slot c s1).home) ((List.range full).foldl
      (fun u j => writeHeader slot c j (updPage slot c j (fun p => { p with shared := true, spilling := none }) u)) s1)
    let ch := getChain slot c s2
    let base : Chain := { opened := true, home := ch.home, len := t, vopen := t / 16, pages := ch.pages.take full }
    if t % tpp = 0 ∨ ch.pages.length ≤ full then some (base, s2)
    else
      match takeChainPage d ch.home (makeRoom d ch.home 1 s2) with
      | none => none
      | some (np, s3) =>
        if !underLimit d 1 s3 then none
        else
          (findPage (vaultsOn d (siteOf ch.home) s3) false s3).map fun vp =>
            let p := (getChain slot c s3).pages.getD full {}
            let s4 := takePage d vp.1 vp.2 (.district d) s3
            let r := kvReadOr slot p.vault (65536 * p.page) 65536 s4
            let e := kvReadOr slot (vaultLocal p.pcloc).1 (vaultLocal p.pcloc).2 (pcSize w) r.2
            let loc := vp.1 * 2 ^ 26 + vp.2 * 65536
            let s5 := pcWrite slot loc e.1 (kvWrite slot ch.home (65536 * np) r.1 (zeroPage ch.home np e.2))
            let q : ChainPage := { vault := ch.home, page := np, shared := true, tcount := t % tpp, pcloc := loc }
            -- the stream's chain is put back afterwards
            let keep := getChain slot c s5
            let s6 := setChain slot c { keep with pages := keep.pages.set full q, vopen := t / 16 } s5
            ({ base with pages := base.pages ++ [q] }, setChain slot c keep (trimCopy slot c full t keep.vopen s6))

def shareChains (slot t : Nat) : List Nat → State → Option (List (Nat × Chain) × State)
  | [], s => some ([], s)
  | c :: cs, s =>
    match shareChain slot c t s with
    | none => none
    | some (y, s1) => (shareChains slot t cs s1).map fun r => ((c, y) :: r.1, r.2)

/-- A chain of a handle as its FREEZE copy lists it: the chain's number, how many pages it shares, and their numbers (R344). -/
def sharedPages (c : Nat × Chain) : List Byte :=
  let js := (List.range c.2.pages.length).filter fun j => (c.2.pages.getD j {}).shared
  natLe 4 c.1 ++ natLe 4 js.length ++ js.flatMap (natLe 4)

/-- A handle that a FREEZE asked for is created; where a page cannot be had it is not (R231, R300). -/
def createHandle (slot : Nat) (s : State) : State :=
  let x := getStream slot s
  let d := x.district
  match x.freezes with
  | [] => s
  | (h, t) :: rest =>
    if x.st ≠ .ready ∧ x.st ≠ .ending then s
    else
      let s0 := setStream slot { x with freezes := rest } s
      let made :=
        if !underLimit d 1 s0 then none
        else
          match findPage (vaultsOn d (rd .distCfgHome d s0) s0) false s0 with
          | none => none
          | some vp =>
            (shareChains slot t ((chainsOf slot s0).map (·.1)) (takePage d vp.1 vp.2 (.district d) s0)).map fun r => (vp, r)
      match made with
      | none => setHandle h {} (addLog (faultRec 4 0 (rd .distCfgHome d s) slot h 0) s0)
      | some (vp, cs, s1) =>
        let y := getStream slot s1
        let m := (getParcel (rd .distCfgParcel d s1) s1).measure
        let k : Handle := ⟨true, true, (getHandle h s1).released, d, t, m, 1, cs, vp⟩
        let s2 := setStream slot { y with refs := y.refs ++ [h] } (setHandle h k s1)
        if protects x s2 then sendTwin (rd .distCfgHome x.district s2) .freezeCopy (natLe 8 x.id ++ natLe 2 h ++ natLe 4 t ++ cs.flatMap sharedPages) s2 else s2

/-! The start of a pre-emption (R277 to R279, R314). -/

/-- A stream is marked PREEMPTING; a running step completes first (R279 steps 1, 2). Handles that a FREEZE asked for before are made
first (R315). -/
def startPreempt (slot : Nat) (e : Option Env) (s : State) : State :=
  let x := getStream slot s
  if x.st = .ready then
    let s1 := x.freezes.foldl (fun u _ => createHandle slot u) s
    showPreempt (setSt slot .preempting (updStream slot (fun y => { y with pre := 2, preEnv := e }) s1))
  else if x.st = .running then showPreempt (setStream slot { x with pre := 1, preEnv := e } s)
  else s

/-- 10 ms after a pre-emption was aborted it begins again. -/
def retryPreempt (slot : Nat) (s : State) : State :=
  let x := getStream slot s
  if x.pre = 4 then startPreempt slot x.preEnv s else s

/-! The rest of an end (R316). -/

/-- Steps 2 to 5 of R316, once the handles that a FREEZE asked for are made (R315). -/
def finishEnd (slot : Nat) (s : State) : State :=
  let x := getStream slot s
  if x.st ≠ .ending then s
  else if !x.endRec && bit .dringCfgEn x.ring s && ringFree x.ring s == 0 then s
  else
    let s0 := x.freezes.foldl (fun u f => if rd .distCfgState x.district s = 1 ∨ rd .distCfgState x.district s = 2 then createHandle slot u else setHandle f.1 {} u) s
    let s1 := if x.endRec then s0 else ringIrq x.ring (postRecord slot 2 0xFFFFFFFF x.out 0 x.endCode [] s0)
    let a := accumulators slot s1
    let s2 := issueReceipt x x.endCode a.1 a.2
    let s3 := if protects x s2 then sendTwin (rd .distCfgHome x.district s2) .endCopy (natLe 8 x.id) s2 else s2
    bump .sositeEndedCount (slot / 4096) (freeStream slot s3)

end Sys2Proof.Machine
end

