-- ==== Sys2Proof/Machine/Sampling.lean ====
section
/-!
DEFINITION. The sampling unit (R303 to R309): logits of a shard, bias, penalties, grammar, the distribution, the draw, the stop
conditions and the posting of the token (R26, R345).
-/

namespace Sys2Proof.Machine

/-! Reading district memory across pages. -/

def dvaBytes (d src : Nat) : Nat → Nat → Nat → State → Option (List Byte) × State
  | 0, _, _, s => (some [], s)
  | k + 1, va, n, s =>
    if n = 0 then (some [], s)
    else
      let m := min n (65536 - va % 65536)
      let r := dvaRead d va m src s
      match r.1 with
      | none => (none, r.2)
      | some bs =>
        let q := dvaBytes d src k (va + m) (n - m) r.2
        (q.1.map (bs ++ ·), q.2)

def dvaReadN (d va n src : Nat) (s : State) : Option (List Byte) × State := dvaBytes d src (n / 65536 + 2) va n s

/-! The fixed part of the control block (R289, R290). -/

/-- A number of the stream specification kept in the control block. -/
def specNat (spec : List Byte) (off n : Nat) : Nat := leNat ((spec.drop off).take n)
def specFp (spec : List Byte) (off : Nat) : Val := fp32Val (BitVec.ofNat 32 (specNat spec off 4))

/-- The first 10,304 bytes of a control block. -/
def cbWhole (slot : Nat) (s : State) : Option (List Byte) × State := cbRead slot 0 10304 s

/-- The newest n entries of the history ring, newest first. -/
def newest (cb : List Byte) (n : Nat) : List Nat :=
  let w := leNat ((cb.drop 10240).take 4)
  let h := w % 2048
  (List.range (min n (w / 2048 % 2048))).map fun i => leNat ((cb.drop (6144 + 4 * ((h + 1024 - 1 - i) % 1024))).take 4)

/-- The first stop tokens of a specification. -/
def stopTokens (spec : List Byte) : List Nat := (List.range (specNat spec 3 1)).map fun i => specNat spec (80 + 4 * i) 4

/-! Grammars (R307). -/

/-- Reads n bytes of a grammar table at an offset that no page boundary divides. -/
def gramRead (g : Gram) (off n : Nat) (s : State) : Option Nat × State :=
  match g.pages[off / 65536]? with
  | none => (none, s)
  | some (v, p) =>
    let r := vreadBytes v (65536 * p + off % 65536) n srcDispatcher s
    (if r.1.2.isSome then none else some (leNat r.1.1), r.2)

/-- Edges of a table from i on: first, last and next. -/
def gramEdges (g : Gram) (nst : Nat) : Nat → Nat → State → Option (List (Nat × Nat × Nat)) × State
  | 0, _, s => (some [], s)
  | n + 1, i, s =>
    let r := gramRead g (32 + 8 * nst + 8 * i) 8 s
    match r.1 with
    | none => (none, r.2)
    | some w =>
      let q := gramEdges g nst n (i + 1) r.2
      (q.1.map ((bits w 0 20, bits w 20 20, bits w 40 20) :: ·), q.2)

/-- The edges of a state, and whether it accepts. -/
def gramState (g : Gram) (st : Nat) (s : State) : Option (List (Nat × Nat × Nat) × Bool) × State :=
  let h := gramRead g 0 4 s
  match h.1 with
  | none => (none, h.2)
  | some nst =>
    let r := gramRead g (32 + 8 * st) 8 h.2
    match r.1 with
    | none => (none, r.2)
    | some w =>
      let e := gramEdges g nst (bits w 24 16) (bits w 0 24) r.2
      (e.1.map fun es => (es, bits w 40 1 == 1), e.2)

/-- A stream's grammar state, where a grammar applies to it. -/
def gramOf (x : Stream) (cb : List Byte) (s : State) : Option (List (Nat × Nat × Nat) × Bool) × State :=
  match (getDistrict x.district s).grammars.find? fun y => y.1 == specNat cb 57 1 % 16 with
  | none => (none, s)
  | some y => gramState y.2 (leNat ((cb.drop 10244).take 4) % 2 ^ 20) s

/-! Steps 1 to 4 of R304 at a shard. -/

def negInf : Val := .inf true

/-- Step 1: a logit as FP32 bits, a NaN as minus infinity; whether it was one. -/
def logitVal (bf16 : Bool) (w : Nat) : Val × Bool :=
  let v := if bf16 then decodeElem .bf16 w else fp32Val (BitVec.ofNat 32 w)
  if isNan v then (negInf, true) else (v, false)

/-- Steps 2 to 4 for one token. -/
def adjustLogit (cb : List Byte) (hist : List Nat) (gram : Option (List (Nat × Nat × Nat) × Bool)) (t : Nat) (z : Val) : Val :=
  let nb := specNat cb 54 2 % 512
  let z1 := (List.range nb).foldl
    (fun a i => if specNat cb (512 + 8 * i) 4 = t then round32 (vadd a (specFp cb (516 + 8 * i))) else a) z
  let c := hist.count t
  let z2 :=
    if c = 0 then z1
    else
      let rep := specFp cb 44
      let y := if vlt (.fin false 0 0) z1 then round32 (quot z1 rep) else round32 (vmul z1 rep)
      round32 (vadd y (vneg (round32 (vmul (specFp cb 48) (ofInt c)))))
  match gram with
  | none => z2
  | some (es, acc) =>
    if es.any (fun e => decide (e.1 ≤ t ∧ t ≤ e.2.1)) || (acc && (stopTokens cb).contains t) then z2 else negInf

/-- The logits of one stream from one shard, as FP32 bits; none when a word could not be read (R303). -/
def shardLogits (d slot : Nat) (sh : Shard) (s : State) : Option (List Nat) × State :=
  let x := getStream slot s
  let n := if sh.bf16 then 2 else 4
  let r := dvaReadN d (sh.lgbase + x.batch * sh.lpitch) (n * sh.vcount) srcDispatcher s
  match r.1 with
  | none => (none, r.2)
  | some row =>
    let c := cbWhole slot r.2
    match c.1 with
    | none => (none, c.2)
    | some cb =>
      let gv := specNat cb 57 1 / 16 % 2 == 1
      let g := if gv then gramOf x cb c.2 else (none, c.2)
      if gv && g.1.isNone then (none, g.2)
      else
        let hist := newest cb (specNat cb 52 2 % 2048)
        let zs := (List.range sh.vcount).map fun i => logitVal sh.bf16 (leNat ((row.drop (n * i)).take n))
        let out := zs.zipIdx.map fun p => (fp32Bits (adjustLogit cb hist g.1 (sh.vfirst + p.2) p.1.1)).toNat
        let s1 := if zs.any (·.2) then flag .sodistStatusNanlog d (updStream slot (fun y => { y with nanlog := true }) g.2) else g.2
        (some out, s1)

/-- The micro-batch whose tokens the running step draws: that at the last stage (R227, R303). -/
def drawMicro (d : Nat) (s : State) : Option Micro :=
  let st := max 1 (getParcel (rd .distCfgParcel d s) s).stages
  if (getDistrict d s).pipe.length = st then (getDistrict d s).pipe.getLast? else none

/-- Streams of the step that draw. -/
def drawers (d : Nat) (s : State) : List Nat :=
  match drawMicro d s with
  | some m => m.slots.filter fun k => (getStream k s).nout == 1
  | none => []

/-- Reads a shard for every stream that draws: the rows, or a failure. -/
def readShard (d : Nat) (sh : Shard) : List Nat → State → Option (List (Nat × List Nat)) × State
  | [], s => (some [], s)
  | k :: ks, s =>
    let r := shardLogits d k sh s
    match r.1 with
    | none => (none, r.2)
    | some zs =>
      let q := readShard d sh ks r.2
      (q.1.map ((k, zs) :: ·), q.2)

/-- A trigger semaphore has reached its count (R303); after T0 of a stop the units have stopped (R446). -/
def samplingTrigger (d i : Nat) (s : State) : State :=
  let x := getDistrict d s
  match x.samp with
  | none => s
  | some cfg =>
    match cfg.shards[i]? with
    | none => s
    | some sh =>
      let sem := 16 * sh.tcore + sh.sem
      if stopping s || !x.running || !x.armed.contains i || decide (rd .coreSemValue sem s < sh.count) then s
      else
        let s1 := wr .coreSemValue sem (rd .coreSemValue sem s - sh.count) s
        let s2 := updDistrict d (fun y => { y with armed := y.armed.erase i }) s1
        let r := readShard d sh (drawers d s2) s2
        match r.1 with
        | none => addDue (.stepFail d) r.2
        | some out => updDistrict d (fun y => { y with shardOut := y.shardOut ++ [(i, out)] }) r.2

/-! Steps 5 to 10 at the home site (R304 to R306). -/

/-- The largest of values, minus infinity for none. -/
def maxVal (vs : List Val) : Val := vs.foldl (fun a v => if vlt a v then v else a) negInf

def fp (v : Val) : BitVec 32 := fp32Bits v
def expOf (v : Val) : Val := fp32Val (spExp (fp (round32 v)))

/-- y and its token for a shard. -/
def scaled (tau : Val) (sh : Shard) (zs : List Nat) : List (Nat × Val) :=
  zs.zipIdx.map fun p => (sh.vfirst + p.2, round32 (quot (fp32Val (BitVec.ofNat 32 p.1)) tau))

/-- The sum of exponentials over all tokens: each shard's, rescaled to the overall maximum, in site order (R305). -/
def expSum (m : Val) (shards : List (List (Nat × Val))) : Val :=
  shards.foldl
    (fun a ys =>
      let ms := maxVal (ys.map (·.2))
      let part := ys.foldl (fun b y => round32 (vadd b (expOf (vadd y.2 (vneg ms))))) (.fin false 0 0)
      if ys.all fun y => y.2 == negInf then a
      else round32 (vadd a (round32 (vmul part (expOf (vadd ms (vneg m))))))) (.fin false 0 0)

/-- Candidates: the k tokens with the largest p, ties to the lower token. -/
def candidates (k : Nat) (ps : List (Nat × Val)) : List (Nat × Val) :=
  (ps.insertionSort fun a b => vlt b.2 a.2 = true ∨ (vlt a.2 b.2 = false ∧ a.1 ≤ b.1)).take k

/-- Step 8: the shortest leading run that reaches the limit, or all. -/
def topP (limit : Val) : Val → List (Nat × Val) → List (Nat × Val)
  | _, [] => []
  | a, c :: cs =>
    let b := round32 (vadd a c.2)
    if vlt b limit then c :: topP limit b cs else [c]

/-- Step 10: the first candidate whose running sum exceeds a bound; the last if none does. -/
def pick (bound : Val) : Val → List (Nat × Val) → Option (Nat × Val)
  | _, [] => none
  | _, [c] => some c
  | a, c :: cs =>
    let b := round32 (vadd a c.2)
    if vlt bound b then some c else pick bound b cs

/-- The token drawn, its p, and the candidates; none when every logit is minus infinity (R304). -/
def drawFrom (x : Stream) (cb : List Byte) (vocab : Nat) (rows : List (Shard × List Nat)) :
    Option ((Nat × Val) × List (Nat × Val)) :=
  let temp := specFp cb 32
  let greedy := isZero temp
  let tau : Val := if greedy then ofInt 1 else temp
  let ys := rows.map fun r => scaled tau r.1 r.2
  let all := ys.flatten
  let m := maxVal (all.map (·.2))
  if rows.all fun r => r.2.all fun z => fp32Val (BitVec.ofNat 32 z) == negInf then none
  else
    let tot := expSum m ys
    let ps := all.map fun y => (y.1, round32 (quot (expOf (vadd y.2 (vneg m))) tot))
    let tk := specNat cb 30 2 % 2048
    let cs := candidates (min (if tk = 0 then 1024 else tk) vocab) ps
    let topp := specFp cb 36
    let kept := if specNat cb 36 4 = 0x3F800000 then cs else topP topp (.fin false 0 0) cs
    let floor := match kept with
      | c :: _ => vmul (specFp cb 40) c.2
      | [] => negInf
    let fin := match kept with
      | c :: r => c :: r.filter fun y => !vlt y.2 floor
      | [] => []
    if greedy then cs.head?.map fun c => (c, cs)
    else
      let u := (philox (specNat cb 8 8) x.out 0 0 0).1
      let sum := fin.foldl (fun a c => round32 (vadd a c.2)) (.fin false 0 0)
      (pick (vmul (.fin false u (-32)) sum) (.fin false 0 0) fin).map fun c => (c, cs)

/-! After the draw (R307, R309). -/

/-- The last tokens of the output, this one included, equal a stop sequence. -/
def hitsSequence (cb : List Byte) (out : Nat) (recent : List Nat) : Bool :=
  (List.range (specNat cb 56 1 % 8)).any fun q =>
    let n := specNat cb (400 + q) 1
    decide (1 ≤ n ∧ n ≤ out + 1) &&
      recent.take n == ((List.range n).map fun i => specNat cb (144 + 64 * q + 4 * i) 4).reverse

/-- The stop condition of a drawn token, 0 for none (R309). -/
def stopCode (x : Stream) (cb : List Byte) (t : Nat) : Nat :=
  if (stopTokens cb).contains t then 1
  else if hitsSequence cb x.out (t :: x.recent) then 2
  else if x.out + 1 = x.maxout then 3
  else if x.pos + x.adds = x.ctxmax then 4
  else 0

/-- No other stream of the step has a record still to come on the ring (R312). -/
def ringQuiet (d ring : Nat) (s : State) : Bool :=
  (drawers d s).all fun k =>
    let y := getStream k s
    y.ring != ring || (y.drawn && y.wait.isNone)

/-- The ring's interrupt, once the last record of the step on it is posted, and none where the step has posted none (R312). -/
def ringDone (d ring : Nat) (s : State) : State :=
  if ringQuiet d ring s && (getDistrict d s).rings.contains ring then
    ringIrq ring (updDistrict d (fun y => { y with rings := y.rings.filter (· ≠ ring) }) s)
  else s

/-- Posts a drawn token (R26, R311, R312). -/
def postDraw (slot : Nat) (r : DrawRec) (s : State) : State :=
  let x := getStream slot s
  let s1 := postRecord slot (if r.code = 0 then 0 else 1) r.token r.index r.logp r.code r.alts s
  let s2 := setStream slot { x with wait := none, kept := some r, endRec := x.endRec || r.code != 0 } s1
  ringDone x.district x.ring (updDistrict x.district (fun y => { y with rings := (x.ring :: y.rings).dedup }) s2)

/-- A draw that has been made: its token enters the record, the history and the grammar; it is posted, or waits for the
twin's acknowledgement (R26, R304, R307, R345). -/
def applyDraw (slot : Nat) (cb : List Byte) (r : DrawRec) (post : Bool) (s : State) : State :=
  let x := getStream slot s
  let gv := specNat cb 57 1 / 16 % 2 == 1
  let g := if gv then gramOf x cb s else (none, s)
  let next := match g.1 with
    | some (es, _) => (es.find? fun e => decide (e.1 ≤ r.token ∧ r.token ≤ e.2.1)).map (·.2.2)
    | none => none
  let s1 := match next with
    | some n => cbWrite slot 10244 (natLe 4 n) g.2
    | none => g.2
  let s2 := pushHistory slot [r.token] s1
  let s3 := setStream slot { getStream slot s2 with token := r.token, drawn := true, endCode := r.code } s2
  if !post then ringDone x.district x.ring (setStream slot { getStream slot s3 with endRec := x.endRec || r.code != 0 } s3)
  else if protects x s3 then
    sendTwin (rd .distCfgHome x.district s3) .drawCopy
      (natLe 8 x.id ++ natLe 4 r.index ++ natLe 4 r.token ++ natLe 4 r.logp ++ natLe 1 r.code ++
        r.alts.flatMap fun a => natLe 4 a.1 ++ natLe 4 a.2)
      (setStream slot { getStream slot s3 with wait := some r } s3)
  else postDraw slot r s3

/-- No token can be drawn (R304 step 5, R309), or the control block cannot be read. -/
def noDraw (slot code fault : Nat) (s : State) : State :=
  let x := getStream slot s
  let s1 := setStream slot { x with drawn := true, endCode := code, fault := if x.fault = 0 then fault else x.fault, nout := 0 } s
  ringDone x.district x.ring s1

/-- The home site's sampling unit draws the token of a stream (R304 to R309, R348). -/
def tokenDraw (slot : Nat) (s : State) : State :=
  let x := getStream slot s
  let dx := getDistrict x.district s
  match dx.samp with
  | none => s
  | some cfg =>
    if !(drawers x.district s).contains slot || x.drawn || !dx.armed.isEmpty || stopping s then s
    else
      let c := cbWhole slot s
      match c.1 with
      | none => noDraw slot 0 24 c.2
      | some cb =>
        match x.kept, x.recorded.find? fun r => r.index == x.out with
        | some r, _ => if r.index = x.out then applyDraw slot cb r false c.2 else c.2
        | none, some r => applyDraw slot cb r true (setStream slot { x with recorded := x.recorded.erase r } c.2)
        | none, none =>
          let rows := cfg.shards.zipIdx.filterMap fun p =>
            (dx.shardOut.find? fun o => o.1 == p.2).bind fun o =>
              (o.2.find? fun y => y.1 == slot).map fun y => (p.1, y.2)
          match drawFrom x cb cfg.vocab rows with
          | none => noDraw slot (if specNat cb 57 1 / 16 % 2 = 1 then 6 else 7) 0 c.2
          | some (t, cs) =>
            let lp (p : Val) : Nat := (spLog (fp p)).toNat
            let stop := stopCode x cb t.1
            let r : DrawRec :=
              ⟨x.out, t.1, lp t.2, (cs.take x.nalt).map fun y => (y.1, lp y.2), if stop = 0 ∧ x.cancel then 5 else stop, roundNow s⟩
            applyDraw slot cb r true c.2

/-- The twin has acknowledged a DRAW copy, or the wait for it has ended (R345). -/
def drawReleased (slot : Nat) (acked : Bool) (s : State) : State :=
  let x := getStream slot s
  match x.wait with
  | none => s
  | some r =>
    let s1 := postDraw slot r s
    if acked then s1
    else lapse slot s1

/-- The round ends: no drawn token is held for a later one (R26, R345). -/
def endWaits (s : State) : State :=
  ((s.sort.streams.filter fun x => x.2.wait.isSome).map (·.1)).foldl (fun u k => drawReleased k false u) s

end Sys2Proof.Machine
end

