-- ==== Sys2Proof/Machine/Fabric.lean ====
section
/-!
DEFINITION. The fabric beside its registers (chapter 12): packets to other devices, jobs and their setpoints (R334 to R337),
the clocks of clusters (R401, R411, R413, R437), markers (R329 to R333), twin copies (R343 to R346).
-/

namespace Sys2Proof.Machine

def setFab (x : FabSide) (s : State) : State := { s with fab := x }
def ownFid (s : State) : Nat := rd .nolucStatusFid 0 s

/-- The egress ports of a destination that are not down (R323, R326). -/
def egress (fid : Nat) (s : State) : List Nat := (tget (fun _ => []) s.fab.routes fid).filter fun p => portTakes p s

/-- A packet of a job to another device (R325), from the home site of the job's district: one with no way out is discarded and
counted (R326). -/
def send (j dst : Nat) (k : FabKind) (body : List Byte) (s : State) : State :=
  if egress dst s = [] then bump .nolucStatusUnrouted 0 s
  else offer (rd .distCfgHome (rd .jobCfgDistrict j s) s) (egress dst s) dst k body s

/-- This device issues markers: it is the round master and no higher epoch has deposed it, or it has taken over (R329, R333). -/
def issues (s : State) : Bool := s.fab.acting || (rd .roundCfgMaster 0 s == ownFid s && !s.fab.deposed)

/-- The master in force: this device while it acts, else the one whose marker was accepted last (R333). -/
def masterFid (s : State) : Nat := if issues s then ownFid s else s.fab.master.getD (rd .roundCfgMaster 0 s)

/-- The epoch under which this device issues, or that of the last accepted marker (R333, R355). -/
def epochNow (s : State) : Nat := if s.fab.acting then s.fab.epoch else rd .roundStatusEpoch 0 s

/-! Jobs (R334 to R337). -/

def noJob : Nat → JobX := fun _ => {}
def getJob (j : Nat) (s : State) : JobX := tget noJob s.fab.jobs j
def setJob (j : Nat) (x : JobX) (s : State) : State := setFab { s.fab with jobs := tset noJob s.fab.jobs j x } s
def updJob (j : Nat) (f : JobX → JobX) (s : State) : State := setJob j (f (getJob j s)) s

/-- The jobs of which this device is a member. -/
def memberJobs (s : State) : List Nat := (List.range 64).filter fun j => bit .jobCfgMember j s

/-- The job whose member district a district is (R334). -/
def jobOf (d : Nat) (s : State) : Option Nat := (memberJobs s).find? fun j => rd .jobCfgDistrict j s == d

/-! Which positions of a circulating job's context are this member's (R351). -/

/-- The JOBIDX of the member that holds a position. -/
def circHolder (j pos : Nat) (s : State) : Nat :=
  pos / max 1 (((getJob j s).circ.map (·.cspan)).getD 1) % max 1 (getJob j s).members.length

/-- The position in the whole context of this member's own position of a number. -/
def ownPosition (j n : Nat) (s : State) : Nat :=
  let span := max 1 (((getJob j s).circ.map (·.cspan)).getD 1)
  (n / span * max 1 (getJob j s).members.length + rd .jobCfgJobidx j s) * span + n % span

/-- A position of a stream has been met: the context reaches at least to it. -/
def meetPosition (j id pos : Nat) (s : State) : State :=
  let old := (((getJob j s).heads.find? fun h => h.1 == id).map (·.2)).getD 0
  updJob j (fun x => { x with heads := (x.heads.filter fun h => h.1 != id) ++ [(id, max old pos)] }) s

/-- The next position of a stream's whole context, as far as this member knows it: after its own last, and after the last that it has
met in a block or a query (log 65). -/
def circNext (j slot : Nat) (s : State) : Nat :=
  let x := getStream slot s
  let met := (((getJob j s).heads.find? fun h => h.1 == x.id).map (·.2)).getD 0
  max met (if x.pos = 0 then 0 else ownPosition j (x.pos - 1) s + 1)

/-- The job in whose ring a district circulates. -/
def ringOf (d : Nat) (s : State) : Option Nat := (jobOf d s).filter fun j => (getJob j s).circ.isSome

/-- The positions that a step of n tokens adds to this device's own: those of a prefill chunk, which are its own; the new one of a decode
step only where it holds it. -/
def ownTokens (slot n : Nat) (s : State) : Nat :=
  let x := getStream slot s
  match ringOf x.district s with
  | none => n
  | some j => if x.pos < x.pend ∨ circHolder j (circNext j slot s) s = rd .jobCfgJobidx j s then n else 0

/-- A job holds the district: the marker's ADMIT bit is 0, or HOLD is set (R337, R339). -/
def jobHolds (d : Nat) (s : State) : Bool :=
  match jobOf d s with
  | some j => !s.fab.admBits.testBit j || bit .jobStatusHold j s
  | none => false

/-- The setpoint of a job without requests: NOM, or the highest that NOM allows at a master outside the job, which is not told it; every
member takes the minimum with its own (R335; log 62). -/
def jobNom (j : Nat) (s : State) : Nat := if bit .jobCfgMember j s then rd .jobSetpNom j s else 1500

/-- The setpoint that a job's standing requests ask for (R335). -/
def jobTarget (j : Nat) (s : State) : Nat :=
  (getJob j s).reqs.foldl (fun a r => min a (max 500 r.2.2)) (jobNom j s)

/-- The member whose request sets the setpoint. -/
def slowMember (j mhz : Nat) (s : State) : Option Nat := ((getJob j s).reqs.find? fun r => max 500 r.2.2 == mhz).map (·.1)

/-- A member's slow request, or its withdrawal, 0 MHz, is taken (R336). -/
def takeRequest (j fid cause mhz : Nat) (s : State) : State :=
  updJob j (fun x =>
    let rest := x.reqs.filter fun r => !(r.1 == fid && r.2.1 == cause)
    { x with reqs := if mhz = 0 then rest else rest ++ [(fid, cause, mhz)] }) s

/-- The packet of a slow request to the master in force (R336). -/
def sendRequest (j cause mhz : Nat) (s : State) : State :=
  send j (masterFid s) .slowRequest (natLe 2 (ownFid s) ++ natLe 1 j ++ natLe 1 cause ++ natLe 2 mhz) s

/-- This member's request of a cause becomes a rate, or is withdrawn at 0; a change goes to the master (R336, R413, R437). -/
def ownRequest (j cause mhz : Nat) (s : State) : State :=
  let x := getJob j s
  let old := ((x.own.find? fun r => r.1 == cause).map (·.2)).getD 0
  if old = mhz then s
  else
    let rest := x.own.filter fun r => r.1 != cause
    let s1 := takeRequest j (ownFid s) cause mhz (setJob j { x with
      own := if mhz = 0 then rest else rest ++ [(cause, mhz)], echoed := x.echoed.filter fun q => q.1 != cause } s)
    if issues s1 then s1 else sendRequest j cause mhz s1

/-! Clocks of clusters (R401, R411, R413, R437). -/

/-- The fused voltage for a frequency, at most 0.95 V (R401). -/
def fusedVoltage (mhz : Nat) : Nat := min 950 (Config.fusedMv mhz)

/-- CCLK setpoint, voltage setpoint and swallowed edges of a cluster from its site's compute level, its heat level and its job. -/
def clockCluster (k : Nat) (s : State) : State :=
  let lv := min (rd .psiteLevelCompute (k / 32) s) (rd .thclCtrlLevel k s)
  let put (mhz gated : Nat) : State :=
    wr .pwrclSetpMhz k mhz (wr .pwrclSetpMv k (fusedVoltage mhz) (wr .pwrclSetpGated k gated s))
  if bit .thclCtrlDark k s then s
  else match (clusterDistrict k s).bind fun d => jobOf d s with
  | some j =>
    let cur := rd .jobSetpCur j s
    let nom := rd .jobSetpNom j s
    put cur (if lv * nom < 100 * cur then 1000 - lv * nom * 10 / cur else 0)
  | none => put (lv * 1250 / 100 / 10 * 10) 0

def clockJob (j : Nat) (s : State) : State := (clustersOf (rd .jobCfgDistrict j s) s).foldl (fun u k => clockCluster k u) s

/-- A setpoint takes effect on this member: the announced one, at most NOM. SLOWDEV names the member whose request it is; it is left
open where this device has met none of that rate (R335 to R337, R355; log 40). -/
def applySetp (j mhz0 : Nat) (s : State) : State :=
  let f := fresh s
  let mhz := min (rd .jobSetpNom j s) mhz0
  let slow := decide (mhz < rd .jobSetpNom j s)
  let d := slowMember j mhz s
  clockJob j (wr .jobSetpCur j mhz (wr .jobStatusSlowv j (natBool slow)
    (wrIf slow .jobStatusSlowdev j (d.getD (f.1 % 1024)) (if d.isSome then s else f.2))))

/-- A job is dissolved here: the clusters go back to their own setpoints (R335). -/
def dissolveJob (j : Nat) (s : State) : State :=
  (clustersOf (rd .jobCfgDistrict j s) s).foldl (fun u k => clockCluster k u) (setJob j {} (clearBlock .job j s))

/-- What envelopes have left for the district's next admission pass (R23). -/
def takeConfigs (d : Nat) (s : State) : State :=
  match jobOf d s with
  | none => s
  | some j =>
    let x := getJob j s
    if x.dissolve then dissolveJob j s
    else
      match x.circNext with
      | some c => setJob j { x with circ := some c, circNext := none } s
      | none => s

/-! STEPDONE and heartbeats (R337, R339). -/

/-- A member's STEPDONE is taken: LAGDEV names the last to report. -/
def takeDone (j fid : Nat) (s : State) : State :=
  let s1 := updJob j (fun x => { x with owed := x.owed.filter (· ≠ fid), missed := x.missed.filter (·.1 ≠ fid) }) s
  wr .jobStatusLagdev j fid (flag .jobStatusLagv j s1)

def takeBeat (j fid : Nat) (s : State) : State := updJob j (fun x => { x with missed := x.missed.filter (·.1 ≠ fid) }) s

/-- Where a member reports: the master and the lease device, itself left out. -/
def reportTo (j : Nat) (s : State) : List Nat :=
  ([masterFid s, rd .jobCfgLeasedev j s].dedup).filter fun f => f != ownFid s

/-- The step of a job district is over: STEPDONE (R337). -/
def reportDone (d : Nat) (s : State) : State :=
  match jobOf d s with
  | none => s
  | some j =>
    let s1 := takeDone j (ownFid s) (updJob j (fun x => { x with sent := true }) s)
    (reportTo j s1).foldl (fun u f => send j f .stepDone (natLe 1 j ++ natLe 2 (ownFid u)) u) s1

/-- Every round's heartbeat, unless a STEPDONE has gone out (R339). -/
def beat (j : Nat) (s : State) : State :=
  let s1 := if (getJob j s).sent then s
    else (reportTo j s).foldl (fun u f => send j f .heartbeat (natLe 1 j ++ natLe 2 (ownFid u)) u) s
  updJob j (fun x => { x with sent := false }) s1

/-! Markers (R329 to R333). -/

/-- Jobs whose setpoint the master announces with the marker of round r, effective in the next: at once for a fall, after eight rounds for a rise. -/
def announceJob (r j : Nat) (s : State) : State :=
  let y := getJob j s
  let x := { y with pend := y.pend.filter fun p => decide (r ≤ p.2) }
  let now_ := x.announced.getD (jobNom j s)
  let t := jobTarget j s
  if t = now_ then (if x.rise = 0 then s else setJob j { x with rise := 0 } s)
  else if now_ < t ∧ x.rise + 1 < 8 then setJob j { x with rise := x.rise + 1 } s
  else if 4 ≤ ((List.range 64).filter fun k => (getJob k s).pend.any fun p => p.2 == r + 1).length then s
  else setJob j { x with rise := 0, announced := some t, pend := x.pend ++ [(t, r + 1)] } s

/-- A job may start a step: every member has reported its previous one. A master outside the job waits until three rounds, in each of
which every member reports, have made no further member known (R337, R339; log 62). -/
def admitBits (s : State) : Nat :=
  (List.range 64).foldl
    (fun a j =>
      let x := getJob j s
      if x.members ≠ [] ∧ x.owed = [] ∧ (bit .jobCfgMember j s = true ∨ 3 ≤ x.quiet) then a + 2 ^ j else a) 0

/-- The period of round r: an announced one takes effect at its round (R331). -/
def takePeriod (r : Nat) (s : State) : State :=
  match s.fab.nperiod with
  | some p => if p.2 ≤ r then setFab { s.fab with period := p.1, nperiod := none } s else s
  | none => s

/-- The marker that opens round r (R329). -/
def makeMarker (r : Nat) (s : State) : Marker :=
  { round := r, epoch := epochNow s, master := ownFid s, period := s.fab.period,
    nperiod := (s.fab.nperiod.map (·.1)).getD 0, npround := (s.fab.nperiod.map (·.2)).getD 0, delay := 0, admBits := admitBits s,
    setps := ((List.range 64).flatMap fun j => ((getJob j s).pend.filter fun p => decide (r < p.2)).map fun p => (j, p.1, p.2)).take 4 }

def markerBytes (m : Marker) : List Byte :=
  natLe 6 m.round ++ natLe 2 m.epoch ++ natLe 2 m.master ++ natLe 2 m.period ++ natLe 2 m.nperiod ++ natLe 6 m.npround ++
    natLe 4 m.delay ++ natLe 8 m.admBits ++
    ((List.range 4).flatMap fun i =>
      match m.setps[i]? with
      | some p => natLe 2 (p.1 + 64) ++ natLe 2 p.2.1 ++ natLe 6 p.2.2
      | none => natLe 10 0) ++ natLe 168 0

/-- Sends a marker on the downstream ports, or forwards one that came in over a port across the IW (R216, R329, R330). -/
def sendMarker (src : Option Nat) (m : Marker) (s : State) : State :=
  ((List.range 32).filter fun p => (rd .roundCfgDown 0 s).testBit p && portUp p s).foldl
    (fun u p => launch (fabricPortSite (src.getD p) u) p (.marker p (markerBytes m)) u) s

/-- The master issues the marker of round r: requests are announced, STEPDONEs are owed again by the members admitted. -/
def issueMarker (r : Nat) (s : State) : Marker × State :=
  let s1 := (List.range 64).foldl (fun u j => if (getJob j u).members = [] then u else announceJob r j u) (takePeriod r s)
  let m := makeMarker r s1
  let s2 := (List.range 64).foldl
    (fun u j =>
      if (getJob j u).members = [] then u
      else updJob j (fun x => { x with quiet := x.quiet + 1, owed := if m.admBits.testBit j then x.members else x.owed }) u) s1
  (m, sendMarker none m s2)

/-- The round offset clamp of R222. -/
def clampOffsets (s : State) : State :=
  (List.range 256).foldl
    (fun u d => if rd .distCfgState d u = 0 then u
      else wr .distCfgClamped d (natBool (decide (s.fab.period ≤ rd .distCfgOffset d u))) u) s

/-- What a boundary does to a job this device is a member of: holds begin or end, a setpoint takes effect, requests not yet
echoed go out again, heartbeats are sent and missed ones counted (R336, R339, R340). -/
def jobBoundary (r j : Nat) (s : State) : State :=
  let x := getJob j s
  let s1 := if x.holdNext then flag .jobStatusHold j s else if x.freeNext then wr .jobStatusHold j 0 s else s
  let s2 := setJob j { x with holdNext := false, freeNext := false, pend := x.pend.filter fun p => decide (r < p.2) } s1
  let s3 := (x.pend.filter fun p => decide (p.2 ≤ r)).foldl (fun u p => applySetp j p.1 u) s2
  let s4 := if issues s3 then s3
    else (x.own.filter fun q => !x.echoed.contains q).foldl (fun u q => sendRequest j q.1 q.2 u) s3
  let s5 := if rd .jobCfgLeasedev j s4 = ownFid s4 then
      updJob j (fun y => { y with missed := (y.members.filter (· ≠ ownFid s4)).map fun f =>
        (f, ((y.missed.find? fun m => m.1 == f).map (·.2)).getD 0 + 1) }) s4
    else s4
  beat j s5

/-- A device that joins a domain at a lower round goes on from there: what counts rounds passed counts none that are still to come
(R332). -/
def rejoin (r : Nat) (s : State) : State :=
  if roundNow s < r then s
  else
    { s with
      districts := s.districts.map fun x => (x.1, { x.2 with started := min x.2.started r })
      sort := { s.sort with books := s.sort.books.map fun x =>
        (x.1, { x.2 with refilled := min x.2.refilled r, pend := x.2.pend.map fun p => (p.1, min p.2 (r - 1)) }) } }

/-- A round opens: the counter, the period, the ADMIT bits, the jobs (R222, R330 to R340). -/
def openRound (r : Nat) (m : Option Marker) (s : State) : State :=
  let s2 := takePeriod r (wr .roundCountRound 0 r (rejoin r s))
  let s3 := match m with
    | some k => setFab { s2.fab with admBits := k.admBits, marker := none, fly := 0, period := k.period } s2
    | none => setFab { s2.fab with admBits := 0, fly := s2.fab.fly + 1 } s2
  let s4 := wr .roundStatusFlyrun 0 (min 7 s3.fab.fly) (wr .roundStatusFly 0 (natBool m.isNone) s3)
  (memberJobs s4).foldl (fun u j => jobBoundary r j u) (clampOffsets s4)

/-- The boundary of a round that the device opens itself, or that an accepted marker opens (R328, R330, R332). -/
def roundBoundary (s : State) : State :=
  if issues s then
    let r := (roundNow s + 1) % 2 ^ 48
    let m := issueMarker r s
    openRound r (some m.1) m.2
  else
    match s.fab.marker with
    | some m => openRound m.round (some m) s
    | none => s

/-- A marker is accepted: it came on an upstream port, its epoch is not lower than the last, and it is neither this device's own
beat nor, under the same epoch, one for a round that a marker has already named or opened (R330, R333; log 115). -/
def markerTaken (port : Nat) (m : Marker) (s : State) : Bool :=
  let up := rd .roundCfgUp 0 s
  let old := epochNow s
  (port == up % 32 || port == up / 32) &&
    (decide (old < m.epoch) || (m.epoch == old && !issues s && s.fab.marker.isNone && m.round != roundNow s))

/-- An accepted marker's DELAY, with the inbound link and this device's forwarding time `fwd` in ns, exceeds BUDGET (R330). -/
def markerLate (port : Nat) (m : Marker) (fwd : Nat) (s : State) : Bool :=
  decide (1000 * rd .roundCfgBudget 0 s < m.delay + rd .nolucpPortDelay port s + fwd)

/-- A new master has echoed none of this device's requests (R333, R336). -/
def unecho (s : State) : State := (memberJobs s).foldl (fun u j => updJob j (fun x => { x with echoed := [] }) u) s

/-- A marker arrives (R330, R331, R333). -/
def markerReceived (port : Nat) (m : Marker) (fwd : Nat) (s : State) : State :=
  if !markerTaken port m s then s
  else
    let higher := decide (epochNow s < m.epoch)
    let s1 := wr .roundStatusEpoch 0 m.epoch s
    let delay := m.delay + rd .nolucpPortDelay port s + fwd
    let s2 := setFab { s1.fab with
      deposed := s1.fab.deposed || higher, acting := s1.fab.acting && !higher, marker := some m, master := some m.master,
      nperiod := if m.nperiod = 0 then none else some (m.nperiod, m.npround) } s1
    let s3 := flagIf (markerLate port m fwd s) .roundStatusLate 0 s2
    let s4 := m.setps.foldl
      (fun u p => if !bit .jobCfgMember p.1 u then u
        else updJob p.1 (fun x => { x with
          pend := (x.pend.filter fun q => q.2 != p.2.2) ++ [(p.2.1, p.2.2)]
          echoed := x.echoed ++ x.own.filter fun q => max 500 q.2 == p.2.1 && !x.echoed.contains q }) u)
      (if higher then unecho s3 else s3)
    sendMarker (some port) { m with delay := delay } s4

/-- No marker 1 us after a boundary was due (R333). -/
def flywheelOpen (s : State) : State :=
  if issues s || s.fab.marker.isSome then s else openRound ((roundNow s + 1) % 2 ^ 48) none s

/-- The standby master starts to issue markers; the setpoints in force are the last announced (R333, R335). STATUS.EPOCH stays that of
the last marker accepted (R355). -/
def standbyTakeover (s : State) : State :=
  if rd .roundCfgStandby 0 s ≠ ownFid s ∨ issues s ∨ s.fab.fly ≠ 3 then s
  else
    let s0 := setFab { s.fab with acting := true, fly := 0, epoch := rd .roundStatusEpoch 0 s + 1 } s
    let s1 := (memberJobs s0).foldl (fun u j => updJob j (fun x => { x with announced := some (rd .jobSetpCur j u) }) u) s0
    let m := issueMarker (roundNow s1) s1
    setFab { m.2.fab with admBits := m.1.admBits } m.2

/-- Every job district is held (R333). -/
def beatLoss (s : State) : State :=
  if s.fab.fly < 8 then s
  else (memberJobs s).foldl (fun u j => updJob j (fun x => { x with holdNext := true }) u) s

/-! Copies to the twin (R343 to R346). -/

/-- The byte ranges of token t of a page that a commit copies: keys with their scales, values with theirs (R253, R254). -/
def tokenRanges (w vopen t0 t : Nat) : List (Nat × Nat) :=
  let tpp := kTpp w
  let blk := (t0 + t) / 16
  [(kOff w + t * kKb w, kKb w)] ++ ((List.range (kKsB w)).map fun i => (kKsoff w + i * tpp + t, 1)) ++
  (if kGrp w then
     (if blk < vopen then [(kVoff w + t * kVb w, kVb w), (kVsoff w + t / 16 * kE w, kE w)]
      else [(kStoff w + t % 16 * 2 * kE w, 2 * kE w)])
   else (kVoff w + t * kVb w, kVb w) :: (List.range (kVsB w)).map fun i => (kVsoff w + i * tpp + t, 1))

/-- The rows and scales of the tokens from a to b of one chain, with chain, page and byte offset. -/
def chainRows (slot c a b : Nat) (s : State) : List (Nat × Nat × Nat × List Byte) :=
  let ch := getChain slot c s
  let w := kvWord (getStream slot s).district s
  let tpp := max 1 (kTpp w)
  (List.range (b - a)).flatMap fun i =>
    let t := a + i
    let p := ch.pages.getD (t / tpp) {}
    (tokenRanges w ch.vopen (t / tpp * tpp) (t % tpp)).map fun r => (c, t / tpp, r.1, dramRead p.vault (65536 * p.page + r.1) r.2 s)

/-- The rows and postcode bytes of the tokens from a to b of one chain; with grouped values the whole of the block that token a
lies in, whose rows a close writes anew (R254, R344). -/
def chainCopy (slot c a b : Nat) (s : State) : List (Nat × Nat × Nat × List Byte) × List (Nat × Nat × Nat × List Byte) :=
  let ch := getChain slot c s
  let w := kvWord (getStream slot s).district s
  let tpp := max 1 (kTpp w)
  let rows := chainRows slot c (if kGrp w then a / 16 * 16 else a) b s
  let pages := ((List.range (b - a)).map fun i => (a + i) / tpp).dedup
  let posts := pages.map fun j =>
    let p := ch.pages.getD j {}
    (c, j, 32, dramRead (vaultLocal p.pcloc).1 ((vaultLocal p.pcloc).2 + 32) (2 * kE w) s)
  (rows, posts)

/-- The STEP copy of a stream that has just committed n input tokens. -/
def stepCopyOf (slot n : Nat) (hist : List Nat) (s : State) : StepCopy :=
  let x := getStream slot s
  let parts := (chainsOf slot s).map fun c => chainCopy slot c.1 (c.2.len - n) c.2.len s
  { pos := x.pos, out := x.out, token := x.token, lastadm := x.lastadm, nin := n, history := hist, gstate := cbNat slot 10244 4 s,
    acc := ((cbRead slot 10248 56 s).1).getD [],
    homes := (chainsOf slot s).map fun c => (c.1, (coresOfDistrict x.district s).idxOf c.2.home), rows := parts.flatMap (·.1), posts := parts.flatMap (·.2) }

def stepCopyBytes (id : Nat) (m : StepCopy) : List Byte :=
  let part (r : Nat × Nat × Nat × List Byte) : List Byte := natLe 4 r.1 ++ natLe 4 r.2.1 ++ natLe 4 r.2.2.1 ++ r.2.2.2
  natLe 8 id ++ natLe 4 m.pos ++ natLe 4 m.out ++ natLe 4 m.token ++ natLe 6 m.lastadm ++ natLe 4 m.nin ++
    m.history.flatMap (natLe 4) ++ natLe 4 m.gstate ++ m.acc ++ m.homes.flatMap (fun h => natLe 4 h.1 ++ natLe 4 h.2) ++ m.rows.flatMap part ++ m.posts.flatMap part

/-- The STEP and SEAL copies of a commit; the SEAL after a resynchronisation that the twin has acknowledged ends the lapse (R344, R346). -/
def sendStep (slot n : Nat) (hist : List Nat) (s : State) : State :=
  let x := getStream slot s
  let s0 := if x.resynced then showLapsed (setStream slot { x with lapsed := false, resync := false, resynced := false } s) else s
  if !protects (getStream slot s0) s0 then s0
  else
    let s1 := sendTwin (rd .distCfgHome x.district s0) .stepCopy (stepCopyBytes x.id (stepCopyOf slot n hist s0)) s0
    let s2 := updStream slot (fun y => { y with sealedAt := cbNat slot 10248 8 s1 + cbNat slot 10264 8 s1 }) s1
    bump .twinStatusCopies 0 (sendTwin (rd .distCfgHome x.district s2) .sealCopy (natLe 8 x.id ++ natLe 6 (roundNow s2)) s2)

/-- A lapsed stream's full state goes to the twin (R346). -/
def resyncStream (slot : Nat) (s : State) : State :=
  let x := getStream slot s
  if x.st = .free ∨ x.st = .ending ∨ !x.lapsed ∨ x.resync ∨ !mirrored x.district s ∨ rd .twinStatusPorts 0 s = 0 then s
  else
    let (i, s1) := imageOf slot s
    let body := natLe 8 x.id ++ i.ctl ++ i.chains.flatMap fun c => natLe 4 c.c ++ c.head ++ c.pages.flatMap (fun p => natLe 4 p.1 ++ p.2) ++
      c.posts.flatMap fun p => natLe 4 p.1 ++ p.2
    updStream slot (fun y => { y with resync := true }) (sendTwin (rd .distCfgHome x.district s) .resync body s1)

end Sys2Proof.Machine
end

