-- ==== Sys2Proof/Machine/Steps.lean ====
section
/-!
DEFINITION. District steps: letters on cores (R83, R226), the admission pass (R293), batch tables (R296), step start and
completion (R22 to R25, R109, R295), and the failure of a step (R295, R487).
-/

namespace Sys2Proof.Machine

/-! Parcels as a district runs them. -/

def parcelOf (d : Nat) (s : State) : Parcel := getParcel (rd .distCfgParcel d s) s
def stagesOf (d : Nat) (s : State) : Nat := max 1 (parcelOf d s).stages

/-- Core n of a cluster, in core order (R512). -/
def nthCore (k n : Nat) : Nat := (coresOf k).getD n 0

/-- The cores of a stage's core mask in global core order (R228, R512). -/
def stageCores (p : Parcel) (j : Nat) : List Nat :=
  ((p.table.filter fun e => e.2.1 == j).flatMap fun e => ((List.range 64).filter e.2.2.testBit).map (nthCore e.1)).insertionSort (· ≤ ·)

/-- Every core of the core mask with its stage. -/
def maskCores (p : Parcel) : List (Nat × Nat) :=
  (List.range (max 1 p.stages)).flatMap fun j => (stageCores p j).map fun g => (g, j)

/-- The core that runs the letter of a mask core: itself or its stand-in (R483). -/
def actor (g : Nat) (s : State) : Nat :=
  match s.standIns.find? fun x => x.2 == g with
  | some x => x.1
  | none => g

def stageE (p : Parcel) (j : Nat) : StageE := p.entries.getD j ⟨0, 0, 0, 0, 0, [], []⟩

/-- Bytes of a parcel's header, through the bound district's mapping (R226, R512). -/
def headerBytes (d off n : Nat) (s : State) : Option (List Byte) × State :=
  dvaReadN d ((parcelOf d s).pvbase * 65536 + off) n srcDispatcher s

/-- Line l of stage j's letter image goes to core g; a line with a word that cannot be read arrives poisoned (R113, R161). -/
def placeLine (d g j l : Nat) (s : State) : State :=
  let e := stageE (parcelOf d s) j
  let r := headerBytes d (e.loff + 32 * l) 32 s
  match r.1 with
  | some bs => spWrite g (32 * (e.lbase + l)) 0 bs r.2
  | none => setTag g (e.lbase + l) 0 (setPoison g (e.lbase + l) true r.2)

/-- Places stage j's letter on a core (R81, R83, R226). A core that is RUNNING or waits is stopped first, since its letter may not be
written then (R82; log 112). -/
def placeLetter (d g j : Nat) (s0 : State) : State :=
  let s := stopCore g s0
  let e := stageE (parcelOf d s) j
  let s1 := wr .coreLetterLbase g e.lbase (wr .coreLetterLlen g e.llen (wr .coreLetterEntry g e.entry
    (wr .coreLetterSdbase g e.sdbase s)))
  (List.range e.llen).foldl (fun u l => placeLine d g j l u) s1

/-- The dispatcher recopies every poisoned line of a letter region (R487), of a core whose letter it may write (R82). -/
def recopyLetter (d g j : Nat) (s : State) : State :=
  let e := stageE (parcelOf d s) j
  if !goState (getCore g s).st then s
  else ((List.range e.llen).filter fun l => linePoison g (e.lbase + l) s).foldl (fun u l => placeLine d g j l u) s

/-! Books (R297 to R299). -/

def noBook : Nat → BookX := fun _ => {}
def getBook (b : Nat) (s : State) : BookX := tget noBook s.sort.books b
def setBook (b : Nat) (x : BookX) (s : State) : State := setSort { s.sort with books := tset noBook s.sort.books b x } s

/-- The franked amount of a step that is not committed goes back to the book, up to DEPTH (R295). -/
def credit (slot : Nat) (s : State) : State :=
  let x := getStream slot s
  wr .bookLevelLevel x.book (min (rd .bookParamDepth x.book s) (rd .bookLevelLevel x.book s + x.franked))
    (setStream slot { x with franked := 0 } s)

/-- Parameters accepted in an earlier round take effect (R299). -/
def bookTakes (b : Nat) (s : State) : State :=
  match (getBook b s).pend with
  | none => s
  | some (p, r) =>
    if roundNow s ≤ r then s
    else
      let s1 := wr .bookParamRate b p.rate (wr .bookParamDepth b p.depth (wr .bookWInterval b p.interval
        (wr .bookWWin b p.win (wr .bookWWout b p.wout (setBook b { getBook b s with pend := none } s)))))
      wr .bookLevelLevel b (min p.depth (rd .bookLevelLevel b s)) s1

/-- A book refills once at a boundary whose round is a multiple of INTERVAL, after a pending envelope has taken effect (R298, R299). -/
def bookRefill (b : Nat) (s0 : State) : State :=
  let s := bookTakes b s0
  let n := rd .bookWInterval b s
  if n == 0 || roundNow s % n != 0 || decide (roundNow s < (getBook b s).refilled) then s
  else
    wr .bookLevelLevel b (min (rd .bookParamDepth b s) (rd .bookLevelLevel b s + rd .bookParamRate b s))
      (setBook b { getBook b s with refilled := roundNow s + 1 } s)

/-! The admission pass (R293). -/

/-- What a pass has done so far: streams admitted (latest first), prefill tokens left, books deferred for stamps. -/
structure Pass where
  slots : List Nat := []
  pleft : Nat
  blocked : List Nat := []

/-- A deferral with its cause (R293). Rounds deferred for staging space count while they are consecutive (R270). -/
def deferStream (slot cause : Nat) (s : State) : State :=
  let x := getStream slot s
  let s1 := setStream slot { x with defers := x.defers + 1, dcause := cause, stag := if cause = 5 then x.stag else 0 } s
  match cause with
  | 1 => bump .sodistDeferBatch x.district s1
  | 2 => bump .sodistDeferBudget x.district s1
  | 3 => bump .sodistDeferStamps x.district (bump .bookLevelDefers x.book s1)
  | 4 => flag .dringStatusFull x.ring (bump .sodistDeferRing x.district s1)
  | _ => s1

/-- The largest chunk up to n whose stamps the book covers, with its draws (R293). -/
def shrink (pos pend win wout level : Nat) : Nat → Nat × Nat
  | 0 => (0, 0)
  | n + 1 =>
    let nout := natBool (pos + (n + 1) == pend)
    if (n + 1) * win + nout * wout ≤ level then (n + 1, nout) else shrink pos pend win wout level n

/-- Input tokens and draws that the stamps allow. -/
def stamped (x : Stream) (nin win wout level : Nat) : Nat × Nat :=
  if x.pos < x.pend then shrink x.pos x.pend win wout level nin else if win + wout ≤ level then (1, 1) else (0, 0)

/-- A chain waits for a staging page (R270). -/
def lacksStaging (ch : Chain) : Bool :=
  ch.phase == 2 && ch.attend.any fun j =>
    let p := ch.pages.getD j {}
    p.spilled.isNone && p.vault != ch.home && !ch.staged.any fun x => x.1 == j

/-- R259 and R270 for each chain: every one ready, and every page that the step's appends reach open; the state with these
pages opened, or the site of the first chain that fails. -/
def kvRoom (slot nin : Nat) : List (Nat × Chain) → State → Except Nat State
  | [], s => .ok s
  | (c, ch) :: t, s =>
    if ch.phase ≠ 0 then .error (siteOf ch.home)
    else
      let w := kvWord (getStream slot s).district s
      let n := ceilDiv (ch.len + nin) (kTpp w)
      match openTo slot c n (n + 1) s with
      | none => .error (siteOf ch.home)
      | some s1 => kvRoom slot nin t (attendNew slot c n s1)

/-- The handle length T of a stream (R291, R301). -/
def handleLen (slot : Nat) (s : State) : Nat := (getStream slot s).pend - cbNat slot 16 4 s

/-- The district virtual address of prompt token i: inline through the control block's page, or from PROMPT (R290, R296). -/
def promptVa (slot i : Nat) (s : State) : Nat :=
  let x := getStream slot s
  if cbNat slot 1 1 s / 64 % 2 = 1 then ctlVpn (x.ctl / 65536) * 65536 + x.ctl % 65536 + 2560 + 4 * i
  else cbNat slot 64 6 s + 4 * i

/-- The n prompt tokens from the stream's position on. -/
def promptTokens (slot n : Nat) (s : State) : Option (List Nat) × State :=
  let x := getStream slot s
  let i := x.pos - handleLen slot s
  let r := if cbNat slot 1 1 s / 64 % 2 = 1 then cbRead slot (2560 + 4 * i) (4 * n) s
    else dvaReadN x.district (promptVa slot i s) (4 * n) srcDispatcher s
  (r.1.map fun bs => (List.range n).map fun k => leNat ((bs.drop (4 * k)).take 4), r.2)

/-- The tokens of a chunk can be read and lie below VOCAB (R291). -/
def chunkOk (slot nin : Nat) (s : State) : Bool × State :=
  let x := getStream slot s
  if x.pend ≤ x.pos then (true, s)
  else
    let vocab := match (getDistrict x.district s).samp with
      | some c => c.vocab
      | none => 0
    let r := promptTokens slot nin s
    match r.1 with
    | some ts => (ts.all (· < vocab), r.2)
    | none => (false, r.2)

/-- An admitted stream (R293). -/
def admitStream (slot nin nout cost batch : Nat) (s : State) : State :=
  let x := getStream slot s
  let s1 := wr .bookLevelLevel x.book (rd .bookLevelLevel x.book s - cost) s
  setSt slot .running (setStream slot { x with
    lastadm := roundNow s % 2 ^ 32, qpos := x.pos + nin - 1, defers := 0, nin := nin, adds := ownTokens slot nin s, nout := nout, batch := batch, franked := cost, drawn := nout == 0,
    endCode := 0, stag := 0, direct := 0, mark := cbNat slot 10240 8 s } s1)

/-- Considers one stream. -/
def considerStream (maxbatch pchunk slot : Nat) (p : Pass) (s : State) : Pass × State :=
  let x := getStream slot s
  let win := rd .bookWWin x.book s
  let wout := rd .bookWWout x.book s
  let level := rd .bookLevelLevel x.book s
  let want := if x.pos < x.pend then min (min (x.pend - x.pos) pchunk) p.pleft else 1
  let q := stamped x want win wout level
  if p.slots.length = maxbatch then (p, deferStream slot 1 s)
  else if p.blocked.contains x.book then (p, deferStream slot 3 s)
  else if want = 0 then (p, deferStream slot 2 s)
  else if q.1 = 0 then ({ p with blocked := x.book :: p.blocked }, deferStream slot 3 s)
  else if ringRoom x.ring s < q.2 then (p, deferStream slot 4 s)
  else
    match kvRoom slot (ownTokens slot q.1 s) (chainsOf slot s) s with
    | .error site =>
      let lack := (chainsOf slot s).any fun c => lacksStaging c.2
      (p, bump .kvsiteCnt0LaLate site
        (updStream slot (fun y => { y with stag := if lack then y.stag + 1 else 0 }) (deferStream slot 5 s)))
    | .ok s1 =>
      let b := cbCheck slot s1
      let c := chunkOk slot q.1 b.2
      if !b.1 then (p, beginEnd slot 24 b.2)
      else if !c.1 then (p, beginEnd slot 8 c.2)
      else
        ({ p with slots := slot :: p.slots, pleft := if x.pos < x.pend then p.pleft - q.1 else p.pleft },
         admitStream slot q.1 q.2 (q.1 * win + q.2 * wout) p.slots.length c.2)

/-- READY streams of a district by class, LASTADM and slot; a stream that a RESUME still restores is not yet among them (R280). -/
def readyStreams (d : Nat) (s : State) : List Nat :=
  let key (a : Nat × Stream) : List Nat := [a.2.pclass, a.2.lastadm, a.1]
  ((s.sort.streams.filter fun x => x.2.st == .ready && !x.2.shadow && x.2.district == d && !resuming x.1 s).insertionSort
    fun a b => !lexLt (key b) (key a)).map (·.1)

/-- Streams that end before the pass: a waiting CANCEL (R314), and a context that is full (R283). -/
def endWaiting (d : Nat) (s : State) : State :=
  (readyStreams d s).foldl
    (fun u k =>
      let x := getStream k u
      if x.cancel then beginEnd k 5 u else if x.ctxmax ≤ x.pos then beginEnd k 4 u else u) s

/-- The pass: the streams admitted in order, and the state. The books that are charged have had the round's refill (R298). -/
def admission (d : Nat) (s : State) : List Nat × State :=
  let s0 := endWaiting d s
  let s1 := (((readyStreams d s0).map fun k => (getStream k s0).book).dedup).foldl (fun u b => bookRefill b u) s0
  let r := (readyStreams d s1).foldl
    (fun a k => considerStream (rd .sodistAdmMaxbatch d s1) (rd .sodistAdmPchunk d s1) k a.1 a.2)
    (({ pleft := rd .sodistAdmPbudget d s1 } : Pass), s1)
  (r.1.slots.reverse, r.2)

/-! Batch tables (R296). -/

/-- District virtual page of page i of a set of step pages on a site (log 37). -/
def stepVpn (site set i : Nat) : Nat := 2 ^ 27 - 65536 + 1024 * site + 4 * set + i
def sampVa (site set : Nat) : Nat := stepVpn site set 0 * 65536
def batchVa (site set : Nat) : Nat := stepVpn site set 1 * 65536

/-- Writes bytes over a run of pages: whether every write was made (R155). -/
def writePages (bs : List Byte) (ps : List (Nat × Nat)) (s : State) : Bool × State :=
  ps.zipIdx.foldl
    (fun u p =>
      let r := vwrite p.1.1 (65536 * p.1.2) srcDispatcher ((bs.drop (65536 * p.2)).take 65536) u.2
      (u.1 && r.1.isNone, r.2)) (true, s)

/-- A batch table entry. -/
def batchEntry (slot : Nat) (s : State) : List Byte :=
  let x := getStream slot s
  let pre := decide (x.pos < x.pend)
  let i := x.pos - handleLen slot s
  let tok := if pre then (((promptTokens slot 1 s).1).getD []).getD 0 0 else x.token
  natLe 4 slot ++ natLe 4 x.pos ++ natLe 2 x.nin ++ natLe 1 (x.nout + 2 * natBool pre) ++ natLe 1 0 ++ natLe 4 tok ++
    natLe 6 (if pre then promptVa slot i s else 0) ++ natLe 10 0

def batchTable (m : Micro) (s : State) : List Byte :=
  natLe 4 m.slots.length ++ natLe 4 m.num ++ natLe 6 (roundNow s) ++ natLe 18 0 ++ m.slots.flatMap fun k => batchEntry k s

def sampTable (m : Micro) (s : State) : List Byte :=
  m.slots.flatMap fun k => natLe 8 (getStream k s).ctl ++ natLe 4 (cbNat k 32 4 s) ++ natLe 4 0

/-- Writes the tables of a micro-batch on every site of the step. A table that cannot be written whole fails the step (R155; log 124). -/
def writeTables (d : Nat) (m : Micro) (s : State) : State :=
  let bt := batchTable m s
  let st := sampTable m s
  let r := (getDistrict d s).stepPages.foldl
    (fun u x =>
      let a := writePages st ((x.2.drop (4 * m.set)).take 1) u.2
      let b := writePages bt ((x.2.drop (4 * m.set + 1)).take 3) a.2
      (u.1 && a.1 && b.1, b.2)) (true, s)
  if r.1 then r.2 else addDue (.stepFail d) r.2

/-! The step descriptor (R83, R228). -/

/-- The value of a template field source. -/
def sourceValue (d site : Nat) (m : Micro) (stage idx n const : Nat) (src : Nat) (s : State) : Nat :=
  match src with
  | 0 => const
  | 1 => stage
  | 2 => m.num
  | 3 => batchVa site m.set
  | 4 => rd .distPtRootAddr d s
  | 5 => sampVa site m.set
  | 6 => idx
  | _ => n

def putBytes (off : Nat) (new old : List Byte) : List Byte := old.take off ++ new ++ old.drop (off + new.length)

/-- The step descriptor of core idx of a stage that runs micro-batch m. -/
def stepDesc (d site : Nat) (m : Micro) (stage idx n : Nat) (s : State) : List Byte :=
  (stageE (parcelOf d s) stage).fields.foldl
    (fun bs f => putBytes f.1 (natLe f.2.1 (sourceValue d site m stage idx n f.2.2.2 f.2.2.1 s)) bs)
    (natLe 6 (roundNow s) ++ natLe 2 d ++ List.replicate 248 0)

/-- Before a step is released the dispatchers recopy the poisoned letter lines of the mask cores and start each HALTED, STOPPED or
TRAPPED core of the district (R108, R487). An IDLE core takes no part until software starts it. -/
def startCores (d : Nat) (s : State) : State :=
  let s1 := (maskCores (parcelOf d s)).foldl (fun u x => recopyLetter d (actor x.1 u) x.2 u) s
  ((s1.cores.cores.map (·.1)).filter fun g => coreDistrict g s1 == some d && (getCore g s1).st != .idle).foldl (fun u g => goCore g u) s1

/-- One core of a step: its descriptor, and the release under way to it from the home site (R83, R109, R216). A core that GO has not started
takes no part. The descriptor's source codes name no SR_SEED or SR_CTR, which a step therefore leaves; their writes are commands of their
own (R45; log 125). -/
def readyCore (d stage idx n : Nat) (m : Micro) (g0 : Nat) (s : State) : State :=
  let g := actor g0 s
  let c := getCore g s
  let home := rd .distCfgHome d s
  if (goState c.st && !c.goWait) || !letterOk g s then s
  else if unreachable home (siteOf g) s then addDue (.stepFail d) (flag .netStatusUnreach home s)
  else
    updCore g (fun c => { c with rel := true, stepSent := pathOpen home (siteOf g) s, reported := false })
      (spWrite g (32 * rd .coreLetterSdbase g s) 0 (stepDesc d (siteOf g) m stage idx n s) s)

def readyStage (d stage : Nat) (m : Micro) (s : State) : State :=
  let gs := stageCores (parcelOf d s) stage
  gs.zipIdx.foldl (fun u x => readyCore d stage x.2 gs.length m x.1 u) s

/-- The step-start notice to each cluster of the district; where its offset lies is left open (R403; log 38). -/
def startNotices (d : Nat) (s : State) : State :=
  let f := fresh s
  { f.2 with notices := f.2.notices ++ (clustersOf d s).map fun k => ⟨k, 16, f.1 % 1000000, 0, s.now, true⟩ }

/-! Step start (R22 to R24, R108, R339). -/

/-- The number of the micro-batch on which stage j of round r works, of n stages (R227). -/
def microNum (n r j : Nat) : Nat := if n = 1 then 0 else (r % n + n - j % n) % n

/-- The pipeline with the new micro-batch in front, filled up with empty ones after a start or a failure. Each takes the number of its
stage in this round, which changes where a round has been held or overrun (R227); tables are written where they are new or show
another number. -/
def enterMicro (d : Nat) (slots : List Nat) (s : State) : State :=
  let st := stagesOf d s
  let sets := if st = 1 then 2 else st + 1
  let x := getDistrict d s
  let pad := st - 1 - x.pipe.length
  let empty := (List.range pad).map fun i => ({ num := st, set := (x.set + 1 + i) % sets, slots := [] } : Micro)
  let old := ({ num := st, set := x.set % sets, slots := slots } : Micro) :: (x.pipe ++ empty)
  let new := old.zipIdx.map fun p => { p.1 with num := microNum st (roundNow s) p.2 }
  let s1 := setDistrict d { x with pipe := new, set := (x.set + 1 + pad) % sets } s
  ((old.zip new).filter fun p => p.1.num != p.2.num).foldl (fun u p => writeTables d p.2 u) s1

/-- Arms the shards and the template operations (R229, R303). -/
def arm (d : Nat) (s : State) : State :=
  let x := getDistrict d s
  let shards := match x.samp with
    | some c => List.range c.shards.length
    | none => []
  let ops := (List.range (stagesOf d s)).flatMap fun j =>
    (List.range (stageE (parcelOf d s) j).ops.length).map fun i => (j, i)
  setDistrict d { x with armed := shards, shardOut := [], armedOps := ops, opEnds := [] } s

/-- The compute level of a cluster of the district is below 100 %, or a site of it is gated (R420). -/
def throttled (d : Nat) (s : State) : Bool :=
  (sitesOfDistrict d s).any fun k => rd .psiteLevelCompute k s < 100 || rd .psiteStatusGate k s != 0

/-- Sixteen times a stream's units for attribution (R417). -/
def unitsOf (slot : Nat) (s : State) : Nat :=
  let pages := ((chainsOf slot s).map fun c => c.2.attend.length).sum
  16 * (getStream slot s).nin + rd .energyCfgKvw 0 s * pages

/-- The streams of a running step that meets a throttled site set THROTTLED (R420). -/
def markThrottled (d : Nat) (s : State) : State :=
  ((getDistrict d s).pipe.flatMap (·.slots)).foldl (fun u k => cbFlag k 4 u) s

/-- A step of every stream of the pipeline runs in this round: ROUNDS counts it once in the round, and the step admitted last is the
one to which the round's energy goes (R417, R420, R421). -/
def countRounds (d : Nat) (s : State) : State :=
  let x := getDistrict d s
  let new := x.pipe.zipIdx.flatMap fun p => p.1.slots.map fun k =>
    ({ slot := k, id := (getStream k s).id, units := unitsOf k s, stage := p.2 } : Ran)
  let s0 := if throttled d s then markThrottled d s else s
  let s1 := (new.filter fun r => !x.counted.contains r.id).foldl (fun u r => cbAdd r.slot 40 4 1 u) s0
  updDistrict d (fun y => { y with ran := if new = [] then y.ran else new, counted := (y.counted ++ new.map (·.id)).dedup }) s1

/-- The member that holds the new position of a stream in a decode step sends the position's query to every other member: STREAM_ID,
position and the query that the letter computes, which the state does not hold (R353; log 65). -/
def sendQueries (d : Nat) (slots : List Nat) (s : State) : State :=
  match ringOf d s with
  | none => s
  | some j =>
    (slots.filter fun k => (getStream k s).pend ≤ (getStream k s).pos && (getStream k s).adds != 0).foldl
      (fun u k =>
        let x := getStream k u
        let p := circNext j k u
        ((getJob j u).members.filter (· ≠ ownFid u)).foldl
          (fun v f => send j f .query (natLe 8 x.id ++ natLe 6 p ++ Config.circQuery x.id p) v) u) s

/-- A step starts: the pass, the tables, the cores. -/
def startStep (d : Nat) (s : State) : State :=
  let s0 := updDistrict d (fun x => { x with samp := x.sampNext <|> x.samp, sampNext := none }) s
  let a := admission d s0
  let s1 := enterMicro d a.1 a.2
  let s2 := updDistrict d (fun x => { x with running := true, round := roundNow s }) s1
  let s3 := (getDistrict d s2).pipe.zipIdx.foldl (fun u p => readyStage d p.2 p.1 u) (startCores d (arm d (sendQueries d a.1 s2)))
  startNotices d (countRounds d s3)

/-- The district's step start point (R22, R24, R109, R222). What envelopes left for the pass is taken where no step runs (R23). -/
def stepPoint (d : Nat) (s : State) : State :=
  let x := getDistrict d s
  let r := roundNow s
  if rd .distCfgState d s ≠ 1 ∨ !bit .distCfgPv d s ∨ r < x.started ∨ stopping s then s
  else
    let s1 := setDistrict d { x with stepStart := s.now, started := r + 1 } s
    if x.running then bump .distStepOvrCount d s1
    else
      let s2 := takeConfigs d s1
      if jobHolds d s2 then bump .distStepOvrCount d s2 else startStep d s2

/-! Completion (R24, R109, R295, R303). -/

/-- A core's part of the running step is complete, or it takes no part. -/
def partDone (g : Nat) (s : State) : Bool :=
  let c := getCore g s
  !c.rel && !c.held && (c.st == .idle || c.st == .halted || c.reported)

def partsDone (d : Nat) (s : State) : Bool := (maskCores (parcelOf d s)).all fun x => partDone (actor x.1 s) s

/-- The step of a stream is over: the end that the step brought it, a waiting CANCEL or PREEMPT, or READY (R281, R315). A token that still
waits for its twin's acknowledgement goes unposted, and is drawn again on a retry: R295 speaks of posted ones only (log 29). -/
def afterStep (slot : Nat) (code : Nat) (s : State) : State :=
  let x := getStream slot s
  let s1 := setStream slot { x with nin := 0, nout := 0, drawn := false, wait := none, fault := 0, refused := 0, endCode := 0 } s
  if code ≠ 0 then beginEnd slot code s1
  else if x.cancel then beginEnd slot 5 s1
  else
    let s2 := setSt slot .ready s1
    if x.pre = 1 then startPreempt slot x.preEnv s2 else s2

/-- What ends a stream whatever its step does: a failed page or a lost expander, or else a refused append (R256, R281, R282). Where it
has met both, the page is named (log 108). -/
def faultCode (x : Stream) : Nat := if x.fault ≠ 0 then x.fault else x.refused

/-- A refused append: the stream's step is not committed (R256). -/
def refusedStep (slot : Nat) (s : State) : State :=
  afterStep slot (faultCode (getStream slot s)) (uncommitKv slot (credit slot s))

/-- A decode step of a circulating job has made the context one position longer on every member (R351). -/
def passPosition (slot : Nat) (s : State) : State :=
  let x := getStream slot s
  match ringOf x.district s with
  | some j => if x.pos < x.pend then s else meetPosition j x.id (circNext j slot s + 1) s
  | none => s

/-- A step's stream commits (R257, R289, R295, R421). The loss of its ring ends it before all else (R313). -/
def commitStream (slot : Nat) (s : State) : State :=
  let x := getStream slot s
  if x.refused ≠ 0 then refusedStep slot s
  else
    let pr := if x.pos < x.pend then promptTokens slot x.nin s else (some [], s)
    let s1 := passPosition slot (pushHistory slot (pr.1.getD []) (commitKv slot x.adds pr.2))
    let s2 := cbAdd slot 36 4 x.nout (cbAdd slot 32 4 x.nin s1)
    let s3 := addSat .bookFrankedUnits x.book x.franked s2
    let outs := if x.nout = 1 then [x.token] else []
    let y := { getStream slot s3 with
      pos := x.pos + x.adds, out := x.out + x.nout, fails := 0, franked := 0, direct := 0, kept := none, recent := (outs ++ x.recent).take 15 }
    let s4 := (chainsOf slot s3).foldl (fun u c => updChain slot c.1 (fun z => { z with phase := 1 }) u) (setStream slot y s3)
    let s5 := updDistrict x.district (fun z => { z with look := z.look ++ [slot] }) s4
    afterStep slot (if x.endCode ≠ 0 ∧ x.fault ≠ 11 then x.endCode else x.fault) (sendStep slot x.adds (pr.1.getD [] ++ outs) s5)

/-- Streams that a refused append has marked though they were not in the step end with it (R256). -/
def endRefused (d : Nat) (s : State) : State :=
  (s.sort.streams.filter fun x => x.2.district == d && x.2.st == .ready && x.2.refused != 0).foldl
    (fun u x => beginEnd x.1 x.2.refused u) s

/-- Notices that last until the district's step completes end with it (R403). -/
def endNotices (d : Nat) (s : State) : State :=
  let keep (n : Notice) : Bool := !(n.start && clusterDistrict n.cluster s == some d)
  { s with notices := s.notices.filter keep, power := { s.power with boosts := s.power.boosts.filter keep } }

/-- A stream of a step that fails (R295, R315, R420, R421); what it has drawn is dealt with in `afterStep` (log 29). -/
def failStream (slot : Nat) (s : State) : State :=
  let x := getStream slot s
  if x.st ≠ .running then s
  else
    let s0 := { s with power := { s.power with interval := { s.power.interval with failed := s.power.interval.failed + x.direct } } }
    let s1 := cbAdd slot 8 8 x.direct (cbAdd slot 44 2 1 (cbWrite slot 10240 (natLe 8 x.mark) (uncommitKv slot (credit slot s0))))
    let s2 := updStream slot (fun y => { y with fails := x.fails + 1, direct := 0 }) s1
    let s3 := (chainsOf slot s2).foldl (fun u c => updChain slot c.1 (fun z => { z with phase := 1 }) u) s2
    let s4 := updDistrict x.district (fun z => { z with look := z.look ++ [slot], ran := z.ran.map fun r =>
      if r.slot == slot then { r with failed := true } else r }) s3
    afterStep slot (if faultCode x ≠ 0 then faultCode x else if x.cancel then 5 else if x.fails + 1 = 4 then 10 else 0) s4

/-- The cores of a district that run are stopped (R105). -/
def stopDistrict (d : Nat) (s : State) : State :=
  (s.cores.cores.filter fun x => coreDistrict x.1 s == some d).foldl (fun u x => stopCore x.1 u) s

/-- The running step of a district fails: every micro-batch in flight commits nothing; its cores are stopped unless the
failure leaves them waiting (R105, R295, R303, R487). -/
def failStep (d : Nat) (stop : Bool) (s : State) : State :=
  let x := getDistrict d s
  if !x.running then (if stop then stopDistrict d s else s)
  else
    let s1 := setDistrict d { x with running := false, pipe := [], armed := [], armedOps := [], shardOut := [] } s
    let s2 := (x.pipe.flatMap (·.slots)).foldl (fun u k => failStream k u) s1
    let s4 := x.rings.foldl (fun u r => ringIrq r u) (updDistrict d (fun y => { y with rings := [] }) s2)
    let s3 := reportDone d (endNotices d (bump .sodistStepsFailed d (endRefused d s4)))
    if stop then stopDistrict d s3 else s3

/-- Every draw of the step has been made and posted. -/
def drawsPosted (d : Nat) (s : State) : Bool := (drawers d s).all fun k => (getStream k s).drawn && (getStream k s).wait.isNone

/-- The nonzero CODEs with which cores of the step have halted (R108). -/
def haltCodes (d : Nat) (s : State) : List (Nat × Nat) :=
  ((maskCores (parcelOf d s)).map fun x => actor x.1 s).filterMap fun g =>
    if (getCore g s).st = .halted ∧ rd .coreStateHaltCode g s ≠ 0 then some (g, rd .coreStateHaltCode g s) else none

/-- Commits the micro-batch of the last stage; the others move on by one stage (R227, R295). -/
def commitStep (d : Nat) (s : State) : State :=
  let x := getDistrict d s
  let out := match drawMicro d s with
    | some m => m.slots
    | none => []
  let pipe := if x.pipe.length = stagesOf d s then x.pipe.dropLast else x.pipe
  let s1 := setDistrict d { x with running := false, pipe := pipe, armedOps := [], shardOut := [], codes := haltCodes d s } s
  reportDone d <| endNotices d (bump .sodistStepsDone d (endRefused d (out.foldl (fun u k => commitStream k u) s1)))

/-- STEP_COMPLETE: nothing happens while a part or a draw is outstanding. -/
def completeStep (d : Nat) (s : State) : State :=
  let x := getDistrict d s
  if !x.running || !partsDone d s then s
  else if !x.armed.isEmpty then failStep d false s
  else if !drawsPosted d s then s
  else commitStep d s

/-! Template operations (R229). -/

/-- An armed operation whose trigger semaphore has reached its count is submitted, to the engine its descriptor names on the site of
the trigger core (R168, R229). -/
def templateTrigger (d j i : Nat) (s : State) : State :=
  let x := getDistrict d s
  match (stageE (parcelOf d s) j).ops[i]? with
  | none => s
  | some op =>
    let g := actor op.core s
    let sem := 16 * g + op.sem
    if !x.armedOps.contains (j, i) || decide (rd .coreSemValue sem s < op.count) then s
    else
      let s1 := wr .coreSemValue sem (rd .coreSemValue sem s - op.count) s
      let s2 := setDistrict d { x with armedOps := x.armedOps.erase (j, i) } s1
      nmSubmit (32 * siteOf g + nEngine op.desc) { desc := op.desc, district := some d, who := .dispatcher d (16 * j + i) } s2

/-! The look-ahead pass (R269). -/

/-- The pass over the streams whose step has ended, by slot, and over their chains in order. A stream that leaves admission waits. -/
def lookPass (d : Nat) (s : State) : State :=
  let slots := (getDistrict d s).look.dedup.insertionSort (· ≤ ·)
  let idle (k : Nat) (u : State) : Bool :=
    let st := (getStream k u).st
    st == .free || st == .preempting || st == .ending
  let s1 := slots.foldl (fun u k => if idle k u then u else lookStream k u) s
  updDistrict d (fun x => { x with look := slots.filter fun k => (getStream k s1).st != .free && !chainsReady k s1 }) s1

/-- A stream deferred for staging space in 64 consecutive rounds is pre-empted (R270). -/
def stagingPreempt (slot : Nat) (s : State) : State :=
  let x := getStream slot s
  if x.st = .ready ∧ 64 ≤ x.stag then startPreempt slot none (updStream slot (fun y => { y with stag := 0 }) s) else s

end Sys2Proof.Machine
end

