-- ==== Sys2Proof/Machine/Settle.lean ====
section
/-!
DEFINITION. What follows from a fault or an end within the step that raised it: events (R476), retired pages (R490), failed
and quarantined districts (R480, R486, R488), failed steps (R489), staged pages (R270). Every meaning that can raise one of
these ends in `settle`.
-/

namespace Sys2Proof.Machine

def setBoot (x : BootSide) (s : State) : State := { s with boot := x }

/-- A new entry of the field-repair map (R461). -/
def addFrm (kind site unit detail : Nat) (s : State) : State :=
  let fl := s.boot.flash
  if 65536 ≤ fl.frm.length then flag .brdevStatusFrmFull 0 s
  else
    let e : FrmEntry := ⟨kind, site, unit, detail, s.logSeq⟩
    addSat .brdevMapsField 0 1 (setBoot { s.boot with flash := { fl with frm := fl.frm ++ [e] } } s)

/-- A sealed parcel loses a core or a page: IMPAIRED (R225, R490). -/
def impairParcel (p site : Nat) (s : State) : State :=
  let x := getParcel p s
  if x.st = 2 then events 0x0034 (boundTo p s).toList site (setParcel p { x with st := 3 } s) else s

/-- Streams of a district that are no shadows. -/
def residents (d : Nat) (s : State) : List Nat :=
  (s.sort.streams.filter fun x => x.2.st != .free && !x.2.shadow && x.2.district == d).map (·.1)

/-- A registered stream of a failed district goes on on the twin: no record and no receipt here, the energy since its last SEAL
ends elsewhere (R347, R348, R423, R486). -/
def handOver (slot : Nat) (s : State) : State :=
  let x := getStream slot s
  let a := (accumulators slot s).1.getD []
  let spent := leNat (a.take 8) + leNat ((a.drop 16).take 8) - x.sealedAt
  let s1 := { s with power := { s.power with interval := { s.power.interval with elsewhere := s.power.interval.elsewhere + spent } } }
  let s2 := x.freezes.foldl (fun u f => setHandle f.1 {} u) (credit slot s1)
  let s3 := match x.preEnv with
    | some e => reply 0x0403 e (refuse 50) s2
    | none => s2
  showPreempt (freeStream slot (setSt slot .ending (leavePreempt slot s3)))

/-- The resident streams of a district that are handed over. -/
def handedOver (d : Nat) (s : State) : List Nat :=
  (residents d s).filter fun k => protects (getStream k s) s && (getStream k s).st != .ending

/-- A shadow becomes a READY stream at its last SEAL, with the draws recorded since (R348, R423). -/
def activateShadow (slot : Nat) (s : State) : State :=
  let x := getStream slot s
  match x.snap with
  | none => freeStream slot s
  | some p =>
    let y : Stream := { x with
      st := .ready, shadow := false, snap := none, lapsed := false, pos := p.pos, out := p.out, token := p.token, lastadm := p.lastadm,
      recent := p.recent, qpos := p.pos - 1 }
    let s1 := (chainsOf slot s).foldl
      (fun u c => updChain slot c.1 (fun z => { z with phase := 1 })
        (setLen slot c.1 (((p.lens.find? fun l => l.1 == c.1).map (·.2)).getD 0) u)) (setStream slot y s)
    let s2 := cbWrite slot 10240 p.ctl (uncommitKv slot s1)
    let carried := cbNat slot 10248 8 s2 + cbNat slot 10264 8 s2
    let s3 := cbFlag slot 1 (cbAdd slot 24 8 carried s2)
    showStream slot x.district x.ring (updDistrict x.district (fun z => { z with look := z.look ++ [slot] }) s3)

/-- The shadows of a district. -/
def shadowsOf (d : Nat) (s : State) : List Nat :=
  (s.sort.streams.filter fun x => x.2.st != .free && x.2.shadow && x.2.district == d).map (·.1)

/-- Every stream of a district ends with a code, or is handed over to the twin; its shadows go, but those of a failover in progress
end as streams of this device (R480, R343, R347, R350). -/
def endStreams (d code : Nat) (s0 : State) : State :=
  let s00 := if s0.fab.handed.contains d then (shadowsOf d s0).foldl (fun u k => activateShadow k u) s0 else s0
  let s := (handedOver d s00).foldl (fun u k => handOver k u) s00
  let s1 := (residents d s).foldl
    (fun u k => if (getStream k u).st = .running then updStream k (fun x => { x with fault := if x.fault = 0 then code else x.fault }) u
      else beginEnd k code u) s
  let s2 := failStep d true s1
  (shadowsOf d s2).foldl (fun u k => freeStream k u) s2

/-- A district enters FAILED or QUARANTINED (R480, R486, R488): step, cores, streams, HANDOVER (R347), event and count. -/
def failDistrict (d code : Nat) (quarantine : Bool) (s : State) : State :=
  let st := rd .distCfgState d s
  if st ≠ 1 ∧ st ≠ 2 then s
  else
    let s1 := endStreams d code (wr .distCfgState d (if quarantine then 4 else 3) s)
    let s2 := if mirrored d s then
        let s' := sendTwin (rd .distCfgHome d s1) .handover (((s.fab.mirrors.filter fun m => m.1 == d).map fun m => natLe 1 m.2).flatten) s1
        setFab { s'.fab with mirrors := s'.fab.mirrors.filter fun m => m.1 != d } s'
      else s1
    let s3 := bump .fltdevCountRebuild 0 (noteFailed [d] s2)
    events (if quarantine then 0x0033 else 0x0032) [d] (rd .distCfgHome d s) s3

/-- The FAULT record of a retired page: a unit of its parcel leaves service, or lost data is contained (R474, R475, R490; log 118). -/
def retireRec (v page : Nat) (s : State) : LogRec :=
  match (getPage v page s).owner with
  | .parcel p => { faultRec 3 0x0013 (siteOf v) p page (if (boundTo p s).isSome then 2 else 5) with districts := (boundTo p s).toList }
  | _ => faultRec 2 0x0013 (siteOf v) (v % 2048) page 5

/-- A repair has failed in a page (R490). -/
def retirePage (v page : Nat) (s : State) : State :=
  let r := getPage v page s
  if r.withheld then s
  else
    let k := siteOf v
    let s1 := logEvent (retireRec v page s) (pageDistricts v page s) (addFrm 4 k (v % 2048) page s)
    let s2 := bump .fltsiteDataPages k (setPage v page { r with withheld := true } s1)
    match r.owner with
    | .parcel p =>
      let was := (getParcel p s).st
      let s3 := impairParcel p k s2
      match boundTo p s with
      | some d => if was = 2 then failDistrict d 35 false s3 else s3
      | none => s3
    | _ => s2

/-- Two sites of a district that no route joins (R213, R489). -/
def splitDistrict (d : Nat) (s : State) : Bool :=
  let ks := sitesOfDistrict d s
  ks.any fun a => ks.any fun b => unreachable a b s

/-- A step fails with NET_LOSS, or because its logits cannot be read: the district fails when its sites are cut apart (R489). -/
def lossStep (d : Nat) (s : State) : State :=
  if splitDistrict d s then failDistrict d 34 false s else failStep d true s

/-- One consequence. -/
def handleDue (x : Due) (s : State) : State :=
  match x with
  | .event code d site i => sendEvent code d site i s
  | .pageRetired v p => retirePage v p s
  | .districtFail d code q => failDistrict d code q s
  | .stepFail d => lossStep d s
  | .kvGather slot c j st => stagedDone slot c j st s

/-- Draws consequences, oldest first. -/
def drain : Nat → State → State
  | 0, s => s
  | n + 1, s =>
    match s.due with
    | [] => s
    | x :: xs => drain n (handleDue x { s with due := xs })

/-- Streams with a failed page or a lost expander that run no step end (R281, R282). -/
def endFaulty (s : State) : State :=
  (s.sort.streams.filter fun x => (x.2.st == .ready || x.2.st == .preempting) && x.2.fault != 0).foldl (fun u x => beginEnd x.1 x.2.fault u) s

/-- What every meaning that can raise a consequence ends in. -/
def settle (s : State) : State :=
  let s1 := drain 65536 s
  let s2 := endFaulty s1
  if s2.sort.resumes = [] then s2 else drain 65536 (tryResumes s2)

/-! Traps (R105, R487, R488). -/

/-- The trap record of a core, bytes 16 to 47 of a dead letter (R492). -/
def trapRecord (g : Nat) (s : State) : List Byte :=
  natLe 8 (regWord .core g 0x18 s) ++ natLe 8 (regWord .core g 0x20 s) ++ natLe 4 g ++ natLe 12 0

/-- A trap is a letter error (R488). -/
def letterError (g : Nat) (s : State) : Bool :=
  let c := rd .coreTrapClass g s
  c == 1 || c == 2 || c == 3 || c == 6 || (c == 5 && rd .coreTrapCause g s ≤ 8)

/-- The dispatcher reports a trap: the other cores are stopped, the step ends, and a letter error fails the district. -/
def trapReport (g : Nat) (s : State) : State :=
  if !(getCore g s).trapDue then s
  else
    let s0 := updCore g (fun c => { c with trapDue := false }) s
    match coreDistrict g s with
    | none => s0
    | some d =>
      let det := rd .coreTrapClass g s * 256 + rd .coreTrapCause g s
      let r := { faultRec 2 0x0035 (siteOf g) (g % 2048) det 5 with districts := [d] }
      let s1 := if (getDistrict d s).running then logEvent r [d] (deadLetter d 2 0 (trapRecord g s) s0) else s0
      if letterError g s then failDistrict d 32 false s1 else failStep d true s1

end Sys2Proof.Machine
end

