-- ==== Sys2Proof/Machine/Power.lean ====
section
/-!
DEFINITION. Power (chapter 15): the cap and its division (R405 to R409), throttling (R410 to R413), notices and the minimum
voltage (R402 to R404), meters (R415, R416), attribution (R417 to R420), receipts that close, statements (R427), and the
start of a stop (R446, R447).
-/

namespace Sys2Proof.Machine

def setPower (x : PowerSide) (s : State) : State := { s with power := x }
def noNat : Nat → Nat := fun _ => 0

/-- A site that is in service: not lost. -/
def sitesUp (s : State) : List Nat := (List.range 64).filter fun k => !bit .brsiteStatusLost k s

/-! CAPEFF (R406, R409). -/

/-- The input cap in units of 10 W; none while no voltage has been measured. -/
def inputCap (s : State) : Option Nat :=
  let v := rd .pdevStatusVin 0 s
  if v = 0 then none else some ((841500 * v / 1000000 - 600) / 10)

/-- CAPEFF and which value sets it (R406). -/
def capEff (s : State) : Nat × Nat :=
  let own := min (rd .pdevCapCap 0 s) (rd .pdevCapLimit 0 s)
  let a := if rd .thdevCcapCap 0 s < own then (rd .thdevCcapCap 0 s, 1) else (own, 0)
  match inputCap s with
  | some i => if i < a.1 then (i, 2) else a
  | none => a

def allotSum (s : State) : Nat := ((sitesUp s).map fun k => rd .psiteAllotWatts k s).sum

/-- The postmaster's own rescaling when CAPEFF falls below the allotments in force (R409). -/
def rescale (s : State) : State :=
  let cap := 10 * rd .pdevStatusCapeff 0 s
  let ks := sitesUp s
  let n := ks.length
  let sum := allotSum s
  if sum ≤ cap ∨ sum ≤ 80 * n then s
  else ks.foldl (fun u k => wr .psiteAllotWatts k (80 + (rd .psiteAllotWatts k s - 80) * (cap - 80 * n) / (sum - 80 * n)) u) s

/-- CAPEFF and its source are worked out again (R406). -/
def applyCap (s : State) : State :=
  let c := capEff s
  let i := s.power.interval
  let s1 := wr .pdevStatusCapeff 0 c.1 (wr .pdevStatusSource 0 c.2 s)
  let changed := c.1 != rd .pdevStatusCapeff 0 s
  rescale (setPower { s1.power with interval := { i with
    capmin := if i.capmax = 0 then c.1 else min i.capmin c.1, capmax := max i.capmax c.1, flags := if changed then Nat.lor i.flags 2 else i.flags } } s1)

/-- A site's demand in W (R408). -/
def demand (k : Nat) (s : State) : Nat :=
  if rd .psiteLevelCompute k s < 100 ∨ rd .psiteLevelMemory k s < 100 ∨ rd .psiteLevelLinks k s < 100 ∨ rd .psiteStatusGate k s ≠ 0
  then 500
  else max 80 (11 * (tget (fun _ => []) s.power.means k).foldl max 0 / 10000000)

/-- A site's allotment for a k in units of 1/65,536 W (R408). -/
def share (k kk : Nat) (s : State) : Nat := min (min (demand k s) 500) (80 + kk * rd .psiteAllotWeight k s / 65536)

/-- The largest k within n halvings at which the shares fit under a limit (log 41). -/
def largestK (limit : Nat) (s : State) : Nat → Nat → Nat
  | 0, a => a
  | n + 1, a =>
    let b := a + 2 ^ n
    if ((sitesUp s).map fun k => share k b s).sum ≤ limit then largestK limit s n b else largestK limit s n a

/-- A request of the clerk by site, 0 for a lost one (R409). -/
def requestAllotments (ws : List Nat) (s : State) : State :=
  let ks := sitesUp s
  let sum := (ks.map fun k => ws.getD k 0).sum
  if 10 * rd .pdevStatusCapeff 0 s < sum ∨ ks.any (fun k => ws.getD k 0 < 80 || 500 < ws.getD k 0) then note 255 0 0 0 s
  else (List.range 64).foldl (fun u k => wr .psiteAllotWatts k (if ks.contains k then ws.getD k 0 else 0) u) s

/-- The clerk's division (R408). -/
def divideCap (s : State) : State :=
  if !bit .brdevStatusClerkUp 0 s then s
  else
    let k := largestK (10 * rd .pdevStatusCapeff 0 s) s 25 0
    requestAllotments ((List.range 64).map fun j => if bit .brsiteStatusLost j s then 0 else share j k s) s

/-! Throttling (R407, R410 to R413). -/

/-- The classes of an ORDER code, first to last: 0 compute, 1 memory, 2 links (R407). -/
def orderOf (o : Nat) : List Nat :=
  match o with
  | 0 => [2, 1, 0]
  | 1 => [2, 0, 1]
  | 2 => [1, 2, 0]
  | 3 => [1, 0, 2]
  | 4 => [0, 2, 1]
  | _ => [0, 1, 2]

def levelReg (c : Nat) : Reg := if c = 0 then .psiteLevelCompute else if c = 1 then .psiteLevelMemory else .psiteLevelLinks

/-- A meter's reading. -/
def meterSum (k : Nat) (s : State) : Nat :=
  rd .psiteEDramCount k s + rd .psiteEBaseCount k s + rd .psiteELaneCount k s +
    ((List.range 32).map fun j => rd .pwrclEnergyCount (32 * k + j) s).sum

/-- Rail energy of a site over the window of 1 ms that ends, in nJ: 1,000,000 for each W of its mean power. -/
def windowEnergy (k : Nat) (s : State) : Nat := (meterSum k s + 2 ^ 64 - tget noNat s.power.winBase k) % 2 ^ 64

/-- One site's controller at the end of a window (R410). -/
def siteWindow (k : Nat) (s : State) : State :=
  let p := windowEnergy k s
  let a := rd .psiteAllotWatts k s * 1000000
  let order := orderOf (rd .pdevCapOrder 0 s)
  let under := tget noNat s.power.under k
  let gate := rd .psiteStatusGate k s
  let setUnder (n : Nat) (u : State) : State := setPower { u.power with under := tset noNat u.power.under k n } u
  let s1 :=
    if a < p then
      setUnder 0 (match order.reverse.find? fun c => decide (40 < rd (levelReg c) k s) with
        | some c => wr (levelReg c) k (rd (levelReg c) k s - 2) s
        | none => if gate < 9 then wr .psiteStatusGate k (gate + 1) s else s)
    else if 100 * p ≤ 97 * a then
      setUnder (under + 1) (if under + 1 < 2 then s
        else if 0 < gate then wr .psiteStatusGate k (gate - 1) s
        else match order.find? fun c => decide (rd (levelReg c) k s < 100) with
          | some c => wr (levelReg c) k (rd (levelReg c) k s + 2) s
          | none => s)
    else setUnder 0 s
  let low := rd .psiteLevelCompute k s1 < 100 || rd .psiteLevelMemory k s1 < 100 || rd .psiteLevelLinks k s1 < 100 ||
    rd .psiteStatusGate k s1 != 0
  let s2 := wr .psiteStatusThrottling k (natBool low) (if low then bump .psiteThrotMs k s1 else s1)
  let means := (p :: tget (fun _ => []) s2.power.means k).take 100
  let i := s2.power.interval
  let s3 := setPower { s2.power with
    winBase := tset noNat s2.power.winBase k (meterSum k s), means := tset (fun _ => []) s2.power.means k means,
    interval := { i with throt := i.throt + natBool low, flags := if low then Nat.lor i.flags 4 else i.flags } } s2
  if rd .psiteLevelCompute k s1 = rd .psiteLevelCompute k s then s3
  else (List.range 32).foldl (fun u j => clockCluster (32 * k + j) u) s3

/-- The slow requests of a job for power or coolant (R413, R437). -/
def powerRequest (j : Nat) (s : State) : State :=
  let d := rd .jobCfgDistrict j s
  let lv := (sitesOfDistrict d s).foldl (fun a k => min a (rd .psiteLevelCompute k s)) 100
  let mhz := if lv = 100 then 0 else lv * rd .jobSetpNom j s / 100 / 10 * 10
  let cool := rd .pdevStatusSource 0 s == 1
  ownRequest j 3 (if cool then mhz else 0) (ownRequest j 1 (if cool then 0 else mhz) s)

/-- The mean input voltage of the window, PDEV.PEAK and the interval's extremes (R406, R427). -/
def inputWindow (s : State) : State :=
  let n := s.power.vin.length
  let v := if n = 0 then rd .pdevStatusVin 0 s else s.power.vin.sum / n
  let w := ((rd .pdevEInCount 0 s + 2 ^ 64 - tget noNat s.power.winBase 64) % 2 ^ 64) / 1000000
  let i := s.power.interval
  let s1 := setPower { s.power with
    vin := [], pin := w, winBase := tset noNat s.power.winBase 64 (rd .pdevEInCount 0 s),
    interval := { i with peak := max i.peak w, vinmin := if i.vinmin = 0 then v else min i.vinmin v } } s
  wr .pdevPeakW 0 (max (rd .pdevPeakW 0 s1) w) (wr .pdevStatusVin 0 v s1)

/-- A 10 us slice of a site is gated, or its gating ends and its cores go on (R412). -/
def gateSlice (k : Nat) (on : Bool) (s : State) : State :=
  if on then
    if rd .psiteStatusGate k s = 0 ∨ s.power.gated.contains k then s else setPower { s.power with gated := s.power.gated ++ [k] } s
  else (List.range 2048).foldl (fun u j => wake (2048 * k + j) u) (setPower { s.power with gated := s.power.gated.filter (· ≠ k) } s)

/-! Voltage (R402 to R404). -/

/-- The output that a cluster's regulator holds: the setpoint and the largest boost in force, at most 0.95 V (R403). -/
def regulatorMv (k : Nat) (s : State) : Nat :=
  let b := (s.power.boosts.filter fun n => n.cluster == k).foldl (fun a n => max a (ceilDiv (20 * n.level) 16)) 0
  min 950 (rd .pwrclSetpMv k s + b)

/-- The oldest notice under way reaches its regulator (R403). -/
def noticeArrives (k : Nat) (s : State) : State :=
  match s.notices.find? fun n => n.cluster == k with
  | none => s
  | some n =>
    let old := s.power.boosts.filter fun b => !(b.cluster == k && b.dur == 0 && !b.start && !n.start)
    let s1 := setPower { s.power with boosts := old ++ [n] } { s with notices := s.notices.erase n }
    bump (if 2000 ≤ n.lead then .pwrclNoticeTimely else .pwrclNoticeLate) k s1

/-- When the heavy phase of a notice ends, in nanoseconds: DUR × 256 CCLK after its start, at the present setpoint (R110). -/
def phaseEnd (s : State) (n : Notice) : Nat := n.sent + n.lead + n.dur * 256000 / max 1 (rd .pwrclSetpMhz n.cluster s)

/-- The heavy phase that ends first, of the notices with a duration in force at a cluster, runs out (R403). -/
def phaseEnds (k : Nat) (s : State) : State :=
  let mine := s.power.boosts.filter fun b => b.cluster == k && b.dur != 0
  match mine.find? fun b => mine.all fun c => decide (phaseEnd s b ≤ phaseEnd s c) with
  | none => s
  | some b => setPower { s.power with boosts := s.power.boosts.erase b } s

/-- A cluster's sensed voltage: the one sensed last, or the regulator's output (R404). -/
def presentMv (k : Nat) (s : State) : Nat := tget (fun j => regulatorMv j s) s.power.volt k

/-- Restarts the minimum-voltage record from the present voltage (R404). -/
def restartVmin (k : Nat) (s : State) : State :=
  wr .pwrclVminMv k (presentMv k s) (wr .pwrclVminRound k (roundNow s) (wr .pwrclVminPtpNs k s.now s))

/-- A sensed voltage: the minimum record, an entry into stretching, and the record of a deep minimum (R402, R404). -/
def voltageSensed (k mv : Nat) (s : State) : State :=
  let set := rd .pwrclSetpMv k s
  let s1 := setPower { s.power with volt := tset noNat s.power.volt k mv } s
  let s2 := if mv < rd .pwrclVminMv k s then wr .pwrclVminMv k mv (wr .pwrclVminRound k (roundNow s) (wr .pwrclVminPtpNs k s.now s1)) else s1
  let s3 := if mv + 50 < set ∧ set ≤ presentMv k s + 50 then bump .pwrclNoticeDroop k s2 else s2
  let recent := match s.power.droopLog.find? fun x => x.1 == k with
    | some x => decide (s.now < x.2 + 10 ^ 9)
    | none => false
  if mv + 100 < set ∧ !recent ∧ mv < rd .pwrclVminMv k s then
    note (k / 32) k mv 0 (setPower { s3.power with droopLog := tins k s.now s3.power.droopLog } s3)
  else s3

/-! Meters (R415, R416). -/

/-- PDEV.E_DEV: the input meter less the site meters. -/
def showEdev (s : State) : State :=
  let sites := ((List.range 64).map fun k => rd .psiteESiteCount k s).sum
  wr .pdevEDevCount 0 ((rd .pdevEInCount 0 s + 2 ^ 80 - sites) % 2 ^ 64) s

def addWrap (f : Reg) (i n : Nat) (s : State) : State := wr f i ((rd f i s + n) % 2 ^ 64) s

/-- One microsecond's sample in mV and mA adds its energy in nJ (R415; log 42). -/
def meterSample (m : Meter) (mv ma : Nat) (s : State) : State :=
  let nj := mv * ma / 1000
  match m with
  | .input => showEdev (addWrap .pdevEInCount 0 nj (setPower { s.power with vin := s.power.vin ++ [mv] } s))
  | .site k => showEdev (addWrap .psiteESiteCount k nj s)
  | .cluster k => addWrap .pwrclEnergyCount k nj s
  | .dram k => addWrap .psiteEDramCount k nj s
  | .base k => addWrap .psiteEBaseCount k nj s
  | .lane k => addWrap .psiteELaneCount k nj s

/-! Attribution (R417 to R420). -/

/-- Energy of a counter since the last boundary. -/
def since (key now_ : Nat) (s : State) : Nat := (now_ + 2 ^ 64 - tget noNat s.power.roundBase key) % 2 ^ 64

/-- Adds a stream's figures of a round to the accumulators at the head of some bytes (R421). -/
def addFigures (direct ovh : Nat) (failed : Bool) (b : List Byte) : List Byte :=
  let f (off : Nat) : Nat := leNat ((b.drop off).take 8)
  natLe 8 (f 0 + direct) ++ natLe 8 (f 8 + if failed then direct else 0) ++ natLe 8 (f 16 + ovh) ++ b.drop 24

/-- The same figures in a receipt that waits for them (R424). -/
def addToReceipt (direct ovh : Nat) (failed : Bool) (b : List Byte) : List Byte :=
  let f (off : Nat) : Nat := leNat ((b.drop off).take 8)
  let m := f 88 + direct
  let o := f 104 + ovh
  b.take 88 ++ natLe 8 m ++ natLe 8 (f 96 + if failed then direct else 0) ++ natLe 8 o ++ natLe 8 (m + o) ++
    natLe 8 (ceilDiv (15 * m + 20 * o) 1000) ++ b.drop 128

/-- The same for the receipt or the image of the stream, where it is that stream's (R422, R424). -/
def chargeHeld (id : Nat) (direct ovh : Nat) (failed : Bool) (h : Held) : Held :=
  if h.opened == some id then { h with body := addToReceipt direct ovh failed h.body } else h

def chargeImage (id : Nat) (direct ovh : Nat) (failed : Bool) (g : Image) : Image :=
  if g.stream.id = id then { g with ctl := g.ctl.take 10248 ++ addFigures direct ovh failed (g.ctl.drop 10248) } else g

/-- A stream's figures of a round go to its control block, its image or its receipt; with none of these they have ended
elsewhere (R418, R422, R424, R427). -/
def chargeStream (d : Nat) (r : Ran) (direct ovh : Nat) (s : State) : State :=
  let i := s.power.interval
  let s0 := setPower { s.power with interval := { i with
    direct := i.direct + direct, overhead := i.overhead + ovh, failed := i.failed + if r.failed then direct else 0 } } s
  let x := getStream r.slot s
  if x.st != .free && x.id == r.id then
    let s1 := if x.st = .running ∧ !r.failed then setStream r.slot { x with direct := x.direct + direct } s0 else s0
    let b := cbRead r.slot 10248 24 s1
    (match b.1 with
    | some bs => cbWrite r.slot 10248 (addFigures direct ovh r.failed bs) b.2
    | none => b.2)
  else if (getDistrict d s0).preempted.any (fun y => decide (y.stream.id = r.id)) then
    updDistrict d (fun y => { y with preempted := y.preempted.map (chargeImage r.id direct ovh r.failed) }) s0
  else if s0.sort.held.any (fun h => h.opened == some r.id) then
    setSort { s0.sort with held := s0.sort.held.map (chargeHeld r.id direct ovh r.failed) } s0
  else setPower { s0.power with interval := { s0.power.interval with elsewhere := s0.power.interval.elsewhere + direct + ovh } } s0

/-- Splits an amount in proportion to weights, without loss (log 43). -/
def splitBy (total all : Nat) : Nat → List Nat → List Nat
  | _, [] => []
  | acc, w :: ws => (total * (acc + w) / all - total * acc / all) :: splitBy total all (acc + w) ws

/-- Word slots that a cluster's vaults granted in the round to requesters other than scrubs, and all of a site (R417; log 44). -/
def clusterSlots (k : Nat) (s : State) : Nat := tget noBad s.vaults.slots k
def siteSlots (k : Nat) (s : State) : Nat :=
  ((List.range 32).map fun j => clusterSlots (32 * k + j) s).sum + tget noBad s.vaults.scrubSlots k

/-- The pools of a site's clusters in the round that closes, by cluster (R417). -/
def sitePools (k : Nat) (s : State) : List (Nat × Nat) :=
  let e := since (100 + k) (rd .psiteEDramCount k s) s
  let all := siteSlots k s
  let kap := Config.kappa k (since (1 + k) (rd .psiteESiteCount k s) s)
  (List.range 32).map fun j =>
    let c := 32 * k + j
    let dram := if all = 0 then 0 else e * clusterSlots c s / all
    (c, (since (10000 + c) (rd .pwrclEnergyCount c s) s + dram) * kap / 65536)

def allPools (s : State) : List (Nat × Nat) := (List.range 64).flatMap fun k => sitePools k s

/-- The partial sums of the sites: what their clusters of districts with a step in the round account for (R418, R419). -/
def partialSums (ds : List Nat) (pools : List (Nat × Nat)) (s : State) : List (Nat × Nat) :=
  let mine := pools.filter fun x => match clusterDistrict x.1 s with
    | some d => ds.contains d
    | none => false
  (List.range 64).map fun k => (k, ((mine.filter fun x => x.1 / 32 == k).map (·.2)).sum)

/-- The stage of a cluster in a parcel. -/
def stageOf (p : Parcel) (k : Nat) : Nat :=
  match p.table.find? fun e => e.1 == k with
  | some e => e.2.1
  | none => 0

/-- The direct energy of a district's streams in the round: each with its share (R417). -/
def directOf (d : Nat) (pools : List (Nat × Nat)) (s : State) : List (Ran × Nat) :=
  let p := parcelOf d s
  let ran := (getDistrict d s).ran
  (List.range (stagesOf d s)).flatMap fun j =>
    let mine := ran.filter fun r => r.stage == j
    let all := (mine.map (·.units)).sum
    let total := ((pools.filter fun x => clusterDistrict x.1 s == some d && stageOf p x.1 == j).map (·.2)).sum
    if all = 0 then [] else mine.zip (splitBy total all 0 (mine.map (·.units)))

/-- Charges every stream of the round its direct energy and its overhead (R418). A round of which a site's sums were lost is unattributed
as a whole, and its statement sets SITE_LOST (R419; log 117). -/
def attributeRound (ein : Nat) (shares : List (Nat × Ran × Nat)) (s : State) : State :=
  let ds := shares.map fun x => x.2.2
  let total := ds.sum
  let i := s.power.interval
  if s.power.unsent then
    setPower { s.power with unsent := false, interval := { i with unattr := i.unattr + ein, flags := Nat.lor i.flags 8 } } s
  else if total = 0 then setPower { s.power with interval := { i with unattr := i.unattr + ein } } s
  else
    let direct := if ein < total then splitBy ein total 0 ds else ds
    let ovh := if ein < total then List.replicate ds.length 0 else splitBy (ein - total) total 0 ds
    (shares.zip (direct.zip ovh)).foldl (fun u x => chargeStream x.1.1 x.1.2.1 x.2.1 x.2.2 u) s

/-- The figures of the receipts that waited for the round are closed (R424). -/
def signOpen (s : State) : State :=
  let opened := s.sort.held.filter fun h => h.opened.isSome
  let s1 := opened.foldl (fun u h => countReceipt h.seq (leNat (h.body.drop 112 |>.take 8)) u) s
  setSort { s1.sort with held := s1.sort.held.map fun h => { h with opened := none } } s1

/-- Every meter's reading, by key of `roundBase`. -/
def readings (s : State) : Table Nat :=
  let put (t : Table Nat) (x : Nat × Nat) : Table Nat := tset noNat t x.1 x.2
  let base := (List.range 64).flatMap fun k => [(1 + k, rd .psiteESiteCount k s), (100 + k, rd .psiteEDramCount k s)]
  let cl := (List.range 2048).map fun k => (10000 + k, rd .pwrclEnergyCount k s)
  (((0, rd .pdevEInCount 0 s) :: base) ++ cl).foldl put []

/-- The accounting site: the present one while it has served without a reset, else the lowest other site in service and not in reset
(R419; log 117). -/
def accountingSite (s : State) : Nat :=
  let ok (k : Nat) : Bool := !bit .brsiteStatusLost k s && !bit .brsiteStatusResetting k s
  let a := s.power.accounting
  if ok a && !s.power.moved then a else ((List.range 64).find? fun k => ok k && k != a).getD a

/-- The energy of the round that ends is attributed, and an interval that is complete is put aside for its statement (R416 to R420, R427). -/
def closeRound (s : State) : State :=
  let ein := since 0 (rd .pdevEInCount 0 s) s
  let sites := ((List.range 64).map fun k => since (1 + k) (rd .psiteESiteCount k s) s).sum
  let ds := (s.districts.filter fun x => x.2.ran ≠ []).map (·.1)
  let pools := if ds = [] then [] else allPools s
  let shares := ds.flatMap fun d => (directOf d pools s).map fun x => (d, x)
  let sums := (partialSums ds pools s).foldl (fun t x => tset (fun _ => []) t x.1 ((x.2 :: tget (fun _ => []) t x.1).take 8)) s.power.sums
  let s0 := { s with vaults := { s.vaults with slots := [], scrubSlots := [] } }
  let s1 := signOpen (attributeRound ein shares s0)
  let s2 := ds.foldl (fun u d => updDistrict d (fun x => { x with ran := [], counted := [] }) u) s1
  let i := s2.power.interval
  let i1 := { i with input := i.input + ein, sites := i.sites + sites }
  let done := decide (i1.first + s2.power.nextInterval ≤ roundNow s2 + 1)
  let next : Interval := { first := roundNow s2 + 1, startPtp := s2.now, capmin := rd .pdevStatusCapeff 0 s2, capmax := rd .pdevStatusCapeff 0 s2 }
  setPower { s2.power with
    roundBase := readings s2, accounting := accountingSite s2, moved := false, sums := sums, interval := if done then next else i1,
    ended := if done then s2.power.ended ++ [(i1, roundNow s2, s2.now)] else s2.power.ended,
    nextInterval := if done then rd .energyCfgInterval 0 s2 else s2.power.nextInterval } s2

/-- The bytes of a statement before its signature: PTP_UNSYNC where PTP was not locked at either end (R427). -/
def statementBody (i : Interval) (last endPtp seq : Nat) : List Byte :=
  let unsync := !Config.ptpLocked i.startPtp || !Config.ptpLocked endPtp
  natLe 2 2 ++ natLe 2 512 ++ natLe 2 (Nat.lor (i.flags % 32768) (natBool unsync)) ++ natLe 2 0 ++ natLe 8 seq ++ natLe 16 Config.serial ++ natLe 6 i.first ++
    natLe 6 last ++ natLe 4 0 ++ natLe 8 i.startPtp ++ natLe 8 endPtp ++ natLe 8 i.input ++ natLe 8 i.direct ++ natLe 8 i.overhead ++
    natLe 8 i.unattr ++ natLe 8 i.sites ++ natLe 8 i.failed ++ natLe 8 i.elsewhere ++ natLe 8 i.rfirst ++ natLe 8 i.rlast ++
    natLe 4 i.rcount ++ natLe 4 0 ++ natLe 8 i.rattrib ++ natLe 4 i.throt ++ natLe 2 i.capmin ++ natLe 2 i.capmax ++ natLe 4 i.peak ++
    natLe 2 i.vinmin ++ natLe 2 0 ++ natLe 8 (i.input / 200) ++ natLe 240 0

/-- The statement of the oldest interval that has ended (R427). -/
def issueStatement (s : State) : State :=
  match s.power.ended with
  | [] => s
  | (i, last, e) :: rest =>
    let seq := rd .energySseqNext 0 s
    let s1 := wr .energySseqNext 0 (seq + 1) (setPower { s.power with ended := rest } s)
    showHeld 256 (holdReceipt 256 seq (statementBody i last e seq) none s1)

/-! A stop begins (R400, R438, R445 to R447, R503). -/

/-- Up twin ports and the message that names every protected district (R347). -/
def sendDying (s : State) : State :=
  if !bit .twinCfgPaired 0 s then s
  else
    let body := s.fab.mirrors.flatMap fun m => natLe 1 m.2
    (twinPorts.filter fun p => portUp p s && !s.net.out.contains (fabricPortSite p s)).foldl
      (fun u p => sendPiece (fabricPortSite p u) p (rd .twinCfgPeer 0 u) .dying u body) s

/-- A cause of a stop is detected: it is latched and DYING is sent, or it joins OTHER (R446, R447). -/
def startStop (cause site sensor trip : Nat) (s : State) : State :=
  match s.boot.stop with
  | some x => setBoot { s.boot with stop := some { x with other := Nat.lor x.other (2 ^ cause) } } s
  | none =>
    sendDying (setBoot { s.boot with stop := some { cause := cause, t0 := s.now, round := roundNow s, site := site, sensor := sensor, trip := trip } } s)

/-- The W64 is powered: past the standby of R456. -/
def powered (s : State) : Bool := rd .brdevStatusPhase 0 s != 0 && rd .brdevStatusPhase 0 s != 7

/-- The output MOD_FAULT_N: low from T0 of a stop until the next power-on, and while bring-up has failed (R502). -/
def modFaultN (s : State) : Bool := !stopping s && rd .brdevStatusPhase 0 s != 7

/-- The input has been out of range for 100 us (R400). -/
def inputFault (high : Bool) (s : State) : State := if powered s then startStop (if high then 10 else 9) 255 255 0 s else s

end Sys2Proof.Machine
end

