-- ==== Sys2Proof/Machine/Heat.lean ====
section
/-!
DEFINITION. Heat and coolant (chapter 16): diodes and the thermal model (R430 to R434), heat levels and dark clusters (R435 to
R437), trips (R438), the favoured colour (R439), the coolant cap and its stops (R442 to R445). Temperatures are in units of
0.125 degrees Celsius.
-/

namespace Sys2Proof.Machine

def setHeat (x : HeatSide) (s : State) : State := { s with heat := x }
def noInt : Nat → Int := fun _ => 0

/-- A temperature as its register field holds it (R451). -/
def tempBits (x : Int) : Nat := (x % 65536).toNat

/-- The field of a site's diode: 0 CD, 1 to 12 DL0 to DL11, 13 BD, 14 IW (R451). -/
def diodeReg (n : Nat) : Reg :=
  match n with
  | 0 => .thsiteDiode0Cd
  | 1 => .thsiteDiode1Dl0
  | 2 => .thsiteDiode1Dl1
  | 3 => .thsiteDiode1Dl2
  | 4 => .thsiteDiode1Dl3
  | 5 => .thsiteDiode2Dl4
  | 6 => .thsiteDiode2Dl5
  | 7 => .thsiteDiode2Dl6
  | 8 => .thsiteDiode2Dl7
  | 9 => .thsiteDiode3Dl8
  | 10 => .thsiteDiode3Dl9
  | 11 => .thsiteDiode3Dl10
  | 12 => .thsiteDiode3Dl11
  | 13 => .thsiteDiode0Bd
  | _ => .thsiteDiode0Iw

def diodeVal (k n : Nat) (s : State) : Int := toSigned 16 (rd (diodeReg n) k s)
def diodeFailed (k n : Nat) (s : State) : Bool := (rd .thsiteStatusDfail k s).testBit n
def unreliable (k die : Nat) (s : State) : Bool := tget noMark s.heat.unreliable (13 * k + die)

/-- The model's estimate of a die at a cluster (R431). -/
def estimate (cl die : Nat) (s : State) : Int := tget noInt s.heat.est (13 * cl + die)

/-- The clusters of a site round the diode (R430). -/
def centre (cl : Nat) : Bool := cl % 32 == 11 || cl % 32 == 12 || cl % 32 == 19 || cl % 32 == 20

/-- The control temperature of the CD (die 0) or a layer at a cluster (R432). -/
def dieTemp (cl die : Nat) (s : State) : Int :=
  let k := cl / 32
  let e := estimate cl die s
  if diodeFailed k die s then e + 40
  else if unreliable k die s then diodeVal k die s + 80
  else if centre cl then max e (diodeVal k die s)
  else e

/-- The hottest of some values, at least the first. -/
def hottest (x : Int) (xs : List Int) : Int := xs.foldl max x

/-- The control temperature of the base die (13) or the IW field (14); a failed CD diode beside a failed one of these leaves
the CD's hottest control temperature (R432; log 45). -/
def siteTemp (k n : Nat) (s : State) : Int :=
  if !diodeFailed k n s then diodeVal k n s
  else if diodeFailed k 0 s then
    hottest (dieTemp (32 * k) 0 s) ((List.range 32).map fun j => dieTemp (32 * k + j) 0 s) + 80
  else diodeVal k 0 s + 80

/-- T_DL of a cluster and its layer (R432). -/
def hotLayer (cl : Nat) (s : State) : Int × Nat :=
  (List.range 11).foldl (fun a j => let t := dieTemp cl (j + 2) s; if a.1 < t then (t, j + 1) else a) (dieTemp cl 1 s, 0)

/-- The margin M of a cluster, in 0.125 K (R433). -/
def margin (cl : Nat) (s : State) : Int :=
  let k := cl / 32
  min (min (840 - dieTemp cl 0 s) (760 - (hotLayer cl s).1)) (min (800 - siteTemp k 13 s) (760 - siteTemp k 14 s))

/-- Shows a cluster's temperatures, margin and offsets (R451; log 46). -/
def showCluster (cl : Nat) (s : State) : State :=
  let h := hotLayer cl s
  let m := max (-128) (min 127 (margin cl s / 8))
  let k := cl / 32
  let off (die : Nat) : Nat := tempBits (tget noInt s.heat.offset (13 * k + die))
  wr .thclEstTcd cl (tempBits (dieTemp cl 0 s)) <| wr .thclEstTdl cl (tempBits h.1) <| wr .thclEstLayer cl h.2 <|
    wr .thclCtrlMargin cl ((m % 256).toNat) <| wr .thclCalOffcd cl (off 0) <| wr .thclCalOffdl cl (off (h.2 + 1)) <|
      wr .thclCalUnrel cl (natBool ((List.range 13).any fun d => unreliable k d s)) s

def showSite (k : Nat) (s : State) : State := (List.range 32).foldl (fun u j => showCluster (32 * k + j) u) s

/-- A layer of a site is refreshed every 16 ms above 85 degrees (R434). -/
def refreshRate (k j : Nat) (s : State) : State :=
  let es := (List.range 32).map fun c => estimate (32 * k + c) (j + 1) s
  let t := hottest (diodeVal k (j + 1) s) es
  let old := rd .thsiteStatusFast k s
  wr .thsiteStatusFast k (if 680 < t then Nat.lor old (2 ^ j) else old - (if old.testBit j then 2 ^ j else 0)) s

/-- The shutdown temperature of a diode's die (R433). -/
def shutdownAt (n : Nat) : Int := if n = 0 then 920 else if n = 13 then 880 else 840

/-- The value whose trips count: the diode, or its replacement (R432, R438). -/
def tripValue (k n : Nat) (s : State) : Int :=
  if 13 ≤ n then siteTemp k n s
  else if diodeFailed k n s then hottest (dieTemp (32 * k) n s) ((List.range 32).map fun c => dieTemp (32 * k + c) n s)
  else if unreliable k n s then diodeVal k n s + 80
  else diodeVal k n s

/-- A conversion of a diode: `none` is one that fails (R430, R434, R438). -/
def diodeConverted (k n : Nat) (x : Option Int) (s : State) : State :=
  let bad := match x with
    | none => true
    | some t => decide (t < -320 ∨ 1200 < t)
  let s1 :=
    if diodeFailed k n s then s
    else if bad then
      note k (262144 + 16 * k + n) 0 0 (wr .thsiteStatusDfail k (Nat.lor (rd .thsiteStatusDfail k s) (2 ^ n)) (wr (diodeReg n) k 0x8000 s))
    else wr (diodeReg n) k (tempBits (x.getD 0)) s
  let run := if shutdownAt n ≤ tripValue k n s1 then tget noNat s1.heat.hot (15 * k + n) + 1 else 0
  let s2 := setHeat { s1.heat with hot := tset noNat s1.heat.hot (15 * k + n) run } s1
  showSite k (if 1 ≤ n ∧ n ≤ 12 then refreshRate k (n - 1) s2 else s2)

/-- Two conversions in a row at shutdown temperature start the stop (R438, R446). -/
def dieTrip (k n : Nat) (s : State) : State :=
  if tget noNat s.heat.hot (15 * k + n) < 2 ∨ !powered s then s
  else startStop (if n = 0 then 5 else if n ≤ 12 then 6 else if n = 13 then 7 else 8) k n (tempBits (tripValue k n s)) s

/-- The model of a cluster is updated from its rail energy since the last update, its rail power; the word slots granted and the engine's activity come with the command (R431). -/
def modelUpdate (cl words activity : Nat) (s : State) : State :=
  let k := cl / 32
  let inlet := toSigned 16 (rd .thdevCoolantInlet 0 s)
  let count := rd .pwrclEnergyCount cl s
  let energy := (count + 2 ^ 64 - tget noNat s.heat.railBase cl) % 2 ^ 64
  let est := (List.range 13).foldl
    (fun t die => tset noInt t (13 * cl + die)
      (Config.thermal cl die energy words activity inlet + tget noInt s.heat.offset (13 * k + die))) s.heat.est
  showCluster cl (setHeat { s.heat with est := est, railBase := tset noNat s.heat.railBase cl count } s)

/-- A die's model offset moves toward its diode, and its reliability is judged (R431). -/
def calibrateDie (k die : Nat) (s : State) : State :=
  if diodeFailed k die s then s
  else
    let es := [11, 12, 19, 20].map fun c => estimate (32 * k + c) die s
    let diff := diodeVal k die s - es.sum / 4
    let i := 13 * k + die
    let far := decide (80 < diff.natAbs)
    let close := decide (diff.natAbs ≤ 24)
    let apart := if far then tget noNat s.heat.apart i + 1 else 0
    let near := if close then tget noNat s.heat.near i + 1 else 0
    let bad := if 8 ≤ apart then true else if 8 ≤ near then false else unreliable k die s
    setHeat { s.heat with
      offset := tset noInt s.heat.offset i (tget noInt s.heat.offset i + max (-16) (min 16 diff)),
      apart := tset noNat s.heat.apart i apart, near := tset noNat s.heat.near i near,
      unreliable := tset noMark s.heat.unreliable i bad } s

/-- The calibration at a round boundary (R431). -/
def calibrate (s : State) : State :=
  (sitesUp s).foldl (fun u k => showSite k ((List.range 13).foldl (fun v die => calibrateDie k die v) u)) s

/-! Heat levels (R435 to R437). -/

def showDark (k : Nat) (s : State) : State :=
  wr .thsiteStatusDark k (natBool ((List.range 32).any fun j => bit .thclCtrlDark (32 * k + j) s)) s

/-- A cluster goes dark: no CCLK edges, its domain at 0.55 V (R436). -/
def darken (cl : Nat) (s : State) : State :=
  if bit .thclCtrlDark cl s then s
  else showDark (cl / 32) (bump .thclCtrlDarks cl (flag .thclCtrlDark cl (wr .pwrclSetpMv cl 550 s)))

/-- A cluster is lit again at its heat level, and its cores go on: what they waited for may have come in the dark (R436). -/
def relight (cl : Nat) (s : State) : State :=
  let s1 := clockCluster cl (showDark (cl / 32) (wr .thclCtrlDark cl 0 s))
  (List.range 64).foldl (fun u j => wake (64 * cl + j) u) s1

/-- One cluster's heat level at the end of a window (R435). -/
def heatWindow (cl : Nat) (s : State) : State :=
  let m := margin cl s
  let lv := rd .thclCtrlLevel cl s
  let under := tget noNat s.heat.under cl
  let setUnder (n : Nat) (u : State) : State := setHeat { u.heat with under := tset noNat u.heat.under cl n } u
  let put (l : Nat) (u : State) : State := if l = lv then u else clockCluster cl (wr .thclCtrlLevel cl l u)
  if bit .thclCtrlDark cl s then
    if 80 ≤ m then setUnder 0 (relight cl (wr .thclCtrlLevel cl 40 s)) else s
  else if m ≤ 16 then
    let l := max 40 (lv - 10)
    let s1 := setUnder 0 (put l s)
    if l = 40 ∧ m ≤ 0 then darken cl s1 else s1
  else if m ≤ 40 then setUnder 0 (put (max 40 (lv - 2)) s)
  else if 64 ≤ m then setUnder (under + 1) (if 2 ≤ under + 1 ∧ lv < 100 then put (lv + 2) s else s)
  else setUnder 0 s

/-- The heat request of a job (R437). -/
def heatRequest (j : Nat) (s : State) : State :=
  let ks := clustersOf (rd .jobCfgDistrict j s) s
  let lv := ks.foldl (fun a k => min a (if bit .thclCtrlDark k s then 40 else rd .thclCtrlLevel k s)) 100
  ownRequest j 2 (if lv = 100 then 0 else lv * rd .jobSetpNom j s / 100 / 10 * 10) s

/-- The end of a 1 ms control window (R406, R410, R413, R420, R435, R437). -/
def windowEnd (s : State) : State :=
  let s1 := applyCap (inputWindow s)
  let s2 := (sitesUp s1).foldl (fun u k => (List.range 32).foldl (fun v j => heatWindow (32 * k + j) v) (siteWindow k u)) s1
  let s3 := (s2.districts.filter fun x => x.2.running && throttled x.1 s2).foldl (fun u x => markThrottled x.1 u) s2
  (memberJobs s3).foldl (fun u j => heatRequest j (powerRequest j u)) s3

/-- The favoured colour flips at a boundary whose round is a multiple of ROTATE (R439). -/
def colourFlip (s : State) : State :=
  let r := rd .thdevCfgRotate 0 s
  if r = 0 ∨ roundNow s % r ≠ 0 then s else wr .thdevCfgColour 0 (1 - rd .thdevCfgColour 0 s) s

/-! Coolant (R442 to R445). -/

/-- The means F, in 0.01 L/min, and T_in, in 0.01 degrees, of the good samples of the last 100 ms, times their number. -/
def means (s : State) : Nat × Int × Nat :=
  let xs := s.heat.samples.filter fun x => decide (s.now < x.1 + 10 ^ 8)
  ((xs.map fun x => x.2.flow).sum, (xs.map fun x => x.2.inlet).sum, xs.length)

/-- CC in units of 10 W (R444): flow in 0.01 L/min against 0.7 FLOWNOM in 0.1 L/min, inlet above 45 degrees. -/
def coolantCap (s : State) : Nat :=
  if bit .thdevCcapSensorLost 0 s then 1600
  else
    let m := means s
    let n := max 1 m.2.2
    let full := 7 * rd .thdevCfgFlownom 0 s * n
    let hot : Int := max 0 (m.2.1 - 4500 * n)
    let num : Int := 32000 * (min m.1 full : Int) * n * 100 - 2000 * hot * full
    let den : Int := full * n * 100
    let cc := if den ≤ 0 then 32000 else num / den
    max 800 (cc / 10).toNat

/-- The temperature rise disagrees with the input power by more than 20 % (R444; log 47). -/
def riseDoubt (c : Coolant) (s : State) : Bool :=
  let w : Nat := s.power.pin
  let expect : Int := 418 * c.flow * (c.outlet - c.inlet) / 60000
  decide (20 * (w : Int) < 100 * (expect - w).natAbs)

/-- What a good sample sets beside the stops (R444). -/
def coolantState (c : Coolant) (s : State) : State :=
  let m := means s
  let n := max 1 m.2.2
  let s1 := wr .thdevCoolantInlet 0 (tempBits c.inlet) (wr .thdevCoolantOutlet 0 (tempBits c.outlet)
    (wr .thdevCoolantFlow 0 c.flow (wr .thdevCoolantCount 0 c.count s)))
  let s2 := wr .thdevCcapSlow 0 (natBool (decide (m.1 < 7 * rd .thdevCfgFlownom 0 s * n)))
    (wr .thdevCcapHotin 0 (natBool (decide (4500 * (n : Int) < m.2.1))) s1)
  let s3 := flagIf (decide (c.inlet < 1500)) .thdevCcapCold 0 s2
  let due := match s.heat.coldLog with
    | some t => decide (t + 3600 * 10 ^ 9 ≤ s.now)
    | none => true
  let s4 := if decide (c.inlet < 1500) && due then note 255 0 (tempBits c.inlet) 0 (setHeat { s3.heat with coldLog := some s.now } s3) else s3
  if !riseDoubt c s then setHeat { s4.heat with doubt := none, doubtLogged := false } s4
  else match s4.heat.doubt with
    | none => setHeat { s4.heat with doubt := some s.now } s4
    | some t =>
      if !s4.heat.doubtLogged && decide (t + 10 ^ 10 ≤ s.now) then note 255 0 1 0 (setHeat { s4.heat with doubtLogged := true } s4) else s4

/-- Stops that a good sample decides, lower codes first (R445, R447). -/
def coolantStops (c : Coolant) (s : State) : State :=
  let nom := rd .thdevCfgFlownom 0 s
  let past := (s.heat.samples.filter fun x => decide (s.now ≤ x.1 + 10 ^ 8)).map fun x => x.2.flow
  let most := past.foldl max 0
  let run := if 5500 ≤ c.inlet then s.heat.hotRun + 1 else 0
  let causes := (if 4 * c.flow < 10 * nom then [1] else []) ++ (if 10 * c.flow < 8 * most then [2] else []) ++
    (if c.leak then [3] else []) ++ (if 10 ≤ run then [4] else [])
  let s1 := setHeat { s.heat with hotRun := run } s
  if powered s then causes.foldl (fun u k => startStop k 255 255 0 u) s1 else s1

/-- A good sample (R443 to R445). -/
def goodSample (c : Coolant) (s : State) : State :=
  let s1 := coolantStops c s
  let good := s1.heat.good + 1
  let s2 := setHeat { s1.heat with good := good, bad := 0, retry := false, samples := (s1.now, c) :: s1.heat.samples.take 20 } s1
  let s3 := if 10 ≤ good then wr .thdevCcapSensorLost 0 0 s2 else s2
  let s4 := coolantState c s3
  applyCap (wr .thdevCcapCap 0 (coolantCap s4) s4)

/-- A read gives a good sample (R443). -/
def goodRead (x : Option Coolant) (s : State) : Option Coolant :=
  match x with
  | some c => if c.valid && s.heat.lastCount != some c.count then some c else none
  | none => none

/-- A read of the tray's hub: `none` is no answer, a NACK or a PEC mismatch. The second read of a cycle ends it (R442, R443). -/
def coolantRead (again : Bool) (x : Option Coolant) (s : State) : State :=
  if again && !s.heat.retry then s
  else
    let s1 := match x with
      | some c => setHeat { s.heat with lastCount := some c.count } s
      | none => s
    match goodRead x s with
    | some c => goodSample c s1
    | none =>
      let s2 := bump .thdevCcapRdfail 0 s1
      if again then setHeat { s2.heat with retry := false, good := 0, bad := s2.heat.bad + 1 } s2
      else setHeat { s2.heat with retry := true } s2

/-- Three cycles without a good sample (R443, R444). -/
def sensorLost (s : State) : State :=
  if s.heat.bad < 3 then s else applyCap (wr .thdevCcapCap 0 1600 (flag .thdevCcapSensorLost 0 s))

end Sys2Proof.Machine
end

