-- ==== Sys2Proof/Machine/Rounds.lean ====
section
/-!
DEFINITION. The round boundary as the whole device sees it (R330, R416 to R420, R431).
-/

namespace Sys2Proof.Machine

/-- The energy of the round that ends is attributed, the next round opens, the thermal models are calibrated, and the steps
that run on are counted in it (R24, R330, R417, R431). -/
def atBoundary (opening : State → State) (s : State) : State :=
  let s1 := calibrate (opening (closeRound (endWaits s)))
  (s1.districts.filter fun x => x.2.running).foldl (fun u x => countRounds x.1 u) s1

/-- ROUND_BOUNDARY: this device issues the marker, or the marker it has accepted opens the round (R329, R330). -/
def boundary (s : State) : State := if issues s || s.fab.marker.isSome then atBoundary roundBoundary s else s

/-- FLYWHEEL_OPEN: nothing where a marker is at hand (R333). -/
def flywheel (s : State) : State := if issues s || s.fab.marker.isSome then s else atBoundary flywheelOpen s

/-- MARKER_RECEIVED: a marker whose DELAY exceeds BUDGET opens the round on arrival (R330). -/
def arriveMarker (port : Nat) (m : Marker) (fwd : Nat) (s : State) : State :=
  let s1 := markerReceived port m fwd s
  if markerTaken port m s && markerLate port m fwd s then boundary s1 else s1

end Sys2Proof.Machine
end

