-- ==== Sys2Proof/Machine/Spill.lean ====
section
/-!
DEFINITION. When a site spills, and which stream it pre-empts when it cannot (R273, R277).
-/

namespace Sys2Proof.Machine

def setSpilling (site : Nat) (b : Bool) (s : State) : State := wr .kvsiteStatusSpilling site (natBool b) s

/-- A site spills from below LOW until HIGH (R273). -/
def spillNeeded (site : Nat) (s : State) : Bool :=
  let free := rd .kvsiteFreePages site s
  decide (free < rd .kvsiteWmarkLow site s) ||
    (bit .kvsiteStatusSpilling site s && decide (free < rd .kvsiteWmarkHigh site s))

/-- Pages of a stream on a site. -/
def pagesOn (slot site : Nat) (s : State) : Nat :=
  ((chainsOf slot s).map fun c => (c.2.pages.filter fun p => p.spilled.isNone && !p.shared && siteOf p.vault == site).length).sum

/-- The stream a site pre-empts: the lowest priority class, the most pages there, the lower slot (R277). -/
def spillVictim (site : Nat) (s : State) : Option Nat :=
  let cand := (s.sort.streams.filter fun x => (x.2.st == .ready || x.2.st == .running) && !x.2.shadow && x.2.pre == 0).filterMap
    fun x => let n := pagesOn x.1 site s; if n = 0 then none else some [7 - x.2.pclass, 2 ^ 40 - n, x.1]
  match cand with
  | [] => none
  | x :: xs => (xs.foldl (fun a b => if lexLt b a then b else a) x)[2]?

/-- The site's poste restante shares are above PR_PCT percent used. -/
def prFull (site : Nat) (s : State) : Bool :=
  decide (rd .kvsiteWmarkPrPct site s * prShare site s < 100 * (prInUse site s).length)

/-- Pages free on a site, with those whose spill is in flight, do not reach HIGH (R273). -/
def spillShort (site : Nat) (s : State) : Bool :=
  decide (rd .kvsiteFreePages site s + spillsOn site s < rd .kvsiteWmarkHigh site s)

/-- Starts one more spill where the pages in flight do not reach HIGH yet, at most 64 at once (R273, R274). -/
def spillOne (site : Nat) (s : State) : State :=
  if !spillShort site s || decide (64 ≤ spillsOn site s) || prFull site s then s
  else
    match firstSpill site s, freePr site s with
    | (some (slot, c, j), u), some l => showPr site (updPage slot c j (fun p => { p with spilling := some l }) u)
    | (none, u), _ => u
    | _, none => s

/-- Spilling cannot meet the need: the shares are above PR_PCT, or no page is eligible, or the shares have none left (R277). -/
def spillStuck (site : Nat) (s : State) : Bool :=
  prFull site s || (spillShort site s && ((spillable site s).isEmpty || (freePr site s).isNone))

/-- A site is pre-empting a stream. -/
def sitePreempting (site : Nat) (s : State) : Bool :=
  s.sort.streams.any fun x => (x.2.pre == 1 || x.2.pre == 2 || x.2.pre == 3) && (sitesOf x.1 s).contains site

/-- SPILL_START: spills begin; where they cannot meet the need, one stream at a time is pre-empted (R273, R277). -/
def spillStart (site : Nat) (s : State) : State :=
  if !spillNeeded site s then setSpilling site false s
  else
    let s1 := (List.range 64).foldl (fun u _ => spillOne site u) (setSpilling site true s)
    if spillStuck site s1 && !sitePreempting site s1 then
      match spillVictim site s1 with
      | some k => startPreempt k none s1
      | none => s1
    else s1

/-- SPILL_WRITE_DONE (R274). -/
def spillWritten (slot c j : Nat) (ok : Bool) (s : State) : State :=
  let site := siteOf (getChain slot c s).home
  let s1 := spillDone slot c j ok s
  if spillNeeded site s1 then s1 else setSpilling site false s1

end Sys2Proof.Machine
end

