-- ==== Sys2Proof/Machine/Parcels.lean ====
section
/-!
DEFINITION. Parcels: reserved pages (R223, R372), the header and its checks at seal (R225, R511 to R514), the measurement
(R511), and discarding (R224).
-/

namespace Sys2Proof.Machine

/-- The pages a parcel holds. -/
def parcelPages (p : Nat) (s : State) : List (Nat × Nat) :=
  s.pages.filterMap fun x =>
    match x.2.owner with
    | .parcel q => if q = p then some (x.1 / 768, x.1 % 768) else none
    | _ => none

/-- The parcel's reserved pages: every vault of its clusters, from FIRST (R372). -/
def reservedPages (x : Parcel) : List (Nat × Nat) :=
  (x.clusters.flatMap coresOf).flatMap fun v => (List.range x.npages).map fun i => (v, x.first + i)

/-- The cores of a cluster's mask, in core order. -/
def coresIn (k mask : Nat) : List Nat := ((List.range 64).filter mask.testBit).map (nthCore k)

/-- The weight pages in mapping order (R511). -/
def weightPages (x : Parcel) : List (Nat × Nat) :=
  x.table.flatMap fun e => (coresIn e.1 e.2.2).flatMap fun v => (List.range x.npages).map fun i => (v, x.first + i)

/-- Reserves a parcel's pages: LOADING; a page with a last owner is zeroed (R372). -/
def reserveParcel (p : Nat) (x : Parcel) (s : State) : State :=
  setParcel p { x with st := 1 } <| (reservedPages x).foldl
    (fun u q =>
      let r := getPage q.1 q.2 u
      let u1 := if r.last.isSome then zeroPage q.1 q.2 u else u
      setPage q.1 q.2 { r with owner := .parcel p, last := none } u1) s

/-! The header (R511 to R513). -/

/-- Bytes of the header that run on through the weight pages; nothing where a word cannot be delivered. -/
def pagesRead (ps : List (Nat × Nat)) (off n : Nat) : Nat → State → Option (List Byte) × State
  | 0, s => (some [], s)
  | k + 1, s =>
    if n = 0 then (some [], s)
    else
      match ps[off / 65536]? with
      | none => (none, s)
      | some (v, q) =>
        let m := min n (65536 - off % 65536)
        let r := vreadBytes v (65536 * q + off % 65536) m srcDispatcher s
        if r.1.2.isSome then (none, r.2)
        else
          let t := pagesRead ps (off + m) (n - m) k r.2
          (t.1.map (r.1.1 ++ ·), t.2)

def readPages (ps : List (Nat × Nat)) (off n : Nat) (s : State) : Option (List Byte) × State :=
  pagesRead ps off n (n / 65536 + 2) s

/-- A little-endian field of some bytes. -/
def at_ (b : List Byte) (off n : Nat) : Nat := leNat ((b.drop off).take n)

/-- Bytes of the fixed part. -/
def hHbytes (b : List Byte) : Nat := at_ b 4 4
def hStages (b : List Byte) : Nat := at_ b 9 1
def hNcl (b : List Byte) : Nat := at_ b 32 4
def hStoff (b : List Byte) : Nat := at_ b 36 4

/-- The cluster table as (cluster, stage, mask). -/
def hTable (b : List Byte) : List (Nat × Nat × Nat) :=
  (List.range (hNcl b)).map fun i => (at_ b (256 + 16 * i) 2, at_ b (258 + 16 * i) 1, at_ b (264 + 16 * i) 8)

/-- Check 2 of R514: the fixed part and the cluster table. -/
def headerOk (b : List Byte) (clusters : List Nat) : Bool :=
  let st := hStages b
  let ncl := clusters.length
  at_ b 0 2 == 1 && at_ b 2 2 == 0 && decide (256 + 16 * ncl ≤ hHbytes b ∧ hHbytes b ≤ 8388608) && decide (at_ b 8 1 ≤ 1) &&
  (if at_ b 8 1 = 0 then st == 1 else decide (2 ≤ st ∧ st ≤ 64)) && decide (1 ≤ at_ b 10 1 ∧ at_ b 10 1 ≤ 3) &&
  decide (1 ≤ at_ b 11 1 ∧ at_ b 11 1 ≤ 16) && decide (at_ b 12 1 < at_ b 11 1) && at_ b 13 3 == 0 &&
  decide (at_ b 24 4 < 2 ^ 27) && decide (at_ b 28 4 < 2 ^ 27) && hNcl b == ncl && at_ b 40 216 == 0 &&
  (hTable b).map (·.1) == clusters && (hTable b).all (fun e => decide (e.2.1 < st)) &&
  (List.range ncl).all (fun i => at_ b (259 + 16 * i) 5 == 0) &&
  (List.range st).all (fun j => (hTable b).any fun e => e.2.1 == j) &&
  hStoff b % 32 == 0 && decide (256 + 16 * ncl ≤ hStoff b) && decide (hStoff b + 2048 * st ≤ hHbytes b)

/-- Check 3 of R514: masks and weight pages. -/
def pagesOk (b : List Byte) (npages : Nat) : Bool :=
  let t := hTable b
  let n := (t.map fun e => (coresIn e.1 e.2.2).length).sum * npages
  (match t with
   | e :: _ => e.2.2.testBit 0
   | [] => false) && t.all (fun e => e.2.2 != 0) && at_ b 28 4 == n && decide (hHbytes b ≤ 65536 * n)

/-- A field entry of a stage: offset, length, source, constant (R228, R513). -/
def fieldOk (b : List Byte) (f : Nat) : Bool :=
  let o := 32 + 16 * f
  decide (8 ≤ at_ b o 1) && decide (1 ≤ at_ b (o + 1) 1 ∧ at_ b (o + 1) 1 ≤ 8) && decide (at_ b (o + 2) 1 < 8) &&
  decide (at_ b o 1 + at_ b (o + 1) 1 ≤ 256) && at_ b (o + 3) 5 == 0 && (at_ b (o + 2) 1 == 0 || at_ b (o + 8) 8 == 0)

/-- No two field entries overlap. -/
def fieldsApart (b : List Byte) (n : Nat) : Bool :=
  (List.range n).all fun i => (List.range i).all fun j =>
    let a := at_ b (32 + 16 * i) 1
    let c := at_ b (32 + 16 * j) 1
    decide (a + at_ b (33 + 16 * i) 1 ≤ c) || decide (c + at_ b (33 + 16 * j) 1 ≤ a)

/-- An operation of a stage whose cores are given (R229, R513). -/
def opOk (b : List Byte) (cores : List Nat) (m : Nat) : Bool :=
  let o := 544 + 80 * m
  cores.contains (at_ b (o + 64) 4) && decide (at_ b (o + 68) 1 < 16) && at_ b (o + 69) 1 == 0 && at_ b (o + 70) 2 != 0 &&
    at_ b (o + 72) 8 == 0

/-- Check 4 of R514: a stage entry; its cores are those of its clusters. -/
def stageOk (b : List Byte) (hbytes : Nat) (cores : List Nat) : Bool :=
  let lb := at_ b 0 2
  let ll := at_ b 2 2
  let sd := at_ b 6 2
  let lo := at_ b 8 4
  let nf := at_ b 12 1
  let nn := at_ b 13 1
  decide (lb < 8192) && decide (1 ≤ ll ∧ ll ≤ 2048) && decide (lb + ll ≤ 8192) && decide (at_ b 4 2 < 4 * ll) && decide (sd ≤ 8184) &&
  !overlap (sd, 8) (lb, ll) && lo % 32 == 0 && decide (lo + 32 * ll ≤ hbytes) && decide (nf ≤ 32) && decide (nn ≤ 16) &&
  at_ b 14 18 == 0 && (List.range nf).all (fieldOk b) && fieldsApart b nf && (List.range nn).all (opOk b cores) &&
  at_ b (32 + 16 * nf) (512 - 16 * nf) == 0 && at_ b (544 + 80 * nn) (1280 - 80 * nn) == 0 && at_ b 1824 224 == 0

/-- A stage entry as data (R513). -/
def stageEntry (b : List Byte) : StageE :=
  { lbase := at_ b 0 2, llen := at_ b 2 2, entry := at_ b 4 2, sdbase := at_ b 6 2, loff := at_ b 8 4,
    fields := (List.range (at_ b 12 1)).map fun f =>
      (at_ b (32 + 16 * f) 1, at_ b (33 + 16 * f) 1, at_ b (34 + 16 * f) 1, at_ b (40 + 16 * f) 8),
    ops := (List.range (at_ b 13 1)).map fun m =>
      let o := 544 + 80 * m
      ⟨at_ b o 64, at_ b (o + 64) 4, at_ b (o + 68) 1, at_ b (o + 70) 2⟩ }

/-- The stage entries that pass their checks: nothing for the first that fails or cannot be read. -/
def readStages (ps : List (Nat × Nat)) (b : List Byte) (t : List (Nat × Nat × Nat)) : List Nat → State → Option (List StageE) × State
  | [], s => (some [], s)
  | j :: js, s =>
    let r := readPages ps (hStoff b + 2048 * j) 2048 s
    match r.1 with
    | none => (none, r.2)
    | some e =>
      let cores := (t.filter fun x => x.2.1 == j).flatMap fun x => coresOf x.1
      if !stageOk e (hHbytes b) cores then (none, r.2)
      else
        let q := readStages ps b t js r.2
        (q.1.map (stageEntry e :: ·), q.2)

/-- The cores of a mask are usable and wide enough (R225). -/
def maskUsable (wcc : Nat) (t : List (Nat × Nat × Nat)) (s : State) : Bool :=
  t.all fun e => (coresIn e.1 e.2.2).all fun g => usable g s && decide (29 + wcc ≤ rd .coreArrayIdWidth g s)

/-- The words of a page as they are delivered to the postmaster, from word j on; what one that cannot be delivered contributes to a
measurement the spec does not say, and it is free (log 114). -/
def pageWords (v page : Nat) : Nat → Nat → State → List Byte × State
  | 0, _, s => ([], s)
  | n + 1, j, s =>
    let r := vread v (65536 * page + 32 * j) srcDispatcher s
    let b : List Byte × State := match r.1 with
      | .ok bs => (bs, r.2)
      | _ => let f := fresh r.2; (natLe 32 f.1, f.2)
    let t := pageWords v page n (j + 1) b.2
    (b.1 ++ t.1, t.2)

/-- Every weight page in mapping order. -/
def allBytes : List (Nat × Nat) → State → List Byte × State
  | [], s => ([], s)
  | p :: ps, s =>
    let r := pageWords p.1 p.2 2048 0 s
    let t := allBytes ps r.2
    (r.1 ++ t.1, t.2)

/-- Seals a parcel whose checks have passed (R224, R511). -/
def sealParcel (p : Nat) (x : Parcel) (s : State) : State :=
  let ws := weightPages x
  let rest := (parcelPages p s).filter fun q => !ws.contains q
  let s1 := rest.foldl (fun u q => zeroPage q.1 q.2 u) s
  let r := allBytes ws s1
  setParcel p { x with st := 2, measure := (Config.sha384 r.1).toNat } r.2

/-- PARCEL_SEAL: the status of the first check that fails, or 0 and the sealed parcel (R514). -/
def trySeal (p : Nat) (s : State) : Nat × State :=
  let x := getParcel p s
  if x.st ≠ 1 then (22, s)
  else
    let first := [(nthCore (x.clusters.headD 0) 0, x.first)]
    let r := readPages first 0 (256 + 16 * x.clusters.length) s
    match r.1 with
    | none => (26, r.2)
    | some b =>
      if !headerOk b x.clusters then (26, r.2)
      else if !pagesOk b x.npages then (25, r.2)
      else
        let y : Parcel := { x with
          staged := at_ b 8 1 == 1, stages := hStages b, wcc := at_ b 10 1, jobdev := at_ b 11 1, jobidx := at_ b 12 1,
          kvfmt := at_ b 16 8, pvbase := at_ b 24 4, pvlen := at_ b 28 4, table := hTable b }
        let q := readStages (weightPages y) b y.table (List.range y.stages) r.2
        match q.1 with
        | none => (26, q.2)
        | some es =>
          if !kvGeometry y.kvfmt then (28, q.2)
          else if !maskUsable y.wcc y.table q.2 then (27, q.2)
          else (0, sealParcel p { y with entries := es } q.2)

/-! Discarding (R224). -/

/-- Releases a page of a parcel that has been zeroed. -/
def releaseParcelPage (q : Nat × Nat) (s : State) : State :=
  setPage q.1 q.2 { getPage q.1 q.2 s with owner := .free, last := none } s

/-- Unmaps a parcel's range from the tables of the district bound to it. -/
def unmapParcel (d : Nat) (x : Parcel) (s : State) : State :=
  (List.range x.pvlen).foldl (fun u n => unmapPage d (x.pvbase + n) u) s

/-- Every page of a parcel is zeroed and released. A parcel still bound to a district that has failed stays DISCARDING until that
district is dissolved (R224, R469, R485; log 48). -/
def discardParcel (p : Nat) (s : State) : State :=
  let x := getParcel p s
  let ps := parcelPages p s
  let s1 := match boundTo p s with
    | some d => unmapParcel d x s
    | none => s
  let s2 := ps.foldl (fun u q => releaseParcelPage q (zeroPage q.1 q.2 u)) (setParcel p { x with st := 4 } s1)
  if (boundTo p s).isSome then s2 else setParcel p {} s2

end Sys2Proof.Machine
end

