-- ==== Sys2Proof/Machine/Recovery.lean ====
section
/-!
DEFINITION. Counting usable cores (R463, R473), core and layer resets (R452 to R455), base-die resets (R186, R470, R471, R486), via
remaps, channel losses and stand-ins (R481 to R483), the loss of a site (R484, R485), and deferred repairs (R479).
-/

namespace Sys2Proof.Machine

/-! Registers of a site. -/

/-- The site of a block instance, for blocks of a site region (R387). -/
def blockSite (b : Block) (i : Nat) : Option Nat :=
  match b with
  | .core | .vault => some (i / 2048)
  | .nme | .ph | .clbind | .pwrcl | .thcl => some (i / 32)
  | .vsite | .nmsite | .net | .kvsite | .sosite | .psite | .thsite | .brsite | .fltsite => some i
  | _ => none

/-- The register table without the fields that a test picks by field and block instance: they are at their reset values. -/
def clearRegs (p : Reg → Nat → Bool) (s : State) : State :=
  let keep (x : Nat × Nat) : Bool := !p (Reg.ofNat (x.1 % 512)) (x.1 / 512 / (regInfo (Reg.ofNat (x.1 % 512))).sub)
  { s with regs := s.regs.filter keep }

/-- Fields of a site that a reset of the site leaves: BRSITE.RESET (R473), and the self-test mode of its bring-up (R165; log 113). -/
def siteKeeps (f : Reg) : Bool :=
  match f with
  | .brsiteResetCount | .brsiteResetLastdom | .brsiteResetWatchdog | .brsiteResetRound | .vsiteSelftestMode => true
  | _ => false

/-- A base of a difference of counters follows a counter that is cleared: what was counted stays in the difference (R410, R416). -/
def rebased (key n : Nat) (t : Table Nat) : Table Nat := tset noNat t key ((tget noNat t key + 2 ^ 64 - n) % 2 ^ 64)

/-- The meters of a site are about to be cleared (R410, R416, R431). -/
def rebaseSite (k : Nat) (s : State) : State :=
  let cl := (List.range 32).map (32 * k + ·)
  let rails (off : Nat) (t : Table Nat) : Table Nat := cl.foldl (fun u c => rebased (off + c) (rd .pwrclEnergyCount c s) u) t
  let s1 := setPower { s.power with
    winBase := rebased k (meterSum k s) s.power.winBase,
    roundBase := rails 10000 (rebased (1 + k) (rd .psiteESiteCount k s) (rebased (100 + k) (rd .psiteEDramCount k s) s.power.roundBase)) } s
  setHeat { s1.heat with railBase := rails 0 s1.heat.railBase } s1

/-- The registers of a site go to their reset values (R217, R452), its weight to the flash configuration's (R405); the route change
that runs still shows (R215; log 50). -/
def clearSite (k : Nat) (s0 : State) : State :=
  let s := rebaseSite k s0
  let s1 := wr .psiteAllotWeight k (s.boot.flash.weights.getD k 1)
    (clearRegs (fun f i => blockSite (regInfo f).blk i == some k && !siteKeeps f) s)
  let s2 := setNet { s1.net with subs := s1.net.subs.filter fun x => x.1 / 4 != k } s1
  wr .netStatusRouting k (natBool (decide (s.net.phase ≠ 0)))
    { s2 with posted := s2.posted.filter fun p => blockSite p.blk p.inst != some k }

/-! Usable cores (R463). -/

/-- How many listed registers of a field on a site meet a test of instance and value. -/
def countOn (f : Reg) (k : Nat) (p : Nat → Nat → Bool) (s : State) : Nat :=
  (s.regs.filter fun x => x.1 % 512 == f.ctorIdx && x.1 / 512 / 2048 == k && p (x.1 / 512) x.2).length

def widthOf (g : Nat) (s : State) : Nat := rd .coreArrayIdWidth g s

/-- BRSITE.CORES of a site. -/
def showSiteCores (k : Nat) (s : State) : State :=
  if bit .brsiteStatusLost k s then
    wr .brsiteCoresUsable k 0 (wr .brsiteCoresW31 k 0 (wr .brsiteCoresW30 k 0 (wr .brsiteCoresRetired k 0 (wr .brsiteCoresChlost k 0 s))))
  else
    let retired := countOn .coreArrayIdWidth k (fun _ w => w < 30) s
    let chlost := countOn .vaultStatusChan k (fun g c => c == 2 && 30 ≤ widthOf g s) s
    let w (n : Nat) : Nat := countOn .coreArrayIdWidth k (fun g w => w == n && rd .vaultStatusChan g s != 2) s
    wr .brsiteCoresUsable k (2048 - retired - chlost) (wr .brsiteCoresW31 k (w 31) (wr .brsiteCoresW30 k (w 30)
      (wr .brsiteCoresRetired k retired (wr .brsiteCoresChlost k chlost s))))

/-- The cores that a grade guarantees (R4). -/
def guarantee (grade : Nat) : Nat := if grade = 0x41 then 126976 else if grade = 0x42 then 122880 else 114688

/-- DEV.ID.USABLE and DEGRADED from BRSITE.CORES (R463). -/
def showUsable (s : State) : State :=
  let n := ((List.range 64).map fun k => rd .brsiteCoresUsable k s).sum
  wr .devIdUsable 0 n (wr .devIdDegraded 0 (natBool (decide (n < guarantee (rd .devIdGrade 0 s)))) s)

def showCores (k : Nat) (s : State) : State := showUsable (showSiteCores k s)

/-! Core and layer resets. -/

/-- A transfer of another core into core g halts (R454). -/
def haltInto (g : Nat) (s : State) : State :=
  s.cores.cores.foldl
    (fun u p => if p.1 = g then u else
      (List.range 8).foldl
        (fun v ch =>
          let x := getChan ch (getCore p.1 v)
          if x.st == .busy && dKind x.desc == 6 && dmaDstCore p.1 x.desc == g then endDma p.1 ch 12 v else v) u) s

/-- Fields of a CORE block that a core reset keeps. -/
def coreKeeps (f : Reg) : Bool :=
  match f with
  | .coreArrayIdWidth | .coreArrayIdBadaV | .coreArrayIdBada | .coreArrayIdBadbV | .coreArrayIdBadb | .coreArrayIdRetired
  | .coreArrayIdField => true
  | _ => false

/-- A core after its reset: all empty, its width class in every bank (R62, R68). -/
def freshCore (width : Nat) (dark : Bool) : Core :=
  { banks := List.replicate 4 { wcb := if width < 30 then 1 else width - 29 }, dark := dark }

/-- The core reset of R454. -/
def coreReset (g : Nat) (s : State) : State :=
  let s1 := haltInto g s
  let s2 := clearRegs (fun f i => (regInfo f).blk == .core && i == g && !coreKeeps f) s1
  let s3 := { s2 with
    posted := s2.posted.filter fun p => !(p.blk == .core && p.inst == g),
    cores := { s2.cores with lineTag := s2.cores.lineTag.filter fun x => x.1 / 8192 != g } }
  setCore g (freshCore (widthOf g s) (getCore g s).dark) s3

/-- The core resets of a set of cores, each as R454 says. -/
def coreResets (gs : List Nat) (s : State) : State := gs.foldl (fun u g => coreReset g u) s

/-- Shows that a reset of a domain of a site has completed (R473). -/
def resetDone (k dom : Nat) (s : State) : State :=
  wr .brsiteResetLastdom k dom (wr .brsiteResetRound k (roundNow s % 2 ^ 32) (bump .brsiteResetCount k s))

/-- A CD layer reset: every core of the site; packets in the mesh routers are discarded (R454, R216). -/
def cdReset (k : Nat) (s : State) : State :=
  let s1 := dropSignals (fun x => siteOf x.dst == k || signalSite x == k) s
  let s2 := loseTransfers (fun _ a b => a == k || b == k) (dropReleases (fun _ _ b => b == k) s1)
  resetDone k 4 (coreResets ((List.range 2048).map (2048 * k + ·)) s2)

/-- A DL layer reset leaves the layer's banks precharged and its data as they stand (R455, R452). -/
def dlReset (k j : Nat) (s : State) : State :=
  resetDone k 3 { s with vaults := { s.vaults with
    openRow := s.vaults.openRow.filter fun x => !(x.1 / 48 / 2048 == k && x.1 / 4 % 12 == j) } }

/-! Base-die resets. -/

/-- A transfer of kind 1, 2 or 3 is cut by the loss of the way to the base die: what has moved is free; read data in flight arrive
poisoned; a skewing kind sets its region PLAIN; the channel halts with BASE_RESET (R470, R482). -/
def cutVertical (g ch : Nat) (s : State) : State :=
  let x := getChan ch (getCore g s)
  let k := dKind x.desc
  if x.st == .busy && decide (1 ≤ k ∧ k ≤ 3) then
    let f := fresh s
    let lim := f.1 % (if k = 2 then skewLines x.desc + 1 else dRows x.desc * dRbytes x.desc + 1)
    endDma g ch 10 (cutMove g x.desc lim f.2)
  else s

def cutCore (g : Nat) (s : State) : State := (List.range 8).foldl (fun u ch => cutVertical g ch u) s

/-- The listed cores of a site. -/
def coresAt (k : Nat) (s : State) : List Nat := (s.cores.cores.filter fun x => x.1 / 2048 == k).map (·.1)

/-- Streams whose record lies in a site's slice or whose control block lies on the site: their receipts will be incomplete (R491). -/
def loseRecords (k : Nat) (control : Bool) (s : State) : State :=
  (s.sort.streams.filter fun x => x.1 / 4096 == k || (control && x.2.ctl / 2 ^ 37 == k)).foldl
    (fun u x => updStream x.1 (fun y => { y with lost := true }) u) s

/-- A site's sums of the rounds are gone, and with them what it measured in this round; the accounting role leaves it (R419). -/
def loseSums (k : Nat) (s : State) : State :=
  let unsent := (districtsOnSite k s).any fun d => !(getDistrict d s).ran.isEmpty
  setPower { s.power with
    unsent := s.power.unsent || unsent, moved := s.power.moved || s.power.accounting == k, sums := tset (fun _ => []) s.power.sums k [] } s

/-- BD logic restarts empty: slice, KV manager, engines, vault-controller queues; the NME blocks are cleared (R186, R470); energy
sums of the round that it has not sent are gone (R419). -/
def emptyBase (k : Nat) (s0 : State) : State :=
  let s := loseSums k s0
  let s1 := (List.range 32).foldl (fun u j => nmAbort (32 * k + j) (fun _ => true) 16 u) s
  let s2 := clearRegs (fun f i => (regInfo f).blk == .nme && i / 32 == k) s1
  let s3 := { s2 with
    posted := s2.posted.filter fun p => !(p.blk == .nme && p.inst / 32 == k),
    engines := s2.engines.filter fun x => x.1 / 32 != k,
    kvSites := s2.kvSites.filter fun x => x.1 != k,
    vaults := { s2.vaults with dsq := s2.vaults.dsq.filter fun x => x.1 / 2048 != k, openRow := s2.vaults.openRow.filter fun x => x.1 / 48 / 2048 != k } }
  clearRegs (fun f i => (f == .vaultStatusDsq || f == .vaultStatusRepair) && i / 2048 == k) (showQocc k s3)

/-- A base die is held in reset: T to T + 10 us (R470). The silent base die is isolated so even when its repair is deferred
(R479). -/
def bdAssert (k : Nat) (s : State) : State :=
  let s1 := flag .brsiteStatusResetting k (wr .brsiteStatusRdomain k 2 s)
  let s2 := wr .devSiteResetMask 0 (Nat.lor (rd .devSiteResetMask 0 s1) (2 ^ k)) s1
  let s3 := (coresAt k s2).foldl (fun u g => cutCore g u) s2
  emptyBase k (loseRecords k false ((coresAt k s3).foldl (fun u g => stopCore g u) s3))

/-- A reset's bits are cleared. -/
def resetBitsOff (k : Nat) (s : State) : State :=
  wr .brsiteStatusResetting k 0 (wr .brsiteStatusRdomain k 0
    (wr .devSiteResetMask 0 (Nat.xor (Nat.lor (rd .devSiteResetMask 0 s) (2 ^ k)) (2 ^ k)) s))

/-- The base die has restarted by T + 200 us (R470). -/
def bdRestarted (k : Nat) (watchdog : Bool) (s : State) : State :=
  wr .brsiteResetWatchdog k (natBool watchdog) (resetDone k 2 (resetBitsOff k s))

/-- A BD layer reset by envelope: its districts are FAILED or QUARANTINED already (R372, R452, R470). -/
def bdReset (k : Nat) (s : State) : State := events 0x0004 [] k (bdRestarted k false (bdAssert k s))

/-! Sites. -/

/-- Everything the DRAM of some vaults held is gone: unwritten markers and zeros (R156). -/
def wipeWhere (gone : Nat → Bool) (s : State) : State :=
  let keep (n : Nat) (x : Nat) : Bool := !gone (x / n)
  { s with vaults := { s.vaults with
      dram := s.vaults.dram.filter fun x => keep (2 ^ 26) x.1,
      mark := s.vaults.mark.filter fun x => keep (2 ^ 21) x.1,
      bad := s.vaults.bad.filter fun x => keep (2 ^ 27) x.1,
      parBad := s.vaults.parBad.filter fun x => keep (2 ^ 22) x.1,
      parMark := s.vaults.parMark.filter fun x => keep (2 ^ 16) x.1,
      cntBad := s.vaults.cntBad.filter fun x => keep (2 ^ 26) x.1,
      est := s.vaults.est.filter fun x => keep (2 ^ 14) x.1,
      openRow := s.vaults.openRow.filter fun x => keep 48 x.1 } }

/-- The vaults of a site are wiped, and their queues and patrols start anew (R165). -/
def wipeVaults (k : Nat) (s0 : State) : State :=
  let s := wipeWhere (fun v => v / 2048 == k) s0
  { s with vaults := { s.vaults with
      dsq := s.vaults.dsq.filter fun x => x.1 / 2048 != k, patrol := s.vaults.patrol.filter fun x => x.1 / 2048 != k } }

/-- Scratchpads and pigeonholes zero with tag PLAIN, cores as after a reset (R458). Signals on the network stay: those of a lost site are
drained or discarded by the route change (R215). -/
def wipeCores (k : Nat) (s : State) : State :=
  let c := s.cores
  { s with
    cores := { c with
      spad := c.spad.filter fun x => x.1 / 2 ^ 18 / 2048 != k,
      lineTag := c.lineTag.filter fun x => x.1 / 8192 / 2048 != k,
      linePoison := c.linePoison.filter fun x => x.1 / 8192 / 2048 != k,
      pig := c.pig.filter fun x => x.1 / 2 ^ 19 / 256 != k,
      pigPoison := c.pigPoison.filter fun x => x.1 / 16384 / 256 != k,
      cores := c.cores.filter fun x => x.1 / 2048 != k },
    notices := s.notices.filter fun n => n.cluster / 32 != k }

/-- Page-table entries that name a site's pages are invalidated (R234, R469, R485). -/
def invalidateEntries (k : Nat) (s : State) : State :=
  (s.pages.filter fun x => match x.2.owner with | .tables _ => true | _ => false).foldl
    (fun u x =>
      let v := x.1 / 768
      let p := x.1 % 768
      if v / 2048 = k then u
      else (List.range 8192).foldl
        (fun w i =>
          let e := pteAt (v * 2 ^ 26 + 65536 * p + 8 * i) w
          if pteValid e && pteVault e / 2048 == k then (vwrite v (65536 * p + 8 * i) srcDispatcher (natLe 8 0) w).2 else w)
        (readTable v p srcDispatcher u)) s

/-- The parcels with a page on a site. -/
def parcelsOn (k : Nat) (s : State) : List Nat :=
  (List.range 64).filter fun p => (getParcel p s).st != 0 && (parcelPages p s).any fun q => siteOf q.1 == k

/-- A stream that ends leaves at once, its record dead-lettered when its ring is full (R313, R469). -/
def endAtOnce (slot code : Nat) (s : State) : State :=
  let s1 := if (getStream slot s).st = .ending then s else beginEnd slot code s
  let s2 := finishEnd slot s1
  let x := getStream slot s2
  if x.st ≠ .ending then s2
  else
    let r := deadLetter x.district 1 x.id (recordBytes x 2 0xFFFFFFFF x.out 0 x.endCode 0 [] (roundNow s2) true) s2
    finishEnd slot (updStream slot (fun y => { y with endRec := true }) r)

/-- The handles with a chain on a site go (R301, R485). -/
def dropHandlesOn (k : Nat) (s : State) : State :=
  (s.sort.handles.filter fun h => h.2.used && h.2.chains.any fun c => siteOf c.2.home == k).foldl (fun u h => releaseHandle h.1 u) s

/-- The pages of a site return to their free lists with no last owner; each district's count falls, and one whose page tables lay there
has none (R235, R469). -/
def freeSitePages (k : Nat) (s : State) : State :=
  let mine := s.pages.filter fun x => x.1 / 768 / 2048 == k
  let s1 := mine.foldl
    (fun u x =>
      match x.2.owner with
      | .district d => wr .distUsePages d (rd .distUsePages d u - 1) u
      | .tables d => wr .distUsePages d (rd .distUsePages d u - 1) u
      | _ => u) s
  let s2 := (List.range 256).foldl
    (fun u d => if rd .distPtRootAddr d u / 2 ^ 37 = k ∧ rd .distPtRootAddr d u ≠ 0 then wr .distPtRootAddr d 0 u else u) s1
  { s2 with pages := s2.pages.filter fun x => x.1 / 768 / 2048 != k }

/-! Site loss (R484, R485). -/

/-- The e-fuses are open and the site is marked lost: all its data is gone and its units stop. Isolation is never deferred
(R479; log 49). -/
def isolateSite (k : Nat) (s : State) : State :=
  if bit .brsiteStatusLost k s then s
  else
    let s1 := loseRecords k true s
    let s2 := flag .brsiteStatusLost k (wr .brsiteStatusReady k 0 s1)
    let s3 := wr .devSiteLostMask 0 (Nat.lor (rd .devSiteLostMask 0 s2) (2 ^ k)) s2
    let s4 := wr .brdevStatusSitesLost 0 (rd .brdevStatusSitesLost 0 s3 + 1) (wr .brdevStatusSitesReady 0 (rd .brdevStatusSitesReady 0 s3 - 1) s3)
    let s5 := wr .netStatusOut k 1 (emptyBase k (showCores k s4))
    wipeCores k (wipeVaults k s5)

/-- T0 + 2 us to T0 + 100 us: the districts fail with SITE_LOST, and the route change runs. -/
def startSiteLoss (k : Nat) (s : State) : State :=
  (districtsOnSite k s).foldl (fun u d => failDistrict d 33 false u) (startRoute s)

/-- T0 + 1 ms to T0 + 2 ms: parcels, entries, poste restante, the field-repair entry, record and events; the recovery ends. -/
def endSiteLoss (k : Nat) (s : State) : State :=
  let s1 := (parcelsOn k s).foldl (fun u p => discardParcel p u) (dropHandlesOn k (wr .psiteAllotWatts k 0 s))
  let s2 := wipeVaults k (invalidateEntries k s1)
  endRecovery 4 0x0030 4 (showPr k (addFrm 5 k 0 0 s2))

/-- A site is lost in service (R484). -/
def siteLoss (k : Nat) (s : State) : State :=
  if bit .brsiteStatusLost k s then s
  else
    let rep := mkRepair 5 k 0 0 (districtsOnSite k s)
    let r := detect rep (isolateSite k s)
    if r.1 then startSiteLoss k r.2 else r.2

/-! Base-die recoveries (R470, R471, R486). -/

/-- The sequence ends: event, record, RECOVERY_DONE. -/
def endBd (k : Nat) (s : State) : State := endRecovery 4 0x0004 2 (bdRestarted k true s)

/-- The watchdog's reset as a recovery: every district with a cluster on the site fails (R486). -/
def startBd (k : Nat) (restarts : Bool) (s : State) : State :=
  let s1 := (districtsOnSite k s).foldl (fun u d => failDistrict d 35 false u) s
  if restarts then endBd k s1 else s1

/-- No heartbeat for 100 us (R470): whether the base die restarts in time is the event's. -/
def bdWatchdog (k : Nat) (restarts : Bool) (s : State) : State :=
  if bit .brsiteStatusLost k s || bit .brsiteStatusResetting k s then s
  else
    let rep := mkRepair 6 k 0 0 (districtsOnSite k s)
    let r := detect rep s
    let s1 := bdAssert k r.2
    if r.1 then startBd k restarts s1 else s1

/-- A base die that has not restarted by T + 200 us is reset once more; a second failure loses the site (R471, R484). -/
def bdTimeout (k : Nat) (restarts : Bool) (s : State) : State :=
  if !runs 6 k 0 s then s
  else
    let s1 := bump .brsiteResetCount k s
    if restarts then endBd k s1
    else
      let s2 := resetBitsOff k (isolateSite k (wr .brsiteResetWatchdog k 1 (wr .brsiteResetLastdom k 2 (bump .brsiteResetCount k s1))))
      match s2.faults.running with
      | some q => startSiteLoss k (showRecovery (setFaults { s2.faults with running := some { q with kind := 5 } } s2))
      | none => s2

/-! Vertical channels (R481 to R483). -/

/-- The bad vias of a channel on record (R460, R461). -/
def badVias (g : Nat) (s : State) : List Nat :=
  let fl := s.boot.flash
  (((fl.fuses.filter fun u => u.kind == 2 && 2048 * u.site + u.unit == g).map fun u => u.detail) ++
    (fl.frm.filter fun u => u.kind == 2 && 2048 * u.site + u.unit == g).map fun u => u.detail).dedup

/-- VAULT.STATUS.SPARES and BRSITE.REPAIR.VIAS after a remap of the bad working vias (R460, R473). -/
def showSpares (g n : Nat) (s : State) : State :=
  let old := rd .vaultStatusSpares g s
  let k := siteOf g
  wr .brsiteRepairVias k (rd .brsiteRepairVias k s + n - old) (wr .vaultStatusSpares g n s)

/-- The core is held at its next instruction boundary, keeping its state (R481). -/
def holdCore (g : Nat) (on : Bool) (s : State) : State :=
  updCore g (fun c => { c with dark := on || bit .thclCtrlDark (clusterOf g) s }) s

/-- A stand-in for a core of a parcel (R483). -/
def standInFor (d lost : Nat) (s : State) : Option Nat :=
  let p := parcelOf d s
  let masks := (maskCores p).map (·.1)
  let ok (g : Nat) : Bool := siteOf g == siteOf lost && usable g s && decide (29 + p.wcc ≤ widthOf g s) && !masks.contains g &&
    !s.standIns.any fun x => x.1 == g
  let all := (coresOfDistrict d s).filter ok
  let near := all.filter fun g => clusterOf g == clusterOf lost
  (near ++ all).foldl (fun a g => if near = [] ∨ near.contains g then (match a with | some b => if g < b then some g else a | none => some g) else a) none

/-- FLTSITE.CHAN.STANDINS of a site. -/
def showStandIns (k : Nat) (s : State) : State :=
  wr .fltsiteChanStandins k (s.standIns.filter fun x => siteOf x.1 == k).length s

/-- Stand-ins of a district end when it is re-bound or dissolved (R483). -/
def dropStandIns (d : Nat) (s : State) : State :=
  let gone := s.standIns.filter fun x => coreDistrict x.1 s == some d
  gone.foldl (fun u x => showStandIns (siteOf x.1) u) { s with standIns := s.standIns.filter fun x => !gone.contains x }

/-- A core of a district has left service: its place goes to a stand-in, or the district fails (R483): the outcome code. -/
def replaceCore (d g : Nat) (s : State) : Nat × State :=
  let role := match s.standIns.find? fun x => x.1 == g with
    | some x => x.2
    | none => g
  let p := parcelOf d s
  match (maskCores p).find? fun x => x.1 == role with
  | none => (0, s)
  | some x =>
    if !bit .distCfgPv d s then (0, s)
    else
      let s1 := { s with standIns := s.standIns.filter fun y => y.2 != role }
      match standInFor d role s1 with
      | none => (2, failDistrict d 35 false (showStandIns (siteOf g) s1))
      | some n =>
        let s2 := showStandIns (siteOf g) { s1 with standIns := s1.standIns ++ [(n, role)] }
        (1, bump .fltdevCountRebuild 0 (events 0x0031 [d] (siteOf g) (placeLetter d n x.2 s2)))

/-- Parcels whose core mask holds a core (R225, R482). -/
def parcelsWith (g : Nat) (s : State) : List Nat :=
  (List.range 64).filter fun p => (getParcel p s).st == 2 && (maskCores (getParcel p s)).any fun x => x.1 == g

/-- The channel is lost (R482). -/
def channelLost (g : Nat) (s : State) : State :=
  let k := siteOf g
  let s1 := stopCore g (holdCore g false (cutCore g (wr .vaultStatusChan g 2 s)))
  let s2 := bump .fltsiteChanLost k (showCores k s1)
  let s3 := (parcelsWith g s2).foldl (fun u p => impairParcel p k u) s2
  let r := match coreDistrict g s3 with
    | none => (0, s3)
    | some d => replaceCore d g (reshape d (failStep d true s3))
  match r.2.faults.running with
  | some q => endRecovery 3 0x0021 r.1 (showRecovery (setFaults { r.2.faults with running := some { q with kind := 2 } } r.2))
  | none => r.2

/-- T + 45 us to T + 50 us of a via remap, with the vias found bad: working ones move to good spares, or the channel is lost
(R481, R482). -/
def remapVias (g : Nat) (found : List Nat) (s : State) : State :=
  let k := siteOf g
  let old := badVias g s
  let new := (found.filter fun v => decide (v < 152) && !old.contains v).dedup
  let s1 := new.foldl (fun u v => addFrm 2 k (g % 2048) v u) s
  let all := old ++ new
  if 8 < all.length then channelLost g s1
  else
    let s2 := wr .vaultStatusChan g 0 (showSpares g (all.filter fun v => decide (v < 144)).length s1)
    endRecovery 3 0x0020 0 (bump .fltdevCountRepairs 0 (bump .fltsiteChanRemaps k (holdCore g false s2)))

/-- A channel passes its replay threshold (R481). -/
def viaRemap (g : Nat) (found : List Nat) (s : State) : State :=
  if 0 < rd .vaultStatusChan g s ∨ bit .brsiteStatusLost (siteOf g) s = true then s
  else
    let r := detect (mkRepair 1 (siteOf g) (g % 2048) (found.headD 0) (touchedByChannel g s)) s
    let s1 := holdCore g true (wr .vaultStatusChan g 1 r.2)
    if r.1 then remapVias g found s1 else s1

/-! Deferred repairs (R479). -/

/-- A deferred repair starts; what its own test finds comes with the event: bad vias, or whether a base die restarts. -/
def deferredRepair (found : List Nat) (restarts : Bool) (s : State) : State :=
  match s.faults.running, s.faults.deferred with
  | none, r :: rs =>
    let s1 := startRecovery r (setFaults { s.faults with deferred := rs } s)
    match r.kind with
    | 1 => remapVias (2048 * r.site + r.unit) found s1
    | 3 => startDeferredLane (4 * r.site + r.unit) r.detail s1
    | 4 => startEdge s1
    | 5 => startSiteLoss r.site s1
    | 6 => startBd r.site restarts s1
    | _ => flag .twinStatusFailover 0 s1
  | _, _ => s

/-- Arrivals that a route change held reach their home sites (R200, R215). -/
def barriersAgain (s : State) : State :=
  ((s.cores.cores.filterMap fun p => coreDistrict p.1 s).dedup).foldl
    (fun u d => (List.range 4).foldl (fun w b => barrierCheck d b w) u) s

/-- The new routes are loaded: held accesses go on, and the recovery that waited for them ends (R215, R485). -/
def routeDone (s : State) : State :=
  if s.net.phase ≠ 2 then s
  else
    let s1 := barriersAgain (releaseHeld (routesLoaded s))
    match s1.faults.running with
    | some r => if r.kind = 4 then finishRecovery s1 else if r.kind = 5 then endSiteLoss r.site s1 else s1
    | none => s1

/-! RESET envelopes that wait for a recovery (R453) start when none runs. -/

/-- A recovery is in progress or waits to start. -/
def recovering (s : State) : Bool := s.faults.running.isSome || !s.faults.deferred.isEmpty

end Sys2Proof.Machine
end

