-- ==== Sys2Proof/Machine/Rebind.lean ====
section
/-!
DEFINITION. Re-binding (R237 to R243): the change records, the checks in their order, and the sequence of R239. The pages that a
binding needs are found by carrying the changes out on a copy of the state (log 51).
-/

namespace Sys2Proof.Machine

/-! Change records (R237). -/

/-- Record k of a REBIND envelope. -/
def parseChange (e : Env) (k : Nat) : Change :=
  let o := 8 + 320 * k
  let bits_ := pNat e o 256
  { clusters := (List.range 2048).filter bits_.testBit, district := pNat e (o + 256) 1, action := pNat e (o + 257) 1 % 4,
    streams := pNat e (o + 257) 1 / 4 % 4, zero := pNat e (o + 257) 1 / 16 % 2 == 1, pv := pNat e (o + 257) 1 / 32 % 2 == 1,
    parcel := pNat e (o + 258) 1 % 64, owner := pNat e (o + 260) 4, offset := pNat e (o + 264) 2, slots := pNat e (o + 266) 3,
    limit := pNat e (o + 269) 4 }

/-- The reserved fields of record k are 0. -/
def reservedClear (e : Env) (k : Nat) : Bool :=
  let o := 8 + 320 * k
  pNat e (o + 257) 1 / 64 == 0 && pNat e (o + 258) 1 / 64 == 0 && pNat e (o + 259) 1 == 0 && decide (pNat e (o + 264) 2 < 2 ^ 14) &&
    decide (pNat e (o + 266) 3 < 2 ^ 19) && decide (pNat e (o + 269) 4 < 2 ^ 27) && pNat e (o + 273) 47 == 0

/-- First row of the checks of R238; a record's fields lie in their stated ranges. -/
def changeValid (e : Env) (all : List Change) (c : Change) (k : Nat) : Bool :=
  reservedClear e k && decide (c.action < 3) && decide (c.streams < 3) && decide (c.offset ≤ 9999) &&
    decide (c.slots ≤ 262144) && (c.action == 1 || c.owner == 0) && (if c.action = 2 then c.clusters.isEmpty && pNat e (8 + 320 * k + 264) 56 == 0
      else decide (1 ≤ c.limit ∧ c.limit ≤ 100663296)) &&
    ((all.take k).all fun x => x.district != c.district)

/-! The checks (R238). -/

/-- The clusters that a change takes from a district or gives to it. -/
def losesClusters (c : Change) (s : State) : Bool := (clustersOf c.district s).any fun k => !c.clusters.contains k

def changesParcel (c : Change) (s : State) : Bool :=
  bit .distCfgPv c.district s && !(c.pv && rd .distCfgParcel c.district s == c.parcel)

/-- A change newly binds its parcel. -/
def bindsParcel (c : Change) (s : State) : Bool :=
  c.pv && !(bit .distCfgPv c.district s && rd .distCfgParcel c.district s == c.parcel)

/-- The home site that a set of clusters gives. -/
def homeOf (ks : List Nat) : Nat := (ks.headD 0) / 32

/-- A quota's draw on the slices of some sites, home first, 4,096 records at a time (R221; log 52). -/
def slotDraw (sites : List Nat) (slots : Nat) : List (Nat × Nat) :=
  sites.zipIdx.map fun x => (x.1, min 4096 (slots - 4096 * x.2))

/-- Changes of re-bindings that have been accepted and wait, which run alongside (R242). -/
def pendingChanges (s : State) : List Change := s.boot.rebinds.flatMap (·.changes)

/-- The clusters and quotas that each district has or will have: after these changes, or as it stands and after a change of another
re-binding that waits. -/
def quotaViews (cs : List Change) (s : State) : List (List (List Nat × Nat)) :=
  (cs.map fun c => [(c.clusters, c.slots)]) ++
    ((List.range 256).filter fun d => rd .distCfgState d s != 0 && !cs.any fun c => c.district == d).map fun d =>
      (clustersOf d s, rd .distResSlots d s) :: ((pendingChanges s).filter fun c => c.district == d).map fun c => (c.clusters, c.slots)

/-- A district whose quota does not fit its slices, beside the others that draw on them or will (R221). -/
def slotsBreak (cs : List Change) (c : Change) (s : State) : Bool :=
  let sitesIn (ks : List Nat) : List Nat := (ks.map (· / 32)).dedup.insertionSort (· ≤ ·)
  let on (k : Nat) (x : List Nat × Nat) : Nat := (((slotDraw (sitesIn x.1) x.2).filter fun y => y.1 == k).map (·.2)).sum
  let views := quotaViews cs s
  let mine := sitesIn c.clusters
  !c.clusters.isEmpty && (decide (4096 * mine.length < c.slots) ||
    mine.any fun k => decide (4096 < (views.map fun v => (v.map (on k)).foldl max 0).sum))

/-- A cluster of a change would belong to two districts, or belongs to one that is not named; the changes that wait count (R242). -/
def clusterTaken (cs : List Change) (c : Change) (s : State) : Bool :=
  c.clusters.any fun k =>
    ((cs ++ pendingChanges s).any fun x => x.district != c.district && x.clusters.contains k) ||
    match clusterDistrict k s with
    | some d => !cs.any fun x => x.district == d
    | none => false

/-- The parcel of a change cannot be bound (R226); one of a job, to a district in none, is PARCEL_STATE too (log 126). -/
def parcelRefused (cs : List Change) (c : Change) (s : State) : Bool :=
  let p := getParcel c.parcel s
  c.pv && (p.st != 2 || ((cs ++ pendingChanges s).any fun x => x.district != c.district && x.pv && x.parcel == c.parcel) ||
    (match boundTo c.parcel s with
     | some d => d != c.district && !(cs.any fun x => x.district == d && (x.action == 2 || !x.pv || x.parcel != c.parcel))
     | none => false) ||
    (decide (1 < p.jobdev) && (jobOf c.district s).isNone))

/-! Carrying out the changes (R239). -/

/-- The entries of a district's leaves: district virtual page and entry (R233). -/
def leafEntries (d : Nat) (s : State) : List (Nat × Nat) :=
  let root := rd .distPtRootAddr d s
  if root = 0 then []
  else (List.range 16384).flatMap fun i =>
    let r := pteAt (root + 8 * i) s
    if pteValid r then
      ((List.range 8192).map fun j => (8192 * i + j, pteAt (pteVault r * 2 ^ 26 + ptePage r * 65536 + 8 * j) s)).filter fun x => x.2 != 0
    else []

/-- The pages of a district that a change releases, tables apart. -/
def released (c : Change) (s : State) : List (Nat × Nat) :=
  (pagesOf c.district s).filter fun q =>
    (match (getPage q.1 q.2 s).owner with
     | .district _ => true
     | _ => false) && !c.clusters.contains (clusterOf q.1)

def tablesOf (d : Nat) (s : State) : List (Nat × Nat) :=
  (pagesOf d s).filter fun q => match (getPage q.1 q.2 s).owner with
    | .tables _ => true
    | _ => false

/-- A change needs new page tables: its home site is another, or it had none. -/
def newTables (c : Change) (s : State) : Bool :=
  !c.clusters.isEmpty && (rd .distPtRootAddr c.district s == 0 || homeOf c.clusters != rd .distCfgHome c.district s)

/-- Steps 4 and 6 of R239 before clusters move: the old parcel is unmapped with the step pages, and one that is DISCARDING is EMPTY
now (R224; log 48); pages and handles leave, tables of an old home are given up. A grammar that loses a page loses its table and keeps its
slot (R220; log 36). -/
def releaseChange (c : Change) (s : State) : List (Nat × Nat) × State :=
  let d := c.district
  let x := getDistrict d s
  let s1 := dropStandIns d s
  let unbind := c.action == 2 || changesParcel c s
  let steps := if unbind then x.stepPages.flatMap (·.2) else []
  let p := rd .distCfgParcel d s1
  let s2 := if unbind then
      let t := unmapParcel d (parcelOf d s1) s1
      if bit .distCfgPv d s1 && (getParcel p s1).st == 4 then setParcel p {} t else t
    else s1
  let gone := (s2.sort.handles.filter fun h => h.2.used && h.2.district == d &&
    (c.clusters.isEmpty || h.2.chains.any fun y => !c.clusters.contains (clusterOf y.2.home))).map (·.1)
  let s3 := gone.foldl (fun u h => releaseHandle h u) s2
  let lost := released c s3
  let torn (g : Gram) : Bool := g.pages.any fun q => lost.contains q
  let out := (lost ++ steps ++ (x.grammars.filter fun g => torn g.2).flatMap (·.2.pages)).dedup
  let drop := newTables c s3 || c.clusters.isEmpty
  let all := out ++ if drop then tablesOf d s3 else []
  let entries := leafEntries d s3
  let s3r := (tablesOf d s3).foldl (fun u q => readTable q.1 q.2 srcDispatcher u) s3
  let s4 := if drop then s3r
    else (entries.filter fun y => pteValid y.2 && out.contains (pteVault y.2, ptePage y.2)).foldl (fun u y => unmapPage d y.1 u) s3r
  let s5 := all.foldl (fun u q => freePage d q.1 q.2 u) s4
  let s6 := if drop then wr .distPtRootAddr d 0 s5 else s5
  let s7 := updDistrict d (fun y => { y with
    stepPages := if unbind then [] else y.stepPages,
    grammars := y.grammars.map fun g => if torn g.2 then (g.1, { g.2 with pages := [] }) else g }) s6
  (all, if unbind then wr .distCfgPv d 0 (wr .distCfgParcel d 0 s7) else s7)

/-- Step 5 of R239: a cluster that changes district is cleaned (R241). -/
def cleanCluster (k : Nat) (s : State) : State :=
  let gs := coresOf k
  let s1 := coreResets gs s
  let mineC (g : Nat) : Bool := clusterOf g == k
  let mineP (p : Nat) : Bool := p / 8 == k
  let c := s1.cores
  let s2 := { s1 with cores := { c with
    spad := c.spad.filter fun x => !mineC (x.1 / 2 ^ 18),
    lineTag := c.lineTag.filter fun x => !mineC (x.1 / 8192),
    linePoison := c.linePoison.filter fun x => !mineC (x.1 / 8192),
    pig := c.pig.filter fun x => !mineP (x.1 / 2 ^ 19),
    pigPoison := c.pigPoison.filter fun x => !mineP (x.1 / 16384) } }
  flag .clbindCClean k s2

/-- A cluster's binding after the changes. -/
def newOwner (cs : List Change) (k : Nat) (s : State) : Option Nat :=
  match cs.find? fun c => c.clusters.contains k with
  | some c => some c.district
  | none =>
    match clusterDistrict k s with
    | some d => if cs.any fun c => c.district == d then none else some d
    | none => none

def bindCluster (k : Nat) (o : Option Nat) (s : State) : State :=
  match o with
  | some d => wr .clbindCDistrict k d (flag .clbindCBound k (wr .clbindCClean k 0 s))
  | none => wr .clbindCDistrict k 0 (wr .clbindCBound k 0 s)

/-- Clusters that change district; they are cleaned and bound anew. -/
def movedClusters (cs : List Change) (s : State) : List Nat :=
  (List.range 2048).filter fun k => newOwner cs k s != clusterDistrict k s

def moveClusters (cs : List Change) (s : State) : State :=
  let moved := movedClusters cs s
  let s1 := moved.foldl (fun u k => bindCluster k (newOwner cs k s) (cleanCluster k u)) s
  moved.foldl (fun u k => clockCluster k u) s1

/-- Does things to pages in turn until one fails. -/
def doAll {α : Type} (f : α → State → Nat × State) : List α → State → Nat × State
  | [], s => (0, s)
  | x :: xs, s =>
    let r := f x s
    if r.1 = 0 then doAll f xs r.2 else r

/-- A step page joins those of its site. -/
def addStepPage (site : Nat) (q : Nat × Nat) (y : District) : District :=
  let ps := if y.stepPages.any (fun z => z.1 == site) then
      y.stepPages.map fun z => if z.1 = site then (z.1, z.2 ++ [q]) else z
    else y.stepPages ++ [(site, [q])]
  { y with stepPages := ps }

/-- The step pages of a district on a site: a set of four for each micro-batch in flight and one more (R296). -/
def stepPagesOn (d site sets : Nat) (s : State) : Nat × State :=
  doAll (fun i u =>
    let r := allocMapped d (stepVpn site 0 0 + i) (vaultsOn d site u) u
    match r.1.2 with
    | some q =>
      let v := zeroPage q.1 q.2 r.2
      (0, updDistrict d (addStepPage site q) v)
    | none => (r.1.1, r.2)) (List.range (4 * sets)) s

/-- Sets of step pages of a district on each of its sites (R296). -/
def stepSets (x : Parcel) : Nat := max 1 x.stages + 1

/-- Binds a parcel to a district: weight pages mapped read-only, step pages, letters (R226, R296). A parcel that has left SEALED since the
checks is not bound: PARCEL_STATE. -/
def bindParcel (d p : Nat) (s : State) : Nat × State :=
  let x := getParcel p s
  if x.st ≠ 2 then (22, s) else
  let r := doAll (fun q u => mapPage d (x.pvbase + q.2) q.1.1 q.1.2 false true u) (weightPages x).zipIdx s
  if r.1 ≠ 0 then r
  else
    let s1 := wr .distCfgParcel d p (flag .distCfgPv d r.2)
    let t := doAll (fun k u => stepPagesOn d k (stepSets x) u) (sitesOfDistrict d s1) s1
    if t.1 ≠ 0 then t else (0, (maskCores x).foldl (fun u g => placeLetter d g.1 g.2 u) t.2)

/-- The entries of a district that return to new tables: those of pages that it keeps or its parcel's, and those marked (R233, R234). -/
def keptEntries (d : Nat) (entries : List (Nat × Nat)) (s : State) : List (Nat × Nat) :=
  let mine (e : Nat) : Bool := match (getPage (pteVault e) (ptePage e) s).owner with
    | .district x => x == d
    | .parcel p => bit .distCfgPv d s && rd .distCfgParcel d s == p
    | _ => false
  entries.filter fun y => (pteValid y.2 && mine y.2) || y.2 / 8 % 2 == 1

/-- The district's quota, limit, offset and tables after its clusters have moved, and its new parcel (R239 step 6). Entries of pages
that it keeps return to new tables. -/
def settleChange (c : Change) (entries : List (Nat × Nat)) (binds : Bool) (s : State) : Nat × State :=
  let d := c.district
  let s1 := wr .distResSlots d c.slots (wr .distResPageLimit d c.limit (wr .distCfgOffset d c.offset s))
  let s2 := reshape d (if c.action = 1 then wr .distOwnerId d c.owner s1 else s1)
  if c.clusters.isEmpty then (0, s2)
  else
    let fresh_ := rd .distPtRootAddr d s2 == 0
    let r := if fresh_ then makeRoot d s2 else (0, s2)
    if r.1 ≠ 0 then r
    else
      let keep := if fresh_ then keptEntries d entries s2 else []
      let t := doAll (fun y u =>
        let l := makeLeaf d y.1 u
        if l.1 ≠ 0 then l else (0, writeEntry d y.1 y.2 l.2)) keep r.2
      if t.1 ≠ 0 then t else if binds then bindParcel d c.parcel t.2 else t

/-- Dissolving ends: books unbound, grants gone, every block of the district at its reset values; pre-empted streams stay listed
until discarded (R237, R241, R297). -/
def dissolve (d : Nat) (s : State) : State :=
  let books := (List.range 4096).filter fun b => bit .bookBindBound b s && rd .bookBindDistrict b s == d
  let s1 := books.foldl (fun u b => wr .bookBindBound b 0 (wr .bookBindDistrict b 0 u)) s
  let keep (g : GrantE) : Bool := match g with
    | .district x _ => x != d
    | _ => true
  let s2 := setEng { s1.eng with grants := s1.eng.grants.filter fun x => keep x.2 } s1
  let pre := (getDistrict d s2).preempted
  setDistrict d { preempted := pre } (clearRegs (fun f i => ((regInfo f).blk == .dist || (regInfo f).blk == .kvd || (regInfo f).blk == .sodist) && i == d) s2)

/-- One change's release, with the entries of its tables as they stood. -/
structure Released where
  change : Change
  pages : List (Nat × Nat)
  entries : List (Nat × Nat)
  binds : Bool

def releaseAll : List Change → State → List Released × State
  | [], s => ([], s)
  | c :: cs, s =>
    let entries := leafEntries c.district s
    let binds := bindsParcel c s
    let r := releaseChange c s
    let t := releaseAll cs r.2
    ({ change := c, pages := r.1, entries := entries, binds := binds } :: t.1, t.2)

def settleAll : List Released → State → List Nat × State
  | [], s => ([], s)
  | r :: rs, s =>
    let t := if r.change.action = 2 then (0, dissolve r.change.district s) else settleChange r.change r.entries r.binds s
    let u := settleAll rs t.2
    (t.1 :: u.1, u.2)

/-- Steps 4 to 6 of R239 after the streams have gone: the status of each change, and each change's released pages. -/
def carryOut (cs : List Change) (s : State) : (List Nat × List Released) × State :=
  let r := releaseAll cs s
  let t := settleAll r.1 (moveClusters cs r.2)
  ((t.1, r.1), t.2)

/-- The state without the streams that a change ends or pre-empts. -/
def withoutStreams (cs : List Change) (s : State) : State :=
  cs.foldl (fun u c => if c.streams = 0 then u
    else (u.sort.streams.filter fun x => x.2.st != .free && x.2.district == c.district).foldl (fun v x => freeStream x.1 v) u) s

/-- The changes tried on a copy from which the streams that will go have gone (log 51). -/
def tryOut (cs : List Change) (s : State) : List Nat × State :=
  let r := carryOut cs (withoutStreams cs s)
  (r.1.1, r.2)

/-- Pages that a district keeps exceed its new limit. -/
def limitBreaks (c : Change) (s : State) : Bool :=
  c.action != 2 && decide (c.limit < rd .distUsePages c.district (releaseChange c (withoutStreams [c] s)).2)

/-- The page-table and step pages that a change needs once its pages are released: its root, the leaves that it lacks, and step pages on
each site of a new binding (R231, R238, R296). -/
def pagesNeeded (r : Released) (s : State) : Nat :=
  let d := r.change.district
  let x := getParcel r.change.parcel s
  let sites := (r.change.clusters.map (· / 32)).dedup
  let steps := if r.binds then 4 * stepSets x else 0
  let fresh_ := rd .distPtRootAddr d s == 0
  let maps := (if fresh_ then (keptEntries d r.entries s).map (·.1) else []) ++ (if r.binds then (List.range x.pvlen).map (x.pvbase + ·) else []) ++
    sites.flatMap fun k => (List.range steps).map (stepVpn k 0 0 + ·)
  let leaves := ((maps.map (· / 8192)).dedup).filter fun i => fresh_ || (leafAddr d (8192 * i) s).isNone
  if r.change.clusters.isEmpty then 0 else 2 * natBool fresh_ + leaves.length + steps * sites.length

/-- A change's new page-table and step pages do not fit its limit, whatever is free. -/
def limitShort (cs : List Change) (k : Nat) (s : State) : Bool :=
  let r := releaseAll cs (withoutStreams cs s)
  match r.1[k]? with
  | some x => x.change.action != 2 &&
      decide (x.change.limit < rd .distUsePages x.change.district r.2 + pagesNeeded x r.2)
  | none => false

/-- The first change that fails a check. -/
def firstFail (cs : List Change) (f : Change → Nat → Bool) : Option Nat := (List.range cs.length).find? fun k =>
  match cs[k]? with
  | some c => f c k
  | none => false

/-- The first failing check of R238 with the first change that fails it: status and index. -/
def rebindCheck (e : Env) (cs : List Change) (s : State) : Option (Nat × Nat) :=
  let st (c : Change) : Nat := rd .distCfgState c.district s
  let f (status : Nat) (p : Change → Nat → Bool) : Option (Nat × Nat) := (firstFail cs p).map fun k => (status, k)
  (f 1 fun c k => !changeValid e cs c k) <|>
  (f 18 fun c _ => if c.action = 1 then st c != 0 else st c == 0) <|>
  (f 19 fun c _ => st c == 2 || ((st c == 3 || st c == 4) && c.action != 2)) <|>
  (f 20 fun c _ => clusterTaken cs c s) <|>
  (f 21 fun c _ => c.clusters.any fun k => bit .brsiteStatusLost (k / 32) s) <|>
  (f 22 fun c _ => parcelRefused cs c s) <|>
  (f 23 fun c _ => c.pv && (getParcel c.parcel s).table.map (·.1) != c.clusters) <|>
  (f 29 fun c _ => slotsBreak cs c s) <|>
  (f 30 fun c _ => limitBreaks c s) <|>
  (f 30 fun _ k => limitShort cs k s) <|>
  (f 31 fun _ k => (tryOut cs s).1.getD k 0 != 0) <|>
  (f 32 fun c _ => c.streams == 0 && (c.action == 2 || losesClusters c s || changesParcel c s) && 0 < rd .distUseSlots c.district s)

/-- The pages that the changes will take: kept off the free lists until they run (R231). -/
def takenPages (after s : State) : List (Nat × Nat) :=
  (after.pages.filter fun x => pageOnList (tget pageFree s.pages x.1) && !pageOnList x.2).map fun x => (x.1 / 768, x.1 % 768)

def setReserved (on : Bool) (ps : List (Nat × Nat)) (s : State) : State :=
  ps.foldl (fun u q => setPage q.1 q.2 { getPage q.1 q.2 u with reserved := on } u) s

/-- REBIND: the checks, and from acceptance REBINDING (R238, R239). -/
def rebind (e : Env) (s : State) : Option Ans × State :=
  let n := pNat e 0 1
  let cs := (List.range n).map (parseChange e)
  match rebindCheck e cs s with
  | some (st, k) => (some { status := st, detail := k }, s)
  | none =>
    if e.cls ≠ .mgmt ∧ e.cls ≠ .hosts then (some (refuse 4), s)
    else
      let cs' := cs.map fun c => if rd .distCfgState c.district s = 4 then { c with zero := true } else c
      let ps := takenPages (tryOut cs' s).2 s
      let s1 := setReserved true ps s
      (none, setBoot { s1.boot with rebinds := s1.boot.rebinds ++ [⟨e, cs', ps⟩] }
        (cs'.foldl (fun u c => wr .distCfgState c.district 2 u) s1))

/-- A core that is idle with no channel BUSY: it runs no letter, or waits for the release of a step (R239). -/
def coreAtRest (c : Core) : Bool := (goState c.st || c.st == .roundWait) && !busyIn 255 c

/-- Steps 2 and 3 are over: no step runs, and every core of a cluster that changes district is idle with no channel BUSY. -/
def rebindQuiet (cs : List Change) (s : State) : Bool :=
  let moved := movedClusters cs s
  (cs.all fun c => !(getDistrict c.district s).running) &&
    s.cores.cores.all fun p => coreAtRest p.2 || !moved.contains (clusterOf p.1)

/-- A fault has ended a change (R243): its status. -/
def changeLost (c : Change) (s : State) : Nat :=
  if c.clusters.any fun k => bit .brsiteStatusLost (k / 32) s then 21
  else if rd .distCfgState c.district s = 3 ∨ rd .distCfgState c.district s = 4 then 19
  else 0

/-- Near-memory operations and appends of a district end (R239 step 3, R185). -/
def quiesce (d : Nat) (s : State) : State :=
  let s1 := s.engines.foldl (fun u x => nmAbort x.1 (fun o => o.district == some d) 15 u) s
  let mine (u : State) (a : Append) : Bool := match apStream a u with
    | some x => x.district == d
    | none => false
  (s1.kvSites.map (·.1)).foldl
    (fun u k => (List.range (getKv k u).queue.length).foldl
      (fun v _ => match (getKv k v).queue with
        | a :: _ => if mine v a then
            let w := headAppend k v
            if (getKv k w).queue.length < (getKv k v).queue.length then w else failAppend k v
          else v
        | [] => v) u) s1

/-- Streams are ended, or handed to pre-emption (R239 step 4). -/
def handleStreams (c : Change) (s : State) : State :=
  if c.streams = 1 then (residents c.district s).foldl (fun u k => endAtOnce k 9 u) s
  else if c.streams = 2 then
    (residents c.district s).foldl (fun u k => if (getStream k u).pre = 0 then startPreempt k none u else u) s
  else s

/-- The streams that are to leave have left. -/
def streamsGone (cs : List Change) (s : State) : Bool := cs.all fun c => c.streams == 0 || (residents c.district s).isEmpty

/-- Shadows of a mirror that is dissolved or unbound go (R343). -/
def dropShadows (c : Change) (s : State) : State :=
  if c.action = 2 ∨ c.clusters = [] then
    (s.sort.streams.filter fun x => x.2.shadow && x.2.district == c.district).foldl (fun u x => freeStream x.1 u) s
  else s

/-- Step 8: released pages zeroed and marked with no last owner. -/
def zeroReleased (r : Released) (s : State) : State :=
  if !r.change.zero then s
  else (r.pages.filter fun q => pageOnList (getPage q.1 q.2 s)).foldl
    (fun u q => setPage q.1 q.2 { getPage q.1 q.2 u with last := none } (zeroPage q.1 q.2 u)) s

/-- A change that a fault has ended leaves its district in use as before, or never formed, unless the fault has failed it (R243). -/
def giveBack (c : Change) (s : State) : State :=
  if changeLost c s = 0 ∨ rd .distCfgState c.district s ≠ 2 then s
  else wr .distCfgState c.district (if c.action = 1 then 0 else 1) s

/-- Steps 4 to 8 of a re-binding whose streams have gone, over the changes that no fault has ended. Held submits go to `submit` at
step 7. -/
def finishRebind (submit : Env → State → State) (r : Rebinding) (live : List Change) (s : State) : State :=
  let s1 := setReserved false r.pages (setBoot { s.boot with rebinds := s.boot.rebinds.erase r } s)
  let t := carryOut live (live.foldl (fun u c => dropShadows c u) s1)
  let s2 := live.foldl (fun u c => wr .distCfgState c.district (if c.action = 2 then 0 else 1) u) t.2
  let s3 := t.1.2.foldl (fun u x => zeroReleased x u) (r.changes.foldl (fun u c => giveBack c u) s2)
  let status (c : Change) : Nat :=
    if changeLost c s ≠ 0 then changeLost c s
    else ((live.zip t.1.1).find? fun x => x.1.district == c.district).elim 0 (·.2)
  let s4 := reply 0x0101 r.env { status := 0, result := r.changes.flatMap fun c => natLe 2 (status c) } s3
  let held := r.changes.flatMap fun c => (getDistrict c.district s).held
  let s5 := r.changes.foldl (fun u c => updDistrict c.district (fun x => { x with held := [] }) u) s4
  held.foldl (fun u e => submit e u) s5

/-- One re-binding from Q (R239). With pre-emptions still under way it stops after handing the streams over, and goes on when the command
is given again. -/
def runOne (submit : Env → State → State) (r : Rebinding) (s : State) : State :=
  if !rebindQuiet r.changes s then s
  else
    let live := r.changes.filter fun c => changeLost c s == 0
    let s1 := live.foldl (fun u c => handleStreams c (quiesce c.district u)) s
    if streamsGone live s1 then finishRebind submit r live s1 else s1

/-- The re-bindings that wait run, alongside each other and not during a recovery (R242). -/
def rebindRun (submit : Env → State → State) (s : State) : State :=
  if recovering s then s else s.boot.rebinds.foldl (fun u r => runOne submit r u) s

end Sys2Proof.Machine
end

