-- ==== Sys2Proof/Machine/Boot.lean ====
section
/-!
DEFINITION. Bring-up of sites and of the device (R456 to R468), device resets (R452), the site reset (R469), the stop and its
record (R446 to R449), the clerk's starts (R370, R380, R381), function resets (R368, R503) and the reference clocks (R506).
-/

namespace Sys2Proof.Machine

def setFlash (f : Flash) (s : State) : State := setBoot { s.boot with flash := f } s

/-! New faults (R461). -/

/-- A unit is on record: in the fuse map or the field-repair map. -/
def onRecord (u : BadUnit) (s : State) : Bool :=
  s.boot.flash.fuses.contains u || s.boot.flash.frm.any fun f => f.kind == u.kind && f.site == u.site && f.unit == u.unit && f.detail == u.detail

/-- A page that holds a row the self-test reads: every one in mode 2, those of rows 0 and 511 in mode 1 (R164, R462). -/
def testsPage (mode page : Nat) : Bool := mode == 2 || (mode == 1 && (page % 64 == 0 || page % 64 == 63))

/-- What the start-up tests of a site can find: failing rows only where the self-test of its mode reads them (R164, R459). -/
def findable (u : BadUnit) (s : State) : Bool := u.kind != 4 || testsPage (rd .vsiteSelftestMode u.site s) u.detail

/-- A new fault of a column, via, lane, page or site goes to the field-repair map and the logbook (R461). -/
def recordFault (u : BadUnit) (s : State) : State :=
  if onRecord u s then s else note u.site u.unit u.detail 0 (addFrm u.kind u.site u.unit u.detail s)

/-- What a test finds is recorded; a diode is marked failed, and a site router that fails its check is out of the route set (R459,
R461, R465). -/
def newFault (u : BadUnit) (s : State) : State :=
  if u.kind = 7 then
    let s1 := note u.site 0 0 0 s
    wr .netStatusOut u.site 1 (setNet { s1.net with dead := s1.net.dead.filter (· != u.site) ++ [u.site] } s1)
  else if u.kind = 6 then 
    wr .thsiteStatusDfail u.site (Nat.lor (rd .thsiteStatusDfail u.site s) (2 ^ u.unit))
      (wr (diodeReg u.unit) u.site 0x8000 (note u.site u.unit u.detail 0 s))
  else recordFault u s

/-- The faults that the tests of a start or of a site reset find, and the entries added for each site (R461, R473). -/
def startFaults (found : List BadUnit) (s : State) : State :=
  let s1 := found.foldl (fun u x => newFault x u) s
  (s1.boot.flash.frm.drop s.boot.flash.frm.length).foldl (fun u f => bump .brsiteRepairNew f.site u) s1

/-- Every bad unit of this start: the fuse map, the field-repair map and what the test found (R460). -/
def badUnits (found : List BadUnit) (s : State) : List BadUnit :=
  s.boot.flash.fuses ++ (s.boot.flash.frm.map fun f => ⟨f.kind, f.site, f.unit, f.detail⟩) ++ found

/-! Columns, vias, pages and lanes (R460, R462, R464, R465). -/

/-- A core's bypassed columns (R71, R72, R464). Of three or more bad columns BADA and BADB show the two lowest, both valid: R74 says
nothing of a third (log 119). -/
def setColumns (g : Nat) (cols : List Nat) (field : Bool) (s : State) : State :=
  let cs := cols.dedup.insertionSort (· ≤ ·)
  let n := cs.length
  let put (f v : Reg) (i : Nat) (u : State) : State :=
    match cs[i]? with
    | some c => wr f g c (flag v g u)
    | none => u
  let s1 := put .coreArrayIdBada .coreArrayIdBadaV 0 (put .coreArrayIdBadb .coreArrayIdBadbV 1 s)
  let w := if 2 < n then 0 else 32 - n
  let s2 := wr .coreArrayIdWidth g w (wr .coreArrayIdRetired g (natBool (decide (2 < n))) (wr .coreArrayIdField g (natBool field) s1))
  setCore g (freshCore w (getCore g s).dark) s2

/-- A channel's bad vias (R460). -/
def setVias (g : Nat) (vias : List Nat) (s : State) : State :=
  let vs := vias.dedup
  if 8 < vs.length then wr .vaultStatusChan g 2 s else showSpares g (vs.filter fun v => decide (v < 144)).length s

/-- The distinct units of a kind on a site. -/
def unitsOn (kind k : Nat) (us : List BadUnit) : List Nat := ((us.filter fun u => u.kind == kind && u.site == k).map (·.unit)).dedup

def detailsOf (kind k unit : Nat) (us : List BadUnit) : List Nat :=
  (us.filter fun u => u.kind == kind && u.site == k && u.unit == unit).map (·.detail)

/-- A page is withheld (R462). -/
def withhold (v page : Nat) (s : State) : State := setPage v page { getPage v page s with withheld := true } s

/-- An edge's lanes after training (R460, R465): bad working lanes go to good spares. -/
def setLanes (e : Nat) (lanes : List Nat) (s : State) : State :=
  let ls := lanes.dedup
  let bad := (ls.filter fun l => decide (l < 32)).length
  let used := min bad (2 - (ls.filter fun l => decide (32 ≤ l)).length)
  let act := 32 - (bad - used)
  let bads := (ls.filter fun l => decide (32 ≤ l)).map fun _ => e
  let s0 := setNet { s.net with badSpares := s.net.badSpares.filter (· != e) ++ bads } s
  let s1 := wr .netEdgeSpares e used (wr .netEdgeActive e act s0)
  if act < 16 then wr .netEdgeState e 3 (wr .netEdgeState (otherEnd e) 3 s1) else if act < 32 then wr .netEdgeState e 2 s1 else s1

/-- A cluster's domain comes up: its setpoints, and the minimum-voltage record at the present voltage (R401, R404; log 10). -/
def powerCluster (c : Nat) (s : State) : State :=
  let old (n : Notice) : Bool := n.cluster != c
  let s1 := { s with
    notices := s.notices.filter old,
    power := { s.power with boosts := s.power.boosts.filter old, volt := s.power.volt.filter fun x => x.1 != c } }
  let s2 := clockCluster c s1
  wr .pwrclVminMv c (presentMv c s2) s2

/-- Steps 5 and 6 of bring-up for a site in service, and R460 to R464 (R456, R469). The self-test runs in the mode that its register
holds: the flash configuration's after a device reset, what was written since then at a site reset (R164, R165; log 113). -/
def bringUpSite (k : Nat) (found us : List BadUnit) (s : State) : State :=
  let fl := s.boot.flash
  let frm (g : Nat) : Bool := (detailsOf 1 k g us).any fun c => !fl.fuses.contains ⟨1, k, g, c⟩
  let s0 := { s with vaults := { s.vaults with patrolFrom := tset noBad s.vaults.patrolFrom k s.now } }
  let s1 := wr .kvsiteFreePages k (2048 * 752) (flag .vsiteStatusMarkerDone k s0)
  let bad := unitsOn 4 k us
  let failed := unitsOn 4 k found
  let mode := rd .vsiteSelftestMode k s
  let s2 := if mode ≠ 1 ∧ mode ≠ 2 then s1
    else flag .vsiteSelftestDone k (wr .vsiteSelftestFail k (natBool (!failed.isEmpty)) (wr .vsiteSelftestFailed k failed.length s1))
  let s3 := (unitsOn 1 k us).foldl (fun u g => setColumns (2048 * k + g) (detailsOf 1 k g us) (frm g) u) s2
  let s4 := (unitsOn 2 k us).foldl (fun u g => setVias (2048 * k + g) (detailsOf 2 k g us) u) s3
  let s5 := bad.foldl (fun u v => (detailsOf 4 k v us).foldl (fun w p => withhold (2048 * k + v) p w) u) s4
  let s6 := (List.range 32).foldl (fun u j => powerCluster (32 * k + j) (flag .clbindCClean (32 * k + j) (flag .phStatZeroed (32 * k + j) u))) s5
  showSiteCores k <| showSite k  (wr .brsiteStatusPhase k 6 (flag .brsiteStatusReady k s6))

/-- A site that is lost from the start (R466). -/
def lostSite (k : Nat) (s : State) : State :=
  let s1 := wr .psiteAllotWatts k 0 (wr .netStatusOut k 1 (flag .brsiteStatusLost k s))
  wr .brdevStatusSitesLost 0 (rd .brdevStatusSitesLost 0 s1 + 1) (wr .devSiteLostMask 0 (Nat.lor (rd .devSiteLostMask 0 s1) (2 ^ k)) s1)

/-! Device reset (R452). -/

/-- The block that follows the one a sequence number lies in (R425). -/
def nextBlock (n : Nat) : Nat := (n / 65536 + 1) * 65536

/-- Receipts that wait for their round are closed as they stand. -/
def closeHeld (h : Held) : Held := { h with opened := none }

/-- Everything at its reset values but what R452 keeps: flash, fuses, held receipts, with the logbook, the identities that never
repeat (R286, R425, R448), the firmware banks and the enrolled keys. -/
def deviceReset (s : State) : State :=
  let r := State.reset
  let fw (x : Firmware) : Firmware := { x with starting := false }
  let t : State := { r with
    boot := { flash := s.boot.flash, stop := s.boot.stop, pwrEn := s.boot.pwrEn },
    sort := { r.sort with issued := s.sort.issued, held := s.sort.held.map closeHeld },
    eng := { r.eng with clerk := fw s.eng.clerk, patch := fw s.eng.patch, leaseKeys := s.eng.leaseKeys },
    logbook := s.logbook, logSeq := s.logSeq, outbox := s.outbox, now := s.now, freeCtr := s.freeCtr, pending := s.pending }
  let t1 := wr .energyRseqNext 0 (nextBlock (rd .energyRseqNext 0 s)) (wr .energySseqNext 0 (nextBlock (rd .energySseqNext 0 s)) t)
  ((t1.sort.held.map (·.ring)).dedup).foldl (fun u n => showHeld n u) t1

/-- Registers that come from flash or fuses (R355, R405, R439, R473). -/
def loadFlash (s : State) : State :=
  let f := s.boot.flash
  let s1 := (List.range 32).foldl (fun u p => wr .nolucpPortMode p (f.fabricModes / 4 ^ p % 4) u) s
  let s2 := wr .nolucStatusFid 0 f.fid (wr .roundCfgMaster 0 f.fid (wr .roundCfgStandby 0 f.fid s1))
  let s3 := wr .pdevCapCap 0 f.cap (wr .pdevCapLimit 0 f.limit (wr .pdevCapOrder 0 f.order s2))
  let s4 := f.weights.zipIdx.foldl (fun u w => wr .psiteAllotWeight w.2 w.1 u) s3
  let s4 := (List.range 64).foldl (fun u k => wr .vsiteSelftestMode k f.selftest u) s4
  let s5 := wr .thdevCfgRotate 0 f.rotate (wr .thdevCfgFlownom 0 f.flownom (wr .thdevCfgChecker 0 (natBool f.checker) s4))
  setBoot { s5.boot with hostModes := f.hostModes } s5

/-- A cause of a device reset is counted (R473). -/
def countReset (cause : Nat) (s : State) : State :=
  let f := s.boot.flash
  let n := min 65535 (f.resets + 1)
  wr .brdevCauseLast 0 cause (wr .brdevCauseCount 0 n (wr .brdevMapsFuse 0 f.fuses.length
    (wr .brdevMapsField 0 f.frm.length (setFlash { f with resets := n } s))))

/-- The newest SHUTDOWN record since the previous start is shown (R449). -/
def showShutdown (s : State) : State :=
  match s.boot.flash.lastShut with
  | none => wr .thdevLastshutValid 0 0 s
  | some (c, i, r) =>
    let s1 := wr .thdevLastshutCause 0 c (wr .thdevLastshutIndex 0 i (wr .thdevLastshutRseq 0 r (flag .thdevLastshutValid 0 s)))
    events 0x0002 [] 0 (setFlash { s1.boot.flash with lastShut := none } s1)

/-- Which image verifies at a start: 0 the active bank, 1 the previous one only, 2 neither (R381). -/
def chooseBank (ok : Nat) (f : Firmware) : Firmware :=
  if ok = 1 then { f with active := f.other, other := f.active, version := f.otherVersion, otherVersion := f.version } else f

/-- A scheduled patch, staged in the other bank, takes effect; one that fails leaves the bank in use (R381). -/
def startPatch (ok : Nat) (s : State) : State :=
  let f := s.eng.patch
  setEng { s.eng with patch := { (if f.scheduled && ok == 0 then chooseBank 1 f else f) with scheduled := false } } s

/-- READY (R463, R468). The clerk has found the expanders of the ports that came up as root ports (R272). -/
def ready_ (ms : Nat) (exps : List Expander) (s : State) : State :=
  let n := ((List.range 64).filter fun k => bit .brsiteStatusReady k s).length
  let s1 := wr .brdevStatusSitesReady 0 n (wr .brdevStatusPhase 0 6 (wr .brdevTimesReadyMs 0 ms (showUsable s)))
  let root := exps.filter fun x => s1.boot.hostModes / 4 ^ x.1 % 4 == 2
  let s2 := setSort { s1.sort with exps := root.map fun x => (x.1, x.2.1, x.2.2, false) } s1
  let s3 := (List.range 64).foldl (fun u k => showPr k u) s2
  let s4 := applyCap (setPower { s3.power with interval := { first := roundNow s3, startPtp := s3.now }, accounting := accountingSite s3 } s3)
  let s5 := showShutdown (setNet { s4.net with out := outNow s4, down := downNow s4 } s4)
  note 255 0 (rd .devIdUsable 0 s5 + 2 ^ 18 * rd .devIdDegraded 0 s5) 0x0001 s5

/-- The power-on sequence on a device that has been reset (R456 to R468). -/
def bringUp (cause clerkOk patchOk : Nat) (units : List BadUnit) (exps : List Expander) (ms : Nat) (s : State) : State :=
  let s1 := startPatch patchOk (loadFlash (countReset cause s))
  let found := units.filter fun u => findable u s1
  let s1' := startFaults found s1
  let s2 := wr .brdevMapsNew 0 (s1'.boot.flash.frm.length - s1.boot.flash.frm.length) s1'
  let us := badUnits found s2
  let lost := ((us.filter fun u => u.kind == 5).map (·.site)).dedup
  let s3 := (List.range 64).foldl (fun u k => if lost.contains k then lostSite k u else u) s2
  let s4 := (List.range 64).foldl (fun u k => (unitsOn 3 k us).foldl (fun w e => setLanes (4 * k + e) (detailsOf 3 k e us) w) u) s3
  let up := (List.range 64).filter fun k => !lost.contains k
  if clerkOk = 2 ∨ up = [] then wr .brdevStatusPhase 0 7 s4
  else
    let s5 := setEng { s4.eng with clerk := { chooseBank clerkOk s4.eng.clerk with starting := true } } s4
    ready_ ms exps (up.foldl (fun u k => bringUpSite k found us u) s5)

/-- A power loss has emptied the postmaster's store: a record names the range of SEQ values issued and not known to have been posted
(R426). -/
def loseHeld (s : State) : State :=
  let f := s.boot.flash
  let rings := (s.sort.held.map (·.ring)).dedup
  let s1 := rings.foldl (fun u n => showHeld n u) (setSort { s.sort with held := [] } s)
  if f.issuedTo ≤ f.postedTo then s1
  else
    addLog { kind := 3, rseq := 0, ptp := 0, round := 0, cls := 1, extra := [f.postedTo, f.issuedTo - 1] }
      (setFlash { f with postedTo := f.issuedTo } s1)

/-- POWER_ON from standby (R456), with the input applied anew or on an edge of PWR_EN. -/
def powerOn (edge : Bool) (clerkOk patchOk : Nat) (found : List BadUnit) (exps : List Expander) (ms : Nat) (s : State) : State :=
  if rd .brdevStatusPhase 0 s ≠ 0 ∧ rd .brdevStatusPhase 0 s ≠ 7 then s
  else
    let s1 := deviceReset s
    let s2 := if edge then s1 else loseHeld s1
    bringUp (if edge then 2 else 1) clerkOk patchOk found exps ms (setBoot { s2.boot with stop := none, pwrEn := true } s2)

/-- MOD_RESET_N low for 10 us (R452, R503): a stop in progress goes first (R447); with PWR_EN low it only holds the standby. -/
def modReset (clerkOk patchOk : Nat) (found : List BadUnit) (exps : List Expander) (ms : Nat) (s : State) : State :=
  if s.boot.stop.isSome || !s.boot.pwrEn then s else bringUp 3 clerkOk patchOk found exps ms (deviceReset s)

/-! Site reset (R469). -/

/-- Streams with their record or a chain on a site end at once. -/
def endSiteStreams (k : Nat) (s : State) : State :=
  let mine := s.sort.streams.filter fun x => x.2.st != .free && !x.2.shadow && (x.1 / 4096 == k || (sitesOf x.1 s).contains k)
  mine.foldl (fun u x => endAtOnce x.1 35 u) (loseRecords k true s)

def unbindSite (k : Nat) (s : State) : State :=
  let ds := districtsOnSite k s
  let s1 := (List.range 32).foldl (fun u j => flag .clbindCClean (32 * k + j) (bindCluster (32 * k + j) none u)) s
  ds.foldl (fun u d => reshape d u) s1

/-- The tests of steps 4 and 5 of a site reset: columns, vias, pages and diodes; its supply, edges and router keep running (R452,
R469). -/
def testsInReset (kind : Nat) : Bool := kind == 1 || kind == 2 || kind == 4 || kind == 6

/-- Signals of a site that is reset go with its cores (R469). -/
def wipeSignals (k : Nat) (s : State) : State :=
  { s with cores := { s.cores with signals := s.cores.signals.filter fun x => siteOf x.dst != k && signalSite x != k } }

/-- Steps 1 to 6 of R469. -/
def siteReset (k : Nat) (units : List BadUnit) (s : State) : State :=
  let s1 := unbindSite k (dropHandlesOn k (endSiteStreams k (loseSums k s)))
  let s2 := (parcelsOn k s1).foldl (fun u p => discardParcel p u) s1
  let s3 := emptyBase k (freeSitePages k (invalidateEntries k s2))
  let s4 := clearSite k (wipeSignals k (wipeCores k (wipeVaults k { s3 with standIns := s3.standIns.filter fun x => siteOf x.1 != k })))
  let found := units.filter fun u => u.site == k && testsInReset u.kind && findable u s4
  let s5 := startFaults found s4
  let us := badUnits found s5
  let s6 := bringUpSite k found us ((unitsOn 3 k us).foldl (fun w e => setLanes (4 * k + e) (detailsOf 3 k e us) w) s5)
  events 0x0003 [] k (resetDone k 1 (showPr k (showUsable s6)))

/-! The stop (R446 to R448). -/

/-- Whole degrees of a site's hottest die, 0 to 255. -/
def siteHot (k : Nat) (s : State) : Nat :=
  let t := (List.range 14).foldl (fun a n => max a (siteTemp k (n + 1) s)) (siteTemp k 0 s)
  min 255 (t / 8).toNat

/-- The values of a SHUTDOWN record (R448). -/
def shutdownExtra (x : Stop) (s : State) : List Nat :=
  let held := s.sort.held.filter fun h => h.ring != 256
  let seqs := held.map (·.seq)
  let lo := seqs.foldl min (seqs.headD 1)
  [x.t0, x.round, x.cause, x.other, x.site, x.sensor, x.trip, rd .pdevStatusVin 0 s, s.power.pin, rd .pdevStatusCapeff 0 s] ++
    ((s.heat.samples.take 10).flatMap fun c => [tempBits c.2.inlet, tempBits c.2.outlet, c.2.flow]) ++
    ((List.range 64).map fun k => siteHot k s) ++ [lo, if seqs = [] then 0 else seqs.foldl max 0, min 65535 held.length]

/-- The rest of the stop: darkness, the record, and standby until the next power-on. Everything in progress is abandoned (R447). -/
def stopSequence (s : State) : State :=
  match s.boot.stop with
  | none => s
  | some x =>
    if !powered s then s
    else
      let s1 := (List.range 2048).foldl (fun u k => darken k u) s
      let rec_ : LogRec := { kind := 1, rseq := 0, ptp := 0, round := 0, cls := 5, site := x.site, extra := shutdownExtra x s }
      let s2 := addLog rec_ s1
      let r := s1.logSeq
      let s3 := setFlash { s2.boot.flash with lastShut := some (x.cause, r % 4096, r) } s2
      deviceReset s3

/-- PWR_EN low for 100 us (R503). -/
def pwrEnFall (s : State) : State :=
  let s1 := setBoot { s.boot with pwrEn := false } s
  if powered s then startStop 11 255 255 0 s1 else s1

/-- No good coolant or input within 10 s (R467). -/
def coolantTimeout (s : State) : State := if rd .brdevStatusPhase 0 s ≠ 0 then s else note 255 0 0 0 s

/-! Functions of a host port (R368, R377). -/

/-- The delivery rings of a port whose function 0 is reset can take no more records: their streams end with RING_LOST (R313). -/
def ringsLost (port : Nat) (s : State) : State :=
  let rings := (List.range 4096).filter fun r => bit .dringCfgEn r s && rd .dringCfgPort r s == port
  let s1 := rings.foldl (fun u r => wr .dringCfgEn r 0 u) s
  (s.sort.streams.filter fun x => x.2.st != .free && !x.2.shadow && rings.contains x.2.ring).foldl
    (fun u x => if x.2.st = .running then updStream x.1 (fun y => { y with fault := 11 }) u
      else beginEnd x.1 11 u) s1

/-- A function-level reset or a hot reset of a function: its rings stop, slips can no longer be posted, its staging buffers are
cleared, and its ERING blocks (R384). -/
def functionReset (port func : Nat) (s : State) : State :=
  let rings := ((List.range 64).map (64 * port + ·)).filter fun n => ringFunc n s == func
  let s1 := rings.foldl
    (fun u n =>
      let out := rd .eringStatusOutst n u
      let v := clearRegs (fun f i => (regInfo f).blk == .ering && i == n) u
      wr .eringStatusOutst n out (wr .eringStatusIdle n (natBool (out == 0)) v)) s
  let s2 := setEng { s1.eng with outst := s1.eng.outst.map fun o => if rings.contains o.ring then { o with dead := true } else o } s1
  let boxes := (List.range 64).filter fun m => mboxToFw m && mboxPort m == port && mboxFunc m s2 == func
  let s3 := setEng { s2.eng with staging := s2.eng.staging.filter fun x => !boxes.contains (x.1 / 256) } s2
  if func = 0 then ringsLost port s3 else s3

/-- PEp_PERST_N low for a Type-2 port (R503). -/
def perst (port : Nat) (s : State) : State :=
  if s.boot.hostModes / 4 ^ port % 4 ≠ 1 then s else (List.range 8).foldl (fun u f => functionReset port f u) s

/-! Reference clocks (R506). -/

/-- REFCLK0, or both inputs, missing: the source in use, with a NOTE of every change and loss. -/
def refclkLoss (both : Bool) (s : State) : State :=
  let n := if both then 2 else 1
  if s.boot.refclk < n then note 255 0 n 0 (setBoot { s.boot with refclk := n } s) else note 255 0 n 0 s

/-! The clerk (R370, R380, R381). -/

/-- What the postmaster makes of a clerk's request to write a field: a TV field outside a C+P envelope or under its lock is refused and
logged, a cap above the limit is clamped to it and logged (R380). -/
def clerkRequest (inEnvelope : Bool) (f : Reg) (i v : Nat) (s : State) : State :=
  let lim := rd .pdevCapLimit 0 s
  let lock := (f == .pdevCapLimit && bit .devLockCap 0 s) || (f == .vsiteSelftestMode && bit .devLockFlash 0 s)
  if ((regInfo f).acc == .tv && !inEnvelope) || lock then note 255 (f.ctorIdx) v 0 s
  else if f = .pdevCapCap ∧ lim < v then wr f i lim (note 255 (f.ctorIdx) v 0 s)
  else wr f i v s

/-- A clerk silent for 1 s restarts; envelopes that wait for it stay in the store, and a re-binding goes on without it (R369, R370). -/
def clerkWatchdog (s : State) : State :=
  if !clerkUp s then s
  else
    let s1 := wr .brdevStatusClerkUp 0 0 (setEng { s.eng with clerk := { s.eng.clerk with starting := true } } s)
    let fs := s1.eng.fences
    fs.foldl (fun u f => reply 0x0202 f.env (refuse 11) u) (setEng { s1.eng with fences := [] } s1)

/-- A clerk image not up within 5 s: the previous bank is restarted and the failure is logged (R381). -/
def clerkTimeout (s : State) : State :=
  if !s.eng.clerk.starting then s
  else note 255 0 s.eng.clerk.version 0 (setEng { s.eng with clerk := chooseBank 1 s.eng.clerk } s)

/-- The rollback counter rises to the version of an image that has run for 60 s (R381). -/
def rollbackRaise (image : Nat) (s : State) : State :=
  if image = 1 then
    let f := s.eng.clerk
    if f.starting then s else setEng { s.eng with clerk := { f with rollback := max f.rollback f.version } } s
  else
    let f := s.eng.patch
    setEng { s.eng with patch := { f with rollback := max f.rollback f.version } } s

end Sys2Proof.Machine
end

