-- ==== Sys2Proof/Machine/MemoryEnv.lean ====
section
/-!
DEFINITION. Envelopes over memory: PARCEL_RESERVE, PARCEL_SEAL, PARCEL_DISCARD, GRANT, FILL, FENCE, COPY, ATOMIC, SWAPPOOL and
NM_SUBMIT (R158, R159, R172, R180, R224, R236, R372). For each opcode: what the table of R371 says of it, and its body.
-/

namespace Sys2Proof.Machine

/-- What refuses an envelope that names a district: no grant, no such district, a re-binding (R239, R359). -/
def districtGate (e : Env) (d : Nat) (s : State) : Option Ans :=
  if !mayAct e d s then some (refuse 5)
  else if rd .distCfgState d s = 0 then some (refuse 18)
  else if rd .distCfgState d s = 2 then some (refuse 19)
  else none

/-! Parcels (R224, R372, R514). -/

def opParcelReserve (_ : Env) : OpInfo :=
  { code := 0x0110, m := 1, hosts := true, host := false, clerk := true, need := 268, fields := [(0, 1), (8, 260)] }

def doParcelReserve (e : Env) (s : State) : Ans × State :=
  let p := pNat e 0 1
  let bits_ := pNat e 8 256
  let first := pNat e 264 2
  let n := pNat e 266 2
  let ks := (List.range 2048).filter bits_.testBit
  let x : Parcel := { clusters := ks, first := first, npages := n }
  if 64 ≤ p then (refuseAt 1 0, s)
  else if ks = [] then (refuseAt 2 8, s)
  else if n = 0 then (refuseAt 2 266, s)
  else if (getParcel p s).st ≠ 0 then (refuse 22, s)
  else if ks.any fun k => bit .brsiteStatusLost (k / 32) s then (refuse 21, s)
  else if !(reservedPages x).all fun q => decide (752 ≤ q.2) || pageIsFree q.1 q.2 s then (refuse 31, s)
  else if 752 < first + n then (refuseAt 3 264, s)
  else (okAns, reserveParcel p x s)

def opParcelSeal (_ : Env) : OpInfo :=
  { code := 0x0111, m := 1, hosts := true, host := false, clerk := true, need := 1, fields := [(0, 1)] }

def doParcelSeal (e : Env) (s : State) : Ans × State :=
  let p := pNat e 0 1
  if 64 ≤ p then (refuseAt 1 0, s)
  else
    let r := trySeal p s
    if r.1 ≠ 0 then (refuse r.1, r.2) else ({ status := 0, result := natBe 16 ((getParcel p r.2).measure / 2 ^ 256) }, r.2)

def opParcelDiscard (_ : Env) : OpInfo :=
  { code := 0x0112, m := 1, hosts := true, host := false, clerk := true, need := 1, fields := [(0, 1)] }

def doParcelDiscard (e : Env) (s : State) : Ans × State :=
  let p := pNat e 0 1
  let st := (getParcel p s).st
  if 64 ≤ p then (refuseAt 1 0, s)
  else if (boundTo p s).isSome then (refuse 24, s)
  else if st = 0 ∨ st = 4 then (refuse 22, s)
  else (okAns, discardParcel p s)

/-! Grants (R236, R359, R372). -/

def opGrant (_ : Env) : OpInfo :=
  { code := 0x0120, m := 1, hosts := true, host := false, clerk := true, need := 5, fields := [(0, 5)] }

def doGrant (e : Env) (s : State) : Ans × State :=
  let port := pNat e 0 1
  let func := pNat e 1 1
  let entry := pNat e 2 1
  let kind := pNat e 3 1
  let id := pNat e 4 1
  if 4 ≤ port then (refuseAt 1 0, s)
  else if 8 ≤ func then (refuseAt 1 1, s)
  else if 16 ≤ entry then (refuseAt 1 2, s)
  else if 4 ≤ kind then (refuseAt 1 3, s)
  else if (kind = 0 ∧ id ≠ 0) ∨ (kind = 3 ∧ 64 ≤ id) then (refuseAt 1 4, s)
  else if !mayConfigure e port then (refuse 5, s)
  else if (kind = 1 ∨ kind = 2) ∧ rd .distCfgState id s = 2 then (refuse 19, s)
  else
    let g := match kind with
      | 0 => GrantE.none_
      | 1 => .district id false
      | 2 => .district id true
      | _ => .parcel id
    (okAns, setEng { s.eng with grants := tset noGrant s.eng.grants (grantKey port func entry) g } s)

/-! Ranges of vault-local addresses. -/

/-- The pages of a range within one vault. -/
def rangePages (a n : Nat) : List (Nat × Nat) := pagesIn ((vaultLocal a).1, (vaultLocal a).2, n)

/-- A range touches what its source may not act on: page tables, a chain page where it would write (R261), or for a HOST function a
page it has no grant for (R236, R359, R372). -/
def rangeForeign (e : Env) (a n : Nat) (write : Bool) (s : State) : Bool :=
  (rangePages a n).any fun q =>
    match (getPage q.1 q.2 s).owner with
    | .tables _ => true
    | .free => e.cls == .host
    | .district d => !mayAct e d s || ((getPage q.1 q.2 s).chain &&
        (write || e.cls == .mgmt || !holdsGrant e.port.val e.func.val d false s))
    | .parcel _ => e.cls == .host && !grantAllows e.port.val e.func.val q.1 q.2 write s

/-- A range touches a page of a parcel that is sealed (R372). -/
def rangeSealed (a n : Nat) (s : State) : Bool :=
  (rangePages a n).any fun q =>
    match (getPage q.1 q.2 s).owner with
    | .parcel p => parcelSt p s == 2 || parcelSt p s == 3
    | _ => false

/-- A range belongs in part to a district that is re-binding (R239). -/
def rangeBusy (a n : Nat) (s : State) : Bool :=
  (rangePages a n).any fun q =>
    match (getPage q.1 q.2 s).owner with
    | .district d => rd .distCfgState d s == 2
    | _ => false

/-- A vault-local range lies in one vault and meets no hole. -/
def inVault (a n : Nat) : Bool := decide (a % 2 ^ 26 + n ≤ vaultEnd)

/-- What refuses a vault-local range whose address and length are the fields at bytes o and p: the address has 43 bits (R146), the
range ends in its vault (R159). -/
def rangeBad (a n o p : Nat) : Option Ans :=
  if 2 ^ 43 ≤ a then some (refuseAt 1 o) else if !inVault a n then some (refuseAt 3 p) else none

def rangeLost (a : Nat) (s : State) : Bool := bit .brsiteStatusLost (a / 2 ^ 37) s

/-! FILL (R159). -/

def opFill (e : Env) : OpInfo :=
  let n := pNat e 32 2
  { code := 0x0201, m := 1, hosts := true, host := true, clerk := true, need := 34, counts := [(32, n, 249, 104 + 16 * n)],
    fields := [(0, 34), (40, 16 * n)] }

def fillRanges (e : Env) : List (Nat × Nat × Nat) :=
  (List.range (pNat e 32 2)).map fun r => (r, pNat e (40 + 16 * r) 8, pNat e (48 + 16 * r) 8)

/-- The first range that breaks R159, and what refuses it. -/
def fillBad (e : Env) : Option Ans :=
  (fillRanges e).findSome? fun x =>
    let o := 40 + 16 * x.1
    if x.2.2 = 0 then some (refuseAt 2 (o + 8))
    else if x.2.1 % 4096 ≠ 0 then some (refuseAt 1 o)
    else if x.2.2 % 4096 ≠ 0 then some (refuseAt 1 (o + 8))
    else rangeBad x.2.1 x.2.2 o (o + 8)

def doFill (e : Env) (s : State) : Ans × State :=
  match fillBad e with
  | some a => (a, s)
  | none =>
    let rs := (fillRanges e).map (·.2)
    if rs.any fun r => rangeForeign e r.1 r.2 true s then (refuse 5, s)
    else if rs.any fun r => rangeSealed r.1 r.2 s then (refuse 22, s)
    else if rs.any fun r => rangeBusy r.1 r.2 s then (refuse 19, s)
    else if rs.any fun r => rangeLost r.1 s then (refuse 21, s)
    else (okAns, fillPieces (rs.map fun r => ((vaultLocal r.1).1, (vaultLocal r.1).2, r.2)) (pBytes e 0 32) s)

/-! FENCE (R180, R372). -/

def opFence (_ : Env) : OpInfo :=
  { code := 0x0202, m := 1, hosts := true, host := true, clerk := true, need := 16, fields := [(0, 16)] }

/-- The fence replies at once, or once the operations that touch its range have completed; a FILL or COPY accepted before it has. -/
def doFence (e : Env) (s : State) : Option Ans × State :=
  let a := pNat e 0 8
  let n := pNat e 8 8
  if n = 0 then (some (refuseAt 2 8), s)
  else if (rangeBad a n 0 8).isSome then (rangeBad a n 0 8, s)
  else if rangeForeign e a n false s then (some (refuse 5), s)
  else
    let ops := fenceOps (vaultLocal a).1 (vaultLocal a).2 n s
    if ops = [] then (some okAns, s) else (none, setEng { s.eng with fences := s.eng.fences ++ [⟨e, ops⟩] } s)

/-! COPY (R372). -/

def opCopy (_ : Env) : OpInfo :=
  { code := 0x0203, m := 1, hosts := true, host := true, clerk := true, need := 20, fields := [(0, 20)] }

/-- The bytes are read whole and then written. A source word that cannot be delivered ends the copy with NEAR_MEMORY's status and
writes nothing; a destination word whose write is lost ends it there (log 55). Both sides are the side door's (R372: VC3); VAULT.ERRADDR.SRC records 5 (log 102). -/
def doCopy (e : Env) (s : State) : Ans × State :=
  let a := pNat e 0 8
  let b := pNat e 8 8
  let n := pNat e 16 4
  if n = 0 then (refuseAt 2 16, s)
  else if n % 32 ≠ 0 then (refuseAt 1 16, s)
  else
    match rangeBad a n 0 16 <|> rangeBad b n 8 16 with
    | some r => (r, s)
    | none =>
      if rangeForeign e a n false s || rangeForeign e b n true s then (refuse 5, s)
      else if rangeSealed a n s || rangeSealed b n s then (refuse 22, s)
      else if rangeBusy a n s || rangeBusy b n s then (refuse 19, s)
      else if rangeLost a s || rangeLost b s then (refuse 21, s)
      else
        let r := vreadBytes (vaultLocal a).1 (vaultLocal a).2 n srcSide s
        match r.1.2 with
        | some _ => ({ status := 9, detail := 13 }, r.2)
        | none =>
          let w := if unreachable (siteOf (vaultLocal a).1) (siteOf (vaultLocal b).1) r.2 then
              (some (vaultLocal b).2, flag .netStatusUnreach (siteOf (vaultLocal a).1) r.2)
            else vwrite (vaultLocal b).1 (vaultLocal b).2 srcSide r.1.1 r.2
          if w.1.isSome then ({ status := 9, detail := 14 }, w.2) else (okAns, w.2)

/-! ATOMIC (R158, R372). -/

def opAtomic (_ : Env) : OpInfo :=
  { code := 0x0204, m := 1, hosts := true, host := true, need := 32, fields := [(0, 2), (8, 24)] }

/-- The new value of a field: ADD, SWAP, CAS, MAX (R158). -/
def atomicNew (op size old a b : Nat) : Nat :=
  let m := 2 ^ (8 * size)
  match op with
  | 1 => (old + a) % m
  | 2 => a % m
  | 3 => if old = a % m then b % m else old
  | _ => max old (a % m)

/-- ATOMIC (R158, R372). Its accesses count as the host's: VAULT.ERRADDR.SRC records 4 (log 102). A field with an uncorrectable byte
answers as a COPY does and stays (log 55). -/
def doAtomic (e : Env) (s : State) : Ans × State :=
  let op := pNat e 0 1
  let size := pNat e 1 1
  let a := pNat e 8 8
  if op = 0 ∨ 4 < op then (refuseAt 1 0, s)
  else if size ≠ 4 ∧ size ≠ 8 then (refuseAt 1 1, s)
  else if a % size ≠ 0 then (refuseAt 1 8, s)
  else if 2 ^ 43 ≤ a then (refuseAt 1 8, s)
  else if !inVault a size || decide (a % 2 ^ 26 < counterBase) then (refuse 17, s)
  else if rangeForeign e a size true s then (refuse 5, s)
  else if rangeBusy a size s then (refuse 19, s)
  else if rangeLost a s then (refuse 21, s)
  else
    let v := (vaultLocal a).1
    let off := (vaultLocal a).2
    let r := counterBytes v off srcHost size (grantSlots false v 1 s)
    let old := leNat r.1.1
    let new := atomicNew op size old (pNat e 16 8) (pNat e 24 8)
    if r.1.2 then ({ status := 9, detail := 13 }, r.2)
    else ({ status := 0, result := natLe 8 old }, (vwrite v off srcHost (natLe size new) r.2).2)

/-! SWAPPOOL (R372). -/

def opSwappool (op : Nat) (_ : Env) : OpInfo :=
  { code := 0x0205, op := op, m := 1, hosts := true, host := false, clerk := true, need := 24, fields := [(0, 2), (8, 16)] }

def swapRange (e : Env) : Nat × Nat × Nat := (pNat e 1 1, pNat e 8 8, pNat e 16 8)

/-- Port, base and length of a swap-pool envelope are in range. -/
def swapBad (e : Env) : Option Ans :=
  let r := swapRange e
  if 4 ≤ r.1 then some (refuseAt 1 1)
  else if r.2.1 % 65536 ≠ 0 then some (refuseAt 1 8)
  else if r.2.2 = 0 then some (refuseAt 2 16)
  else if r.2.2 % 65536 ≠ 0 then some (refuseAt 1 16)
  else none

def doSwappoolAdd (e : Env) (s : State) : Ans × State :=
  let r := swapRange e
  match swapBad e with
  | some a => (a, s)
  | none =>
    let meets (q : Nat × Nat × Nat) : Bool := q.1 == r.1 && decide (q.2.1 < r.2.1 + r.2.2 ∧ r.2.1 < q.2.1 + q.2.2)
    if 16 ≤ s.sort.pool.length ∨ s.sort.pool.any meets then (refuse 56, s)
    else (okAns, setSort { s.sort with pool := s.sort.pool ++ [r] } s)

def doSwappoolRemove (e : Env) (s : State) : Ans × State :=
  let r := swapRange e
  match swapBad e with
  | some a => (a, s)
  | none =>
    let holds (q : Nat × Nat × Nat) : Bool := q.1 == r.1 && decide (q.2.1 < r.2.1 + r.2.2 ∧ r.2.1 < q.2.1 + q.2.2)
    if !s.sort.pool.contains r || (poolUsed s).any holds then (refuse 56, s)
    else (okAns, setSort { s.sort with pool := s.sort.pool.erase r } s)

/-! NM_SUBMIT (R168, R171, R172). -/

def opNmSubmit (_ : Env) : OpInfo := { code := 0x0301, m := 1, hosts := true, host := true, need := 65, fields := [(0, 65)] }

/-- The site whose engine a descriptor of an envelope names: that of its table (log 54). -/
def nmSite (desc d : Nat) (s : State) : Nat :=
  match nTadm desc with
  | 0 => nTable desc / 2 ^ 37 % 64
  | 2 => nTable desc / 2 ^ 36 % 64
  | _ =>
    match translate d (nTable desc) s with
    | some t => pteVault t / 2048
    | none => rd .distCfgHome d s

def doNmSubmit (e : Env) (s : State) : Option Ans × State :=
  let desc := pNat e 0 64
  let d := pNat e 64 1
  match districtGate e d s with
  | some a => (some a, s)
  | none =>
    let k := nmSite desc d s
    if bit .brsiteStatusLost k s then (some (refuse 21), s)
    else (none, nmSubmit (32 * k + nEngine desc) { desc := desc, district := some d, who := .envelope e } s)

end Sys2Proof.Machine
end

