-- ==== Sys2Proof/Machine/StreamEnv.lean ====
section
/-!
DEFINITION. Envelopes over streams, handles, books, sampling, grammars and rings (R280, R290, R291, R297 to R303, R307, R310, R314,
R426). For each opcode: what the table of R371 says of it, and its body.
-/

namespace Sys2Proof.Machine

/-! Submit (R290, R291). -/

def opSubmit (_ : Env) : OpInfo :=
  { code := 0x0401, m := 0, hosts := true, host := true, late := true, first := true, need := 512, fields := [(0, 4032)] }

/-- An FP32 field is finite. -/
def finite (w : Nat) : Bool :=
  match fp32Val (BitVec.ofNat 32 w) with
  | .fin _ _ _ => true
  | _ => false

def fpOne : Val := fp32Val 0x3F800000#32
def fpZero : Val := .fin false 0 0

/-- Fields of a specification with the bits that R290 gives them: byte, bytes, bits. -/
def specWidths : List (Nat × Nat × Nat) :=
  [(2, 1, 5), (3, 1, 5), (4, 2, 12), (6, 2, 12), (16, 4, 25), (20, 4, 25), (24, 4, 25), (28, 2, 12), (30, 2, 11), (52, 2, 11), (54, 2, 9),
   (56, 1, 3), (57, 1, 5), (58, 2, 0), (60, 4, 20), (64, 6, 43), (70, 2, 0), (72, 4, 25), (76, 2, 13), (78, 1, 7), (79, 1, 7)]

/-- The field of the first reserved bit that is not 0. -/
def specReserved (sp : List Byte) (used : Nat) : Option Nat :=
  ((specWidths.find? fun f => decide (2 ^ f.2.2 ≤ specNat sp f.1 f.2.1)).map (·.1)) <|>
    ((List.range 108).find? fun i => specNat sp (404 + i) 1 != 0).map (404 + ·) <|>
    ((sp.drop used).findIdx? fun b => b != 0).map (used + ·)

/-- A finite number that is less than 0; a zero of either sign is not. -/
def below0 (v : Val) : Bool := vlt v fpZero && !isZero v

/-- Fields of a specification, each with whether it lies in its range (R290). -/
def specChecks (sp : List Byte) : List (Nat × Bool) :=
  let n (off k : Nat) : Nat := specNat sp off k
  let v (off : Nat) : Val := specFp sp off
  let logp := n 1 1 / 16 % 2 == 1
  let rov := n 1 1 / 128 % 2 == 1
  [(2, decide (n 2 1 ≤ 20) && (logp || n 2 1 == 0)), (3, decide (n 3 1 ≤ 16)), (30, decide (n 30 2 ≤ 1024)),
   (32, finite (n 32 4) && !below0 (v 32)), (36, finite (n 36 4) && vlt fpZero (v 36) && !vlt fpOne (v 36)),
   (40, finite (n 40 4) && !below0 (v 40) && !vlt fpOne (v 40)), (44, finite (n 44 4) && vlt fpZero (v 44)), (48, finite (n 48 4)),
   (52, decide (n 52 2 ≤ 1024)), (54, decide (n 54 2 ≤ 256)), (56, decide (n 56 1 ≤ 4)), (64, n 1 1 / 64 % 2 == 0 || n 64 6 == 0),
   (72, !rov || decide (n 72 4 = 0 ∨ (1024 ≤ n 72 4 ∧ n 72 4 ≤ 2 ^ 24))), (76, !rov || decide (1 ≤ n 76 2 ∧ n 76 2 ≤ 4096)),
   (78, !rov || decide (1 ≤ n 78 1 ∧ n 78 1 ≤ 64)), (79, !rov || decide (n 79 1 ≤ 64))] ++
  ((List.range (n 56 1)).map fun q => (400 + q, decide (1 ≤ n (400 + q) 1 ∧ n (400 + q) 1 ≤ 16))) ++
  ((List.range (n 54 2)).map fun i => (516 + 8 * i, finite (n (516 + 8 * i) 4)))

def specRanges (sp : List Byte) : Option Nat := ((specChecks sp).find? fun x => !x.2).map (·.1)

/-- The places of the tokens that a specification names, the first inl of an inline prompt among them. -/
def specTokens (sp : List Byte) (inl : Nat) : List Nat :=
  let n (off k : Nat) : Nat := specNat sp off k
  ((List.range (n 3 1)).map fun i => 80 + 4 * i) ++
    ((List.range (n 56 1)).flatMap fun q => (List.range (n (400 + q) 1)).map fun i => 144 + 64 * q + 4 * i) ++
    ((List.range (n 54 2)).map fun i => 512 + 8 * i) ++ ((List.range inl).map fun i => 512 + 8 * n 54 2 + 4 * i)

/-- The first field of a specification that makes it invalid: reserved bits, then ranges, then tokens at or above VOCAB (R291). -/
def specBad (sp : List Byte) (used inl vocab : Nat) : Option Nat :=
  specReserved sp used <|> specRanges sp <|> (specTokens sp inl).find? fun o => decide (vocab ≤ specNat sp o 4)

/-- The sampling configuration that a coming step of a district has. -/
def sampOf (d : Nat) (s : State) : Option Samp := (getDistrict d s).sampNext <|> (getDistrict d s).samp

/-- A grammar slot holds a grammar of which a state is given (R307). -/
def gramHas (d slot st : Nat) (s : State) : Bool :=
  match (getDistrict d s).grammars.find? fun g => g.1 == slot with
  | some g =>
    match (gramRead g.2 0 4 s).1 with
    | some n => decide (st < n)
    | none => false
  | none => false

/-- The first check of R291 that a specification fails before anything is allocated. -/
def submitCheck (e : Env) (s : State) : Option Ans :=
  let sp := e.raw.drop 64
  let n (off k : Nat) : Nat := specNat sp off k
  let d := n 0 1
  let inline := n 1 1 / 64 % 2 == 1
  let pfx := n 1 1 / 32 % 2 == 1
  let plen := n 16 4
  let area := envLen e - 64
  let inl := if inline then min plen ((area - (512 + 8 * n 54 2)) / 4) else 0
  let used := 512 + 8 * n 54 2 + if inline then 4 * plen else 0
  let h := getHandle (n 28 2) s
  let vocab := (sampOf d s).elim (2 ^ 32) (·.vocab)
  let t := if pfx then h.len else 0
  if e.cls = .mgmt ∨ e.cls = .peer then some (refuse 4)
  else if !mayAct e d s then some (refuse 5)
  else if (specBad sp used inl vocab).isSome then some (refuseAt 1 ((specBad sp used inl vocab).getD 0))
  else if plen = 0 then some (refuseAt 2 16)
  else if n 20 4 = 0 then some (refuseAt 2 20)
  else if n 24 4 = 0 then some (refuseAt 2 24)
  else if 2 ^ 24 < plen then some (refuseAt 3 16)
  else if 2 ^ 24 < n 20 4 then some (refuseAt 3 20)
  else if 2 ^ 24 < n 24 4 then some (refuseAt 3 24)
  else if area < used then some (refuseAt 3 16)
  else if rd .distCfgState d s ≠ 1 then some (refuse 18)
  else if !bit .distCfgPv d s || (sampOf d s).isNone then some (refuse 33)
  else if !bit .bookBindBound (n 4 2) s || rd .bookBindDistrict (n 4 2) s != d then some (refuse 34)
  else if !bit .dringCfgEn (n 6 2) s || rd .dringCfgDistrict (n 6 2) s != d then some (refuse 37)
  else if 2 ^ (rd .dringCfgLog2size (n 6 2) s - 1) ≤ rd .dringStatusStreams (n 6 2) s then some (refuse 38)
  else if n 1 1 / 8 % 2 = 1 ∧ !bit .twinCfgPaired 0 s then some (refuse 40)
  else if pfx && (!h.made || h.released || h.district != d) then some (refuse 41)
  else if pfx && h.measure != (getParcel (rd .distCfgParcel d s) s).measure then some (refuse 42)
  else if n 57 1 / 16 % 2 = 1 ∧ !gramHas d (n 57 1 % 16) (n 60 4) s then some (refuse 44)
  else if n 24 4 < t + plen then some (refuse 48)
  else if rd .distResSlots d s ≤ rd .distUseSlots d s ∨ (freeSlot d s).isNone then some (refuse 29)
  else none

/-- A control block as a submit accepted at a time leaves it (R289, R421). -/
def newControl (sp : List Byte) (now : Nat) : List Byte :=
  let n (off k : Nat) : Nat := specNat sp off k
  let bias := (sp.drop 512).take (8 * n 54 2)
  let inl := if n 1 1 / 64 % 2 = 1 then (sp.drop (512 + 8 * n 54 2)).take (4 * n 16 4) else []
  let fixed := sp.take 512
  let a := fixed ++ bias ++ List.replicate (2048 - bias.length) 0 ++ inl ++ List.replicate (3584 - inl.length) 0 ++ List.replicate 4096 0
  a ++ natLe 4 0 ++ natLe 4 (if n 57 1 / 16 % 2 = 1 then n 60 4 else 0) ++ natLe 46 0 ++ natLe 1 1 ++ natLe 1 (if Config.ptpLocked now then 0 else 8) ++ natLe 8 now ++ List.replicate 6080 0

/-- The record of a stream just accepted (R287, R291). -/
def newStream (d : Nat) (sp : List Byte) (id t ctl base : Nat) (s : State) : Stream :=
  let n (off k : Nat) : Nat := specNat sp off k
  let rov := n 1 1 / 128 % 2 == 1
  { st := .ready, id := id, pclass := n 1 1 % 8, reg := n 1 1 / 8 % 2 == 1, logp := n 1 1 / 16 % 2 == 1, district := d, nalt := n 2 1,
    book := n 4 2, ring := n 6 2, pos := t, pend := t + n 16 4, maxout := n 20 4, ctxmax := n 24 4, lastadm := roundNow s % 2 ^ 32,
    ctl := ctl, kvbase := base * 65536, rthr := if rov then n 72 4 else rd .kvdRetRthr d s, retn := if rov then n 76 2 else rd .kvdRetN d s,
    retw := if rov then n 78 1 else rd .kvdRetW d s, rets := if rov then n 79 1 else rd .kvdRetS d s,
    refs := if n 1 1 / 32 % 2 = 1 then [n 28 2] else [] }

/-- Maps the pages of a handle's chain from page j on, as the stream's own chain names them (R301): status. -/
def adoptPages (slot c : Nat) : Nat → List ChainPage → State → Nat × State
  | _, [], s => (0, s)
  | j, p :: ps, s =>
    let x := getStream slot s
    let r := mapPage x.district (kvPageVpn x (kvWord x.district s) c j) p.vault p.page false false s
    if r.1 ≠ 0 then (r.1, s) else adoptPages slot c (j + 1) ps (updChain slot c (fun y => { y with pages := y.pages ++ [p] }) r.2)

/-- A stream takes the pages of a handle's chain (R301): status, PAGE_LIMIT or NO_PAGES by R231. -/
def adoptChain (slot : Nat) (y : Nat × Chain) (s : State) : Nat × State :=
  let x := getStream slot s
  let s1 := setChain slot y.1 { y.2 with pages := [], head := none, pcs := [], staged := [], attend := [], phase := 1 } s
  if !underLimit x.district (headPages x (kvWord x.district s)) s then (30, s)
  else
    match openHead slot y.1 s1 with
    | none => (31, s)
    | some s2 =>
      let r := adoptPages slot y.1 0 y.2.pages s2
      if r.1 ≠ 0 then (r.1, s) else r

/-- The chains of a handle are adopted in turn. -/
def adoptAll (slot h : Nat) (s : State) : Nat × State :=
  let r := doAll (adoptChain slot) (getHandle h s).chains s
  if r.1 ≠ 0 then r
  else (0, setHandle h { getHandle h r.2 with refs := (getHandle h r.2).refs + 1 } r.2)

/-- STREAM_IDs never repeat (R286; log 8). -/
def nextId (s : State) : Nat := (Config.streamIdBase + s.sort.issued) % 2 ^ 64

/-- Takes a record, a control block, a range of addresses and a handle's chains for a specification (R286 to R291), as a stream
of district d or as a shadow there (R343): status, slot. -/
def placeStream (d id : Nat) (sp : List Byte) (shadow : Bool) (s : State) : (Nat × Nat) × State :=
  let n (off k : Nat) : Nat := specNat sp off k
  let w := kvWord d s
  let pfx := n 1 1 / 32 % 2 == 1
  let t := if pfx then (getHandle (n 28 2) s).len else 0
  let cb := allocCtl d s
  if cb.1.1 ≠ 0 then ((cb.1.1, 0), s)
  else
    match freeRange d (kChains w * kPpc w (n 24 4)) s, freeSlot d s with
    | some base, some slot =>
      let x := { newStream d sp id t cb.1.2 base cb.2 with shadow := shadow }
      let s2 := cbWrite slot 0 (newControl sp s.now) (setStream slot x cb.2)
      let r := if pfx then adoptAll slot (n 28 2) s2 else (0, s2)
      if r.1 ≠ 0 then ((r.1, 0), s)
      else
        let s3 := if pfx then updDistrict d (fun y => { y with look := y.look ++ [slot] }) r.2 else r.2
        ((0, slot), showStream slot d x.ring s3)
    | none, _ => ((49, 0), s)
    | _, none => ((29, 0), s)

/-- An accepted submit, or the status of the allocation that fails (R291). -/
def takeStream (e : Env) (s : State) : Ans × State :=
  let sp := (e.raw.drop 64) ++ List.replicate 4032 0
  let id := nextId s
  let r := placeStream (specNat sp 0 1) id sp false s
  if r.1.1 ≠ 0 then (refuse r.1.1, s)
  else
    let s1 := setSort { r.2.sort with issued := s.sort.issued + 1 } r.2
    let s2 := if twinCut s1 then lapse r.1.2 s1
      else if protects (getStream r.1.2 s1) s1 then
        sendTwin (rd .distCfgHome (specNat sp 0 1) s1) .submitCopy (natLe 8 id ++ e.raw.drop 64 ++ newControl sp s.now) s1 else s1
    ({ status := 0, result := natLe 8 r.1.2 ++ natLe 8 id }, s2)

/-- SUBMIT: held while the district re-binds (R239, R291). -/
def doSubmit (e : Env) (s : State) : Option Ans × State :=
  let d := pNat e 0 1
  if rd .distCfgState d s = 2 then (none, updDistrict d (fun x => { x with held := x.held ++ [e] }) s)
  else
    match submitCheck e s with
    | some a => (some a, s)
    | none => let r := takeStream e s; (some r.1, r.2)

/-- A held submit is checked and answered at step 7 of R239. -/
def submitHeld (e : Env) (s : State) : State := handle (opSubmit e) e (doSubmit e) s

/-! Streams by STREAM_ID (R314, R315). -/

def findStream (id : Nat) (s : State) : Option Nat :=
  (s.sort.streams.find? fun x => x.2.st != .free && !x.2.shadow && x.2.id == id).map (·.1)

/-- The pre-empted stream with a STREAM_ID, its district and image. -/
def findImage (id : Nat) (s : State) : Option (Nat × Image) :=
  s.districts.findSome? fun x => (x.2.preempted.find? fun i => i.stream.id == id && i.tag.isSome).map fun i => (x.1, i)

/-- The resident stream an envelope may act on, or what refuses it. A stream whose running step still has to complete before it is
written out is marked PREEMPTING (R279 step 1, R314). -/
def streamGate (e : Env) (query : Bool) (s : State) : Except Ans Nat :=
  match findStream (pNat e 0 8) s with
  | none => .error (refuse 50)
  | some k =>
    let x := getStream k s
    if !mayAct e x.district s then .error (refuse 5)
    else if !query && rd .distCfgState x.district s == 2 then .error (refuse 19)
    else if x.st = .ending ∨ x.st = .preempting ∨ x.pre = 1 then .error (refuse 50)
    else .ok k

def opStream (code : Nat) (_ : Env) : OpInfo := { code := code, m := 0, hosts := true, host := true, need := 8, fields := [(0, 8)] }

def opCancel (e : Env) : OpInfo := opStream 0x0402 e
def opPreempt (e : Env) : OpInfo := opStream 0x0403 e
def opResume (e : Env) : OpInfo := opStream 0x0404 e
def opQuery (e : Env) : OpInfo := { opStream 0x0407 e with out := 64 }
def opDiscard (e : Env) : OpInfo := opStream 0x0408 e

def doCancel (e : Env) (s : State) : Ans × State :=
  match streamGate e false s with
  | .error a => (a, s)
  | .ok k => (okAns, updStream k (fun x => { x with cancel := true }) s)

/-- PREEMPT replies after its tag is written (R279, R369). -/
def doPreempt (e : Env) (s : State) : Option Ans × State :=
  match streamGate e false s with
  | .error a => (some a, s)
  | .ok k =>
    let x := getStream k s
    if x.cancel then (some (refuse 50), s) else (none, startPreempt k (some e) s)

/-- RESUME: whether the image's tag verifies comes with the command (R280); it replies once the stream is ready. -/
def doResume (e : Env) (s : State) : Option Ans × State :=
  match findImage (pNat e 0 8) s with
  | none => (some (refuse 50), s)
  | some (d, i) =>
    let bar := resumeBar d i s
    if !mayAct e d s then (some (refuse 5), s)
    else if rd .distCfgState d s = 2 then (some (refuse 19), s)
    else if rd .distCfgState d s ≠ 1 then (some (refuse 18), s)
    else if bar = 51 then (some (refuse 51), s)
    else if !e.extOk then (some (refuse 52), s)
    else if bar ≠ 0 then (some (refuse bar), s)
    else (none, setSort { s.sort with resumes := s.sort.resumes ++ [(e, none)] } s)

/-- The record of a stream as QUERY returns it (R287). -/
def recordOf (x : Stream) : List Byte :=
  let st : Nat := match x.st with
    | .free => 0 | .ready => 1 | .running => 2 | .preempting => 3 | .ending => 4
  natLe 8 x.id ++ natLe 1 (st + 16 * x.pclass + 128 * natBool x.reg) ++ natLe 1 (natBool x.logp + 2 * natBool x.cancel + 4 * natBool x.nanlog) ++
    natLe 1 x.district ++ natLe 1 (x.nalt + 32 * x.fails) ++ natLe 2 x.book ++ natLe 2 x.ring ++ natLe 4 x.pos ++ natLe 4 x.pend ++
    natLe 4 x.out ++ natLe 4 x.maxout ++ natLe 4 x.ctxmax ++ natLe 4 x.lastadm ++ natLe 6 x.ctl ++ natLe 6 x.kvbase ++
    natLe 4 x.token ++ natLe 2 (min 65535 x.defers) ++ natLe 1 x.dcause ++ natLe 5 0

def doQuery (e : Env) (s : State) : Ans × State :=
  match streamGate e true s with
  | .error a => (a, s)
  | .ok k => ({ status := 0, out := recordOf (getStream k s) }, s)

/-- DISCARD: the image goes, and the receipt is issued with CANCELLED (R314). -/
def doDiscard (e : Env) (s : State) : Ans × State :=
  match findImage (pNat e 0 8) s with
  | none => (refuse 50, s)
  | some (d, i) =>
    if !mayAct e d s then (refuse 5, s)
    else if rd .distCfgState d s = 2 then (refuse 19, s)
    else
      let s1 := updDistrict d (fun y => { y with preempted := y.preempted.filter fun k => k.stream.id != i.stream.id }) s
      (okAns, issueReceipt i.stream 5 (some ((i.ctl.drop 10248).take 56)) s1)

/-! Handles (R300, R302). -/

def opFreeze (_ : Env) : OpInfo := { code := 0x0405, m := 0, hosts := true, host := true, need := 12, fields := [(0, 12)] }

/-- FREEZE reserves a handle's number and replies; the handle is created by R300. -/
def doFreeze (e : Env) (s : State) : Ans × State :=
  match streamGate e false s with
  | .error a => (a, s)
  | .ok k =>
    let x := getStream k s
    let t := pNat e 8 4
    if t = 0 ∨ x.pos < t then (refuseAt 1 8, s)
    else
      match (List.range 4096).find? fun h => !(getHandle h s).used with
      | none => (refuse 43, s)
      | some h =>
        ({ status := 0, result := natLe 2 h },
         updStream k (fun y => { y with freezes := y.freezes ++ [(h, t)] }) (setHandle h { used := true, district := x.district } s))

def opRelease (_ : Env) : OpInfo := { code := 0x0406, m := 0, hosts := true, host := true, need := 4, fields := [(0, 1), (2, 2)] }

def doRelease (e : Env) (s : State) : Ans × State :=
  let d := pNat e 0 1
  let h := pNat e 2 2
  match districtGate e d s with
  | some a => (a, s)
  | none =>
    let x := getHandle h s
    if 4096 ≤ h ∨ !x.made ∨ x.released = true ∨ x.district ≠ d then (refuse 41, s) else (okAns, releaseHandle h s)

/-! Books (R297, R299). -/

def opBook (op : Nat) (_ : Env) : OpInfo :=
  { code := 0x0501, op := op, m := 1, hosts := true, host := false, clerk := true, need := if op = 1 then 18 else 4, fields := [(0, 18)] }

def bookNamed (b : Nat) (s : State) : Bool := s.sort.streams.any fun x => x.2.st != .free && x.2.book == b

def doBookSet (e : Env) (s : State) : Ans × State :=
  let b := pNat e 0 2
  let p : BookP := { rate := pNat e 4 4, depth := pNat e 8 4, interval := pNat e 12 2, win := pNat e 14 2, wout := pNat e 16 2 }
  if 4096 ≤ b then (refuseAt 1 0, s)
  else if p.depth = 0 then (refuseAt 1 8, s)
  else if p.interval = 0 ∨ 16384 < p.interval then (refuseAt 1 12, s)
  else if p.depth < p.win + p.wout then (refuse 35, s)
  else if bit .bookBindBound b s && rd .distCfgState (rd .bookBindDistrict b s) s == 2 then (refuse 19, s)
  else (okAns, setBook b { getBook b s with pend := some (p, roundNow s) } s)

def doBookBind (e : Env) (s : State) : Ans × State :=
  let b := pNat e 0 2
  let d := pNat e 3 1
  if 4096 ≤ b then (refuseAt 1 0, s)
  else
    match districtGate e d s with
    | some a => (a, s)
    | none =>
      if bookNamed b s && rd .bookBindDistrict b s != d then (refuse 36, s)
      else (okAns, wr .bookBindDistrict b d (flag .bookBindBound b (wr .bookLevelLevel b (rd .bookParamDepth b s) s)))

def doBookUnbind (e : Env) (s : State) : Ans × State :=
  let b := pNat e 0 2
  if 4096 ≤ b then (refuseAt 1 0, s)
  else if !bit .bookBindBound b s then (refuse 34, s)
  else if rd .distCfgState (rd .bookBindDistrict b s) s = 2 then (refuse 19, s)
  else if bookNamed b s then (refuse 36, s)
  else (okAns, wr .bookBindDistrict b 0 (wr .bookBindBound b 0 s))

/-! Sampling configuration (R303). -/

def opSampleCfg (e : Env) : OpInfo :=
  let n := pNat e 1 1
  { code := 0x0502, m := 1, hosts := true, host := false, clerk := true, need := 8, counts := [(1, n, 64, 96 + 32 * n)],
    fields := [(0, 2), (4, 4)] ++ (List.range n).flatMap fun i => [(32 + 32 * i, 14), (48 + 32 * i, 13)] }

def parseShard (e : Env) (i : Nat) : Shard :=
  let o := 32 + 32 * i
  ⟨pNat e o 1, pNat e (o + 1) 1, pNat e (o + 2) 2, pNat e (o + 4) 4, pNat e (o + 8) 6, pNat e (o + 16) 4, pNat e (o + 20) 4, pNat e (o + 24) 4,
   pNat e (o + 28) 1 == 1⟩

/-- The first shard with a field outside its range, and the byte. -/
def shardBad (e : Env) : Option Nat :=
  (List.range (pNat e 1 1)).findSome? fun i =>
    let o := 32 + 32 * i
    let h := parseShard e i
    if 64 ≤ h.site then some o
    else if 16 ≤ h.sem then some (o + 1)
    else if h.count = 0 then some (o + 2)
    else if 131072 ≤ h.tcore then some (o + 4)
    else if 2 ^ 43 ≤ h.lgbase then some (o + 8)
    else if 1 < pNat e (o + 28) 1 then some (o + 28)
    else none

/-- Shards in site order cover the vocabulary without gaps or overlap (R303). -/
def shardsCover (vocab : Nat) : Nat → Option Nat → List Shard → Bool
  | at_, _, [] => at_ == vocab
  | at_, prev, h :: t =>
    h.vfirst == at_ && decide (0 < h.vcount) && (match prev with
      | some p => decide (p < h.site)
      | none => true) && shardsCover vocab (at_ + h.vcount) (some h.site) t

def doSampleCfg (e : Env) (s : State) : Ans × State :=
  let d := pNat e 0 1
  let vocab := pNat e 4 4
  let hs := (List.range (pNat e 1 1)).map (parseShard e)
  if vocab < 2 ∨ 2 ^ 20 < vocab then (refuseAt 1 4, s)
  else
    match shardBad e with
    | some o => (refuseAt 1 o, s)
    | none =>
      match districtGate e d s with
      | some a => (a, s)
      | none =>
        let sorted := hs.insertionSort fun a b => a.site ≤ b.site
        if !shardsCover vocab 0 none sorted then (refuse 47, s)
        else (okAns, updDistrict d (fun x => { x with sampNext := some ⟨vocab, sorted⟩ }) s)

/-! Grammars (R307). -/

def opGrammar (op : Nat) (_ : Env) : OpInfo :=
  { code := 0x0503, op := op, m := 1, hosts := true, host := true, clerk := true, need := if op = 1 then 20 else 3,
    fields := [(0, 3), (8, 6), (16, 4)] }

/-- A resident stream of the district names the slot. -/
def gramNamed (d g : Nat) (s : State) : Bool :=
  s.sort.streams.any fun x => x.2.st != .free && x.2.district == d && cbNat x.1 57 1 s % 32 == 16 + g

/-- The edges of a state are sorted by FIRST, do not overlap, and lead to states. -/
def edgesOk (nst : Nat) : Option Nat → List Nat → Bool
  | _, [] => true
  | prev, w :: ws =>
    let a := w % 2 ^ 20
    let b := w / 2 ^ 20 % 2 ^ 20
    decide (a ≤ b) && decide (w / 2 ^ 40 % 2 ^ 20 < nst) && decide (w < 2 ^ 60) && (match prev with
      | some p => decide (p < a)
      | none => true) && edgesOk nst (some b) ws

/-- A grammar table is well formed (R307). -/
def grammarOk (b : List Byte) : Bool :=
  let nst := at_ b 0 4
  let ne := at_ b 4 4
  decide (1 ≤ nst ∧ nst ≤ 2 ^ 20) && decide (1 ≤ ne ∧ ne ≤ 2 ^ 24) && decide (32 + 8 * nst + 8 * ne ≤ b.length) &&
    (List.range nst).all fun i =>
      let w := at_ b (32 + 8 * i) 8
      let n := w / 2 ^ 24 % 2 ^ 16
      decide (w < 2 ^ 41) && decide (w % 2 ^ 24 + n ≤ ne) &&
        edgesOk nst none ((List.range n).map fun j => at_ b (32 + 8 * nst + 8 * (w % 2 ^ 24 + j)) 8)

/-- Unloads a slot, freeing its pages. -/
def unloadGrammar (d g : Nat) (s : State) : State :=
  match (getDistrict d s).grammars.find? fun x => x.1 == g with
  | none => s
  | some x =>
    updDistrict d (fun y => { y with grammars := y.grammars.filter fun z => z.1 != g })
      (x.2.pages.foldl (fun u q => freePage d q.1 q.2 u) s)

/-- Takes one coded page of the district's home site: a status, and the page where there is one. -/
def takeOne (d : Nat) (s : State) : (Nat × Option (Nat × Nat)) × State :=
  if !underLimit d 1 s then ((30, none), s)
  else
    match findPage (vaultsOn d (rd .distCfgHome d s) s) true s with
    | none => ((31, none), s)
    | some q => ((0, some q), takePage d q.1 q.2 (.district d) s)

/-- Takes n coded pages of the district's home site: status and pages. -/
def takePages (d : Nat) : Nat → State → (Nat × List (Nat × Nat)) × State
  | 0, s => ((0, []), s)
  | n + 1, s =>
    let r := takeOne d s
    match r.1.2 with
    | none => ((r.1.1, []), r.2)
    | some q =>
      let t := takePages d n r.2
      ((t.1.1, q :: t.1.2), t.2)

/-- The pages under a district virtual range lie on the home site. -/
def onHome (d va n : Nat) (s : State) : Bool :=
  (List.range ((va + n - 1) / 65536 + 1 - va / 65536)).all fun i =>
    match dvaTarget d ((va / 65536 + i) * 65536) false s with
    | some t => siteOf t.1 == rd .distCfgHome d s
    | none => false

/-- GRAMMAR_LOAD (R307, R371): a table that cannot be read, is not well formed or cannot be written whole is GRAMMAR_BAD (log 124). -/
def doGrammarLoad (e : Env) (s : State) : Ans × State :=
  let d := pNat e 0 1
  let g := pNat e 1 1
  let va := pNat e 8 6
  let n := pNat e 16 4
  if 16 ≤ g then (refuseAt 1 1, s)
  else if 2 ^ 43 ≤ va then (refuseAt 1 8, s)
  else if n = 0 then (refuseAt 2 16, s)
  else if n = 2 ^ 32 - 1 then (refuseAt 1 16, s)
  else
    match districtGate e d s with
    | some a => (a, s)
    | none =>
      if gramNamed d g s then (refuse 46, s)
      else if !onHome d va n s then (refuse 6, s)
      else
        let r := dvaReadN d va n srcDispatcher s
        match r.1 with
        | none => (refuse 45, r.2)
        | some b =>
          if !grammarOk b then (refuse 45, r.2)
          else
            let t := takePages d (ceilDiv n 65536) (unloadGrammar d g r.2)
            let w := writePages b t.1.2 t.2
            if t.1.1 ≠ 0 then (refuse t.1.1, r.2)
            else if !w.1 then (refuse 45, t.1.2.foldl (fun u p => freePage d p.1 p.2 u) w.2)
            else (okAns, updDistrict d (fun y => { y with grammars := y.grammars ++ [(g, ⟨t.1.2, n⟩)] }) w.2)

def doGrammarUnload (e : Env) (s : State) : Ans × State :=
  let d := pNat e 0 1
  let g := pNat e 1 1
  if 16 ≤ g then (refuseAt 1 1, s)
  else
    match districtGate e d s with
    | some a => (a, s)
    | none =>
      if !(getDistrict d s).grammars.any fun x => x.1 == g then (refuse 44, s)
      else if gramNamed d g s then (refuse 46, s)
      else (okAns, unloadGrammar d g s)

/-! Delivery rings (R310). -/

def opRing (op : Nat) (_ : Env) : OpInfo :=
  { code := 0x0504, op := op, m := 1, hosts := true, host := false, clerk := true, need := if op = 1 then 24 else 3,
    fields := [(0, 7), (8, 2), (16, 8)] }

/-- A host port is a Type-2 device (R356). -/
def type2 (port : Nat) (s : State) : Bool := s.boot.hostModes / 4 ^ port % 4 == 1

def doRingEnable (e : Env) (s : State) : Ans × State :=
  let r := pNat e 0 2
  let d := pNat e 3 1
  let lg := pNat e 4 1
  let port := pNat e 6 1
  let base := pNat e 16 8
  if 4096 ≤ r then (refuseAt 1 0, s)
  else if lg < 4 ∨ 20 < lg then (refuseAt 1 4, s)
  else if 2 ≤ pNat e 5 1 then (refuseAt 1 5, s)
  else if 4 ≤ port ∨ !type2 port s then (refuseAt 1 6, s)
  else if 2048 ≤ pNat e 8 2 then (refuseAt 1 8, s)
  else if base % 64 ≠ 0 then (refuseAt 1 16, s)
  else if !mayConfigure e port then (refuse 5, s)
  else
    match districtGate e d s with
    | some a => (a, s)
    | none =>
      if bit .dringCfgEn r s then (refuse 37, s)
      else
        let s1 := clearRegs (fun f i => (regInfo f).blk == .dring && i == r) s
        (okAns, flag .dringCfgEn r (wr .dringCfgDistrict r d (wr .dringCfgLog2size r lg (wr .dringCfgR193 r (pNat e 5 1)
          (wr .dringCfgPort r port (wr .dringCfgVector r (pNat e 8 2) (wr .dringBaseAddr r base s1)))))))

def doRingDisable (e : Env) (s : State) : Ans × State :=
  let r := pNat e 0 2
  if 4096 ≤ r then (refuseAt 1 0, s)
  else if !bit .dringCfgEn r s then (refuse 37, s)
  else if !mayConfigure e (rd .dringCfgPort r s) then (refuse 5, s)
  else if rd .distCfgState (rd .dringCfgDistrict r s) s = 2 then (refuse 19, s)
  else if rd .dringStatusStreams r s ≠ 0 then (refuse 39, s)
  else (okAns, wr .dringCfgEn r 0 s)

/-! Receipt rings (R426): BASE.ADDR holds the bits of the base above its 512-byte alignment (log 98). -/

def opReceipts (op : Nat) (_ : Env) : OpInfo :=
  { code := 0x0505, op := op, m := 1, hosts := true, host := false, need := if op = 1 then 16 else 3, fields := [(0, 5), (6, 10)] }

def doReceiptsEnable (e : Env) (s : State) : Ans × State :=
  let r := pNat e 0 2
  let lg := pNat e 4 1
  let port := pNat e 3 1
  if 256 < r then (refuseAt 1 0, s)
  else if 4 ≤ port ∨ !type2 port s then (refuseAt 1 3, s)
  else if lg < 4 ∨ 16 < lg then (refuseAt 1 4, s)
  else if 2048 ≤ pNat e 6 2 then (refuseAt 1 6, s)
  else if pNat e 8 8 % 512 ≠ 0 then (refuseAt 1 8, s)
  else if !mayConfigure e port then (refuse 5, s)
  else if r < 256 ∧ rd .distCfgState r s = 2 then (refuse 19, s)
  else if bit .rringCfgEn r s then (refuse 37, s)
  else
    let s1 := clearRegs (fun f i => (regInfo f).blk == .rring && i == r) s
    (okAns, showHeld r (flag .rringCfgEn r (wr .rringCfgPort r port (wr .rringCfgLog2size r lg (wr .rringCfgVector r (pNat e 6 2)
      (wr .rringBaseAddr r (pNat e 8 8 / 512) s1))))))

def doReceiptsDisable (e : Env) (s : State) : Ans × State :=
  let r := pNat e 0 2
  if 256 < r then (refuseAt 1 0, s)
  else if !bit .rringCfgEn r s then (refuse 37, s)
  else if !mayConfigure e (rd .rringCfgPort r s) then (refuse 5, s)
  else if r < 256 ∧ rd .distCfgState r s = 2 then (refuse 19, s)
  else (okAns, wr .rringCfgEn r 0 s)

end Sys2Proof.Machine
end

