-- ==== Sys2Proof/Machine/DeviceEnv.lean ====
section
/-!
DEFINITION. Envelopes over the device: NOP, DEV_QUERY, CONFIG, LOCK, RESET, TEST, REBIND's row, POWER, THERMAL, LOG_READ, FW_STAGE,
FW_ACTIVATE (R371, R372, R381, R405, R439, R453, R469, R472, R475), and the SPDM responder (R382, R383).
-/

namespace Sys2Proof.Machine

def opNop (_ : Env) : OpInfo := { code := 0x0001, m := 1, hosts := true, host := true, peer := true }
def doNop (_ : Env) (s : State) : Ans × State := (okAns, s)

def opDevQuery (_ : Env) : OpInfo := { code := 0x0002, m := 1, hosts := true, host := true, clerk := true, out := 256 }

/-- The output of DEV_QUERY. -/
def devInfo (s : State) : List Byte :=
  natLe 16 Config.serial ++ natLe 1 (rd .devIdGrade 0 s) ++ natLe 1 (rd .devIdDegraded 0 s) ++ natLe 2 0 ++ natLe 4 (rd .devIdUsable 0 s) ++
    natLe 2 (ownFid s) ++ natLe 6 0 ++ natLe 4 s.eng.clerk.version ++ natLe 4 s.eng.patch.version ++ natLe 4 Config.romVersion ++
    natLe 4 Config.enterprise ++ natLe 208 0

def doDevQuery (_ : Env) (s : State) : Ans × State := ({ status := 0, out := devInfo s }, s)

/-! CONFIG and LOCK. -/

def opConfig (_ : Env) : OpInfo := { code := 0x0003, m := 2, hosts := false, host := false, need := 12, fields := [(0, 2), (4, 8)] }

/-- A configuration item's value is legal: port modes two bits a port (log 10). -/
def configOk (item v : Nat) : Bool :=
  match item with
  | 1 => (List.range 32).all fun p => v / 4 ^ p % 4 != 3
  | 2 => decide (v < 256) && (List.range 4).all fun p => v / 4 ^ p % 4 != 3
  | 3 => decide (v < 3)
  | 4 => decide (v < 1023)
  | _ => false

/-- CONFIG: whether the flash takes the write comes with the command (R373). -/
def doConfig (e : Env) (s : State) : Ans × State :=
  let item := pNat e 0 2
  let v := pNat e 4 8
  let f := s.boot.flash
  if item = 0 ∨ 4 < item then (refuseAt 1 0, s)
  else if !configOk item v then (refuseAt 1 4, s)
  else if bit .devLockFlash 0 s then (refuse 12, s)
  else if !e.extOk then (refuse 57, s)
  else
    let f' := match item with
      | 1 => { f with fabricModes := v }
      | 2 => { f with hostModes := v }
      | 3 => { f with selftest := v }
      | _ => { f with fid := v }
    (okAns, setFlash f' s)

def opLock (_ : Env) : OpInfo := { code := 0x0004, m := 2, hosts := false, host := false, need := 4, fields := [(0, 4)] }

/-- LOCK sets locks; the security lock covers the locks, the cap limit and the keys (R372, R383, R394; log 56). -/
def doLock (e : Env) (s : State) : Ans × State :=
  let m := pNat e 0 4
  if 32 ≤ m then (refuseAt 1 0, s)
  else if bit .devLockSecurity 0 s && m != 0 then (refuse 12, s)
  else
    let s1 := flagIf (m.testBit 0) .devLockSecurity 0 (flagIf (m.testBit 1) .devLockCap 0 (flagIf (m.testBit 2) .devLockFlash 0
      (flagIf (m.testBit 3) .devLockNmsite 0 (flagIf (m.testBit 4) .devLockKeys 0 s))))
    (okAns, if m.testBit 3 then (List.range 64).foldl (fun u k => flag .nmsiteLockLock k u) s1 else s1)

/-! RESET (R372, R453, R469). -/

def opReset (dom : Nat) (_ : Env) : OpInfo :=
  { code := 0x0005, op := dom, m := 1, hosts := true, host := false, clerk := true, need := if dom = 1 then 2 else if dom = 2 then 3 else 6,
    fields := [(0, 3), (4, 2)] }

/-- Some of a list of clusters belong to an ACTIVE or REBINDING district. -/
def busyClusters (ks : List Nat) (s : State) : Bool :=
  ks.any fun k => match clusterDistrict k s with
    | some d => rd .distCfgState d s == 1 || rd .distCfgState d s == 2
    | none => false

/-- The reset of a domain runs (R452, R469, R470). -/
def runReset (e : Env) (s : State) : State :=
  let k := pNat e 1 1
  match pNat e 0 1 with
  | 1 => siteReset k e.found s
  | 2 =>
    match pNat e 2 1 with
    | 0 => bdReset k s
    | 13 => cdReset k s
    | l => dlReset k (l - 1) s
  | _ => resetDone k 5 (coreReset (2048 * k + pNat e 4 2) s)

/-- The domain that a RESET names is in reset, or lies in one that is: the site, or its base die (R453, R470, R473; log 120). -/
def inReset (dom layer k : Nat) (s : State) : Bool :=
  bit .brsiteStatusResetting k s && (rd .brsiteStatusRdomain k s == 1 || dom == 1 || (dom == 2 && layer == 0))

/-- A reset accepted during a recovery waits until it ends (R453). -/
def doReset (e : Env) (s : State) : Option Ans × State :=
  let dom := pNat e 0 1
  let k := pNat e 1 1
  let g := pNat e 4 2
  let ks := if dom = 3 then [clusterOf (2048 * k + g)] else (List.range 32).map (32 * k + ·)
  if 64 ≤ k then (some (refuseAt 1 1), s)
  else if dom = 2 ∧ 13 < pNat e 2 1 then (some (refuseAt 1 2), s)
  else if dom = 3 ∧ 2048 ≤ g then (some (refuseAt 1 4), s)
  else if bit .brsiteStatusLost k s then (some (refuse 21), s)
  else if inReset dom (pNat e 2 1) k s then (some (refuse 7), s)
  else if busyClusters ks s then (some (refuse 55), s)
  else if recovering s then (none, setBoot { s.boot with waiting := s.boot.waiting ++ [(dom, e)] } s)
  else (some okAns, runReset e s)

/-- RESET envelopes that waited run, in order, once no recovery is in progress (R453). -/
def startWaiting (s : State) : State :=
  if recovering s || stopping s then s
  else
    let ws := s.boot.waiting
    ws.foldl
      (fun u w => if bit .brsiteStatusLost (pNat w.2 1 1) u then reply 0x0005 w.2 (refuse 21) u else reply 0x0005 w.2 okAns (runReset w.2 u))
      (setBoot { s.boot with waiting := [] } s)

/-! TEST (R472). -/

def opTest (kind : Nat) (_ : Env) : OpInfo :=
  { code := 0x0006, op := kind, m := 1, hosts := true, host := false, clerk := true, need := if kind = 3 then 4 else 3, fields := [(0, 4)] }

/-- New faults that a TEST found are recorded and counted in RESULT; nothing else takes effect before the next reset (R472). -/
def testFaults (mine : List BadUnit) (s : State) : Ans × State :=
  ({ status := 0, result := natLe 4 (mine.filter fun u => !onRecord u s).length }, mine.foldl (fun u x => recordFault x u) s)

/-- A fabric port carries traffic: it is up, and a route, the round domain or the twin uses it. -/
def portBusy (p : Nat) (s : State) : Bool :=
  portUp p s && (s.fab.routes.any (fun r => r.2.contains p) || (rd .roundCfgDown 0 s).testBit p || rd .roundCfgUp 0 s % 32 == p ||
    rd .roundCfgUp 0 s / 32 == p || (bit .twinCfgPaired 0 s && p % 8 == 0))

def doTest (kind : Nat) (e : Env) (s : State) : Ans × State :=
  let k := pNat e 1 1
  let c := 32 * k + pNat e 2 1
  let found := e.found
  if kind = 3 then
    if 32 ≤ pNat e 3 1 then (refuseAt 1 3, s)
    else if portBusy (pNat e 3 1) s then (refuse 55, s)
    else ({ status := 0, result := natLe 4 found.length }, s)
  else if 64 ≤ k then (refuseAt 1 1, s)
  else if 32 ≤ pNat e 2 1 then (refuseAt 1 2, s)
  else if bit .brsiteStatusLost k s then (refuse 21, s)
  else if bit .brsiteStatusResetting k s then (refuse 7, s)
  else if busyClusters [c] s then (refuse 55, s)
  else if kind = 1 then
    let held := s.pages.any fun x => clusterOf (x.1 / 768) == c && (match x.2.owner with
      | .free => false
      | _ => true)
    if held then (refuse 55, s)
    else
      let r := testFaults (found.filter fun u => u.kind == 4 && u.site == k && clusterOf (2048 * k + u.unit) == c) s
      (r.1, wipeWhere (fun v => clusterOf v == c) r.2)
  else testFaults (found.filter fun u => u.kind == 1 && u.site == k && clusterOf (2048 * k + u.unit) == c) s

/-! REBIND's row of the table. -/

def opRebind (e : Env) : OpInfo :=
  let n := pNat e 0 1
  { code := 0x0101, m := 1, hosts := true, host := false, late := true, clerk := true, need := 8, counts := [(0, n, 8, 72 + 320 * n)],
    fields := [(0, 1), (8, 320 * n)] }

/-! POWER and THERMAL (R405, R439). -/

def opPower (op : Nat) (_ : Env) : OpInfo :=
  { code := 0x0601, op := op, m := if op = 2 then 2 else 1, hosts := op == 1, host := false, need := if op = 1 then 72 else 4,
    fields := if op = 1 then [(0, 1), (2, 3), (8, 64)] else [(0, 1), (2, 2)] }

def doPowerCap (e : Env) (s : State) : Ans × State :=
  let v := pNat e 2 2
  let o := pNat e 4 1
  if v < 800 ∨ 3200 < v then (refuseAt 1 2, s)
  else if 5 < o then (refuseAt 1 4, s)
  else if rd .pdevCapLimit 0 s < v then (refuse 13, s)
  else
    let s1 := (List.range 64).foldl (fun u k => wr .psiteAllotWeight k (pNat e (8 + k) 1) u) (wr .pdevCapCap 0 v (wr .pdevCapOrder 0 o s))
    (okAns, applyCap s1)

def doPowerLimit (e : Env) (s : State) : Ans × State :=
  let v := pNat e 2 2
  if v < 800 ∨ 3200 < v then (refuseAt 1 2, s)
  else if bit .devLockCap 0 s || bit .devLockSecurity 0 s then (refuse 12, s)
  else (okAns, applyCap (wr .pdevCapCap 0 (min v (rd .pdevCapCap 0 s)) (wr .pdevCapLimit 0 v s)))

def opThermal (_ : Env) : OpInfo :=
  { code := 0x0602, m := 1, hosts := true, host := false, clerk := true, need := 5, fields := [(0, 5)] }

def doThermal (e : Env) (s : State) : Ans × State :=
  let f := pNat e 2 2
  if f < 300 ∨ 1000 < f then (refuseAt 1 2, s)
  else if 1 < pNat e 4 1 then (refuseAt 1 4, s)
  else (okAns, clerkRequest true .thdevCfgRotate 0 (pNat e 0 2) (clerkRequest true .thdevCfgFlownom 0 f
    (clerkRequest true .thdevCfgChecker 0 (pNat e 4 1) s)))

/-! LOG_READ (R371, R448, R475). -/

def opLogRead (e : Env) : OpInfo :=
  let n := pNat e 2 2
  { code := 0x0801, m := 1, hosts := true, host := false, need := 4, counts := [(2, n, 4096, 68)], fields := [(0, 4)], out := 256 * n }

/-- A number in decimal ASCII digits. -/
def ascii (n : Nat) : List Byte := (Nat.toDigits 10 n).map fun c => BitVec.ofNat 8 c.toNat

/-- The bytes of a record before its CRC (R448, R475). A NOTE's detail is the model's own text: its numbers (log 47). -/
def logBody (r : LogRec) : List Byte :=
  let x (i : Nat) : Nat := r.extra.getD i 0
  let unsync (t : Nat) : Nat := natBool (!Config.ptpLocked t)
  let head := natLe 2 r.kind ++ natLe 2 256 ++ natLe 4 r.rseq
  let pad (b : List Byte) : List Byte := (b ++ List.replicate 252 0).take 252
  match r.kind with
  | 1 =>
    let cool := (List.range ((r.extra.length - 77) / 3)).flatMap fun i => natLe 2 (x (10 + 3 * i)) ++ natLe 2 (x (11 + 3 * i)) ++ natLe 2 (x (12 + 3 * i))
    let tail := r.extra.drop (r.extra.length - 67)
    pad (head ++ natLe 8 (x 0) ++ natLe 6 (x 1) ++ natLe 1 (x 2) ++ natLe 1 (unsync (x 0)) ++ natLe 4 (x 3) ++ natLe 1 (x 4) ++ natLe 1 (x 5) ++ natLe 2 (x 6) ++
      natLe 2 (x 7) ++ natLe 2 0 ++ natLe 4 (x 8) ++ natLe 2 (x 9) ++ natLe 6 0 ++ ((cool ++ List.replicate 60 0).take 60) ++ natLe 4 0 ++
      ((tail.take 64).flatMap fun h => natLe 1 h) ++ natLe 8 (tail.getD 64 0) ++ natLe 8 (tail.getD 65 0) ++ natLe 2 (tail.getD 66 0))
  | 2 =>
    pad (head ++ natLe 8 r.ptp ++ natLe 6 r.round ++ natLe 1 r.cls ++ natLe 1 (unsync r.ptp + 2 * natBool r.deferred + 4 * natBool r.escalated) ++ natLe 2 r.event ++
      natLe 1 r.site ++ natLe 1 0 ++ natLe 2 r.unit ++ natLe 2 r.detail ++ natLe 4 r.recovery ++ natLe 1 r.outcome ++ natLe 3 0 ++
      natLe 32 ((r.districts.dedup.map fun d => 2 ^ d).sum) ++ natLe 8 r.addr)
  | _ =>
    pad (head ++ natLe 8 r.ptp ++ natLe 6 r.round ++ natLe 1 r.cls ++ natLe 1 0 ++ natLe 2 r.event ++
      (([r.site, r.unit, r.detail] ++ r.extra).flatMap fun n => ascii n ++ [0x20#8]))

def logBytes (r : LogRec) : List Byte := let b := logBody r; b ++ natLe 4 (Config.crc32 b).toNat

/-- The newest record at an index of the logbook. -/
def logAt (i : Nat) (s : State) : List Byte :=
  match s.logbook.reverse.find? fun r => r.rseq % 4096 == i % 4096 with
  | some r => logBytes r
  | none => natLe 256 0

def doLogRead (e : Env) (s : State) : Ans × State :=
  let first := pNat e 0 2
  if 4096 ≤ first then (refuseAt 1 0, s)
  else
    let out := (List.range (pNat e 2 2)).flatMap fun i => logAt (first + i) s
    ({ status := 0, result := natLe 2 ((s.logSeq + 4095) % 4096), out := out }, s)

/-! Firmware (R381). -/

def opFwStage (e : Env) : OpInfo :=
  { code := 0x0901, m := 2, hosts := true, host := false, need := 12,
    fields := [(0, 1), (4, 8)] ++ if hNat e 28 8 = 0 then [(16, 4016)] else [] }

def getFw (image : Nat) (s : State) : Firmware := if image = 1 then s.eng.clerk else s.eng.patch
def setFw (image : Nat) (f : Firmware) (s : State) : State :=
  setEng (if image = 1 then { s.eng with clerk := f } else { s.eng with patch := f }) s

/-- The offset at which the next chunk belongs: a staged image that is complete is followed by a new one (R381; log 116). -/
def stageNext (f : Firmware) : Nat := if f.count = f.total then 0 else f.count

/-- FW_STAGE: the chunk goes into the inactive bank; whether the flash takes the chunk comes with the command (R373). -/
def doFwStage (e : Env) (s : State) : Ans × State :=
  let image := pNat e 0 1
  let off := pNat e 4 4
  let total := pNat e 8 4
  let chunk := if hNat e 28 8 = 0 then (e.raw.take (envLen e)).drop 80 else e.input.take (hNat e 36 4)
  let f := getFw image s
  if image ≠ 1 ∧ image ≠ 2 then (refuseAt 1 0, s)
  else if off ≠ stageNext f then (refuseAt 1 4, s)
  else if total = 0 ∨ chunk = [] then (refuseAt 2 8, s)
  else if total = 2 ^ 32 - 1 then (refuseAt 3 8, s)
  else if off ≠ 0 ∧ total ≠ f.total then (refuseAt 1 8, s)
  else if total < off + chunk.length then (refuseAt 3 8, s)
  else if !e.extOk then (refuse 57, s)
  else
    let bank := f.other.take off ++ chunk
    (okAns, setFw image { f with count := bank.length, total := total, other := bank, otherVersion := Config.imageVersion bank } s)

def opFwActivate (_ : Env) : OpInfo := { code := 0x0902, m := 2, hosts := true, host := false, need := 1, fields := [(0, 1)] }

/-- FW_ACTIVATE: signature, rollback, then a clerk starts and a patch waits for the next device reset. -/
def doFwActivate (e : Env) (s : State) : Ans × State :=
  let image := pNat e 0 1
  let f := getFw image s
  let v := Config.imageVersion f.other
  if image ≠ 1 ∧ image ≠ 2 then (refuseAt 1 0, s)
  else if f.count = 0 ∨ f.count ≠ f.total ∨ !Config.imageSigned f.other then (refuse 14, s)
  else if v < f.rollback then (refuse 15, s)
  else
    let ok : Ans := { status := 0, result := natLe 4 v }
    if image = 1 then
      (ok, wr .brdevStatusClerkUp 0 0 (setFw 1 { f with
        count := 0, total := 0, other := f.active, otherVersion := f.version, active := f.other, version := v, starting := true } s))
    else (ok, setFw 2 { f with count := 0, total := 0, scheduled := true } s)

/-! SPDM (R382, R383). -/

def setSpdm (x : Spdm) (s : State) : State := setEng { s.eng with spdm := x } s

/-- The transport of a request whose bytes begin with its code: 0 MCTP, 1 + p the DOE mailbox of host port p (R382; log 57). -/
def spdmVia (req : List Byte) : Nat := leNat (req.take 1)

/-- The responder hears a transport: MCTP, or the DOE mailbox of function 0 of a Type-2 port (R382). -/
def spdmHears (t : Nat) (s : State) : Bool := t == 0 || (decide (t ≤ 4) && s.boot.hostModes / 4 ^ (t - 1) % 4 == 1)

/-- An answer, its bytes being the responder's (log 5). -/
def spdmAnswer (t code : Nat) (req : List Byte) (s : State) : State := emit (.spdm t code (Config.spdmResponse code req)) s

/-- A request that comes before what it needs is answered with ERROR (DSP0274; log 57). -/
def spdmError (t : Nat) (s : State) : State := emit (.spdm t 0x7F [0x04#8, 0#8]) s

/-- A request on a transport: unheard, refused, or answered (R382). -/
def spdmIf (t : Nat) (ok : Bool) (answer : State → State) (s : State) : State :=
  if !spdmHears t s then s else if ok then answer s else spdmError t s

/-- The algorithms have been negotiated on a transport. -/
def spdmReady (t : Nat) (s : State) : Bool := s.eng.spdm.algorithms.contains t

/-- The transport of a session, and whether it is finished. -/
def sessionOf (n : Nat) (s : State) : Option (Nat × Bool) := (s.eng.spdm.sessions.find? fun x => x.1 == n).map (·.2)

/-- Measurement n of R383, where it is present. -/
def measurement (n : Nat) (s : State) : Option (List Byte) :=
  let h (b : List Byte) : Option (List Byte) := some (natBe 48 (Config.sha384 b).toNat)
  let fl := s.boot.flash
  let units := (fl.fuses.map fun u => [u.kind, u.site, u.unit, u.detail]) ++ fl.frm.map fun u => [u.kind, u.site, u.unit, u.detail]
  if n = 1 then h (natLe 4 Config.romVersion)
  else if n = 2 then h s.eng.patch.active
  else if n = 3 then h s.eng.clerk.active
  else if n = 4 then h (natLe 8 fl.fabricModes ++ natLe 1 fl.hostModes ++ natLe 1 fl.selftest ++ natLe 2 fl.fid)
  else if n = 5 then h (units.flatten.flatMap fun x => natLe 2 x)
  else if n = 6 then h (natLe 1 (rd .devLockSecurity 0 s + 2 * rd .devLockCap 0 s + 4 * rd .devLockFlash 0 s + 8 * rd .devLockNmsite 0 s +
    16 * rd .devLockKeys 0 s) ++ natLe 2 (rd .pdevCapLimit 0 s) ++ s.eng.leaseKeys.flatMap (·.2))
  else if 16 ≤ n ∧ n < 80 ∧ ((getParcel (n - 16) s).st = 2 ∨ (getParcel (n - 16) s).st = 3) then some (natBe 48 (getParcel (n - 16) s).measure)
  else none

/-- The DMTF value type of a measurement: immutable ROM, mutable firmware, hardware or firmware configuration (DSP0274; log 57). -/
def measureType (n : Nat) : Nat := if n = 1 then 0 else if n = 5 then 2 else if n = 4 ∨ n = 6 then 3 else 1

/-- The measurement blocks that a request names, one index or 0xFF for all: index, specification, size, and the DMTF value type, size
and value (R383; DSP0274, log 57). -/
def measurements (index : Nat) (s : State) : List Byte :=
  let ns := if index = 255 then (List.range 80).filter fun n => (measurement n s).isSome else [index]
  ns.flatMap fun n => match measurement n s with
    | some b => natLe 1 n ++ natLe 1 1 ++ natLe 2 51 ++ natLe 1 (measureType n) ++ natLe 2 48 ++ b
    | none => []

end Sys2Proof.Machine
end

