-- ==== Sys2Proof/Machine/FabricEnv.lean ====
section
/-!
DEFINITION. Envelopes over the fabric: FABRIC, ROUND_CFG, JOB, CIRC, TWIN, TWIN_MSG, LEASE_KEY and LEASE_GRANT (R324, R326, R328 to
R342, R347, R351, R371, R372). For each opcode: what the table of R371 says of it, and its body.
-/

namespace Sys2Proof.Machine

/-! FABRIC and ROUND_CFG. -/

def opFabric (e : Env) : OpInfo :=
  let n := pNat e 2 2
  { code := 0x0701, m := 1, hosts := false, host := false, clerk := true, need := 8, counts := [(2, n, 503, 72 + 8 * n)],
    fields := (0, 4) :: (List.range n).flatMap fun i => [(8 + 8 * i, 3), (12 + 8 * i, 4)] }

/-- Route entry i: destination and egress ports (R326). -/
def routeOf (e : Env) (i : Nat) : Nat × List Nat :=
  (pNat e (8 + 8 * i) 2, (List.range (pNat e (10 + 8 * i) 1)).map fun k => pNat e (12 + 8 * i + k) 1)

/-- What refuses route entry i. -/
def routeBad (e : Env) (i : Nat) : Option Ans :=
  let n := pNat e (10 + 8 * i) 1
  if 1023 ≤ pNat e (8 + 8 * i) 2 then some (refuseAt 1 (8 + 8 * i))
  else if n = 0 then some (refuseAt 2 (10 + 8 * i))
  else if 4 < n then some (refuseAt 3 (10 + 8 * i))
  else ((List.range n).find? fun k => 32 ≤ pNat e (12 + 8 * i + k) 1).map fun k => refuseAt 1 (12 + 8 * i + k)

/-- A device that is its own master, or its own standby, stays so under its new FID (R328; log 58). -/
def takeFid (fid : Nat) (s : State) : State :=
  let old := ownFid s
  wr .nolucStatusFid 0 fid (wrIf (rd .roundCfgMaster 0 s == old) .roundCfgMaster 0 fid
    (wrIf (rd .roundCfgStandby 0 s == old) .roundCfgStandby 0 fid s))

/-- FABRIC: the FID, and the route table, which the entries given replace whole (R326; log 58). -/
def doFabric (e : Env) (s : State) : Ans × State :=
  let is := List.range (pNat e 2 2)
  if 1023 ≤ pNat e 0 2 then (refuseAt 1 0, s)
  else
    match is.findSome? (routeBad e) with
    | some a => (a, s)
    | none =>
      let t := is.foldl (fun t i => let r := routeOf e i; tset (fun _ => []) t r.1 r.2) []
      (okAns, takeFid (pNat e 0 2) (setFab { s.fab with routes := t } s))

def opRoundCfg (_ : Env) : OpInfo :=
  { code := 0x0702, m := 1, hosts := false, host := false, clerk := true, need := 16, fields := [(0, 7), (8, 2), (12, 4)] }

/-- The period of R331: a master announces it two rounds ahead; the one that runs takes an earlier announcement back (R328). -/
def announcePeriod (p : Nat) (s : State) : State :=
  if !issues s then s else setFab { s.fab with nperiod := if s.fab.period = p then none else some (p, roundNow s + 3) } s

/-- ROUND_CFG: a new master or standby starts the marker tree afresh (log 59). -/
def doRoundCfg (e : Env) (s : State) : Ans × State :=
  let m := pNat e 0 2
  let b := pNat e 2 2
  let p := pNat e 8 2
  if 1024 ≤ m then (refuseAt 1 0, s)
  else if 1024 ≤ b then (refuseAt 1 2, s)
  else if 32 ≤ pNat e 4 1 then (refuseAt 1 4, s)
  else if 32 ≤ pNat e 5 1 then (refuseAt 1 5, s)
  else if pNat e 6 1 = 0 ∨ 50 < pNat e 6 1 ∨ p < 2 * pNat e 6 1 then (refuseAt 1 6, s)
  else if p < 20 ∨ 10000 < p then (refuseAt 1 8, s)
  else
    let moved := decide (m ≠ rd .roundCfgMaster 0 s ∨ b ≠ rd .roundCfgStandby 0 s)
    let s1 := if moved then setFab { s.fab with deposed := false, acting := false, fly := 0, marker := none, master := none } s else s
    let s2 := wr .roundCfgMaster 0 m (wr .roundCfgStandby 0 b (wr .roundCfgUp 0 (pNat e 4 1 + 32 * pNat e 5 1)
      (wr .roundCfgBudget 0 (pNat e 6 1) (wr .roundCfgPeriod 0 p (wr .roundCfgDown 0 (pNat e 12 4) s1)))))
    (okAns, announcePeriod p s2)

/-! JOB (R334, R335) and CIRC (R351). -/

def opJob (op : Nat) (e : Env) : OpInfo :=
  let n := min 16 (pNat e 4 1)
  { code := 0x0703, op := op, m := 1, hosts := false, host := false, clerk := true, need := if op = 1 then 16 + 2 * n else 2,
    fields := [(0, 5), (6, 6), (16, 2 * n)] }

/-- What a JOB form names that is out of range (R372). -/
def jobBad (e : Env) : Option Ans :=
  let nom := pNat e 10 2
  let n := pNat e 4 1
  if 64 ≤ pNat e 0 1 then some (refuseAt 1 0)
  else if n = 0 ∨ 16 < n then some (refuseAt 1 4)
  else if n ≤ pNat e 3 1 then some (refuseAt 1 3)
  else if 1023 ≤ pNat e 6 2 then some (refuseAt 1 6)
  else if 1023 ≤ pNat e 8 2 then some (refuseAt 1 8)
  else if nom < 500 ∨ 1500 < nom ∨ nom % 10 ≠ 0 then some (refuseAt 1 10)
  else ((List.range n).find? fun i => 1023 ≤ pNat e (16 + 2 * i) 2).map fun i => refuseAt 1 (16 + 2 * i)

/-- JOB, form (R334, R372). A parcel of JOBDEV above 1 is bound only to a member of a job (R226): the job is formed first, and no JOBDEV
or JOBIDX of the parcel bound now refuses it. -/
def doJobForm (e : Env) (s : State) : Ans × State :=
  let j := pNat e 0 1
  let d := pNat e 2 1
  let nom := pNat e 10 2
  match jobBad e with
  | some a => (a, s)
  | none =>
    if rd .distCfgState d s = 2 then (refuse 19, s)
    else if bit .jobCfgMember j s ∨ rd .distCfgState d s = 0 ∨ !bit .distCfgPv d s = true then (refuse 53, s)
    else if (jobOf d s).isSome = true ∨ 16 ≤ (memberJobs s).length then (refuse 53, s)
    else
      let s1 := wr .jobCfgDistrict j d (wr .jobCfgJobidx j (pNat e 3 1) (wr .jobCfgLeasedev j (pNat e 6 2)
        (wr .jobCfgLeasesb j (pNat e 8 2) (wr .jobSetpNom j nom (wr .jobSetpCur j nom (flag .jobCfgMember j (clearBlock .job j s)))))))
      let x : JobX := { members := (List.range (pNat e 4 1)).map fun i => pNat e (16 + 2 * i) 2 }
      (okAns, clockJob j (setJob j x s1))

/-- Admission passes come for the district: it is bound, and in service or under re-binding. -/
def passesCome (d : Nat) (s : State) : Bool := bit .distCfgPv d s && (rd .distCfgState d s == 1 || rd .distCfgState d s == 2)

/-- JOB, dissolve: it takes effect at the district's next admission pass, or at once where none comes (R23; log 127). -/
def doJobDissolve (e : Env) (s : State) : Ans × State :=
  let j := pNat e 0 1
  if 64 ≤ j then (refuseAt 1 0, s)
  else if !bit .jobCfgMember j s then (refuse 53, s)
  else
    (okAns, if passesCome (rd .jobCfgDistrict j s) s then updJob j (fun x => { x with dissolve := true }) s else dissolveJob j s)

def opCirc (_ : Env) : OpInfo :=
  { code := 0x0704, m := 1, hosts := false, host := false, clerk := true, need := 32, fields := [(0, 1), (4, 8), (16, 16)] }

/-- CIRC: the ring order is one of all JOBIDX values, zeros after it. It takes effect at the district's next admission pass, or at once
where none comes (R23; log 127). -/
def doCirc (e : Env) (s : State) : Ans × State :=
  let j := pNat e 0 1
  let ports := (List.range 32).filter (pNat e 4 4).testBit
  let span := pNat e 8 4
  let n := (getJob j s).members.length
  let order := (List.range 16).map fun i => pNat e (16 + i) 1
  let tpp := kTpp (kvWord (rd .jobCfgDistrict j s) s)
  if 64 ≤ j then (refuseAt 1 0, s)
  else if !bit .jobCfgMember j s then (refuse 53, s)
  else if ports = [] ∨ 8 < ports.length then (refuseAt 1 4, s)
  else if span < 1024 ∨ 2 ^ 20 < span ∨ span % tpp ≠ 0 then (refuseAt 1 8, s)
  else if (order.take n).insertionSort (· ≤ ·) ≠ List.range n ∨ (order.drop n).any (· != 0) then (refuseAt 1 16, s)
  else
    let c : CircCfg := ⟨ports, span, order.take n⟩
    (okAns, updJob j (fun x => if passesCome (rd .jobCfgDistrict j s) s then { x with circNext := some c }
      else { x with circ := some c, circNext := none }) s)

/-! TWIN (R342). -/

/-- TWIN.STATUS.PORTS (R355). -/
def showTwinPorts (s : State) : State :=
  wr .twinStatusPorts 0 (natBool (portUp 0 s) + 2 * natBool (portUp 8 s) + 4 * natBool (portUp 16 s) + 8 * natBool (portUp 24 s)) s

/-- The twin ports that are up toward the peer. -/
def peerPorts (s : State) : List Nat :=
  twinPorts.filter fun p => portUp p s && tget (fun _ => 0) s.fab.serials p == s.fab.peerSerial

/-- The pair's round domain, unless a domain configuration names others: the senior is its master, the junior its standby, and the
markers pass over the twin ports (R342; log 60). -/
def pairDomain (ps : List Nat) (peer : Nat) (s : State) : State :=
  let own := ownFid s
  if rd .roundCfgMaster 0 s ≠ own ∨ rd .roundCfgStandby 0 s ≠ own then s
  else if bit .twinCfgSenior 0 s then wr .roundCfgStandby 0 peer (wr .roundCfgDown 0 (ps.map fun p => 2 ^ p).sum s)
  else wr .roundCfgMaster 0 peer (wr .roundCfgUp 0 (ps.headD 0 + 32 * ps.getLastD 0) s)

/-- Registered streams that have no shadow at the new pair lapse until their state is sent (R346; log 60). -/
def lapseAll (s : State) : State :=
  (s.sort.streams.filter fun x => protects x.2 s).foldl (fun u x => lapse x.1 u) s

/-- The pair forms once both envelopes are accepted and a twin port is up between the two devices. -/
def formPair (peerReady : Bool) (s : State) : State :=
  let ps := peerPorts s
  if !s.fab.wanted || bit .twinCfgPaired 0 s || !peerReady || ps.isEmpty then s
  else
    let peer := rd .nolucpPortPeer (ps.headD 0) s
    lapseAll (pairDomain ps peer (wr .twinCfgPeer 0 peer (flag .twinCfgPaired 0 s)))

def opTwin (op : Nat) (e : Env) : OpInfo :=
  let n := pNat e 2 1
  if op = 1 then
    { code := 0x0705, op := 1, m := 1, hosts := false, host := false, clerk := true, need := 24, counts := [(2, n, 64, 88 + 2 * n)],
      fields := [(0, 3), (8, 16), (24, 2 * n)] }
  else { code := 0x0705, op := op, m := 1, hosts := false, host := false, clerk := true, need := 1, fields := [(0, 3), (8, 16), (24, 2 * n)] }

/-- TWIN, pair: whether the peer has accepted its own envelope, and whether its mirror districts have the measurements, footprints, books
and rings that R342 asks, comes with the command: only the peer can look at them (log 60). -/
def doTwinPair (e : Env) (s : State) : Ans × State :=
  if 1 < pNat e 1 1 then (refuseAt 1 1, s)
  else if bit .twinCfgPaired 0 s || bit .twinStatusFailover 0 s || !s.fab.handed.isEmpty then (refuse 54, s)
  else if (List.range (pNat e 2 1)).any fun i => rd .distCfgState (pNat e (24 + 2 * i) 1) s == 2 then (refuse 19, s)
  else
    let ms := (List.range (pNat e 2 1)).map fun i => (pNat e (24 + 2 * i) 1, pNat e (25 + 2 * i) 1)
    let s1 := setFab { s.fab with wanted := true, mirrors := ms, peerSerial := pNat e 8 16 } (wr .twinCfgSenior 0 (pNat e 1 1) s)
    (okAns, formPair e.extOk s1)

/-- TWIN, unpair: shadows go, and nothing counts as lapsed any more (log 60). -/
def doTwinUnpair (_ : Env) (s : State) : Ans × State :=
  if bit .twinStatusFailover 0 s || !s.fab.handed.isEmpty then (refuse 54, s)
  else
    let s1 := ((s.sort.streams.filter fun x => x.2.shadow).map (·.1)).foldl (fun u k => freeStream k u) s
    let s2 := (s1.sort.streams.filter fun x => x.2.lapsed).foldl
      (fun u x => updStream x.1 (fun y => { y with lapsed := false, resync := false }) u) s1
    let s3 := wr .twinCfgPaired 0 0 (wr .twinCfgSenior 0 0 (wr .twinCfgPeer 0 0 (showLapsed s2)))
    (okAns, setFab { s3.fab with wanted := false, mirrors := [], peerSerial := 0 } s3)

/-! TWIN_MSG (R347). -/

/-- A failover of mirror districts is triggered: they stop accepting copies, and the failover is a recovery (R347, R348, R350). -/
def triggerFailover (ds : List Nat) (s : State) : State :=
  let new := ds.filter fun d => !s.fab.handed.contains d && rd .distCfgState d s != 0
  if new = [] then s
  else
    let s1 := setFab { s.fab with handed := s.fab.handed ++ new } s
    let r := serialise (mkRepair 7 (rd .distCfgHome (new.headD 0) s) 0 0 new) s1
    if r.1 then flag .twinStatusFailover 0 r.2 else r.2

def opTwinMsg (kind : Nat) (e : Env) : OpInfo :=
  let n := pNat e 2 1
  { code := 0x0706, op := kind, m := 0, hosts := false, host := false, peer := true, need := 8, counts := [(2, n, 64, 72 + n)],
    fields := [(0, 1), (2, 1), (8, n)] }

/-- HANDOVER and DYING name the mirror districts of what fails (log 61). -/
def doTwinMsg (e : Env) (s : State) : Ans × State :=
  let ds := (List.range (pNat e 2 1)).map fun i => pNat e (8 + i) 1
  if ds.any fun d => rd .distCfgState d s == 2 then (refuse 19, s)
  else if !bit .twinCfgPaired 0 s then (refuse 54, s)
  else (okAns, triggerFailover ds s)

/-! Leases (R338 to R341). -/

def opLeaseKey (op : Nat) (_ : Env) : OpInfo :=
  { code := 0x0707, op := op, m := 2, hosts := false, host := false, need := if op = 1 then 104 else 2,
    fields := if op = 1 then [(0, 2), (8, 96)] else [(0, 2)] }

def noKey : Nat → List Byte := fun _ => []

def doLeaseKey (e : Env) (key : List Byte) (s : State) : Ans × State :=
  if 4 ≤ pNat e 0 1 then (refuseAt 1 0, s)
  else if bit .devLockKeys 0 s || bit .devLockSecurity 0 s then (refuse 12, s)
  else (okAns, setEng { s.eng with leaseKeys := tset noKey s.eng.leaseKeys (pNat e 0 1) key } s)

def doLeaseKeyEnrol (e : Env) (s : State) : Ans × State := doLeaseKey e (pBytes e 8 96) s
def doLeaseKeyClear (e : Env) (s : State) : Ans × State := doLeaseKey e [] s

/-- A field of a grant. -/
def gNat (g : List Byte) (off n : Nat) : Nat := leNat ((g.drop off).take n)

/-- A grant carries the signature of an enrolled key. -/
def grantSigned (g : List Byte) (s : State) : Bool :=
  s.eng.leaseKeys.any fun k => Config.ecdsaVerify k.2 (Config.sha384 (g.take 64)) ((g.drop 64).take 96)

/-- What refuses a grant, or 0 (R338, R372; log 62). -/
def grantCheck (g : List Byte) (s : State) : Ans :=
  let j := gNat g 1 1
  let old := if gNat g 0 1 = 1 then rd .jobStatusEpoch j s else (s.fab.devLease.map (·.epoch)).getD 0
  if gNat g 0 1 ≠ 1 ∧ gNat g 0 1 ≠ 2 then refuseAt 1 0
  else if 64 ≤ j then refuseAt 1 1
  else if !grantSigned g s then refuse 14
  else if gNat g 16 8 + 1500000000 < gNat g 8 8 then refuseAt 1 8
  else if gNat g 0 1 = 1 ∧ !bit .jobCfgMember j s = true then refuse 53
  else if gNat g 8 8 ≤ s.now ∨ gNat g 2 2 < old then refuse 16
  else okAns

/-- The membership of a grant: one FID for each JOBIDX of the job. -/
def grantMembers (g : List Byte) (n : Nat) : List Nat := (List.range n).map fun i => gNat g (24 + 2 * i) 2

/-- The membership covers every JOBIDX: each has a FID, 1,023 standing for none (R324, R340). -/
def grantCovers (g : List Byte) (n : Nat) : Bool := (grantMembers g n).all fun f => decide (f < 1023)

/-- The lease device passes a grant on to the other members (R338). -/
def relayGrant (j : Nat) (g : List Byte) (s : State) : State :=
  if rd .jobCfgLeasedev j s ≠ ownFid s then s
  else ((getJob j s).members.filter (· ≠ ownFid s)).foldl (fun u f => send j f .leaseRelay g u) s

/-- A member takes a verified grant. One that covers every JOBIDX ends a hold at the next boundary; one that does not leaves the holder
held, and from it the member learns of a split. One that leaves the member out and covers every JOBIDX under a higher epoch lets the
other half go on, and frees the job here at once (R338 to R341). -/
def takeGrant (g : List Byte) (s : State) : State :=
  let j := gNat g 1 1
  let x := getJob j s
  let ms := grantMembers g x.members.length
  let l : Lease := ⟨gNat g 2 2, gNat g 8 8, ms, g⟩
  if gNat g 0 1 = 2 then setFab { s.fab with devLease := some { l with members := [gNat g 24 2] } } s
  else
    let whole := decide (grantCovers g x.members.length = true)
    if !ms.contains (ownFid s) then
      if !whole then setJob j { x with holdNext := true, freeNext := false } s
      else if rd .jobStatusEpoch j s < l.epoch then addDue (.districtFail (rd .jobCfgDistrict j s) 35 false) (wr .jobStatusEpoch j l.epoch s)
      else s
    else wr .jobStatusEpoch j l.epoch (flag .jobStatusLeased j
      (setJob j { x with lease := some l, holdNext := !whole, freeNext := whole && bit .jobStatusHold j s } s))

def opLeaseGrant (_ : Env) : OpInfo :=
  { code := 0x0708, m := 1, hosts := false, host := false, peer := true, need := 160, fields := [(0, 160)] }

/-- LEASE_GRANT: verified before it is used; the lease device relays it. -/
def doLeaseGrant (e : Env) (s : State) : Ans × State :=
  let g := pBytes e 0 160
  let a := grantCheck g s
  if a.status ≠ 0 then (a, s)
  else (okAns, let s1 := takeGrant g s; if gNat g 0 1 = 1 then relayGrant (gNat g 1 1) g s1 else s1)

end Sys2Proof.Machine
end

