-- ==== Sys2Proof/Machine/Handlers.lean ====
section
/-!
DEFINITION. The opcode table of R371 as a function: what an opcode and, where it has one, its operation code say of an
envelope, and its body. Mailbox messages and the clerk's store reach their handlers through it (R370, R378).
-/

namespace Sys2Proof.Machine

/-- The parameter byte that holds an opcode's operation code (R371). -/
def subOffset (code : Nat) : Option Nat :=
  match code with
  | 0x0005 => some 0
  | 0x0006 => some 0
  | 0x0205 => some 0
  | 0x0501 => some 2
  | 0x0503 => some 2
  | 0x0504 => some 2
  | 0x0505 => some 2
  | 0x0601 => some 0
  | 0x0703 => some 1
  | 0x0705 => some 0
  | 0x0706 => some 0
  | 0x0707 => some 1
  | _ => none

/-- Sixteen times an envelope's opcode plus its operation code, 0 where it has none or one that no operation has. -/
def envKey (e : Env) : Nat :=
  16 * hNat e 0 2 +
    match subOffset (hNat e 0 2) with
    | some off => if pNat e off 1 < 16 then pNat e off 1 else 0
    | none => 0

/-- The handlers of opcodes 0xx: device control (R371). -/
def handlers0 (key : Nat) (e : Env) : Option (OpInfo × (State → Option Ans × State)) :=
  match key with
  | 0x00010 => some (opNop e, atOnce (doNop e))
  | 0x00020 => some (opDevQuery e, atOnce (doDevQuery e))
  | 0x00030 => some (opConfig e, atOnce (doConfig e))
  | 0x00040 => some (opLock e, atOnce (doLock e))
  | 0x00051 => some (opReset 1 e, doReset e)
  | 0x00052 => some (opReset 2 e, doReset e)
  | 0x00053 => some (opReset 3 e, doReset e)
  | 0x00061 => some (opTest 1 e, atOnce (doTest 1 e))
  | 0x00062 => some (opTest 2 e, atOnce (doTest 2 e))
  | 0x00063 => some (opTest 3 e, atOnce (doTest 3 e))
  | _ => none

/-- The handlers of opcodes 1xx: districts and parcels (R371). -/
def handlers1 (key : Nat) (e : Env) : Option (OpInfo × (State → Option Ans × State)) :=
  match key with
  | 0x01010 => some (opRebind e, rebind e)
  | 0x01100 => some (opParcelReserve e, atOnce (doParcelReserve e))
  | 0x01110 => some (opParcelSeal e, atOnce (doParcelSeal e))
  | 0x01120 => some (opParcelDiscard e, atOnce (doParcelDiscard e))
  | 0x01200 => some (opGrant e, atOnce (doGrant e))
  | _ => none

/-- The handlers of opcodes 2xx: memory (R371). -/
def handlers2 (key : Nat) (e : Env) : Option (OpInfo × (State → Option Ans × State)) :=
  match key with
  | 0x02010 => some (opFill e, atOnce (doFill e))
  | 0x02020 => some (opFence e, doFence e)
  | 0x02030 => some (opCopy e, atOnce (doCopy e))
  | 0x02040 => some (opAtomic e, atOnce (doAtomic e))
  | 0x02051 => some (opSwappool 1 e, atOnce (doSwappoolAdd e))
  | 0x02052 => some (opSwappool 2 e, atOnce (doSwappoolRemove e))
  | _ => none

/-- The handlers of opcodes 3xx: near memory (R371). -/
def handlers3 (key : Nat) (e : Env) : Option (OpInfo × (State → Option Ans × State)) :=
  match key with
  | 0x03010 => some (opNmSubmit e, doNmSubmit e)
  | _ => none

/-- The handlers of opcodes 4xx: streams (R371). -/
def handlers4 (key : Nat) (e : Env) : Option (OpInfo × (State → Option Ans × State)) :=
  match key with
  | 0x04010 => some (opSubmit e, doSubmit e)
  | 0x04020 => some (opCancel e, atOnce (doCancel e))
  | 0x04030 => some (opPreempt e, doPreempt e)
  | 0x04040 => some (opResume e, doResume e)
  | 0x04050 => some (opFreeze e, atOnce (doFreeze e))
  | 0x04060 => some (opRelease e, atOnce (doRelease e))
  | 0x04070 => some (opQuery e, atOnce (doQuery e))
  | 0x04080 => some (opDiscard e, atOnce (doDiscard e))
  | _ => none

/-- The handlers of opcodes 5xx: books, sampling, grammars and rings (R371). -/
def handlers5 (key : Nat) (e : Env) : Option (OpInfo × (State → Option Ans × State)) :=
  match key with
  | 0x05011 => some (opBook 1 e, atOnce (doBookSet e))
  | 0x05012 => some (opBook 2 e, atOnce (doBookBind e))
  | 0x05013 => some (opBook 3 e, atOnce (doBookUnbind e))
  | 0x05020 => some (opSampleCfg e, atOnce (doSampleCfg e))
  | 0x05031 => some (opGrammar 1 e, atOnce (doGrammarLoad e))
  | 0x05032 => some (opGrammar 2 e, atOnce (doGrammarUnload e))
  | 0x05041 => some (opRing 1 e, atOnce (doRingEnable e))
  | 0x05042 => some (opRing 2 e, atOnce (doRingDisable e))
  | 0x05051 => some (opReceipts 1 e, atOnce (doReceiptsEnable e))
  | 0x05052 => some (opReceipts 2 e, atOnce (doReceiptsDisable e))
  | _ => none

/-- The handlers of opcodes 6xx: power and heat (R371). -/
def handlers6 (key : Nat) (e : Env) : Option (OpInfo × (State → Option Ans × State)) :=
  match key with
  | 0x06011 => some (opPower 1 e, atOnce (doPowerCap e))
  | 0x06012 => some (opPower 2 e, atOnce (doPowerLimit e))
  | 0x06020 => some (opThermal e, atOnce (doThermal e))
  | _ => none

/-- The handlers of opcodes 7xx: fabric, jobs and twins (R371). -/
def handlers7 (key : Nat) (e : Env) : Option (OpInfo × (State → Option Ans × State)) :=
  match key with
  | 0x07010 => some (opFabric e, atOnce (doFabric e))
  | 0x07020 => some (opRoundCfg e, atOnce (doRoundCfg e))
  | 0x07031 => some (opJob 1 e, atOnce (doJobForm e))
  | 0x07032 => some (opJob 2 e, atOnce (doJobDissolve e))
  | 0x07040 => some (opCirc e, atOnce (doCirc e))
  | 0x07051 => some (opTwin 1 e, atOnce (doTwinPair e))
  | 0x07052 => some (opTwin 2 e, atOnce (doTwinUnpair e))
  | 0x07061 => some (opTwinMsg 1 e, atOnce (doTwinMsg e))
  | 0x07062 => some (opTwinMsg 2 e, atOnce (doTwinMsg e))
  | 0x07071 => some (opLeaseKey 1 e, atOnce (doLeaseKeyEnrol e))
  | 0x07072 => some (opLeaseKey 2 e, atOnce (doLeaseKeyClear e))
  | 0x07080 => some (opLeaseGrant e, atOnce (doLeaseGrant e))
  | _ => none

/-- The handlers of opcodes 8xx: the logbook (R371). -/
def handlers8 (key : Nat) (e : Env) : Option (OpInfo × (State → Option Ans × State)) :=
  match key with
  | 0x08010 => some (opLogRead e, atOnce (doLogRead e))
  | _ => none

/-- The handlers of opcodes 9xx: firmware (R371). -/
def handlers9 (key : Nat) (e : Env) : Option (OpInfo × (State → Option Ans × State)) :=
  match key with
  | 0x09010 => some (opFwStage e, atOnce (doFwStage e))
  | 0x09020 => some (opFwActivate e, atOnce (doFwActivate e))
  | _ => none

/-- The handler of a key: what the opcode table says, and the body. -/
def handlerOf (key : Nat) (e : Env) : Option (OpInfo × (State → Option Ans × State)) :=
  match key / 0x1000 with
  | 0 => handlers0 key e
  | 1 => handlers1 key e
  | 2 => handlers2 key e
  | 3 => handlers3 key e
  | 4 => handlers4 key e
  | 5 => handlers5 key e
  | 6 => handlers6 key e
  | 7 => handlers7 key e
  | 8 => handlers8 key e
  | 9 => handlers9 key e
  | _ => none

/-- An envelope whose opcode the table lists, but not its operation code: INVALID_PARAMETER at that byte, after the header and
class checks of the opcode's first operation (R361, R371). -/
def badOperation (e : Env) (s : State) : State :=
  match handlerOf (16 * hNat e 0 2 + 1) e with
  | none => s
  | some h =>
    match headerCheck h.1 e with
    | some r =>
      let s1 := if r.1 = 4 then countAuthority h.1 e s else s
      reply h.1.code e { status := r.1, detail := if r.1 ≤ 3 then r.2 else 0 } s1
    | none => reply h.1.code e (refuseAt 1 ((subOffset h.1.code).getD 0)) s

/-- An envelope of an unlisted opcode (R361 step 2). -/
def unlisted (e : Env) (s : State) : State :=
  let r := if envLen e = 0 then (2, 4) else if 4096 < envLen e then (3, 4) else if envLen e < 64 then (1, 4)
    else if hNat e 2 1 ≠ 1 then (1, 2) else if 4 ≤ hNat e 3 1 then (1, 3) else (1, 0)
  reply (hNat e 0 2) e { status := r.1, detail := r.2 } s

/-- No row of the table is the envelope's. -/
def outsideTable (e : Env) : Bool := (handlerOf (envKey e) e).isNone

/-- An envelope that no row of the table is. -/
def refuseOutside (e : Env) (s : State) : State :=
  if (handlerOf (16 * hNat e 0 2 + 1) e).isSome then badOperation e s else unlisted e s

/-- Any envelope, by the table. -/
def anyEnvelope (e : Env) (s : State) : State :=
  match handlerOf (envKey e) e with
  | some h => envelope h.1 e h.2 s
  | none => refuseOutside e s

/-- An envelope that waited in the clerk's store goes to its handler (R370). -/
def fromStore (key : Nat) (e : Env) (s : State) : State :=
  match handlerOf key e with
  | some h => handle h.1 e h.2 s
  | none => s

/-- The clerk finishes starting: CLERK_UP, and the envelopes that wait proceed in order (R370, R381). -/
def clerkUpNow (s : State) : State :=
  if !s.eng.clerk.starting then s
  else
    let q := s.eng.store
    let c := { s.eng.clerk with starting := false }
    let s1 := flag .brdevStatusClerkUp 0 (setEng { s.eng with store := [], clerk := c } s)
    q.foldl (fun u x => fromStore x.1 x.2 u) s1

end Sys2Proof.Machine
end

