-- ==== Sys2Proof/Machine/Letters.lean ====
section
/-!
DEFINITION. The meanings of the core instructions and of the core's own events, one definition each over the shared
operations of chapters 03 to 05.
-/

namespace Sys2Proof.Machine

/-- What a command answers. -/
abbrev Res := Host.Outcome State Fault Refusal

/-- NOP (R93: a no-operation of one CCLK). -/
def execNop (g : CoreId) (w : BitVec 56) (s : State) : Res := .next (issue xNop g (wordOf 0x00 w) s)

/-- HALT (R108). -/
def execHalt (g : CoreId) (w : BitVec 56) (s : State) : Res := .next (settle (issue xHalt g (wordOf 0x01 w) s))

/-- DMAX (R94, R99, R100: starts a transfer, or halts its channel). -/
def execDmax (g : CoreId) (w : BitVec 56) (s : State) : Res := .next (issue xDmax g (wordOf 0x02 w) s)

/-- DWAIT (R94). -/
def execDwait (g : CoreId) (w : BitVec 56) (s : State) : Res := .next (issue xDwait g (wordOf 0x03 w) s)

/-- SIG (R102, R103). -/
def execSig (g : CoreId) (w : BitVec 56) (s : State) : Res := .next (settle (issue xSig g (wordOf 0x04 w) s))

/-- SWAIT (R102). -/
def execSwait (g : CoreId) (w : BitVec 56) (s : State) : Res := .next (issue xSwait g (wordOf 0x05 w) s)

/-- BAR (R104). -/
def execBar (g : CoreId) (w : BitVec 56) (s : State) : Res := .next (settle (issue xBar g (wordOf 0x06 w) s))

/-- LOOP (R106). -/
def execLoop (g : CoreId) (w : BitVec 56) (s : State) : Res := .next (issue xLoop g (wordOf 0x07 w) s)

/-- LOOPI (R106). -/
def execLoopi (g : CoreId) (w : BitVec 56) (s : State) : Res := .next (issue xLoopi g (wordOf 0x08 w) s)

/-- BR (R107). -/
def execBr (g : CoreId) (w : BitVec 56) (s : State) : Res := .next (issue xBr g (wordOf 0x09 w) s)

/-- NOTICE (R110). -/
def execNotice (g : CoreId) (w : BitVec 56) (s : State) : Res := .next (issue xNotice g (wordOf 0x0a w) s)

/-- RWAIT (R109). -/
def execRwait (g : CoreId) (w : BitVec 56) (s : State) : Res := .next (issue xRwait g (wordOf 0x0b w) s)

/-- MLOAD (R50 to R53, R59). -/
def execMload (g : CoreId) (w : BitVec 56) (s : State) : Res := .next (issue issueMatrix g (wordOf 0x40 w) s)

/-- MSTREAM (R47, R54, R63). -/
def execMstream (g : CoreId) (w : BitVec 56) (s : State) : Res := .next (issue issueMatrix g (wordOf 0x41 w) s)

/-- MACC (R63, R64). -/
def execMacc (g : CoreId) (w : BitVec 56) (s : State) : Res := .next (issue issueMatrix g (wordOf 0x42 w) s)

/-- MDRAIN (R66 to R69). -/
def execMdrain (g : CoreId) (w : BitVec 56) (s : State) : Res := .next (issue issueMatrix g (wordOf 0x43 w) s)

/-- MCLEAR (R65). -/
def execMclear (g : CoreId) (w : BitVec 56) (s : State) : Res := .next (issue issueMatrix g (wordOf 0x44 w) s)

/-- VCFG (R89, R90). -/
def execVcfg (g : CoreId) (w : BitVec 56) (s : State) : Res := .next (issue issueVcfg g (wordOf 0x80 w) s)

/-- VADD (R125: a + b). -/
def execVadd (g : CoreId) (w : BitVec 56) (s : State) : Res := .next (issue issueVector g (wordOf 0x81 w) s)

/-- VSUB (R125: a - b). -/
def execVsub (g : CoreId) (w : BitVec 56) (s : State) : Res := .next (issue issueVector g (wordOf 0x82 w) s)

/-- VMUL (R125: a times b). -/
def execVmul (g : CoreId) (w : BitVec 56) (s : State) : Res := .next (issue issueVector g (wordOf 0x83 w) s)

/-- VFMA (R125: a times b plus d, one rounding). -/
def execVfma (g : CoreId) (w : BitVec 56) (s : State) : Res := .next (issue issueVector g (wordOf 0x84 w) s)

/-- VMAX (R125). -/
def execVmax (g : CoreId) (w : BitVec 56) (s : State) : Res := .next (issue issueVector g (wordOf 0x85 w) s)

/-- VMIN (R125). -/
def execVmin (g : CoreId) (w : BitVec 56) (s : State) : Res := .next (issue issueVector g (wordOf 0x86 w) s)

/-- VCVT (R125: a, converted). -/
def execVcvt (g : CoreId) (w : BitVec 56) (s : State) : Res := .next (issue issueVector g (wordOf 0x87 w) s)

/-- VADDB (R125: a + element 0 of SB). -/
def execVaddb (g : CoreId) (w : BitVec 56) (s : State) : Res := .next (issue issueVector g (wordOf 0x88 w) s)

/-- VMULB (R125: a times element 0 of SB). -/
def execVmulb (g : CoreId) (w : BitVec 56) (s : State) : Res := .next (issue issueVector g (wordOf 0x89 w) s)

/-- VTROW (R92: 16 rows in stationary layout). -/
def execVtrow (g : CoreId) (w : BitVec 56) (s : State) : Res := .next (issue issueVector g (wordOf 0x8a w) s)

/-- VEXP (R126). -/
def execVexp (g : CoreId) (w : BitVec 56) (s : State) : Res := .next (issue issueVector g (wordOf 0x90 w) s)

/-- VLOG (R126). -/
def execVlog (g : CoreId) (w : BitVec 56) (s : State) : Res := .next (issue issueVector g (wordOf 0x91 w) s)

/-- VRCP (R126). -/
def execVrcp (g : CoreId) (w : BitVec 56) (s : State) : Res := .next (issue issueVector g (wordOf 0x92 w) s)

/-- VRSQ (R126). -/
def execVrsq (g : CoreId) (w : BitVec 56) (s : State) : Res := .next (issue issueVector g (wordOf 0x93 w) s)

/-- VTANH (R126). -/
def execVtanh (g : CoreId) (w : BitVec 56) (s : State) : Res := .next (issue issueVector g (wordOf 0x94 w) s)

/-- VSIGM (R126). -/
def execVsigm (g : CoreId) (w : BitVec 56) (s : State) : Res := .next (issue issueVector g (wordOf 0x95 w) s)

/-- VRSUM (R127). -/
def execVrsum (g : CoreId) (w : BitVec 56) (s : State) : Res := .next (issue issueVector g (wordOf 0xa0 w) s)

/-- VRMAX (R127). -/
def execVrmax (g : CoreId) (w : BitVec 56) (s : State) : Res := .next (issue issueVector g (wordOf 0xa1 w) s)

/-- VRMIN (R127). -/
def execVrmin (g : CoreId) (w : BitVec 56) (s : State) : Res := .next (issue issueVector g (wordOf 0xa2 w) s)

/-- VRSSQ (R127). -/
def execVrssq (g : CoreId) (w : BitVec 56) (s : State) : Res := .next (issue issueVector g (wordOf 0xa3 w) s)

/-- VSMAX (R128). -/
def execVsmax (g : CoreId) (w : BitVec 56) (s : State) : Res := .next (issue issueVector g (wordOf 0xa8 w) s)

/-- VSEXP (R129). -/
def execVsexp (g : CoreId) (w : BitVec 56) (s : State) : Res := .next (issue issueVector g (wordOf 0xa9 w) s)

/-- VROPE (R130). -/
def execVrope (g : CoreId) (w : BitVec 56) (s : State) : Res := .next (issue issueVector g (wordOf 0xb0 w) s)

/-- VKVQ (R131). -/
def execVkvq (g : CoreId) (w : BitVec 56) (s : State) : Res := .next (issue issueVector g (wordOf 0xb1 w) s)

/-- VAPND (R132, R133). -/
def execVapnd (g : CoreId) (w : BitVec 56) (s : State) : Res := .next (issue issueVector g (wordOf 0xb2 w) s)

/-- TILE_DEADLOCK (R70): the time has passed with no reading instruction. -/
def execTileDeadlock (g : CoreId) (s : State) : Res := .next (tileDeadlock g s)

/-- DMA_COMPLETE (R98, R101): the data move and the channel goes IDLE, or HALTED where the data halt it. -/
def execDmaComplete (g : CoreId) (ch : ChanId) (s : State) : Res := .next (settle (completeDma g ch s))

/-- DMA_HALT (R100). -/
def execDmaHalt (g : CoreId) (ch : ChanId) (code : Fin 64) (n : Nat) (s : State) : Res := .next (settle (haltDma g ch code n s))

/-- SIGNAL_ARRIVAL (R102). -/
def execSignalArrival (src : Nat) (dst : CoreId) (s : State) : Res := .next (deliverSignal src dst s)

/-- BARRIER_RELEASE (R104). -/
def execBarrierRelease (g : CoreId) (s : State) : Res := .next (releaseBarrier g s)

/-- STEP_RELEASE (R109). -/
def execStepRelease (g : CoreId) (s : State) : Res := .next (releaseStep g s)

/-- ROUND_WAIT_RELEASE (R109). -/
def execRoundWaitRelease (g : CoreId) (s : State) : Res := .next (releaseRound g s)

/-- CORE_CTRL_GO (R81, R114, R393). -/
def execCoreCtrlGo (g : CoreId) (s : State) : Res := .next (coreWrite g .coreCtrlGo (goCore g) s)

/-- CORE_CTRL_STOP (R114, R393). -/
def execCoreCtrlStop (g : CoreId) (s : State) : Res := .next (settle (coreWrite g .coreCtrlStop (stopCore g) s))

/-- SR_SEED_WRITE (R45): held until SR_WRITE_EFFECT or the next evaluation. -/
def execSrSeedWrite (g : CoreId) (v : Word64) (s : State) : Res := .next (blockWrite .core g (holdSr g true v) s)

/-- SR_CTR_WRITE (R45). -/
def execSrCtrWrite (g : CoreId) (v : Word64) (s : State) : Res := .next (blockWrite .core g (holdSr g false v) s)

/-- SR_WRITE_EFFECT (R45): no drawing instruction executes between two commands. -/
def execSrWriteEffect (g : CoreId) (s : State) : Res := .next (applySr g s)

end Sys2Proof.Machine
end

