-- ==== Sys2Proof/Machine/BootRows.lean ====
section
/-!
DEFINITION. The meanings of the events of bring-up, resets, repair and the clerk (chapters 13, 17 to 19), one definition each.
-/

namespace Sys2Proof.Machine

/-- POWER_ON (R456): whether a rising edge of PWR_EN starts it (else the input has just been applied), which clerk image verifies (0 the active, 1 the previous one, 2 none),
which patch image does, what the tests find, the expanders found, and the time taken in ms. -/
def execPowerOn (edge : Bool) (clerkOk patchOk : Fin 3) (found : List BadUnit) (exps : List Expander) (ms : Nat) (s : State) : Res :=
  .next (settle (powerOn edge clerkOk.val patchOk.val found exps ms s))

/-- COOLANT_WAIT_TIMEOUT (R467). -/
def execCoolantWaitTimeout (s : State) : Res := .next (settle (coolantTimeout s))

/-- MOD_RESET (R452, R503). -/
def execModReset (clerkOk patchOk : Fin 3) (found : List BadUnit) (exps : List Expander) (ms : Nat) (s : State) : Res :=
  .next (settle (modReset clerkOk.val patchOk.val found exps ms s))

/-- PERST (R503). -/
def execPerst (port : HPortId) (s : State) : Res := .next (settle (perst port.val s))

/-- BD_WATCHDOG (R470): whether the base die then restarts within 200 us. -/
def execBdWatchdog (site : SiteId) (restarts : Bool) (s : State) : Res :=
  .next (settle (startWaiting (settle (bdWatchdog site.val restarts s))))

/-- BD_RESTART_TIMEOUT (R471): whether the second reset restarts it. -/
def execBdRestartTimeout (site : SiteId) (restarts : Bool) (s : State) : Res :=
  .next (settle (startWaiting (settle (bdTimeout site.val restarts s))))

/-- SITE_LOSS (R484, R485). -/
def execSiteLoss (k : SiteId) (s : State) : Res := .next (settle (siteLoss k.val s))

/-- VIA_REMAP (R481): the vias that the channel's test finds bad. -/
def execViaRemap (g : CoreId) (found : List Nat) (s : State) : Res :=
  .next (settle (startWaiting (settle (viaRemap g.val found s))))

/-- DEFERRED_RECOVERY (R479): what the unit's own test finds, or whether a base die restarts. -/
def execDeferredRecovery (found : List Nat) (restarts : Bool) (s : State) : Res :=
  .next (settle (startWaiting (settle (deferredRepair found restarts s))))

/-- REFCLK_LOSS (R506): REFCLK0, or both inputs. -/
def execRefclkLoss (both : Bool) (s : State) : Res := .next (settle (refclkLoss both s))

/-- CLERK_WATCHDOG (R370, R380). -/
def execClerkWatchdog (s : State) : Res := .next (settle (clerkWatchdog s))

/-- CLERK_START_TIMEOUT (R381). -/
def execClerkStartTimeout (s : State) : Res := .next (settle (clerkTimeout s))

/-- ROLLBACK_RAISE (R381): of the clerk image (1) or of the patch. -/
def execRollbackRaise (image : Fin 3) (s : State) : Res := .next (rollbackRaise image.val s)

/-- CLERK_UP (R381). -/
def execClerkUp (s : State) : Res := .next (settle (clerkUpNow s))

end Sys2Proof.Machine
end

