-- ==== Sys2Proof/Machine/Envelopes.lean ====
section
/-!
DEFINITION. The meanings of the envelopes (R371), one definition each, and of what follows one: REBIND_RUN, PREFIX_HANDLE_CREATE and
the SPDM requests.
-/

namespace Sys2Proof.Machine

/-- ELERMUX_NOP (R371). -/
def execElermuxNop (e : Env) (s : State) : Res := .next (settle (envelope (opNop e) e (atOnce (doNop e)) s))

/-- DEV_QUERY (R371). -/
def execDevQuery (e : Env) (s : State) : Res := .next (settle (envelope (opDevQuery e) e (atOnce (doDevQuery e)) s))

/-- CONFIG (R371). -/
def execConfig (e : Env) (s : State) : Res := .next (settle (envelope (opConfig e) e (atOnce (doConfig e)) s))

/-- LOCK (R372). -/
def execLock (e : Env) (s : State) : Res := .next (settle (envelope (opLock e) e (atOnce (doLock e)) s))

/-- RESET_SITE (R469). -/
def execResetSite (e : Env) (s : State) : Res := .next (settle (envelope (opReset 1 e) e (doReset e) s))

/-- RESET_LAYER (R452). -/
def execResetLayer (e : Env) (s : State) : Res := .next (settle (envelope (opReset 2 e) e (doReset e) s))

/-- RESET_CORE (R454). -/
def execResetCore (e : Env) (s : State) : Res := .next (settle (envelope (opReset 3 e) e (doReset e) s))

/-- TEST_VAULT_MARCH (R472). -/
def execTestVaultMarch (e : Env) (s : State) : Res := .next (settle (envelope (opTest 1 e) e (atOnce (doTest 1 e)) s))

/-- TEST_ARRAY (R472). -/
def execTestArray (e : Env) (s : State) : Res := .next (settle (envelope (opTest 2 e) e (atOnce (doTest 2 e)) s))

/-- TEST_LOOPBACK (R472). -/
def execTestLoopback (e : Env) (s : State) : Res := .next (settle (envelope (opTest 3 e) e (atOnce (doTest 3 e)) s))

/-- REBIND (R238). -/
def execRebind (e : Env) (s : State) : Res := .next (settle (envelope (opRebind e) e (rebind e) s))

/-- REBIND_RUN (R239): the sequence from Q of the first re-binding that can run. -/
def execRebindRun (s : State) : Res := .next (settle (rebindRun submitHeld s))

/-- PARCEL_RESERVE (R372). -/
def execParcelReserve (e : Env) (s : State) : Res := .next (settle (envelope (opParcelReserve e) e (atOnce (doParcelReserve e)) s))

/-- PARCEL_SEAL (R514). -/
def execParcelSeal (e : Env) (s : State) : Res := .next (settle (envelope (opParcelSeal e) e (atOnce (doParcelSeal e)) s))

/-- PARCEL_DISCARD (R224). -/
def execParcelDiscard (e : Env) (s : State) : Res := .next (settle (envelope (opParcelDiscard e) e (atOnce (doParcelDiscard e)) s))

/-- GRANT (R236). -/
def execGrant (e : Env) (s : State) : Res := .next (settle (envelope (opGrant e) e (atOnce (doGrant e)) s))

/-- FILL (R159). -/
def execFill (e : Env) (s : State) : Res := .next (settle (envelope (opFill e) e (atOnce (doFill e)) s))

/-- FENCE (R180). -/
def execFence (e : Env) (s : State) : Res := .next (settle (envelope (opFence e) e (doFence e) s))

/-- COPY (R372). -/
def execCopy (e : Env) (s : State) : Res := .next (settle (envelope (opCopy e) e (atOnce (doCopy e)) s))

/-- ATOMIC (R158). -/
def execAtomic (e : Env) (s : State) : Res := .next (settle (envelope (opAtomic e) e (atOnce (doAtomic e)) s))

/-- SWAPPOOL_ADD (R372). -/
def execSwappoolAdd (e : Env) (s : State) : Res := .next (settle (envelope (opSwappool 1 e) e (atOnce (doSwappoolAdd e)) s))

/-- SWAPPOOL_REMOVE (R372). -/
def execSwappoolRemove (e : Env) (s : State) : Res := .next (settle (envelope (opSwappool 2 e) e (atOnce (doSwappoolRemove e)) s))

/-- NM_SUBMIT (R172). -/
def execNmSubmit (e : Env) (s : State) : Res := .next (settle (envelope (opNmSubmit e) e (doNmSubmit e) s))

/-- SUBMIT (R291). -/
def execSubmit (e : Env) (s : State) : Res := .next (settle (envelope (opSubmit e) e (doSubmit e) s))

/-- CANCEL (R314). -/
def execCancel (e : Env) (s : State) : Res := .next (settle (envelope (opCancel e) e (atOnce (doCancel e)) s))

/-- PREEMPT (R314). -/
def execPreempt (e : Env) (s : State) : Res := .next (settle (envelope (opPreempt e) e (doPreempt e) s))

/-- RESUME (R280). -/
def execResume (e : Env) (s : State) : Res := .next (settle (envelope (opResume e) e (doResume e) s))

/-- FREEZE (R300). -/
def execFreeze (e : Env) (s : State) : Res := .next (settle (envelope (opFreeze e) e (atOnce (doFreeze e)) s))

/-- PREFIX_HANDLE_CREATE (R300): the first handle that a FREEZE of the slot's stream asked for. -/
def execPrefixHandleCreate (slot : SlotId) (s : State) : Res := .next (settle (createHandle slot.val s))

/-- RELEASE (R302). -/
def execRelease (e : Env) (s : State) : Res := .next (settle (envelope (opRelease e) e (atOnce (doRelease e)) s))

/-- QUERY (R314). -/
def execQuery (e : Env) (s : State) : Res := .next (settle (envelope (opQuery e) e (atOnce (doQuery e)) s))

/-- DISCARD (R314). -/
def execDiscard (e : Env) (s : State) : Res := .next (settle (envelope (opDiscard e) e (atOnce (doDiscard e)) s))

/-- BOOK_SET (R299). -/
def execBookSet (e : Env) (s : State) : Res := .next (settle (envelope (opBook 1 e) e (atOnce (doBookSet e)) s))

/-- BOOK_BIND (R297). -/
def execBookBind (e : Env) (s : State) : Res := .next (settle (envelope (opBook 2 e) e (atOnce (doBookBind e)) s))

/-- BOOK_UNBIND (R297). -/
def execBookUnbind (e : Env) (s : State) : Res := .next (settle (envelope (opBook 3 e) e (atOnce (doBookUnbind e)) s))

/-- SAMPLE_CFG (R303). -/
def execSampleCfg (e : Env) (s : State) : Res := .next (settle (envelope (opSampleCfg e) e (atOnce (doSampleCfg e)) s))

/-- GRAMMAR_LOAD (R307). -/
def execGrammarLoad (e : Env) (s : State) : Res := .next (settle (envelope (opGrammar 1 e) e (atOnce (doGrammarLoad e)) s))

/-- GRAMMAR_UNLOAD (R307). -/
def execGrammarUnload (e : Env) (s : State) : Res := .next (settle (envelope (opGrammar 2 e) e (atOnce (doGrammarUnload e)) s))

/-- RING_ENABLE (R310). -/
def execRingEnable (e : Env) (s : State) : Res := .next (settle (envelope (opRing 1 e) e (atOnce (doRingEnable e)) s))

/-- RING_DISABLE (R310). -/
def execRingDisable (e : Env) (s : State) : Res := .next (settle (envelope (opRing 2 e) e (atOnce (doRingDisable e)) s))

/-- RECEIPTS_ENABLE (R426). -/
def execReceiptsEnable (e : Env) (s : State) : Res := .next (settle (envelope (opReceipts 1 e) e (atOnce (doReceiptsEnable e)) s))

/-- RECEIPTS_DISABLE (R426). -/
def execReceiptsDisable (e : Env) (s : State) : Res := .next (settle (envelope (opReceipts 2 e) e (atOnce (doReceiptsDisable e)) s))

/-- POWER_CAP (R405). -/
def execPowerCap (e : Env) (s : State) : Res := .next (settle (envelope (opPower 1 e) e (atOnce (doPowerCap e)) s))

/-- POWER_LIMIT (R405). -/
def execPowerLimit (e : Env) (s : State) : Res := .next (settle (envelope (opPower 2 e) e (atOnce (doPowerLimit e)) s))

/-- THERMAL (R439). -/
def execThermal (e : Env) (s : State) : Res := .next (settle (envelope (opThermal e) e (atOnce (doThermal e)) s))

/-- FABRIC (R326). -/
def execFabric (e : Env) (s : State) : Res := .next (settle (envelope (opFabric e) e (atOnce (doFabric e)) s))

/-- ROUND_CFG (R328). -/
def execRoundCfg (e : Env) (s : State) : Res := .next (settle (envelope (opRoundCfg e) e (atOnce (doRoundCfg e)) s))

/-- JOB_FORM (R334). -/
def execJobForm (e : Env) (s : State) : Res := .next (settle (envelope (opJob 1 e) e (atOnce (doJobForm e)) s))

/-- JOB_DISSOLVE (R334). -/
def execJobDissolve (e : Env) (s : State) : Res := .next (settle (envelope (opJob 2 e) e (atOnce (doJobDissolve e)) s))

/-- CIRC (R351). -/
def execCirc (e : Env) (s : State) : Res := .next (settle (envelope (opCirc e) e (atOnce (doCirc e)) s))

/-- TWIN_PAIR (R342). -/
def execTwinPair (e : Env) (s : State) : Res := .next (settle (envelope (opTwin 1 e) e (atOnce (doTwinPair e)) s))

/-- TWIN_UNPAIR (R342). -/
def execTwinUnpair (e : Env) (s : State) : Res := .next (settle (envelope (opTwin 2 e) e (atOnce (doTwinUnpair e)) s))

/-- HANDOVER (R347). -/
def execHandover (e : Env) (s : State) : Res := .next (settle (envelope (opTwinMsg 1 e) e (atOnce (doTwinMsg e)) s))

/-- DYING (R347). -/
def execDying (e : Env) (s : State) : Res := .next (settle (envelope (opTwinMsg 2 e) e (atOnce (doTwinMsg e)) s))

/-- LEASE_KEY_ENROL (R338). -/
def execLeaseKeyEnrol (e : Env) (s : State) : Res := .next (settle (envelope (opLeaseKey 1 e) e (atOnce (doLeaseKeyEnrol e)) s))

/-- LEASE_KEY_CLEAR (R338). -/
def execLeaseKeyClear (e : Env) (s : State) : Res := .next (settle (envelope (opLeaseKey 2 e) e (atOnce (doLeaseKeyClear e)) s))

/-- LEASE_GRANT (R372). -/
def execLeaseGrant (e : Env) (s : State) : Res := .next (settle (envelope (opLeaseGrant e) e (atOnce (doLeaseGrant e)) s))

/-- LOG_READ (R371). -/
def execLogRead (e : Env) (s : State) : Res := .next (settle (envelope (opLogRead e) e (atOnce (doLogRead e)) s))

/-- FW_STAGE (R381). -/
def execFwStage (e : Env) (s : State) : Res := .next (settle (envelope (opFwStage e) e (atOnce (doFwStage e)) s))

/-- FW_ACTIVATE (R381). -/
def execFwActivate (e : Env) (s : State) : Res := .next (settle (envelope (opFwActivate e) e (atOnce (doFwActivate e)) s))

/-! SPDM requests (R382, R383; log 57): a request's bytes are its transport's code and what follows the request code. -/

/-- GET_VERSION (R382): negotiation on the transport starts anew. -/
def execGetVersion (req : List Byte) (s : State) : Res :=
  let t := spdmVia req
  let p := s.eng.spdm
  .next (spdmIf t true
    (fun u => spdmAnswer t 0x04 req (setSpdm { p with version := (p.version ++ [t]).dedup, algorithms := p.algorithms.filter (· != t) } u)) s)

/-- GET_CAPABILITIES (R382). -/
def execGetCapabilities (req : List Byte) (s : State) : Res :=
  let t := spdmVia req
  .next (spdmIf t (s.eng.spdm.version.contains t) (spdmAnswer t 0x61 req) s)

/-- NEGOTIATE_ALGORITHMS (R382). -/
def execNegotiateAlgorithms (req : List Byte) (s : State) : Res :=
  let t := spdmVia req
  let p := s.eng.spdm
  .next (spdmIf t (p.version.contains t)
    (fun u => spdmAnswer t 0x63 req (setSpdm { p with algorithms := (p.algorithms ++ [t]).dedup } u)) s)

/-- GET_DIGESTS (R382). -/
def execGetDigests (req : List Byte) (s : State) : Res :=
  .next (spdmIf (spdmVia req) (spdmReady (spdmVia req) s) (spdmAnswer (spdmVia req) 0x01 req) s)

/-- GET_CERTIFICATE (R382): slot 0 or 1. -/
def execGetCertificate (slot : Nat) (req : List Byte) (s : State) : Res :=
  .next (spdmIf (spdmVia req) (spdmReady (spdmVia req) s && decide (slot < 2)) (spdmAnswer (spdmVia req) 0x02 req) s)

/-- CHALLENGE (R382): slot 0 or 1. -/
def execChallenge (slot : Nat) (req : List Byte) (s : State) : Res :=
  .next (spdmIf (spdmVia req) (spdmReady (spdmVia req) s && decide (slot < 2)) (spdmAnswer (spdmVia req) 0x03 req) s)

/-- GET_MEASUREMENTS (R383): one index, or 255 for all, plus 256 times the transport. -/
def execGetMeasurements (index : Nat) (s : State) : Res :=
  let t := index / 256
  .next (spdmIf t (spdmReady t s) (emit (.spdm t 0x60 (measurements (index % 256) s))) s)

/-- KEY_EXCHANGE (R382): opens a session on the transport. -/
def execKeyExchange (req : List Byte) (s : State) : Res :=
  let t := spdmVia req
  let p := s.eng.spdm
  .next (spdmIf t (spdmReady t s)
    (fun u => spdmAnswer t 0x64 req (setSpdm { p with
      sessions := p.sessions ++ [(p.nextSession, t, false)], nextSession := p.nextSession + 1 } u)) s)

/-- FINISH (R382): completes a session of the transport. -/
def execFinish (session : Nat) (req : List Byte) (s : State) : Res :=
  let t := spdmVia req
  let p := s.eng.spdm
  .next (spdmIf t (sessionOf session s == some (t, false))
    (fun u => spdmAnswer t 0x65 req (setSpdm { p with
      sessions := p.sessions.map fun x => if x.1 = session then (x.1, x.2.1, true) else x } u)) s)

/-- HEARTBEAT (R382): in a finished session. -/
def execHeartbeat (session : Nat) (s : State) : Res :=
  .next (match sessionOf session s with
    | some (t, true) => spdmIf t true (spdmAnswer t 0x68 []) s
    | _ => spdmError 0 s)

/-- END_SESSION (R382): what the session secured is secured no more. -/
def execEndSession (session : Nat) (s : State) : Res :=
  let p := s.eng.spdm
  .next (match sessionOf session s with
    | some (t, true) =>
      spdmIf t true (fun u => spdmAnswer t 0x6C [] (setSpdm { p with sessions := p.sessions.filter fun x => x.1 != session } u)) s
    | _ => spdmError 0 s)

end Sys2Proof.Machine
end

