-- ==== Sys2Proof/Machine/Links.lean ====
section
/-!
DEFINITION. What happens on the fabric (chapter 12): links (R320 to R324), packets (R326, R327), what masters, members and lease devices
receive from each other (R336 to R341), and circulation (R351 to R354).
-/

namespace Sys2Proof.Machine

/-! Links. -/

def noSerial : Nat → Nat := fun _ => 0

/-- A port has gone down or trains: what waited for one that is down is discarded (R323, R326); with every twin port down the registered
streams lapse (R346). -/
def portLost (s : State) : State :=
  let s1 := showTwinPorts (relaunch s)
  if bit .twinCfgPaired 0 s1 && twinCut s1 then lapseAll s1 else s1

/-- The ends of a link have exchanged identity and measured the delay: a link to a device of the same FID is held down and logged
(R324); a twin port that comes up may form the pair (R342). -/
def linkUp (p fid serial delay : Nat) (x4 peerReady : Bool) (s : State) : State :=
  if rd .nolucpPortMode p s ≠ 1 then s
  else if fid = ownFid s then note 255 p fid 0 (portLost (wr .nolucpPortState p 0 s))
  else
    let s1 := wr .nolucpPortState p (if x4 then 3 else 2) (wr .nolucpPortPeer p fid (wr .nolucpPortDelay p delay s))
    formPair peerReady (showTwinPorts (relaunch (setFab { s1.fab with serials := tset noSerial s1.fab.serials p serial } s1)))

/-- Both halves of a port hold a failed lane (R323). -/
def bothHalves (failed : Nat) : Bool := failed % 16 != 0 && failed / 16 % 16 != 0

/-- Lanes of a port have failed: it retrains as x4, or is down (R323); with every twin port down the registered streams lapse (R346). -/
def fabricLane (p failed : Nat) (s : State) : State :=
  if rd .nolucpPortMode p s ≠ 1 ∨ rd .nolucpPortState p s = 0 ∨ failed = 0 then s
  else portLost (wr .nolucpPortState p (if bothHalves failed then 0 else 1) s)

/-- A flit of a port is replayed (R322). -/
def fabricReplay (p : Nat) (s : State) : State := bump .nolucpPortReplay p s

/-! Packets. -/

/-- The twin's answer to a copy of a stream: a refusal is a lapse; the acknowledgement of its full state completes the
resynchronisation (R343, R346). -/
def copyAcked (id status : Nat) (s : State) : State :=
  match s.sort.streams.find? fun x => x.2.st != .free && !x.2.shadow && x.2.id == id with
  | none => s
  | some (k, x) =>
    if status ≠ 0 then lapse k (updStream k (fun y => { y with resync := false, resynced := false }) s)
    else if x.resync then updStream k (fun y => { y with resynced := true }) s
    else s

/-- A packet that has come in: consumed at its destination, forwarded over the port that a hash of its ends picks, or discarded (R326).
Consumed here is the twin's answer to a copy, nine bytes: STREAM_ID and status; what other packets do is rows of their own (log 11). -/
def packetIn (port dst src : Nat) (body : List Byte) (s : State) : State :=
  if !portUp port s then s
  else if dst = ownFid s then
    if bit .twinCfgPaired 0 s && src == rd .twinCfgPeer 0 s && body.length == 9 then
      copyAcked (leNat (body.take 8)) (leNat (body.drop 8)) s
    else s
  else
    match egress dst s with
    | [] => bump .nolucStatusUnrouted 0 s
    | ps =>
      let q := pickPort src dst ps
      launch (fabricPortSite port s) q (.forward q dst src body) s

/-- An acknowledgement is 100 us overdue (R327, R346, R354). -/
def ackOverdue (x : AckFor) (s : State) : State :=
  match x with
  | .dma g ch => if (getChan ch.val (getCore g.val s)).st = .busy then endDma g.val ch.val 12 s else s
  | .copy slot => lapse slot.val s
  | .circ j => if bit .jobCfgMember j.val s then addDue (.stepFail (rd .jobCfgDistrict j.val s)) s else s

/-- A frame on an ETHERNET port: passed on, or beyond the rate dropped and counted (R320). -/
def frameIn (port len : Nat) (over_ : Bool) (s : State) : State :=
  if rd .nolucpPortMode port s ≠ 2 then s
  else if over_ then bump .nolucpPortReplay port s
  else if 9216 < len then s
  else emit (.frame port len) s

/-! Jobs: what a master and a lease device receive (R336 to R339). -/

/-- A master outside a job learns its members from what they report (log 62). -/
def learnMember (j fid : Nat) (s : State) : State :=
  if bit .jobCfgMember j s || (getJob j s).members.contains fid then s
  else updJob j (fun x => { x with members := x.members ++ [fid], quiet := 0 }) s

/-- A report of the job is met here: this device is the master, or a member, whose SLOWDEV and LAGDEV follow every member's reports
(R337, R339; log 40). -/
def hears (j : Nat) (s : State) : Bool := issues s || bit .jobCfgMember j s

/-- A member's slow request (R336). -/
def slowRequest (j fid cause mhz : Nat) (s : State) : State :=
  if hears j s then takeRequest j fid cause mhz (learnMember j fid s) else s

def stepDone (j fid : Nat) (s : State) : State := if hears j s then takeDone j fid (learnMember j fid s) else s

def heartbeatIn (j fid : Nat) (s : State) : State := if hears j s then takeBeat j fid (learnMember j fid s) else s

/-! Leases and splits (R338 to R341). -/

/-- A member of the job that no route reaches (R339). -/
def memberCut (j : Nat) (s : State) : Bool := (getJob j s).members.any fun f => f != ownFid s && (egress f s).isEmpty

/-- The lease device has missed a member's heartbeats in three rounds, besides the one that runs. -/
def beatsMissed (j : Nat) (s : State) : Bool :=
  rd .jobCfgLeasedev j s == ownFid s && (getJob j s).missed.any fun m => decide (4 ≤ m.2)

/-- The job is held at the next boundary. -/
def holdSoon (j : Nat) (s : State) : State := updJob j (fun x => { x with holdNext := true, freeNext := false }) s

/-- The members that the device can reach: itself, and those that a route reaches and whose heartbeats are not missing (R339, R340). -/
def reachable (j : Nat) (s : State) : List Nat :=
  (getJob j s).members.filter fun f => f == ownFid s ||
    (!(egress f s).isEmpty && !(getJob j s).missed.any fun m => m.1 == f && decide (4 ≤ m.2))

/-- Asks the arbiter for a grant whose membership is the members the device can reach (R338, R340, R372). -/
def askLease (j : Nat) (s : State) : State := emit (.leaseAsk s.boot.flash.arbiter j (rd .jobStatusEpoch j s) (reachable j s)) s

/-- A split is declared (R339); the lease device asks for a grant of the members it can reach
(R340); a lost member fails the step of a job that circulates (R354). -/
def splitDeclared (j : Nat) (s : State) : State :=
  if !bit .jobCfgMember j s || !(memberCut j s || beatsMissed j s) then s
  else
    let s1 := holdSoon j s
    let s2 := if (getJob j s).circ.isSome then addDue (.stepFail (rd .jobCfgDistrict j s)) s1 else s1
    if rd .jobCfgLeasedev j s = ownFid s then askLease j s2 else s2

/-- The lease device renews the lease and relays the grant it holds (R338). -/
def renewLease (j : Nat) (s : State) : State :=
  if !bit .jobCfgMember j s || rd .jobCfgLeasedev j s != ownFid s then s
  else
    let s1 := askLease j s
    match (getJob j s).lease with
    | some l => relayGrant j l.raw s1
    | none => s1

/-- A relayed grant reaches a member (R338, R341). -/
def leaseRelayed (g : List Byte) (s : State) : State := if (grantCheck g s).status = 0 then takeGrant g s else s

/-- The latest grant has expired: the job is held (R338); the standby lease device asks for one (R340). -/
def leaseExpired (j : Nat) (s : State) : State :=
  if !bit .jobCfgMember j s || !bit .jobStatusLeased j s then s
  else
    let s1 := holdSoon j (wr .jobStatusLeased j 0 s)
    if rd .jobCfgLeasesb j s = ownFid s then askLease j s1 else s1

/-- 60 s after HOLD the job is freed: its district fails (R340). -/
def holdTimedOut (j : Nat) (s : State) : State :=
  if !bit .jobCfgMember j s || !bit .jobStatusHold j s then s else failDistrict (rd .jobCfgDistrict j s) 35 false s

/-! Circulation (R351 to R354). -/

/-- The next device of the ring, when the job circulates and a port toward it is not down, and those ports. -/
def nextInRing (j : Nat) (s : State) : Option (List Nat × Nat) :=
  let x := getJob j s
  match x.circ with
  | none => none
  | some c =>
    let up := c.ports.filter fun p => portTakes p s
    if !up.isEmpty then
      some <| (up,  x.members.getD (c.order.getD ((c.order.idxOf (rd .jobCfgJobidx j s) + 1) % max 1 c.order.length) 0) 0)
    else none

/-- A packet to the next device of the ring, from the home site of the job's district (R352, R353). -/
def sendRing (j : Nat) (f : List Nat × Nat) (k : FabKind) (body : List Byte) (s : State) : State :=
  offer (rd .distCfgHome (rd .jobCfgDistrict j s) s) f.1 f.2 k body s

def circBytes (b : CircBlock) : List Byte :=
  natLe 1 b.hops ++ natLe 8 b.stream ++ natLe 4 b.chain ++ natLe 2 b.layer ++ natLe 4 b.first ++ b.data

/-- The block of a stream's own positions of the running step, for the whole layer of a chain: the rows and scales of each of the layer's
chains after the chain's number; CHAIN is the first of them, FIRST its first token (R352; log 65). -/
def ownBlock (slot c : Nat) (s : State) : CircBlock :=
  let x := getStream slot s
  let ng := max 1 (kNg (kvWord x.district s))
  let c0 := c / ng * ng
  { hops := 0, stream := x.id, chain := c0, layer := c / ng, first := (getChain slot c0 s).len,
    data := ((List.range ng).map (c0 + ·)).flatMap fun k =>
      let n := (getChain slot k s).len
      natLe 4 k ++ (chainRows slot k n (n + x.nin) s).flatMap fun r => r.2.2.2 }

/-- The acknowledgement of an F1 packet of the ring to the member of a JOBIDX, over the ports of the destination (R327). -/
def ackRing (j idx : Nat) (s : State) : State := send j ((getJob j s).members.getD idx 0) .ringAck (natLe 1 j) s

/-- The JOBIDX of the member before this one in the ring. -/
def ringBefore (j : Nat) (s : State) : Nat :=
  match (getJob j s).circ with
  | none => 0
  | some c =>
    let n := max 1 c.order.length
    c.order.getD ((c.order.idxOf (rd .jobCfgJobidx j s) + n - 1) % n) 0

/-- Buffers that are still held: a block both forwarded and consumed leaves its own (R352). -/
def heldBlocks (bs : List CircBuf) : List CircBuf := bs.filter fun b => !(b.forwarded && b.consumed)

/-- The letter reports the consumption of a block: the semaphore has reached the count (R352). -/
def takeConsumption (j : Nat) (k : CircSem) (s : State) : State :=
  let i := 16 * k.core.val + k.sem.val
  let x := getJob j s
  match x.blocks.findIdx? fun b => !b.consumed with
  | none => s
  | some n =>
    if k.count = 0 ∨ rd .coreSemValue i s < k.count then s
    else setJob j { x with blocks := heldBlocks (x.blocks.modify n fun b => { b with consumed := true }) }
      (wr .coreSemValue i (rd .coreSemValue i s - k.count) s)

/-- Forwards the oldest block that is still to be forwarded. -/
def forwardBlock (j : Nat) (f : List Nat × Nat) (s : State) : State :=
  let x := getJob j s
  match x.blocks.findIdx? fun b => !b.forwarded with
  | none => s
  | some n =>
    match x.blocks[n]? with
    | none => s
    | some b => sendRing j f .circBlock (circBytes b.block)
        (setJob j { x with blocks := heldBlocks (x.blocks.modify n fun b => { b with forwarded := true }) } s)

/-- The next device has a free buffer: this member's own block of a chain, or the oldest received one, goes to it (R352). -/
def circSend (j : Nat) (own : Option (Nat × Nat)) (con : Option CircSem) (s : State) : State :=
  if !bit .jobCfgMember j s then s
  else
    let s1 := con.elim s fun k => takeConsumption j k s
    match nextInRing j s1, own with
    | none, _ => s1
    | some f, none => forwardBlock j f s1
    | some f, some (slot, c) =>
      let x := getStream slot s1
      if x.st = .running ∧ x.district = rd .jobCfgDistrict j s1 ∧ (getChain slot c s1).opened = true then
        sendRing j f .circBlock (circBytes (ownBlock slot c s1)) s1
      else s1

/-- A count from a site's base die for a core's semaphore: a core without CCLK edges leaves it in the crossing FIFO (R19, R412,
R436). -/
def countAt (home g sem n : Nat) (s : State) : State :=
  if stalled g s then
    { s with cores := { s.cores with signals := s.cores.signals ++ [{ src := 131072 + 32 * home, dst := g, sem := sem, val := n, sent := true }] } }
  else wake g (addSem g sem n s)

/-- A block is wholly received into one of the two buffers; the semaphore that the template names is signalled; a block that has made
its last hop is not forwarded (R352). -/
def circReceived (j : Nat) (b : CircBlock) (sig : CircSem) (s : State) : State :=
  let x := getJob j s
  if !bit .jobCfgMember j s || x.circ.isNone || decide (2 ≤ x.blocks.length) then s
  else
    let b' : CircBlock := { b with hops := b.hops + 1 }
    let last := decide (x.members.length ≤ b'.hops + 1)
    let s1 := meetPosition j b.stream b.first (setJob j { x with blocks := x.blocks ++ [{ block := b', forwarded := last }] } s)
    countAt (rd .distCfgHome (rd .jobCfgDistrict j s) s) sig.core.val sig.sem.val sig.count (ackRing j (ringBefore j s) s1)

/-- The factor that a running state is scaled by when the maximum rises to m (R128). -/
def mergeFactor (mx m : Val) : Val :=
  if isNan mx || isNan m then .nan
  else if mx == m then .fin false 1 0
  else fp32Val (spExp (fp32Bits (vadd mx (vneg m))))

/-- Two partial states of a query head become one (R128, R129, R353; log 66). -/
def mergeHead (a b : Word32 × Word32 × List Word32) : Word32 × Word32 × List Word32 :=
  let ma := fp32Val a.1
  let mb := fp32Val b.1
  let m := vmaxOf ma mb
  let fa := mergeFactor ma m
  let fb := mergeFactor mb m
  let mix (x y : Word32) : Word32 := fp32Bits (vadd (round32 (vmul (fp32Val x) fa)) (round32 (vmul (fp32Val y) fb)))
  (fp32Bits m, mix a.2.1 b.2.1, (a.2.2.zip b.2.2).map fun p => mix p.1 p.2)

def mergePartial (own p : Partial) : Partial :=
  { hops := p.hops + 1, stream := p.stream, heads := (own.heads.zip p.heads).map fun h => mergeHead h.1 h.2 }

def partialBytes (p : Partial) : List Byte :=
  natLe 1 p.hops ++ natLe 8 p.stream ++ p.heads.flatMap fun h => natLe 4 h.1.toNat ++ natLe 4 h.2.1.toNat ++ h.2.2.flatMap fun v => natLe 4 v.toNat

/-- This member follows the holder of a position in the ring (R351). -/
def startsRing (j pos : Nat) (s : State) : Bool :=
  let x := getJob j s
  match x.circ with
  | none => false
  | some c =>
    let n := max 1 c.order.length
    decide (c.order.idxOf (rd .jobCfgJobidx j s) % n = (c.order.idxOf (circHolder j pos s) + 1) % n)

/-- The query of a new position arrives. This member attends over its own positions; the one after the position's holder sends its
state round the ring (R353). -/
def queryReceived (j stream pos : Nat) (q : List Byte) (own : Partial) (s : State) : State :=
  let x := getJob j s
  if !bit .jobCfgMember j s || x.circ.isNone then s
  else
    let s0 := setJob j { x with queries := x.queries.filter (fun y => y.1 != stream) ++ [(stream, q)] } s
    let s1 := ackRing j (circHolder j pos s) (meetPosition j stream pos s0)
    match nextInRing j s1 with
    | some f => if startsRing j pos s1 then sendRing j f .partialState (partialBytes { own with hops := 0, stream := stream }) s1 else s1
    | none => s1

/-- A partial state arrives and is merged with this device's own; after JOBDEV - 1 hops the result stays here (R353). -/
def partialReceived (j : Nat) (p own : Partial) (s : State) : State :=
  let x := getJob j s
  let m := mergePartial own p
  if !bit .jobCfgMember j s || x.circ.isNone then s
  else if x.members.length ≤ m.hops + 1 then
    ackRing j (ringBefore j s) (setJob j { x with partials := x.partials.filter (fun y => y.stream != p.stream) ++ [m] } s)
  else
    let s1 := ackRing j (ringBefore j s) s
    match nextInRing j s1 with
    | some f => sendRing j f .partialState (partialBytes m) s1
    | none => s1

end Sys2Proof.Machine
end

