-- ==== Sys2Proof/Machine/Twins.lean ====
section
/-!
DEFINITION. The twin's side of the carbon copies (R343, R344), resynchronisation (R346) and the failover (R347, R348).
-/

namespace Sys2Proof.Machine

/-- The shadow of a stream. -/
def shadowOf (id : Nat) (s : State) : Option Nat :=
  (s.sort.streams.find? fun x => x.2.st != .free && x.2.shadow && x.2.id == id).map (·.1)

/-- The mirror district accepts copies: paired, in service, and not in a failover (R347, R348). -/
def acceptsCopies (d : Nat) (s : State) : Bool :=
  bit .twinCfgPaired 0 s && rd .distCfgState d s == 1 && !s.fab.handed.contains d

/-- The site that answers a copy: the home of the shadow's district, or of the first mirror district (R343). -/
def copySite (id : Nat) (s : State) : Nat :=
  rd .distCfgHome (match shadowOf id s with
    | some k => (getStream k s).district
    | none => ((s.fab.mirrors.headD (0, 0)).1)) s

/-- Acknowledges a copy: status 0, or the reason for which it cannot be taken (R327, R343). -/
def ackCopy (id status : Nat) (s : State) : State := sendTwin (copySite id s) .copyAck (natLe 8 id ++ natLe 1 status) s

/-- What a shadow is as it stands (R344). -/
def snapOf (slot round : Nat) (s : State) : Snap :=
  let x := getStream slot s
  { round := round, pos := x.pos, out := x.out, token := x.token, lastadm := x.lastadm,
    ctl := ((cbRead slot 10240 64 s).1).getD [], lens := (chainsOf slot s).map fun c => (c.1, c.2.len),
    recent := x.recent }

/-- What refuses a shadow before anything is allocated (R343). -/
def shadowCheck (d : Nat) (sp : List Byte) (s : State) : Nat :=
  let n (off k : Nat) : Nat := specNat sp off k
  let h := getHandle (n 28 2) s
  if !bit .bookBindBound (n 4 2) s || rd .bookBindDistrict (n 4 2) s != d then 34
  else if !bit .dringCfgEn (n 6 2) s || rd .dringCfgDistrict (n 6 2) s != d then 37
  else if n 1 1 / 32 % 2 = 1 ∧ (!h.made || h.released || h.district != d) then 41
  else if rd .distResSlots d s ≤ rd .distUseSlots d s ∨ (freeSlot d s).isNone then 29
  else 0

/-- A SUBMIT copy, or the specification and control block of a resynchronisation: the shadow is placed anew (R343, R344, R346). -/
def submitCopy (d id : Nat) (spec ctl : List Byte) (s : State) : State :=
  if !acceptsCopies d s then s
  else
    let s0 := match shadowOf id s with
      | some k => freeStream k s
      | none => s
    let sp := spec ++ List.replicate 4032 0
    let c := shadowCheck d sp s0
    if c ≠ 0 then ackCopy id c s0
    else
      let r := placeStream d id sp true s0
      if r.1.1 ≠ 0 then ackCopy id r.1.1 s0
      else
        let slot := r.1.2
        let s1 := cbWrite slot 0 (ctl.take 16384) (updDistrict d (fun y => { y with look := y.look.filter (· ≠ slot) }) r.2)
        ackCopy id 0 (setStream slot { getStream slot s1 with reg := true, snap := some (snapOf slot (roundNow s1) s1) } s1)

/-- The acknowledgement of an END copy, on F0 (R327). -/
def ackEnd (id : Nat) (s : State) : State := sendTwin (copySite id s) .endAck (natLe 8 id ++ natLe 1 0) s

/-- A copy for a shadow that still takes copies. -/
def withShadow (id : Nat) (f : Nat → State → State) (s : State) : State :=
  match shadowOf id s with
  | some k => if acceptsCopies (getStream k s).district s then f k s else s
  | none => s

/-- A DRAW copy is recorded and acknowledged (R344, R345). -/
def drawCopied (id : Nat) (m : DrawMsg) (s : State) : State :=
  withShadow id (fun k t =>
    let r : DrawRec := ⟨m.index, m.token, m.logp, m.alts, m.code, roundNow t⟩
    sendTwin (copySite id t) .drawAck (natLe 8 id ++ natLe 4 m.index)
      (updStream k (fun x => { x with recorded := x.recorded.filter (fun y => y.index != m.index) ++ [r] }) t)) s

/-- The pages of a shadow's chain that a copy opens are open, and none of those it writes is shared. -/
def readyChain (slot home n : Nat) (c : Nat) (touched : List Nat) (s : State) : Option State :=
  let ch := getChain slot c s
  let s1 := if ch.opened then openTo slot c n (n + 1) s else openChain slot c home n s
  s1.bind fun u =>
    let v := (List.range n).foldl (fun t j => finishOpen slot c j t) u
    touched.foldl
      (fun o j => o.bind fun t => if ((getChain slot c t).pages.getD j {}).shared then copyShared slot c j t else some t) (some v)

/-- Every chain of a STEP copy is made ready. -/
def readyChains (slot : Nat) (m : StepCopy) : List (Nat × Nat) → State → Option State
  | [], s => some s
  | h :: hs, s =>
    let d := (getStream slot s).district
    let w := kvWord d s
    let home := (coresOfDistrict d s).getD h.2 0
    let n := ceilDiv ((getChain slot h.1 s).len + m.nin) (max 1 (kTpp w))
    let touched := ((m.rows.filter fun r => r.1 == h.1).map fun r => r.2.1).dedup
    match readyChain slot home n h.1 touched s with
    | some s1 => readyChains slot m hs s1
    | none => none

/-- The tokens of a STEP copy are committed in one chain: value blocks that have filled are closed on the twin as well (R254). -/
def commitCopy (slot n : Nat) (c : Nat) (s : State) : State :=
  let w := kvWord (getStream slot s).district s
  let len := (getChain slot c s).len + n
  setLen slot c len (updChain slot c (fun y => { y with vopen := if kGrp w then len / 16 else y.vopen }) s)

/-- The staging area of a page whose value block has closed is zero before the copy's rows are written. -/
def clearStaging (slot : Nat) (m : StepCopy) (c : Nat) (s : State) : State :=
  let w := kvWord (getStream slot s).district s
  if !kGrp w then s
  else
    (((m.rows.filter fun r => r.1 == c).map fun r => r.2.1).dedup).foldl
      (fun u j =>
        let p := (getChain slot c u).pages.getD j {}
        kvWrite slot p.vault (65536 * p.page + kStoff w) (List.replicate (kSt w) 0) u) s

/-- Writes the rows and the postcode bytes of a STEP copy. -/
def writeCopy (slot : Nat) (m : StepCopy) (s : State) : State :=
  let s1 := m.rows.foldl
    (fun u r =>
      let p := (getChain slot r.1 u).pages.getD r.2.1 {}
      kvWrite slot p.vault (65536 * p.page + r.2.2.1) r.2.2.2 u) s
  m.posts.foldl
    (fun u r =>
      let p := (getChain slot r.1 u).pages.getD r.2.1 {}
      pcWrite slot (p.pcloc + r.2.2.1) r.2.2.2 u) s1

/-- A STEP copy is applied whole, or refused (R343, R344). -/
def stepCopied (id : Nat) (m : StepCopy) (s : State) : State :=
  withShadow id (fun k t =>
    match readyChains k m m.homes t with
    | none => ackCopy id 31 t
    | some t1 =>
      let t2 := m.homes.foldl (fun u h => commitCopy k m.nin h.1 (clearStaging k m h.1 u)) t1
      let t3 := pushHistory k m.history (writeCopy k m t2)
      let t4 := cbWrite k 10248 (m.acc.take 56) (cbWrite k 10244 (natLe 4 m.gstate) t3)
      ackCopy id 0 (updStream k (fun x => { x with
        pos := m.pos, out := m.out, token := m.token, lastadm := m.lastadm,
        recent := (m.history.reverse.take (m.out - x.out) ++ x.recent).take 15 }) t4)) s

/-- A SEAL copy: the shadow as it stands is what a failover goes on from; draws of sealed steps are no longer needed (R344). -/
def sealCopied (id round : Nat) (s : State) : State :=
  withShadow id (fun k t =>
    let x := getStream k t
    ackCopy id 0 (setStream k { x with snap := some (snapOf k round t), recorded := x.recorded.filter fun r => decide (x.out ≤ r.index) } t)) s

/-- A FREEZE copy: a handle of the mirror district under the same number (R344, R349; log 67). -/
def freezeCopied (id h t : Nat) (s : State) : State :=
  withShadow id (fun k u =>
    let x := getStream k u
    if 4096 ≤ h ∨ t = 0 ∨ x.pos < t ∨ (getHandle h u).used = true then ackCopy id 43 u
    else
      let u1 := createHandle k (updStream k (fun y => { y with freezes := [(h, t)] })
        (setHandle h { used := true, district := x.district } u))
      ackCopy id (if (getHandle h u1).made then 0 else 31) u1) s

/-- An END copy: the shadow goes (R344). -/
def endCopied (id : Nat) (s : State) : State := withShadow id (fun k t => ackEnd id (freeStream k t)) s

/-- The arbiter confirms that the primary's device lease has expired: every mirror district fails over (R347). -/
def deviceLeaseExpired (s : State) : State :=
  if !bit .twinCfgPaired 0 s then s
  else triggerFailover (((s.sort.streams.filter fun x => x.2.st != .free && x.2.shadow).map fun x => x.2.district).dedup) s

/-- The failover at a boundary: shadows become streams, those known to have lapsed go (R346, R348, R349). The streams are unprotected
until the pair is formed again. -/
def activateFailover (lapsed : List Nat) (s : State) : State :=
  match s.faults.running with
  | none => s
  | some r =>
    if r.kind ≠ 7 then s
    else
      let ks := r.districts.flatMap fun d => shadowsOf d s
      let s1 := ks.foldl (fun u k => if lapsed.contains k then freeStream k u else activateShadow k u) s
      let s2 := setFab { s1.fab with
        handed := s1.fab.handed.filter fun d => !r.districts.contains d,
        mirrors := s1.fab.mirrors.filter fun m => !r.districts.contains m.1 } s1
      finishRecovery (wr .twinStatusFailover 0 0 s2)

end Sys2Proof.Machine
end

