-- ==== Sys2Proof/Machine/FabricRows.lean ====
section
/-!
DEFINITION. The meanings of the events of the fabric, of jobs, of twins and of circulation (chapter 12), one definition each.
-/

namespace Sys2Proof.Machine

/-- FABRIC_LINK_UP (R324): the link partner's FID and serial number, the delay measured, whether the port came up as x4, and whether
the partner has accepted its TWIN envelope. -/
def execFabricLinkUp (port : FPortId) (fid : BitVec 10) (serial : BitVec 128) (delay : BitVec 17) (x4 peerReady : Bool) (s : State) : Res :=
  .next (settle (linkUp port.val fid.toNat serial.toNat delay.toNat x4 peerReady s))

/-- FABRIC_LANE_FAIL (R323): bit l is set for every lane that has failed. -/
def execFabricLaneFail (port : FPortId) (failed : BitVec 8) (s : State) : Res := .next (settle (fabricLane port.val failed.toNat s))

/-- FABRIC_FLIT_REPLAY (R322). -/
def execFabricFlitReplay (port : FPortId) (s : State) : Res := .next (fabricReplay port.val s)

/-- TRANSPORT_PACKET (R326). -/
def execTransportPacket (port : FPortId) (dst src : BitVec 10) (body : List Byte) (s : State) : Res :=
  .next (packetIn port.val dst.toNat src.toNat body s)

/-- TRANSPORT_ACK_TIMEOUT (R327). -/
def execTransportAckTimeout (x : AckFor) (s : State) : Res := .next (settle (ackOverdue x s))

/-- ETHERNET_FRAME (R320): whether the frame is beyond 10 Gb/s. -/
def execEthernetFrame (port : FPortId) (len : Nat) (over_ : Bool) (s : State) : Res := .next (frameIn port.val len over_ s)

/-- SLOW_REQUEST (R336): 0 MHz withdraws. -/
def execSlowRequest (j : JobId) (fid : BitVec 10) (cause : Fin 4) (mhz : BitVec 11) (s : State) : Res :=
  .next (slowRequest j.val fid.toNat cause.val mhz.toNat s)

/-- STEPDONE (R337). -/
def execStepdone (j : JobId) (fid : BitVec 10) (s : State) : Res := .next (stepDone j.val fid.toNat s)

/-- STEP_HEARTBEAT (R339). -/
def execStepHeartbeat (j : JobId) (fid : BitVec 10) (s : State) : Res := .next (heartbeatIn j.val fid.toNat s)

/-- SPLIT_DECLARE (R339). -/
def execSplitDeclare (j : JobId) (s : State) : Res := .next (settle (splitDeclared j.val s))

/-- LEASE_RENEWAL (R338). -/
def execLeaseRenewal (j : JobId) (s : State) : Res := .next (renewLease j.val s)

/-- LEASE_RELAY (R338, R341): the grant's bytes. -/
def execLeaseRelay (g : List Byte) (s : State) : Res := .next (settle (leaseRelayed g s))

/-- LEASE_EXPIRY (R338). -/
def execLeaseExpiry (j : JobId) (s : State) : Res := .next (leaseExpired j.val s)

/-- SPLIT_HOLD_TIMEOUT (R340). -/
def execSplitHoldTimeout (j : JobId) (s : State) : Res := .next (settle (holdTimedOut j.val s))

/-- SUBMIT_COPY (R343, R344): the mirror district, STREAM_ID, specification and control block. -/
def execSubmitCopy (d : DistrictId) (id : Word64) (spec ctl : List Byte) (s : State) : Res :=
  .next (settle (submitCopy d.val id.toNat spec ctl s))

/-- DRAW_COPY (R344). -/
def execDrawCopy (id : Word64) (m : DrawMsg) (s : State) : Res := .next (drawCopied id.toNat m s)

/-- DRAW_COPY_ACK (R345). -/
def execDrawCopyAck (slot : SlotId) (s : State) : Res := .next (settle (drawReleased slot.val true s))

/-- DRAW_WAIT_TIMEOUT (R345). -/
def execDrawWaitTimeout (slot : SlotId) (s : State) : Res := .next (settle (drawReleased slot.val false s))

/-- STEP_COPY (R344). -/
def execStepCopy (id : Word64) (m : StepCopy) (s : State) : Res := .next (settle (stepCopied id.toNat m s))

/-- SEAL_COPY (R344). -/
def execSealCopy (id : Word64) (round : BitVec 48) (s : State) : Res := .next (settle (sealCopied id.toNat round.toNat s))

/-- FREEZE_COPY (R344). -/
def execFreezeCopy (id : Word64) (h : BitVec 12) (t : Nat) (s : State) : Res := .next (settle (freezeCopied id.toNat h.toNat t s))

/-- END_COPY (R344). -/
def execEndCopy (id : Word64) (s : State) : Res := .next (settle (endCopied id.toNat s))

/-- TWIN_RESYNC (R346). -/
def execTwinResync (slot : SlotId) (s : State) : Res := .next (resyncStream slot.val s)

/-- DEVICE_LEASE_EXPIRY (R347). -/
def execDeviceLeaseExpiry (s : State) : Res := .next (settle (deviceLeaseExpired s))

/-- FAILOVER_ACTIVATE (R348): the slots of shadows known to have lapsed. -/
def execFailoverActivate (lapsed : List Nat) (s : State) : Res :=
  .next (settle (startWaiting (settle (activateFailover lapsed s))))

/-- CIRC_BLOCK_SEND (R352): this member's own block of a slot's chain or the oldest received one, and a consumption that the letter has
reported. -/
def execCircBlockSend (j : JobId) (own : Option ChainId) (con : Option CircSem) (s : State) : Res :=
  .next (circSend j.val own con s)

/-- CIRC_BLOCK_RECEIVED (R352). -/
def execCircBlockReceived (j : JobId) (b : CircBlock) (sig : CircSem) (s : State) : Res := .next (settle (circReceived j.val b sig s))

/-- CIRC_QUERY_RECEIVED (R353): stream, position, query, and the partial state that this member's letter computes. -/
def execCircQueryReceived (j : JobId) (stream : Word64) (pos : Nat) (q : List Byte) (own : Partial) (s : State) : Res :=
  .next (queryReceived j.val stream.toNat pos q own s)

/-- PARTIAL_STATE_RECEIVED (R353): the state received, and this member's own for the same query. -/
def execPartialStateReceived (j : JobId) (p own : Partial) (s : State) : Res := .next (partialReceived j.val p own s)

end Sys2Proof.Machine
end

