-- ==== Sys2Proof/Machine/PowerRows.lean ====
section
/-!
DEFINITION. The meanings of the events of power, heat and coolant (chapters 15 and 16) and of the sideband input PWR_EN (R503), one
definition each.
-/

namespace Sys2Proof.Machine

/-- INPUT_FAULT (R400): above 62 V, or below 38 V. -/
def execInputFault (high : Bool) (s : State) : Res := .next (settle (inputFault high s))

/-- CAP_DIVISION (R408). -/
def execCapDivision (s : State) : Res := .next (settle (divideCap s))

/-- ALLOTMENT_REQUEST (R409): the clerk's request in W by site. -/
def execAllotmentRequest (ws : List Nat) (s : State) : Res := .next (settle (requestAllotments ws s))

/-- CONTROL_WINDOW_END (R410). -/
def execControlWindowEnd (s : State) : Res := .next (settle (windowEnd s))

/-- GATED_SLICE (R412): a 10 us slice of a site is gated, or the gating ends. -/
def execGatedSlice (k : SiteId) (on : Bool) (s : State) : Res := .next (settle (gateSlice k.val on s))

/-- VOLTAGE_DROOP (R402, R404): the voltage sensed at a cluster. -/
def execVoltageDroop (k : ClusterId) (mv : Nat) (s : State) : Res := .next (settle (voltageSensed k.val mv s))

/-- REGULATOR_NOTICE (R403). -/
def execRegulatorNotice (k : ClusterId) (s : State) : Res := .next (noticeArrives k.val s)

/-- METER_SAMPLE (R415): a meter's voltage and current over one microsecond. -/
def execMeterSample (m : Meter) (mv ma : Nat) (s : State) : Res := .next (meterSample m mv ma s)

/-- DIODE_CONVERSION (R430): in units of 0.125 degrees Celsius, `none` for a conversion that fails. -/
def execDiodeConversion (k : SiteId) (n : Fin 15) (x : Option Int) (s : State) : Res :=
  .next (settle (diodeConverted k.val n.val x s))

/-- THERMAL_MODEL_UPDATE (R431): the word slots granted and the engine's activity in the last 10 us. -/
def execThermalModelUpdate (cl : ClusterId) (words activity : Nat) (s : State) : Res :=
  .next (modelUpdate cl.val words activity s)

/-- DIE_TRIP (R438). -/
def execDieTrip (k : SiteId) (n : Fin 15) (s : State) : Res := .next (settle (dieTrip k.val n.val s))

/-- COOLANT_READ (R442). -/
def execCoolantRead (x : Option Coolant) (s : State) : Res := .next (settle (coolantRead false x s))

/-- COOLANT_READ_RETRY (R443). -/
def execCoolantReadRetry (x : Option Coolant) (s : State) : Res := .next (settle (coolantRead true x s))

/-- SENSOR_LOST (R443). -/
def execSensorLost (s : State) : Res := .next (settle (sensorLost s))

/-- STOP_SEQUENCE (R446). -/
def execStopSequence (s : State) : Res := .next (settle (stopSequence s))

/-- PWR_EN_FALL (R503). -/
def execPwrEnFall (s : State) : Res := .next (settle (pwrEnFall s))

/-- HEAVY_PHASE_END (R403). -/
def execHeavyPhaseEnd (k : ClusterId) (s : State) : Res := .next (phaseEnds k.val s)

end Sys2Proof.Machine
end

