-- ==== Sys2Proof/Machine/Access.lean ====
section
/-!
DEFINITION. Accesses to registers (R386 to R397): the map of BAR0, which function reaches what, writes by access code, posted
writes, locks and triple-voted fields; and the registers whose writes do something: rings (R312, R365, R366, R368, R426), mailboxes
(R375 to R378), the dead-letter queue (R493).
-/

namespace Sys2Proof.Machine

/-! The map of BAR0 (R386 to R388, R428, R450, R473, R495). -/

/-- A run of equal blocks: where it starts, the step from one to the next, how many, and the size of one. -/
structure Region where
  blk : Block
  base : Nat
  stride : Nat
  count : Nat
  size : Nat

/-- The blocks of a site region. -/
def siteRegions : List Region :=
  [⟨.core, 0, 0x200, 2048, 0x200⟩, ⟨.vault, 0x100000, 0x80, 2048, 0x80⟩, ⟨.nme, 0x140000, 0x80, 32, 0x80⟩, ⟨.ph, 0x141000, 0x40, 32, 0x40⟩,
   ⟨.clbind, 0x141800, 8, 32, 8⟩, ⟨.vsite, 0x142000, 0x100, 1, 0x100⟩, ⟨.nmsite, 0x142100, 0x300, 1, 0x300⟩, ⟨.net, 0x142400, 0x100, 1, 0x100⟩,
   ⟨.kvsite, 0x142500, 0x100, 1, 0x100⟩, ⟨.sosite, 0x142600, 0x100, 1, 0x100⟩, ⟨.psite, 0x144000, 0x100, 1, 0x100⟩,
   ⟨.pwrcl, 0x144100, 0x40, 32, 0x40⟩, ⟨.thsite, 0x148000, 0x100, 1, 0x100⟩, ⟨.thcl, 0x148100, 0x20, 32, 0x20⟩,
   ⟨.brsite, 0x14C000, 0x100, 1, 0x100⟩, ⟨.fltsite, 0x14C100, 0x100, 1, 0x100⟩]

/-- The blocks of the device region. -/
def deviceRegions : List Region :=
  [⟨.dev, 0x8000000, 0x1000, 1, 0x1000⟩, ⟨.eng, 0x8001000, 0x1000, 1, 0x1000⟩, ⟨.dist, 0x8010000, 0x40, 256, 0x40⟩,
   ⟨.kvd, 0x8014000, 0x10, 256, 0x10⟩, ⟨.sodist, 0x8018000, 0x40, 256, 0x40⟩, ⟨.book, 0x8020000, 0x40, 4096, 0x40⟩,
   ⟨.dring, 0x8060000, 0x40, 4096, 0x40⟩, ⟨.nolucp, 0x80A0000, 8, 32, 8⟩, ⟨.noluc, 0x80A0100, 8, 1, 8⟩, ⟨.round, 0x80A1000, 0x20, 1, 0x20⟩,
   ⟨.job, 0x80A2000, 0x20, 64, 0x20⟩, ⟨.twin, 0x80A3000, 0x10, 1, 0x10⟩, ⟨.ering, 0x80B0000, 0x40, 256, 0x40⟩,
   ⟨.mbox, 0x80C0000, 0x400, 64, 0x400⟩, ⟨.pdev, 0x8100000, 0x100, 1, 0x100⟩, ⟨.energy, 0x8101000, 0x100, 1, 0x100⟩,
   ⟨.rring, 0x8102000, 0x40, 257, 0x40⟩, ⟨.thdev, 0x8180000, 0x100, 1, 0x100⟩, ⟨.brdev, 0x8200000, 0x100, 1, 0x100⟩,
   ⟨.fltdev, 0x8280000, 0x100, 1, 0x100⟩]

/-- Block, instance in its region and byte offset in the block of an offset. -/
def inRegions (off : Nat) (rs : List Region) : Option (Region × Nat × Nat) :=
  rs.findSome? fun r =>
    let i := (off - r.base) / r.stride
    let o := (off - r.base) % r.stride
    if r.base ≤ off ∧ i < r.count ∧ o < r.size then some (r, i, o) else none

/-- Block, device-wide instance and byte offset in the block of a BAR0 offset. -/
def locate (off : Nat) : Option (Block × Nat × Nat) :=
  if off < 0x8000000 then
    (inRegions (off % 0x200000) siteRegions).map fun r => (r.1.blk, off / 0x200000 * r.1.count + r.2.1, r.2.2)
  else (inRegions off deviceRegions).map fun r => (r.1.blk, r.2.1, r.2.2)

/-! Which function reaches what (R396, R428, R450, R473, R495). -/

/-- The district whose grants decide over a block, and the right without a write grant. -/
def blockDistrict (b : Block) (i : Nat) (s : State) : Option Nat :=
  match b with
  | .core => coreDistrict i s
  | .dist | .kvd | .sodist => some i
  | .dring => if bit .dringCfgEn i s then some (rd .dringCfgDistrict i s) else none
  | .book => if bit .bookBindBound i s then some (rd .bookBindDistrict i s) else none
  | .rring => if i < 256 then some i else none
  | _ => none

/-- A function may write a block by access code. -/
def mayWrite (port func : Nat) (b : Block) (i : Nat) (s : State) : Bool :=
  let granted := match blockDistrict b i s with
    | some d => holdsGrant port func d true s
    | none => false
  match b with
  | .ering => i / 64 == port && (func == 0 || (8 ≤ i % 64 && rd .eringCfgFunc i s == func))
  | .mbox => mboxPort i == port && (func == 0 || (!mboxSecure i && rd .mboxCfgFunc i s == func))
  | .core | .dist | .kvd | .sodist | .dring | .rring => func == 0 || granted
  | _ => func == 0

/-- A function may read a register of a block, at a byte offset in it (R396, R428, R450, R473, R495). -/
def mayRead (port func : Nat) (b : Block) (i o : Nat) (s : State) : Bool :=
  let granted := match blockDistrict b i s with
    | some d => holdsGrant port func d false s
    | none => false
  match b with
  | .core | .dist | .kvd | .sodist | .book => func == 0 || granted
  | .dev => func == 0 || o / 8 == 0
  | .pdev | .energy | .thdev | .brdev => true
  | _ => mayWrite port func b i s

/-! Counting refused accesses (R397). -/

/-- An access that is not allowed: counted, recorded, and the first of a function in a second logged. -/
def denied (write : Bool) (port func off : Nat) (s : State) : State :=
  let k := 1024 + 8 * port + func
  let s1 := wr .devAccessLastOffset 0 off (wr .devAccessLastFunc 0 func (wr .devAccessLastPort 0 port
    (wr .devAccessLastWrite 0 (natBool write) (bump .devAccessDenied 0 s))))
  if s.eng.refused.any fun x => x.1 == k && decide (s.now < x.2 + 10 ^ 9) then s1
  else note 255 k off 0 (setEng { s1.eng with refused := (k, s1.now) :: s1.eng.refused.filter fun x => x.1 != k } s1)

/-! Rings. -/

/-- A doorbell (R365). -/
def doorbell (n v : Nat) (s : State) : State :=
  let d := (v + 2 ^ 17 - rd .eringHeadIndex n s) % 2 ^ 17
  if 1 ≤ d ∧ d ≤ 2 ^ rd .eringCfgLog2size n s then wr .eringDbIndex n v s else flag .eringStatusDbErr n s

/-- A consumer index within the span from the old one to the producer's, else CONS_ERR (R366, R318, R429). -/
def consume (cons prod err : Reg) (bits_ i v : Nat) (s : State) : State :=
  let m := 2 ^ bits_
  let old := rd cons i s
  if (v + m - old) % m ≤ (rd prod i s + m - old) % m then wr cons i v s else flag err i s

def eringCons (n v : Nat) (s : State) : State := consume .eringRconsIndex .eringRprodIndex .eringStatusConsErr 17 n v s
def dringCons (r v : Nat) (s : State) : State := consume .dringConsIndex .dringProdIndex .dringStatusConsErr 21 r v s
def rringCons (r v : Nat) (s : State) : State := consume .rringConsIndex .rringProdIndex .rringStatusConsErr 17 r v s

/-- EN of a ring: it cannot be set with a size out of range (R384); clearing it stops fetching (R368). -/
def ringEnable (n : Nat) (en : Bool) (s : State) : State :=
  let l := rd .eringCfgLog2size n s
  if en && (l < 4 || 16 < l) then s else ringIdle n (wr .eringCfgEn n (natBool en) s)

/-- The class of a ring's envelopes (R364). -/
def ringEnv (n pos : Nat) (raw : List Byte) (s : State) : Env :=
  let f := ringFunc n s
  { cls := funcClass f, secured := false, port := Fin.ofNat 4 (n / 64), func := Fin.ofNat 8 f,
    via := .ring (Fin.ofNat 256 n) pos, raw := raw, input := [], outFault := false }

/-- The mailboxes of a ring's function, those of function 0 and MGMT learn of a failed fetch; the manual gives that event no code
(R368, R378; log 64). -/
def fetchEvent (n : Nat) (s : State) : State :=
  let c := fresh s
  let f := ringFunc n s
  let m : EventMsg := ⟨c.1 % 65536, 0, 0, roundNow s, s.now, (s.logSeq + 4095) % 4096⟩
  let takes (b : Nat) : Bool :=
    !mboxToFw b && bit .mboxCfgEvt b c.2 && (mboxFunc b c.2 == 0 || (mboxPort b == n / 64 && mboxFunc b c.2 == f))
  ((List.range 64).filter takes).foldl (fun u b => fwSend b true (eventBytes m) u) (emit (.mgmtEvent m) c.2)

/-- The read of the first bytes of a slot, BASE + 4,096 times its index (R365, R366). -/
def readSlot (n pos len : Nat) (s : State) : State :=
  emit (.slotRead (n / 64) (rd .eringBaseAddr n s * 4096 + pos % 2 ^ rd .eringCfgLog2size n s * 4096) len) s

/-- A slot is fetched once its slip position is free and fewer than 64 envelopes are outstanding; a poisoned or failed fetch stops
the ring (R366, R368). What follows LEN in the slot is not read. An envelope that no row of the table is is answered at once. -/
def fetchSlot (n : Nat) (raw : List Byte) (bad : Bool) (s : State) : State :=
  let pos := rd .eringHeadIndex n s
  let used := (pos + 2 ^ 17 - rd .eringRconsIndex n s) % 2 ^ 17
  let out := (s.eng.outst.filter fun o => o.ring == n).length
  if !bit .eringCfgEn n s || rd .eringDbIndex n s == pos || decide (2 ^ rd .eringCfgLog2size n s ≤ used) || decide (64 ≤ out) ||
      rd .brdevStatusPhase 0 s != 6 || stopping s then s
  else if bad then fetchEvent n (ringIdle n (flag .eringStatusFetchErr n (wr .eringCfgEn n 0 (readSlot n pos 64 s))))
  else
    let e0 := ringEnv n pos raw s
    let len := if 64 ≤ envLen e0 ∧ envLen e0 ≤ 4096 then envLen e0 else 64
    let e := { e0 with raw := raw.take len }
    let o : Outst := ⟨n, pos, e.raw, outsideTable e, false, ringFunc n s⟩
    let s0 := readSlot n pos len s
    let s1 := ringIdle n (wr .eringHeadIndex n (pos + 1) (setEng { s0.eng with outst := s0.eng.outst ++ [o] } s0))
    if outsideTable e then refuseOutside e s1 else s1

/-! Mailboxes (R375 to R378). -/

/-- A commit: the staged message goes into an empty slot, and the read returns the new SEQ; a full mailbox gives Completer Abort. -/
def mboxCommit (m : Nat) (s : State) : State :=
  if !barServes .mbox s then s
  else if bit .mboxStatusFull m s then emit .abort (flag .mboxStatusReject m s)
  else
    let s1 := mboxFill m (mread s.eng.staging (256 * m) 256) s
    emit (.readData false (natLe 8 (rd .mboxStatusSeq m s1))) s1

/-- An acknowledgement of the current SEQ. -/
def mboxAck (m seq : Nat) (s : State) : State :=
  if bit .mboxStatusFull m s && seq == rd .mboxStatusSeq m s then fwNext m (wr .mboxStatusFull m 0 s) else s

def mboxWithdraw (m : Nat) (s : State) : State :=
  if bit .mboxStatusFull m s then fwNext m (flag .mboxStatusWithdrawn m (wr .mboxStatusFull m 0 s)) else s

/-- TMO has passed with the message still in the slot: the sender is interrupted. -/
def mboxTimeout (m : Nat) (s : State) : State :=
  if !bit .mboxStatusFull m s then s
  else
    let s1 := flag .mboxStatusTimeout m s
    if mboxToFw m then emit (.msix (mboxPort m) (mboxFunc m s) (rd .mboxCfgVector m s)) s1 else emit (.fwIrq m) s1

/-- The short envelope in a host-to-firmware mailbox, with the sending function's class. -/
def mboxEnv (m : Nat) (input : List Byte) (outFault : Bool) (found : List BadUnit) (extOk : Bool) (s : State) : Env :=
  let f := mboxFunc m s
  { cls := funcClass f, secured := false, port := Fin.ofNat 4 (mboxPort m), func := Fin.ofNat 8 f,
    via := .mbox (Fin.ofNat 64 m), raw := mread s.eng.slots (256 * m) 256, input := input, outFault := outFault, found := found,
    extOk := extOk }

/-- Firmware takes a message: the postmaster from a secure mailbox, the clerk, when it is up, from another (R374, R376, R378). -/
def mboxTake (m : Nat) (input : List Byte) (outFault : Bool) (found : List BadUnit) (extOk : Bool) (s : State) : State :=
  if !mboxToFw m || !bit .mboxStatusFull m s || (!mboxSecure m && !clerkUp s) || stopping s then s
  else
    let e := mboxEnv m input outFault found extOk s
    let s1 := mboxAck m (rd .mboxStatusSeq m s) s
    if 256 < envLen e then reply (hNat e 0 2) e (refuse 3 |> fun a => { a with detail := 4 }) s1 else anyEnvelope e s1

/-! The dead-letter queue (R493). -/

def dlqPop (s : State) : State :=
  let d := rd .fltdevDlqSelDistrict 0 s
  showDlq (setFaults { s.faults with dlq := tset noDlq s.faults.dlq d (dlqOf d s).tail } s)

/-! One field (R391). -/

/-- The effect of writing a value to a field, by its access code or by what the field does. -/
def writeField (func : Nat) (f : Reg) (i v : Nat) (s : State) : State :=
  let g := i / max 1 (regInfo f).sub
  match f with
  | .coreCtrlGo => if v = 1 then goCore g s else s
  | .coreCtrlStop => if v = 1 then stopCore g s else s
  | .coreSrSeed => holdSr g true (BitVec.ofNat 64 v) s
  | .coreSrCtr => holdSr g false (BitVec.ofNat 64 v) s
  | .coreLetterLbase | .coreLetterLlen | .coreLetterEntry | .coreLetterSdbase | .coreSemValue =>
    if goState (getCore g s).st then wr f i v s else s
  | .nmeCtrlAbort => if v = 1 then nmAbort g (fun _ => true) 15 s else s
  | .vsiteScrubHours => wrIf (decide (1 ≤ v ∧ v ≤ 168)) f i v s
  | .netVcWeightW1 | .netVcWeightW2 | .netVcWeightW3 => wrIf (v != 0) f i v s
  | .nmsiteLockLock => flagIf (v == 1) f i s
  | .eringCfgEn => ringEnable g (v == 1) s
  | .eringCfgFunc => if bit .eringCfgEn g s || func != 0 then s else wr f i v s
  | .eringCfgLog2size | .eringCfgVector | .eringBaseAddr | .eringRbaseAddr => if bit .eringCfgEn g s then s else wr f i v s
  | .eringDbIndex => doorbell g v s
  | .eringRconsIndex => eringCons g v s
  | .dringConsIndex => dringCons g v s
  | .rringConsIndex => rringCons g v s
  | .mboxCfgTmo => wrIf (decide (1 ≤ v ∧ v ≤ 1000)) f i v s
  | .mboxCfgFunc => if mboxSecure g || func != 0 then s else wr f i v s
  | .mboxAckSeq => mboxAck g v s
  | .mboxCtrlWithdraw => if v = 1 then mboxWithdraw g s else s
  | .pwrclVminClr => if v = 1 then restartVmin g s else s
  | .energyCfgInterval | .sodistAdmPbudget | .sodistAdmPchunk => wrIf (v != 0) f i v s
  | .sodistAdmMaxbatch => wrIf (decide (1 ≤ v ∧ v ≤ 4096)) f i v s
  | .kvsiteWmarkPrPct => wrIf (decide (v ≤ 100)) f i v s
  | .kvdCfgLaoff => wrIf (decide (v ≤ 9999)) f i v s
  | .kvdRetRthr => wrIf (decide (v = 0 ∨ (1024 ≤ v ∧ v ≤ 2 ^ 24))) f i v s
  | .kvdRetN => wrIf (decide (1 ≤ v ∧ v ≤ 4096)) f i v s
  | .kvdRetW => wrIf (decide (1 ≤ v ∧ v ≤ 64)) f i v s
  | .kvdRetS => wrIf (decide (v ≤ 64)) f i v s
  | .fltdevDlqSelDistrict => showDlq (wr f i v s)
  | .fltdevDlqPopDo => if v = 1 then dlqPop s else s
  | f =>
    match (regInfo f).acc with
    | .rw | .rwp | .rwl => wr f i v s
    | .w1c => if v = 1 then wr f i 0 s else s
    | .ro | .tv => s

/-! Posted writes (R393). -/

/-- The fields that a posted write sets: none where it would leave HIGH at or below LOW (R284). -/
def effective (i : Nat) (sets : List (Reg × Nat × Nat)) (s : State) : List (Reg × Nat × Nat) :=
  let v (f : Reg) : Nat := ((sets.find? fun x => x.1 == f).map (·.2.2)).getD (rd f i s)
  if (sets.any fun x => x.1 == .kvsiteWmarkLow || x.1 == .kvsiteWmarkHigh) && decide (v .kvsiteWmarkHigh ≤ v .kvsiteWmarkLow) then []
  else sets

/-- A posted write takes effect and BUSY returns to 0; that of a darkened cluster's core waits until it is lit. The functions
that may write FUNC fields have no posted writes. -/
def postedEffect (b : Block) (i : Nat) (s : State) : State :=
  match s.posted.find? fun p => p.blk == b && p.inst == i with
  | none => s
  | some p =>
    if coreDark b i s then s
    else
      let s1 := { s with posted := s.posted.erase p }
      let s2 := match busyBits b with
        | some r => wr r.1 i 0 s1
        | none => s1
      (effective i p.sets s2).foldl (fun u w => writeField 0 w.1 w.2.1 w.2.2 u) s2

/-! Locks and triple voting (R394, R395). -/

/-- The lock that governs a field is set. -/
def locked (f : Reg) (i : Nat) (s : State) : Bool :=
  match f with
  | .vsiteSelftestMode => bit .devLockFlash 0 s
  | _ => bit .nmsiteLockLock (i / max 1 (regInfo f).sub) s

/-- The fields that a write of n bytes at a register's byte offset enables whole, with the values written. -/
def enabledFields (b : Block) (i off : Nat) (data : List Byte) : List (Reg × Nat × Nat) :=
  let base := off / 8 * 8
  let lo := 8 * (off - base)
  (fieldsAt b base).filterMap fun x =>
    let r := regInfo x.1
    let first := x.2.2 / 8 * 8
    let last := (x.2.2 + r.w + 7) / 8 * 8
    if lo ≤ first ∧ last ≤ lo + 8 * data.length then
      some (x.1, i * r.sub + x.2.1, leNat data / 2 ^ (x.2.2 - lo) % 2 ^ r.w) else none

/-- A register holds an RWP field. -/
def holdsRwp (b : Block) (off : Nat) : Bool := (fieldsAt b (off / 8 * 8)).any fun x => (regInfo x.1).acc == .rwp

/-- A write of an access that R396 allows, outside the mailbox arrays: locks and triple-voted fields refuse their part, EN of a ring
is written after its other fields, BUSY drops the write, and a register with an RWP field is written later. -/
def writeRegister (port func : Nat) (b : Block) (i o barOff : Nat) (data : List Byte) (s : State) : State :=
  let fs := enabledFields b i o data
  let stop (x : Reg × Nat × Nat) : Bool :=
    match (regInfo x.1).acc with
    | .tv => true
    | .rwl => locked x.1 x.2.1 s
    | _ => false
  let s1 := if fs.any stop then denied true port func barOff s else s
  let ok := (fs.filter fun x => !stop x).reverse
  match busyBits b with
  | some r =>
    if bit r.1 i s then flag r.2 i s1
    else if holdsRwp b o then post b i ok s1
    else ok.foldl (fun u w => writeField func w.1 w.2.1 w.2.2 u) s1
  | none => ok.foldl (fun u w => writeField func w.1 w.2.1 w.2.2 u) s1

/-- The access lies in a mailbox array (R390). -/
def inMboxArray (b : Block) (o n : Nat) : Bool := b == .mbox && (decide (o + n ≤ 256) || (decide (256 ≤ o) && decide (o + n ≤ 512)))

/-- An access has a legal width and alignment (R390). -/
def widthOk (off n : Nat) : Bool :=
  ((n == 4 || n == 8) && off % n == 0) ||
    (match locate off with
     | some x => inMboxArray x.1 x.2.2 n && (n == 1 || (n == 2 && off % 2 == 0) || (decide (1 ≤ n) && off % 4 == 0 && n % 4 == 0))
     | none => false)

/-- A port that came up as a root port, which exposes no BAR0 (R385). -/
def rootPort (port : Nat) (s : State) : Bool := s.boot.hostModes / 4 ^ port % 4 == 2

/-- A register write by a host function (R385, R390 to R397, R467, R468). -/
def registerWrite (port func off : Nat) (data : List Byte) (s : State) : State :=
  let site := off / 0x200000
  if rootPort port s then s
  else if !widthOk off data.length then flag .devAccessWidthErr 0 s
  else if off < 0x8000000 ∧ siteUp site s = false then bump .devAccessDropped 0 s
  else
    match locate off with
    | none => s
    | some (b, i, o) =>
      if !barServes b s then s
      else if !mayWrite port func b i s then denied true port func off s
      else if b = .mbox ∧ o < 512 then
        if o < 256 then setEng { s.eng with staging := mwrite s.eng.staging (256 * i + o) data } s else s
      else writeRegister port func b i o off data s

/-- The tag-region lock of a site, which governs itself: a write to one that is set is denied, and recorded as function 0's; the row
names no port (R394, R397; log 130). -/
def lockSite (k : Nat) (s : State) : State :=
  if bit .nmsiteLockLock k s then
    let f := fresh s
    denied true (f.1 % 4) 0 (k * 0x200000 + 0x142280) f.2
  else flag .nmsiteLockLock k s

/-- One copy of a TV register has gone wrong and is rewritten with the majority (R395). -/
def tvCorrect (off copy : Nat) (s : State) : State := note 255 copy off 0 (wr .devTvOffset 0 off (bump .devTvCorr 0 s))

/-- All three copies of a TV register differ: its restore from the postmaster's record begins (R395). -/
def tvLost (off : Nat) (s : State) : State :=
  if s.eng.tvPending.contains off then s
  else
    note 255 0 off 0x0012 (flag .devTvPending 0 (wr .devTvOffset 0 off (bump .devTvUncorr 0
      (setEng { s.eng with tvPending := s.eng.tvPending ++ [off] } s))))

/-- The postmaster's comparison of a window: what is found wrong, each register with a copy; where two copies of one register are wrong
all three differ. -/
def tvScan (upset : List (Nat × Nat)) (s : State) : State :=
  ((upset.map (·.1)).dedup).foldl
    (fun u off =>
      match (upset.filter fun x => x.1 == off).map (·.2) with
      | [c] => tvCorrect off c u
      | _ => tvLost off u) s

/-- The restore of a TV register ends; the value that the state holds is the postmaster's record. A disagreement found by a use of the
field, and not by the scan, is counted here (R395; log 131). -/
def tvRestore (off : Nat) (s : State) : State :=
  let s1 := tvLost off s
  let left := s1.eng.tvPending.filter (· != off)
  wr .devTvPending 0 (natBool (!left.isEmpty)) (setEng { s1.eng with tvPending := left } s1)

end Sys2Proof.Machine
end

