-- ==== Sys2Proof/Machine/Registers.lean ====
section
/-!
DEFINITION. The meanings of register accesses, mailboxes and rings (chapters 11, 13 and 14), one definition each.
-/

namespace Sys2Proof.Machine

/-- NME_ABORT (R185): the engine's operations end with ABORTED. -/
def execNmeAbort (e : ClusterId) (s : State) : Res := .next (settle (blockWrite .nme e.val (nmAbort e.val (fun _ => true) 15) s))

/-- FLIP_ARM (R163): the mode bits DAT, CHK, PAR and PARW as FLIP_CTRL numbers them. -/
def execFlipArm (v : CoreId) (ctrl : BitVec 6) (s : State) : Res :=
  let c := ctrl.toNat
  .next (blockWrite .vault v.val (fun u => wr .vaultFlipCtrlDat v.val (bits c 1 1) (wr .vaultFlipCtrlChk v.val (bits c 2 1)
    (wr .vaultFlipCtrlPar v.val (bits c 3 1) (wr .vaultFlipCtrlParw v.val (bits c 4 2) (flag .vaultFlipCtrlArmed v.val u))))) s)

/-- MBOX_SEND (R375). -/
def execMboxSend (m : MBoxId) (s : State) : Res := .next (mboxCommit m.val s)

/-- MBOX_ACK (R376). -/
def execMboxAck (m : MBoxId) (seq : BitVec 8) (s : State) : Res := .next (mboxAck m.val seq.toNat s)

/-- MBOX_WITHDRAW (R377). -/
def execMboxWithdraw (m : MBoxId) (s : State) : Res := .next (mboxWithdraw m.val s)

/-- MAILBOX_TIMEOUT (R377). -/
def execMailboxTimeout (m : MBoxId) (s : State) : Res := .next (mboxTimeout m.val s)

/-- MAILBOX_MESSAGE (R378): the input buffer's bytes and what else the envelope needs from outside come with it. -/
def execMailboxMessage (m : MBoxId) (input : List Byte) (outFault : Bool) (found : List BadUnit) (extOk : Bool) (s : State) : Res :=
  .next (settle (mboxTake m.val input outFault found extOk s))

/-- ERING_DOORBELL (R365). -/
def execEringDoorbell (n : ERingId) (v : BitVec 17) (s : State) : Res := .next (doorbell n.val v.toNat s)

/-- ENVELOPE_FETCH (R366, R368): the slot's bytes, or a poisoned or failed read. -/
def execEnvelopeFetch (n : ERingId) (raw : List Byte) (bad : Bool) (s : State) : Res := .next (fetchSlot n.val raw bad s)

/-- ERING_DISABLE (R368). -/
def execEringDisable (n : ERingId) (s : State) : Res := .next (ringEnable n.val false s)

/-- FUNCTION_RESET (R368, R377, R384). -/
def execFunctionReset (port : HPortId) (func : FuncId) (s : State) : Res := .next (settle (functionReset port.val func.val s))

/-- DRING_CONS (R312, R318). -/
def execDringCons (r : DRingId) (v : BitVec 21) (s : State) : Res := .next (dringCons r.val v.toNat s)

/-- RRING_CONS (R426, R429). -/
def execRringCons (r : RRingId) (v : BitVec 17) (s : State) : Res := .next (rringCons r.val v.toNat s)

/-- ERING_RCONS (R366, R384). -/
def execEringRcons (n : ERingId) (v : BitVec 17) (s : State) : Res := .next (eringCons n.val v.toNat s)

/-- VMIN_CLR (R404). -/
def execVminClr (k : ClusterId) (s : State) : Res := .next (restartVmin k.val s)

/-- DLQ_POP (R493). -/
def execDlqPop (s : State) : Res := .next (dlqPop s)

/-- NMSITE_LOCK (R394). -/
def execNmsiteLock (site : SiteId) (s : State) : Res := .next (lockSite site.val s)

/-- REGISTER_WRITE (R390 to R397): a host function's write of the given bytes at a BAR0 offset. -/
def execRegisterWrite (port : HPortId) (func : FuncId) (off : BitVec 28) (data : List Byte) (s : State) : Res :=
  .next (settle (registerWrite port.val func.val off.toNat data s))

/-- POSTED_WRITE_EFFECT (R393): of the block in which a BAR0 offset lies. -/
def execPostedWriteEffect (off : BitVec 28) (s : State) : Res :=
  .next (match locate off.toNat with
    | some (b, i, _) => settle (postedEffect b i s)
    | none => s)

/-- TV_SCAN_WINDOW (R395): the BAR0 offsets of registers of which one copy is upset, each with the copy. -/
def execTvScanWindow (upset : List (Nat × Nat)) (s : State) : Res := .next (tvScan upset s)

/-- TV_RESTORE (R395): the BAR0 offset of the register. -/
def execTvRestore (off : BitVec 28) (s : State) : Res := .next (settle (tvRestore off.toNat s))

end Sys2Proof.Machine
end

