-- ==== Sys2Proof/Machine/Service.lean ====
section
/-!
DEFINITION. The meanings of the events of rounds, steps, sampling, streams and chains (chapters 09 to 12), one definition each.
-/

namespace Sys2Proof.Machine

/-- ROUND_BOUNDARY (R330). -/
def execRoundBoundary (s : State) : Res := .next (settle (boundary s))

/-- MARKER_RECEIVED (R330, R331, R333): the port, the marker's payload and this device's forwarding time in ns. -/
def execMarkerReceived (port : FPortId) (m : Marker) (fwd : Nat) (s : State) : Res := .next (settle (arriveMarker port.val m fwd s))

/-- FLYWHEEL_OPEN (R333). -/
def execFlywheelOpen (s : State) : Res := .next (settle (flywheel s))

/-- STANDBY_TAKEOVER (R333). -/
def execStandbyTakeover (s : State) : Res := .next (standbyTakeover s)

/-- BEAT_LOSS (R333). -/
def execBeatLoss (s : State) : Res := .next (beatLoss s)

/-- BOOK_REFILL (R298). -/
def execBookRefill (b : BookId) (s : State) : Res := .next (bookRefill b.val s)

/-- BOOK_PARAM_EFFECT (R299). -/
def execBookParamEffect (b : BookId) (s : State) : Res := .next (bookTakes b.val s)

/-- COLOUR_FLIP (R439). -/
def execColourFlip (s : State) : Res := .next (colourFlip s)

/-- STEP_START_POINT (R22, R24, R293). -/
def execStepStartPoint (d : DistrictId) (s : State) : Res := .next (settle (stepPoint d.val s))

/-- STAGING_DEFER_PREEMPT (R270). -/
def execStagingDeferPreempt (slot : SlotId) (s : State) : Res := .next (settle (stagingPreempt slot.val s))

/-- STEP_COMPLETE (R24, R295). -/
def execStepComplete (d : DistrictId) (s : State) : Res := .next (settle (completeStep d.val s))

/-- SAMPLING_TRIGGER (R303). -/
def execSamplingTrigger (d : DistrictId) (shard : Nat) (s : State) : Res := .next (settle (samplingTrigger d.val shard s))

/-- TOKEN_DRAW (R304 to R309). -/
def execTokenDraw (slot : SlotId) (s : State) : Res := .next (settle (tokenDraw slot.val s))

/-- STREAM_END (R316). -/
def execStreamEnd (slot : SlotId) (s : State) : Res := .next (settle (finishEnd slot.val s))

/-- RECEIPT_POST (R426): ring 256 is the statement ring. -/
def execReceiptPost (r : RRingId) (s : State) : Res := .next (postReceipt r.val s)

/-- STATEMENT_ISSUE (R427). -/
def execStatementIssue (s : State) : Res := .next (issueStatement s)

/-- KV_APPEND (R252 to R256). -/
def execKvAppend (site : SiteId) (s : State) : Res := .next (settle (wakeSite site.val (headAppend site.val s)))

/-- CHAIN_PAGE_OPEN (R251). -/
def execChainPageOpen (slot : SlotId) (chain page : Nat) (s : State) : Res :=
  .next (settle (finishOpen slot.val chain page s))

/-- CHAIN_OPEN_FAILURE (R259). -/
def execChainOpenFailure (site : SiteId) (s : State) : Res := .next (settle (wakeSite site.val (failAppend site.val s)))

/-- LOOKAHEAD_PASS (R269 to R271). -/
def execLookaheadPass (d : DistrictId) (s : State) : Res := .next (settle (lookPass d.val s))

/-- SPILL_START (R273, R277). -/
def execSpillStart (site : SiteId) (s : State) : Res := .next (settle (spillStart site.val s))

/-- SPILL_WRITE_DONE (R274): whether every write succeeded. -/
def execSpillWriteDone (slot : SlotId) (chain page : Nat) (ok : Bool) (s : State) : Res :=
  .next (settle (spillWritten slot.val chain page ok s))

/-- PAGE_RETURN (R276): whether the returned data carries CXL poison. -/
def execPageReturn (slot : SlotId) (chain page : Nat) (poison : Bool) (s : State) : Res :=
  .next (settle (pageReturned slot.val chain page poison s))

/-- EXPANDER_LOST (R282): one expander of a root port, or every one. -/
def execExpanderLost (port : HPortId) (exp : Option Nat) (s : State) : Res := .next (settle (expanderGone port.val exp s))

/-- PREEMPTION_WRITEOUT (R278, R279): whether the host takes every write of the image; with `ok` false once the image is
there, it is the write of the tag that fails. -/
def execPreemptionWriteout (slot : SlotId) (ok : Bool) (s : State) : Res := .next (settle (writeImage slot.val ok s))

/-- PREEMPTION_TAG (R279): the tag is written. -/
def execPreemptionTag (slot : SlotId) (s : State) : Res := .next (settle (tagImage slot.val s))

/-- PREEMPTION_RETRY (R279). -/
def execPreemptionRetry (slot : SlotId) (s : State) : Res := .next (settle (retryPreempt slot.val s))

/-- TEMPLATE_NM_TRIGGER (R229). -/
def execTemplateNmTrigger (d : DistrictId) (stage : StageId) (op : Nat) (s : State) : Res :=
  .next (settle (templateTrigger d.val stage.val op s))

end Sys2Proof.Machine
end

