-- ==== Sys2Proof/Machine/Units.lean ====
section
/-!
DEFINITION. The meanings of the events of near-memory engines, vaults, channels and the wafer network (chapters 06 to 08) and of a
reported trap, one definition each.
-/

namespace Sys2Proof.Machine

/-- The vault controllers of a site work: the site is not lost and its base die is not held in reset (R470, R485). -/
def vaultWorks (v : Nat) (s : State) : Bool :=
  !bit .brsiteStatusLost (siteOf v) s && !bit .brsiteStatusResetting (siteOf v) s

/-- An access of a unit to a vault: at a hole it is not made (R137). -/
def vaultAccess (v off : Nat) (f : State → State) (s : State) : State :=
  if vaultEnd ≤ off ∨ vaultWorks v s = false then s else f s

/-- A checked read of the word that holds a byte, delivered to its requester (R149, R161). -/
def wordRead (v off src : Nat) (s : State) : State :=
  let r := vread v (off / 32 * 32) src s
  match r.1 with
  | .ok bs => emit (.readData false bs) r.2
  | _ => emit (.readData true []) r.2

/-- The first word of a block that the light code flags, 132 where none is (R150, R152). -/
def failingWord (v base : Nat) (s : State) : Nat := ((List.range 132).find? fun j => wordClass v base j s == 0).getD 132

/-- The offset recorded for word j of a block: the block's own for a parity word or none. -/
def wordOffset (base j : Nat) : Nat := if j < 128 then base + 32 * j else base

/-- A repair of a block, which only an established block has (R152), for its first flagged word. -/
def repairBlock (v blk : Nat) (s : State) : State :=
  let j := failingWord v (4096 * blk) s
  if isEst v (4096 * blk) s then strongRepair v (wordOffset (4096 * blk) j) j srcScrub s else s

/-- The next word of a vault's patrol scrub, and the site's progress (R162). -/
def patrolNext (v : Nat) (s : State) : State :=
  let k := siteOf v
  if !bit .vsiteScrubEn k s || !vaultWorks v s then s
  else
    let n := tget noBad s.vaults.patrol v
    let s1 := patrolWord v (n % patrolWords) s
    let s2 := { s1 with vaults := { s1.vaults with patrol := tset noBad s1.vaults.patrol v (n + 1) } }
    let p := patrolSite k s2
    let s3 := if p.1 = (patrolSite k s).1 then s2
      else { s2 with vaults := { s2.vaults with patrolFrom := tset noBad s2.vaults.patrolFrom k s.now } }
    wr .vsiteScrubPassPasses k p.1 (wr .vsiteScrubPassProgress k (65536 * p.2 / (2048 * patrolWords)) s3)

/-- The oldest block of a vault's demand-scrub queue is scrubbed and leaves the queue (R162). -/
def scrubQueued (v : Nat) (s : State) : State :=
  match tget dsqNone s.vaults.dsq v with
  | [] => s
  | b :: bs =>
    if !vaultWorks v s then s
    else
      let s1 := demandScrub v b s
      { s1 with vaults := { s1.vaults with dsq := tset dsqNone s1.vaults.dsq v bs } }

/-- A refresh of a bank row leaves the bank precharged (R141). -/
def refreshBank (v layer bank : Nat) (s : State) : State :=
  { s with vaults := { s.vaults with openRow := tset noBad s.vaults.openRow (48 * v + 4 * layer + bank) 0 } }

/-! The rows. -/

/-- TRAP_REPORT (R105, R488). -/
def execTrapReport (g : CoreId) (s : State) : Res := .next (settle (trapReport g.val s))

/-- NM_OP_START (R172): whether the cluster has issued more than a quarter of its peak MACs in the last 2 us comes with
the command (R440). -/
def execNmOpStart (e : EngineId) (busy : Bool) (s : State) : Res := .next (settle (nmStart e.val busy s))

/-- NM_OP_COMPLETE (R181). -/
def execNmOpComplete (e : EngineId) (s : State) : Res := .next (settle (nmComplete e.val s))

/-- NM_HOLD_EXPIRY (R440). -/
def execNmHoldExpiry (e : EngineId) (s : State) : Res := .next (settle (nmHoldExpired e.val s))

/-- VAULT_WORD_READ (R149). -/
def execVaultWordRead (v : VaultId) (off : BitVec 26) (src : Fin 7) (s : State) : Res :=
  .next (settle (vaultAccess v.val off.toNat (wordRead v.val off.toNat src.val) s))

/-- STRONG_REPAIR (R152). -/
def execStrongRepair (v : VaultId) (blk : Fin 12032) (s : State) : Res :=
  .next (settle (vaultAccess v.val (4096 * blk.val) (repairBlock v.val blk.val) s))

/-- VAULT_FULL_WRITE (R154): the word that holds the byte at the offset. -/
def execVaultFullWrite (v : VaultId) (off : BitVec 26) (data : BitVec 256) (src : Fin 7) (s : State) : Res :=
  .next (settle (vaultAccess v.val off.toNat
    (fun t => (vwrite v.val (off.toNat / 32 * 32) src.val (natLe 32 data.toNat) t).2) s))

/-- VAULT_NARROW_WRITE (R155): the given bytes, as many as fit into the word. -/
def execVaultNarrowWrite (v : VaultId) (off : BitVec 26) (bytes : List Byte) (src : Fin 7) (s : State) : Res :=
  .next (settle (vaultAccess v.val off.toNat
    (fun t => (vwrite v.val off.toNat src.val (bytes.take (32 - off.toNat % 32)) t).2) s))

/-- HOST_WINDOW_READ (R148): the rest of the 64-byte line, in the vault-local window or the interleaved one. -/
def execHostWindowRead (port : HPortId) (func : FuncId) (vlocal : Bool) (addr : BitVec 48) (s : State) : Res :=
  .next (settle (hostAccess ⟨port.val, func.val, vlocal, addr.toNat, none⟩ s))

/-- HOST_WINDOW_WRITE (R148): the given bytes, as many as fit into the 64-byte line. -/
def execHostWindowWrite (port : HPortId) (func : FuncId) (vlocal : Bool) (addr : BitVec 48) (bytes : List Byte) (s : State) : Res :=
  .next (settle (hostAccess ⟨port.val, func.val, vlocal, addr.toNat, some (bytes.take (64 - addr.toNat % 64))⟩ s))

/-- PATROL_SCRUB (R162). -/
def execPatrolScrub (v : VaultId) (s : State) : Res := .next (settle (patrolNext v.val s))

/-- DEMAND_SCRUB (R162). -/
def execDemandScrub (v : VaultId) (s : State) : Res := .next (settle (scrubQueued v.val s))

/-- DRAM_REFRESH (R141). -/
def execDramRefresh (v : VaultId) (layer : Fin 12) (bank : Fin 4) (s : State) : Res :=
  .next (refreshBank v.val layer.val bank.val s)

/-- CHANNEL_FLIT_REPLAY (R139). -/
def execChannelFlitReplay (v : VaultId) (s : State) : Res := .next (bump .vaultChanCrcCrcErr v.val s)

/-- IW_FLIT_REPLAY (R211). -/
def execIwFlitReplay (site : SiteId) (edge : Fin 4) (s : State) : Res := .next (replayIw (edgeKey site.val edge.val) s)

/-- LANE_FAILURE (R212). -/
def execLaneFailure (site : SiteId) (edge : Fin 4) (lane : Fin 34) (s : State) : Res :=
  .next (settle (laneFails (edgeKey site.val edge.val) lane.val s))

/-- LANE_SUBSTITUTION_DONE (R212). -/
def execLaneSubstitutionDone (site : SiteId) (edge : Fin 4) (s : State) : Res :=
  .next (settle (startWaiting (laneDone (edgeKey site.val edge.val) s)))

/-- ROUTE_DRAIN_EXPIRY (R215). -/
def execRouteDrainExpiry (s : State) : Res := .next (settle (drainExpired s))

/-- ROUTE_LOAD_DONE (R215). -/
def execRouteLoadDone (s : State) : Res := .next (settle (startWaiting (routeDone s)))

/-- ACK_TIMEOUT (R216): of a DMA transfer, n bytes of which have arrived. -/
def execAckTimeout (g : CoreId) (ch : ChanId) (n : Nat) (s : State) : Res := .next (settle (ackTimeout g.val ch.val n s))

/-- SITE_ROUTER_FAILURE (R215). -/
def execSiteRouterFailure (site : SiteId) (s : State) : Res := .next (settle (routerFails site.val s))

end Sys2Proof.Machine
end

