-- ==== Sys2Proof/Machine/Dispatch.lean ====
section
/-!
DEFINITION. The dispatcher: one arm per command, each a direct call of its meaning.
-/

namespace Sys2Proof.Machine

/-- The effect of a command on everything but the queue. -/
def exec (i : Instr) (s : State) : Host.Outcome State Fault Refusal :=
  match i with
  | .nop g w => Sys2Proof.Machine.execNop g w s
  | .halt g w => Sys2Proof.Machine.execHalt g w s
  | .dmax g w => Sys2Proof.Machine.execDmax g w s
  | .dwait g w => Sys2Proof.Machine.execDwait g w s
  | .sig g w => Sys2Proof.Machine.execSig g w s
  | .swait g w => Sys2Proof.Machine.execSwait g w s
  | .bar g w => Sys2Proof.Machine.execBar g w s
  | .loop g w => Sys2Proof.Machine.execLoop g w s
  | .loopi g w => Sys2Proof.Machine.execLoopi g w s
  | .br g w => Sys2Proof.Machine.execBr g w s
  | .notice g w => Sys2Proof.Machine.execNotice g w s
  | .rwait g w => Sys2Proof.Machine.execRwait g w s
  | .mload g w => Sys2Proof.Machine.execMload g w s
  | .mstream g w => Sys2Proof.Machine.execMstream g w s
  | .macc g w => Sys2Proof.Machine.execMacc g w s
  | .mdrain g w => Sys2Proof.Machine.execMdrain g w s
  | .mclear g w => Sys2Proof.Machine.execMclear g w s
  | .tileDeadlock g => Sys2Proof.Machine.execTileDeadlock g s
  | .vcfg g w => Sys2Proof.Machine.execVcfg g w s
  | .vadd g w => Sys2Proof.Machine.execVadd g w s
  | .vsub g w => Sys2Proof.Machine.execVsub g w s
  | .vmul g w => Sys2Proof.Machine.execVmul g w s
  | .vfma g w => Sys2Proof.Machine.execVfma g w s
  | .vmax g w => Sys2Proof.Machine.execVmax g w s
  | .vmin g w => Sys2Proof.Machine.execVmin g w s
  | .vcvt g w => Sys2Proof.Machine.execVcvt g w s
  | .vaddb g w => Sys2Proof.Machine.execVaddb g w s
  | .vmulb g w => Sys2Proof.Machine.execVmulb g w s
  | .vtrow g w => Sys2Proof.Machine.execVtrow g w s
  | .vexp g w => Sys2Proof.Machine.execVexp g w s
  | .vlog g w => Sys2Proof.Machine.execVlog g w s
  | .vrcp g w => Sys2Proof.Machine.execVrcp g w s
  | .vrsq g w => Sys2Proof.Machine.execVrsq g w s
  | .vtanh g w => Sys2Proof.Machine.execVtanh g w s
  | .vsigm g w => Sys2Proof.Machine.execVsigm g w s
  | .vrsum g w => Sys2Proof.Machine.execVrsum g w s
  | .vrmax g w => Sys2Proof.Machine.execVrmax g w s
  | .vrmin g w => Sys2Proof.Machine.execVrmin g w s
  | .vrssq g w => Sys2Proof.Machine.execVrssq g w s
  | .vsmax g w => Sys2Proof.Machine.execVsmax g w s
  | .vsexp g w => Sys2Proof.Machine.execVsexp g w s
  | .vrope g w => Sys2Proof.Machine.execVrope g w s
  | .vkvq g w => Sys2Proof.Machine.execVkvq g w s
  | .vapnd g w => Sys2Proof.Machine.execVapnd g w s
  | .dmaComplete g ch => Sys2Proof.Machine.execDmaComplete g ch s
  | .dmaHalt g ch code n => Sys2Proof.Machine.execDmaHalt g ch code n s
  | .signalArrival src dst => Sys2Proof.Machine.execSignalArrival src dst s
  | .barrierRelease g => Sys2Proof.Machine.execBarrierRelease g s
  | .stepRelease g => Sys2Proof.Machine.execStepRelease g s
  | .roundWaitRelease g => Sys2Proof.Machine.execRoundWaitRelease g s
  | .trapReport g => Sys2Proof.Machine.execTrapReport g s
  | .coreCtrlGo g => Sys2Proof.Machine.execCoreCtrlGo g s
  | .coreCtrlStop g => Sys2Proof.Machine.execCoreCtrlStop g s
  | .srSeedWrite g v => Sys2Proof.Machine.execSrSeedWrite g v s
  | .srCtrWrite g v => Sys2Proof.Machine.execSrCtrWrite g v s
  | .srWriteEffect g => Sys2Proof.Machine.execSrWriteEffect g s
  | .nmeAbort e => Sys2Proof.Machine.execNmeAbort e s
  | .flipArm v ctrl => Sys2Proof.Machine.execFlipArm v ctrl s
  | .mboxSend m => Sys2Proof.Machine.execMboxSend m s
  | .mboxAck m seq => Sys2Proof.Machine.execMboxAck m seq s
  | .mboxWithdraw m => Sys2Proof.Machine.execMboxWithdraw m s
  | .mailboxTimeout m => Sys2Proof.Machine.execMailboxTimeout m s
  | .mailboxMessage m input outFault found extOk => Sys2Proof.Machine.execMailboxMessage m input outFault found extOk s
  | .eringDoorbell n v => Sys2Proof.Machine.execEringDoorbell n v s
  | .envelopeFetch n raw bad => Sys2Proof.Machine.execEnvelopeFetch n raw bad s
  | .eringDisable n => Sys2Proof.Machine.execEringDisable n s
  | .functionReset port func => Sys2Proof.Machine.execFunctionReset port func s
  | .dringCons r v => Sys2Proof.Machine.execDringCons r v s
  | .rringCons r v => Sys2Proof.Machine.execRringCons r v s
  | .eringRcons n v => Sys2Proof.Machine.execEringRcons n v s
  | .vminClr k => Sys2Proof.Machine.execVminClr k s
  | .dlqPop => Sys2Proof.Machine.execDlqPop s
  | .nmsiteLock site => Sys2Proof.Machine.execNmsiteLock site s
  | .registerWrite port func off data => Sys2Proof.Machine.execRegisterWrite port func off data s
  | .postedWriteEffect off => Sys2Proof.Machine.execPostedWriteEffect off s
  | .tvScanWindow upset => Sys2Proof.Machine.execTvScanWindow upset s
  | .tvRestore off => Sys2Proof.Machine.execTvRestore off s
  | .elermuxNop e => Sys2Proof.Machine.execElermuxNop e s
  | .devQuery e => Sys2Proof.Machine.execDevQuery e s
  | .config e => Sys2Proof.Machine.execConfig e s
  | .lock e => Sys2Proof.Machine.execLock e s
  | .resetSite e => Sys2Proof.Machine.execResetSite e s
  | .resetLayer e => Sys2Proof.Machine.execResetLayer e s
  | .resetCore e => Sys2Proof.Machine.execResetCore e s
  | .testVaultMarch e => Sys2Proof.Machine.execTestVaultMarch e s
  | .testArray e => Sys2Proof.Machine.execTestArray e s
  | .testLoopback e => Sys2Proof.Machine.execTestLoopback e s
  | .rebind e => Sys2Proof.Machine.execRebind e s
  | .rebindRun => Sys2Proof.Machine.execRebindRun s
  | .parcelReserve e => Sys2Proof.Machine.execParcelReserve e s
  | .parcelSeal e => Sys2Proof.Machine.execParcelSeal e s
  | .parcelDiscard e => Sys2Proof.Machine.execParcelDiscard e s
  | .grant e => Sys2Proof.Machine.execGrant e s
  | .fill e => Sys2Proof.Machine.execFill e s
  | .fence e => Sys2Proof.Machine.execFence e s
  | .copy e => Sys2Proof.Machine.execCopy e s
  | .atomic e => Sys2Proof.Machine.execAtomic e s
  | .swappoolAdd e => Sys2Proof.Machine.execSwappoolAdd e s
  | .swappoolRemove e => Sys2Proof.Machine.execSwappoolRemove e s
  | .nmSubmit e => Sys2Proof.Machine.execNmSubmit e s
  | .submit e => Sys2Proof.Machine.execSubmit e s
  | .cancel e => Sys2Proof.Machine.execCancel e s
  | .preempt e => Sys2Proof.Machine.execPreempt e s
  | .resume e => Sys2Proof.Machine.execResume e s
  | .freeze e => Sys2Proof.Machine.execFreeze e s
  | .prefixHandleCreate slot => Sys2Proof.Machine.execPrefixHandleCreate slot s
  | .release e => Sys2Proof.Machine.execRelease e s
  | .query e => Sys2Proof.Machine.execQuery e s
  | .discard e => Sys2Proof.Machine.execDiscard e s
  | .bookSet e => Sys2Proof.Machine.execBookSet e s
  | .bookBind e => Sys2Proof.Machine.execBookBind e s
  | .bookUnbind e => Sys2Proof.Machine.execBookUnbind e s
  | .sampleCfg e => Sys2Proof.Machine.execSampleCfg e s
  | .grammarLoad e => Sys2Proof.Machine.execGrammarLoad e s
  | .grammarUnload e => Sys2Proof.Machine.execGrammarUnload e s
  | .ringEnable e => Sys2Proof.Machine.execRingEnable e s
  | .ringDisable e => Sys2Proof.Machine.execRingDisable e s
  | .receiptsEnable e => Sys2Proof.Machine.execReceiptsEnable e s
  | .receiptsDisable e => Sys2Proof.Machine.execReceiptsDisable e s
  | .powerCap e => Sys2Proof.Machine.execPowerCap e s
  | .powerLimit e => Sys2Proof.Machine.execPowerLimit e s
  | .thermal e => Sys2Proof.Machine.execThermal e s
  | .fabric e => Sys2Proof.Machine.execFabric e s
  | .roundCfg e => Sys2Proof.Machine.execRoundCfg e s
  | .jobForm e => Sys2Proof.Machine.execJobForm e s
  | .jobDissolve e => Sys2Proof.Machine.execJobDissolve e s
  | .circ e => Sys2Proof.Machine.execCirc e s
  | .twinPair e => Sys2Proof.Machine.execTwinPair e s
  | .twinUnpair e => Sys2Proof.Machine.execTwinUnpair e s
  | .handover e => Sys2Proof.Machine.execHandover e s
  | .dying e => Sys2Proof.Machine.execDying e s
  | .leaseKeyEnrol e => Sys2Proof.Machine.execLeaseKeyEnrol e s
  | .leaseKeyClear e => Sys2Proof.Machine.execLeaseKeyClear e s
  | .leaseGrant e => Sys2Proof.Machine.execLeaseGrant e s
  | .logRead e => Sys2Proof.Machine.execLogRead e s
  | .fwStage e => Sys2Proof.Machine.execFwStage e s
  | .fwActivate e => Sys2Proof.Machine.execFwActivate e s
  | .getVersion req => Sys2Proof.Machine.execGetVersion req s
  | .getCapabilities req => Sys2Proof.Machine.execGetCapabilities req s
  | .negotiateAlgorithms req => Sys2Proof.Machine.execNegotiateAlgorithms req s
  | .getDigests req => Sys2Proof.Machine.execGetDigests req s
  | .getCertificate slot req => Sys2Proof.Machine.execGetCertificate slot req s
  | .challenge slot req => Sys2Proof.Machine.execChallenge slot req s
  | .getMeasurements index => Sys2Proof.Machine.execGetMeasurements index s
  | .keyExchange req => Sys2Proof.Machine.execKeyExchange req s
  | .finish session req => Sys2Proof.Machine.execFinish session req s
  | .heartbeat session => Sys2Proof.Machine.execHeartbeat session s
  | .endSession session => Sys2Proof.Machine.execEndSession session s
  | .roundBoundary => Sys2Proof.Machine.execRoundBoundary s
  | .markerReceived port m fwd => Sys2Proof.Machine.execMarkerReceived port m fwd s
  | .flywheelOpen => Sys2Proof.Machine.execFlywheelOpen s
  | .standbyTakeover => Sys2Proof.Machine.execStandbyTakeover s
  | .beatLoss => Sys2Proof.Machine.execBeatLoss s
  | .bookRefill b => Sys2Proof.Machine.execBookRefill b s
  | .bookParamEffect b => Sys2Proof.Machine.execBookParamEffect b s
  | .colourFlip => Sys2Proof.Machine.execColourFlip s
  | .stepStartPoint d => Sys2Proof.Machine.execStepStartPoint d s
  | .stagingDeferPreempt slot => Sys2Proof.Machine.execStagingDeferPreempt slot s
  | .stepComplete d => Sys2Proof.Machine.execStepComplete d s
  | .samplingTrigger d shard => Sys2Proof.Machine.execSamplingTrigger d shard s
  | .tokenDraw slot => Sys2Proof.Machine.execTokenDraw slot s
  | .streamEnd slot => Sys2Proof.Machine.execStreamEnd slot s
  | .receiptPost r => Sys2Proof.Machine.execReceiptPost r s
  | .statementIssue => Sys2Proof.Machine.execStatementIssue s
  | .kvAppend site => Sys2Proof.Machine.execKvAppend site s
  | .chainPageOpen slot chain page => Sys2Proof.Machine.execChainPageOpen slot chain page s
  | .lookaheadPass d => Sys2Proof.Machine.execLookaheadPass d s
  | .spillStart site => Sys2Proof.Machine.execSpillStart site s
  | .spillWriteDone slot chain page ok => Sys2Proof.Machine.execSpillWriteDone slot chain page ok s
  | .pageReturn slot chain page poison => Sys2Proof.Machine.execPageReturn slot chain page poison s
  | .expanderLost port exp => Sys2Proof.Machine.execExpanderLost port exp s
  | .preemptionWriteout slot ok => Sys2Proof.Machine.execPreemptionWriteout slot ok s
  | .preemptionTag slot => Sys2Proof.Machine.execPreemptionTag slot s
  | .preemptionRetry slot => Sys2Proof.Machine.execPreemptionRetry slot s
  | .templateNmTrigger d stage op => Sys2Proof.Machine.execTemplateNmTrigger d stage op s
  | .nmOpStart e busy => Sys2Proof.Machine.execNmOpStart e busy s
  | .nmOpComplete e => Sys2Proof.Machine.execNmOpComplete e s
  | .nmHoldExpiry e => Sys2Proof.Machine.execNmHoldExpiry e s
  | .vaultWordRead v off src => Sys2Proof.Machine.execVaultWordRead v off src s
  | .strongRepair v blk => Sys2Proof.Machine.execStrongRepair v blk s
  | .vaultFullWrite v off data src => Sys2Proof.Machine.execVaultFullWrite v off data src s
  | .vaultNarrowWrite v off bytes src => Sys2Proof.Machine.execVaultNarrowWrite v off bytes src s
  | .hostWindowRead port func vlocal addr => Sys2Proof.Machine.execHostWindowRead port func vlocal addr s
  | .hostWindowWrite port func vlocal addr bytes => Sys2Proof.Machine.execHostWindowWrite port func vlocal addr bytes s
  | .patrolScrub v => Sys2Proof.Machine.execPatrolScrub v s
  | .demandScrub v => Sys2Proof.Machine.execDemandScrub v s
  | .dramRefresh v layer bank => Sys2Proof.Machine.execDramRefresh v layer bank s
  | .channelFlitReplay v => Sys2Proof.Machine.execChannelFlitReplay v s
  | .iwFlitReplay site edge => Sys2Proof.Machine.execIwFlitReplay site edge s
  | .laneFailure site edge lane => Sys2Proof.Machine.execLaneFailure site edge lane s
  | .laneSubstitutionDone site edge => Sys2Proof.Machine.execLaneSubstitutionDone site edge s
  | .routeDrainExpiry => Sys2Proof.Machine.execRouteDrainExpiry s
  | .routeLoadDone => Sys2Proof.Machine.execRouteLoadDone s
  | .ackTimeout g ch n => Sys2Proof.Machine.execAckTimeout g ch n s
  | .fabricLinkUp port fid serial delay x4 peerReady => Sys2Proof.Machine.execFabricLinkUp port fid serial delay x4 peerReady s
  | .fabricLaneFail port failed => Sys2Proof.Machine.execFabricLaneFail port failed s
  | .fabricFlitReplay port => Sys2Proof.Machine.execFabricFlitReplay port s
  | .transportPacket port dst src body => Sys2Proof.Machine.execTransportPacket port dst src body s
  | .transportAckTimeout x => Sys2Proof.Machine.execTransportAckTimeout x s
  | .ethernetFrame port len over_ => Sys2Proof.Machine.execEthernetFrame port len over_ s
  | .slowRequest j fid cause mhz => Sys2Proof.Machine.execSlowRequest j fid cause mhz s
  | .stepdone j fid => Sys2Proof.Machine.execStepdone j fid s
  | .stepHeartbeat j fid => Sys2Proof.Machine.execStepHeartbeat j fid s
  | .splitDeclare j => Sys2Proof.Machine.execSplitDeclare j s
  | .leaseRenewal j => Sys2Proof.Machine.execLeaseRenewal j s
  | .leaseRelay g => Sys2Proof.Machine.execLeaseRelay g s
  | .leaseExpiry j => Sys2Proof.Machine.execLeaseExpiry j s
  | .splitHoldTimeout j => Sys2Proof.Machine.execSplitHoldTimeout j s
  | .submitCopy d id spec ctl => Sys2Proof.Machine.execSubmitCopy d id spec ctl s
  | .drawCopy id m => Sys2Proof.Machine.execDrawCopy id m s
  | .drawCopyAck slot => Sys2Proof.Machine.execDrawCopyAck slot s
  | .drawWaitTimeout slot => Sys2Proof.Machine.execDrawWaitTimeout slot s
  | .stepCopy id m => Sys2Proof.Machine.execStepCopy id m s
  | .sealCopy id round => Sys2Proof.Machine.execSealCopy id round s
  | .freezeCopy id h t => Sys2Proof.Machine.execFreezeCopy id h t s
  | .endCopy id => Sys2Proof.Machine.execEndCopy id s
  | .twinResync slot => Sys2Proof.Machine.execTwinResync slot s
  | .deviceLeaseExpiry => Sys2Proof.Machine.execDeviceLeaseExpiry s
  | .failoverActivate lapsed => Sys2Proof.Machine.execFailoverActivate lapsed s
  | .circBlockSend j own con => Sys2Proof.Machine.execCircBlockSend j own con s
  | .circBlockReceived j b sig => Sys2Proof.Machine.execCircBlockReceived j b sig s
  | .circQueryReceived j stream pos q own => Sys2Proof.Machine.execCircQueryReceived j stream pos q own s
  | .partialStateReceived j p own => Sys2Proof.Machine.execPartialStateReceived j p own s
  | .inputFault high => Sys2Proof.Machine.execInputFault high s
  | .capDivision => Sys2Proof.Machine.execCapDivision s
  | .allotmentRequest ws => Sys2Proof.Machine.execAllotmentRequest ws s
  | .controlWindowEnd => Sys2Proof.Machine.execControlWindowEnd s
  | .gatedSlice k on => Sys2Proof.Machine.execGatedSlice k on s
  | .voltageDroop k mv => Sys2Proof.Machine.execVoltageDroop k mv s
  | .regulatorNotice k => Sys2Proof.Machine.execRegulatorNotice k s
  | .meterSample m mv ma => Sys2Proof.Machine.execMeterSample m mv ma s
  | .diodeConversion k n x => Sys2Proof.Machine.execDiodeConversion k n x s
  | .thermalModelUpdate cl words activity => Sys2Proof.Machine.execThermalModelUpdate cl words activity s
  | .dieTrip k n => Sys2Proof.Machine.execDieTrip k n s
  | .coolantRead x => Sys2Proof.Machine.execCoolantRead x s
  | .coolantReadRetry x => Sys2Proof.Machine.execCoolantReadRetry x s
  | .sensorLost => Sys2Proof.Machine.execSensorLost s
  | .stopSequence => Sys2Proof.Machine.execStopSequence s
  | .pwrEnFall => Sys2Proof.Machine.execPwrEnFall s
  | .powerOn edge clerkOk patchOk found exps ms => Sys2Proof.Machine.execPowerOn edge clerkOk patchOk found exps ms s
  | .coolantWaitTimeout => Sys2Proof.Machine.execCoolantWaitTimeout s
  | .modReset clerkOk patchOk found exps ms => Sys2Proof.Machine.execModReset clerkOk patchOk found exps ms s
  | .perst port => Sys2Proof.Machine.execPerst port s
  | .bdWatchdog site restarts => Sys2Proof.Machine.execBdWatchdog site restarts s
  | .bdRestartTimeout site restarts => Sys2Proof.Machine.execBdRestartTimeout site restarts s
  | .siteLoss k => Sys2Proof.Machine.execSiteLoss k s
  | .viaRemap g found => Sys2Proof.Machine.execViaRemap g found s
  | .deferredRecovery found restarts => Sys2Proof.Machine.execDeferredRecovery found restarts s
  | .refclkLoss both => Sys2Proof.Machine.execRefclkLoss both s
  | .clerkWatchdog => Sys2Proof.Machine.execClerkWatchdog s
  | .clerkStartTimeout => Sys2Proof.Machine.execClerkStartTimeout s
  | .rollbackRaise image => Sys2Proof.Machine.execRollbackRaise image s
  | .siteRouterFailure site => Sys2Proof.Machine.execSiteRouterFailure site s
  | .clerkUp => Sys2Proof.Machine.execClerkUp s
  | .heavyPhaseEnd k => Sys2Proof.Machine.execHeavyPhaseEnd k s
  | .chainOpenFailure site => Sys2Proof.Machine.execChainOpenFailure site s

end Sys2Proof.Machine
end

