-- ==== Sys2Proof/Safety.lean ====
section
/-!
DEFINITION. What a safe run is, in the terms the statements use: every step answers a next state, and the registers, the cores and
the memories of the state keep their form.
-/

namespace Sys2Proof

open Machine

/-- A command completes: it answers a next state. -/
def Completes (c : Instr) (s : State) : Prop := ∃ t, exec c s = .next t

/-- Two states agree on a register field. -/
def SameReg (f : Reg) (i : Nat) (s t : State) : Prop := rd f i t = rd f i s

/-- The byte memories of the state in canonical form: DRAM, scratchpads, pigeonholes, poste restante, mailbox staging buffers and slots. -/
def MemoriesWf (s : State) : Prop :=
  Memory.wf s.vaults.dram = true ∧ Memory.wf s.cores.spad = true ∧ Memory.wf s.cores.pig = true ∧ Memory.wf s.sort.pr = true ∧
    Memory.wf s.eng.staging = true ∧ Memory.wf s.eng.slots = true

/-- The register table in canonical form, every field within its width (R12, R386 to R388). -/
def RegsWf (s : State) : Prop :=
  twf regDefault s.regs = true ∧ ∀ p ∈ s.regs, p.2 < 2 ^ (regInfo (Reg.ofNat (p.1 % 512))).w

/-- The table of cores in canonical form. -/
def CoresWf (s : State) : Prop := twf coreDefault s.cores.cores = true

/-- The invariant of the machine. -/
def Inv (s : State) : Prop := RegsWf s ∧ CoresWf s ∧ MemoriesWf s

namespace Machine

/-- A core whose next instruction issues: RUNNING, nothing waiting at issue, not stalled, its PC inside the letter region and the letter
line not poisoned (R84, R108, R111). -/
def CanIssue (g : Nat) (s : State) : Prop :=
  (getCore g s).st = .running ∧ (getCore g s).wait = none ∧ stalled g s = false ∧
    (getCore g s).pc < 4 * rd .coreLetterLlen g s ∧ linePoison g (rd .coreLetterLbase g s + (getCore g s).pc / 4) s = false

/-- Nothing of a core's letter is under way in its matrix and vector units. -/
def UnitsIdle (g : Nat) (s : State) : Prop :=
  (getCore g s).mq = [] ∧ (getCore g s).vq = [] ∧ (getCore g s).drain = none

/-- The queue entry of an instruction that issues now (R76, R119). -/
def entryOf (g w : Nat) (s : State) : Queued := ⟨w, (getCore g s).pc, (getCore g s).seq, (getCore g s).vcfg⟩

/-- The instruction at PC has issued and completed, with nothing left to wait for: the core runs on after it (R84, R106). -/
def Issued (g : Nat) (s t : State) : Prop :=
  (getCore g t).st = .running ∧ (getCore g t).wait = none ∧ (getCore g t).pc = (loopNext (getCore g s).pc (getCore g s).loops).1 ∧
    (getCore g t).loops = (loopNext (getCore g s).pc (getCore g s).loops).2

/-- From one state to the other nothing has changed but what the compute die holds of one core: no register, no memory, no other core. -/
def OnlyCore (g : Nat) (s t : State) : Prop :=
  (∃ c, t = { s with cores := { s.cores with cores := c } }) ∧ ∀ h, h ≠ g → getCore h t = getCore h s

/-- Nothing is left to follow from what has happened: no consequence is due, no stream is to end, no resume waits. -/
def Quiet (s : State) : Prop :=
  s.due = [] ∧ s.sort.resumes = [] ∧ ∀ x ∈ s.sort.streams, x.2.st = .ready → x.2.fault = 0

/-- An envelope that the checks of R361, R362, R364, R367 and R291 let through to its handler. -/
def Taken (o : OpInfo) (e : Env) (s : State) : Prop :=
  ready e s = true ∧ headerCheck o e = none ∧ (o.clerk = true → clerkUp (markPassed e s) = true) ∧
    (o.first = true → classAllowed o e = true) ∧ paramCheck o e = none

/-- Envelope rows with what the opcode table says of each (R371): part 0. -/
def envelopeRows0 (e : Env) : List (Instr × OpInfo) :=
  [(.elermuxNop e, opNop e), (.devQuery e, opDevQuery e), (.config e, opConfig e),
   (.lock e, opLock e), (.resetSite e, opReset 1 e), (.resetLayer e, opReset 2 e),
   (.resetCore e, opReset 3 e), (.testVaultMarch e, opTest 1 e)]

/-- Envelope rows with what the opcode table says of each (R371): part 1. -/
def envelopeRows1 (e : Env) : List (Instr × OpInfo) :=
  [(.testArray e, opTest 2 e), (.testLoopback e, opTest 3 e), (.rebind e, opRebind e),
   (.parcelReserve e, opParcelReserve e), (.parcelSeal e, opParcelSeal e), (.parcelDiscard e, opParcelDiscard e),
   (.grant e, opGrant e), (.fill e, opFill e)]

/-- Envelope rows with what the opcode table says of each (R371): part 2. -/
def envelopeRows2 (e : Env) : List (Instr × OpInfo) :=
  [(.fence e, opFence e), (.copy e, opCopy e), (.atomic e, opAtomic e),
   (.swappoolAdd e, opSwappool 1 e), (.swappoolRemove e, opSwappool 2 e), (.nmSubmit e, opNmSubmit e),
   (.submit e, opSubmit e), (.cancel e, opCancel e)]

/-- Envelope rows with what the opcode table says of each (R371): part 3. -/
def envelopeRows3 (e : Env) : List (Instr × OpInfo) :=
  [(.preempt e, opPreempt e), (.resume e, opResume e), (.freeze e, opFreeze e),
   (.release e, opRelease e), (.query e, opQuery e), (.discard e, opDiscard e),
   (.bookSet e, opBook 1 e), (.bookBind e, opBook 2 e)]

/-- Envelope rows with what the opcode table says of each (R371): part 4. -/
def envelopeRows4 (e : Env) : List (Instr × OpInfo) :=
  [(.bookUnbind e, opBook 3 e), (.sampleCfg e, opSampleCfg e), (.grammarLoad e, opGrammar 1 e),
   (.grammarUnload e, opGrammar 2 e), (.ringEnable e, opRing 1 e), (.ringDisable e, opRing 2 e),
   (.receiptsEnable e, opReceipts 1 e), (.receiptsDisable e, opReceipts 2 e)]

/-- Envelope rows with what the opcode table says of each (R371): part 5. -/
def envelopeRows5 (e : Env) : List (Instr × OpInfo) :=
  [(.powerCap e, opPower 1 e), (.powerLimit e, opPower 2 e), (.thermal e, opThermal e),
   (.fabric e, opFabric e), (.roundCfg e, opRoundCfg e), (.jobForm e, opJob 1 e),
   (.jobDissolve e, opJob 2 e), (.circ e, opCirc e)]

/-- Envelope rows with what the opcode table says of each (R371): part 6. -/
def envelopeRows6 (e : Env) : List (Instr × OpInfo) :=
  [(.twinPair e, opTwin 1 e), (.twinUnpair e, opTwin 2 e), (.handover e, opTwinMsg 1 e),
   (.dying e, opTwinMsg 2 e), (.leaseKeyEnrol e, opLeaseKey 1 e), (.leaseKeyClear e, opLeaseKey 2 e),
   (.leaseGrant e, opLeaseGrant e), (.logRead e, opLogRead e)]

/-- Envelope rows with what the opcode table says of each (R371): part 7. -/
def envelopeRows7 (e : Env) : List (Instr × OpInfo) :=
  [(.fwStage e, opFwStage e), (.fwActivate e, opFwActivate e)]

/-- The envelope rows, with what the opcode table says of each (R371). -/
def envelopeRows (e : Env) : List (Instr × OpInfo) :=
  [envelopeRows0 e, envelopeRows1 e, envelopeRows2 e, envelopeRows3 e, envelopeRows4 e, envelopeRows5 e, envelopeRows6 e, envelopeRows7 e].flatten

end Machine

end Sys2Proof
end

