-- ==== Sys2Proof/Certificates/Slice0/Obligations.lean ====
section
/-!
DEFINITION. The statements for the provers: what the commands and the machine do, by the rules of the spec.
-/

open Sys2Proof Sys2Proof.Machine

/-- With a command at the front of the queue a step is that command's effect on the state whose queue is the rest (the queue is the
model's own, log 1). -/
def Obligations.StepRunsFront : Prop :=
  ∀ (c : Instr) (rest : List Instr) (s : State), s.pending = c :: rest → step s = exec c { s with pending := rest }

/-- With an empty queue a step lets one BCLK cycle pass and changes nothing else. That an idle step is one nanosecond is this model's
choice (log 2). -/
def Obligations.StepIdle : Prop :=
  ∀ s : State, s.pending = [] → step s = .next { s with now := s.now + 1 }

/-- After a step the queue is the one before it without its first command; no command's effect touches the queue (log 1). The premise is
the model's invariant, which StepKeepsInv says every step keeps.
From every state a step answers a next state: no command of the table ends the run, whatever its operands and the state; a turned
away command is an effect of its own. -/
def Obligations.StepAnswers : Prop :=
  (∀ s t : State, Inv s → step s = .next t → t.pending = s.pending.tail) ∧
  (∀ s : State, ∃ t, step s = .next t)

/-- Every step, whatever the command, keeps the invariant: every register field below 2 to its width, the register and core tables in
canonical form, and every byte memory (vault DRAM, scratchpads, pigeonholes, poste restante, staging buffers, mailbox slots) in
canonical form. -/
def Obligations.StepKeepsInv : Prop :=
  ∀ s t : State, Inv s → step s = .next t → Inv t

/-- The invariant holds right after reset. -/
def Obligations.ResetInv : Prop :=
  Inv State.reset

/-- Right after reset every core is IDLE at PC 0 with no loop, no semaphore count, no trap, no flag and an empty matrix and vector
queue; the letter registers read 0, the round counter reads 0, and the configuration locks and the envelope-authority count read 0. -/
def Obligations.ResetRegisters : Prop :=
  (∀ g : CoreId, (getCore g State.reset).st = .idle ∧ (getCore g State.reset).pc = 0 ∧ (getCore g State.reset).loops = [] ∧
    UnitsIdle g State.reset) ∧
  (∀ f ∈ [Reg.coreLetterLbase, .coreLetterLlen, .coreLetterEntry, .coreLetterSdbase, .coreTrapClass, .coreTrapCause, .coreSemValue,
      .coreNumflagsNv, .coreNumflagsOf, .coreNumflagsTrit, .coreNumflagsScaleNan, .coreStateHaltCode, .coreStateSemOvf,
      .roundCountRound, .engAuthCount, .devLockCap, .devLockFlash, .devLockNmsite, .devLockKeys],
    ∀ i, rd f i State.reset = 0)

/-- A core that is not RUNNING, has an instruction waiting, or is stalled issues nothing; issue past the last instruction of the letter
region raises the region-bound trap FETCH_END, and a poisoned letter line the uncorrectable-fetch trap INSTRUCTION. This holds for every
instruction, whatever its effect f.
On a core that can issue, each control or movement instruction with a nonzero reserved bit raises the illegal-instruction trap with
cause RESERVED_ENCODING, and so does NOTICE with LEAD = 0.
A matrix or vector instruction of any opcode that fails a check at issue traps with the class and cause of the check, and with NEXT_PC =
PC; VCFG likewise with class 1. -/
def Obligations.ChecksTrap : Prop :=
  (∀ (f : Nat → Nat → State → State) (g : CoreId) (w : Nat) (s : State),
     ((getCore g s).st ≠ .running ∨ (getCore g s).wait ≠ none ∨ stalled g s = true → issue f g w s = s) ∧
     ((getCore g s).st = .running → (getCore g s).wait = none → stalled g s = false →
       (4 * rd .coreLetterLlen g s ≤ (getCore g s).pc →
         issue f g w s = trapNow g 2 3 (rd .coreLetterLbase g s + (getCore g s).pc / 4) 0 w s) ∧
       ((getCore g s).pc < 4 * rd .coreLetterLlen g s →
         linePoison g (rd .coreLetterLbase g s + (getCore g s).pc / 4) s = true →
         issue f g w s = trapNow g 4 1 (rd .coreLetterLbase g s + (getCore g s).pc / 4) 0 w s))) ∧
  (∀ (g : CoreId) (w : BitVec 56) (s : State), CanIssue g s →
     (bits (wordOf 0x00 w) 0 56 ≠ 0 → exec (.nop g w) s = .next (wake g (trapNow g 1 1 0 0 (wordOf 0x00 w) s))) ∧
     (bits (wordOf 0x01 w) 0 40 ≠ 0 → exec (.halt g w) s = .next (settle (wake g (trapNow g 1 1 0 0 (wordOf 0x01 w) s)))) ∧
     (bits (wordOf 0x02 w) 0 40 ≠ 0 → exec (.dmax g w) s = .next (wake g (trapNow g 1 1 0 0 (wordOf 0x02 w) s))) ∧
     (bits (wordOf 0x03 w) 0 48 ≠ 0 → exec (.dwait g w) s = .next (wake g (trapNow g 1 1 0 0 (wordOf 0x03 w) s))) ∧
     (bits (wordOf 0x04 w) 0 11 ≠ 0 → exec (.sig g w) s = .next (settle (wake g (trapNow g 1 1 0 0 (wordOf 0x04 w) s)))) ∧
     (bits (wordOf 0x05 w) 0 36 ≠ 0 → exec (.swait g w) s = .next (wake g (trapNow g 1 1 0 0 (wordOf 0x05 w) s))) ∧
     (bits (wordOf 0x06 w) 0 54 ≠ 0 → exec (.bar g w) s = .next (settle (wake g (trapNow g 1 1 0 0 (wordOf 0x06 w) s)))) ∧
     (bits (wordOf 0x07 w) 0 28 ≠ 0 → exec (.loop g w) s = .next (wake g (trapNow g 1 1 0 0 (wordOf 0x07 w) s))) ∧
     (bits (wordOf 0x08 w) 0 27 ≠ 0 → exec (.loopi g w) s = .next (wake g (trapNow g 1 1 0 0 (wordOf 0x08 w) s))) ∧
     (bits (wordOf 0x09 w) 0 25 ≠ 0 → exec (.br g w) s = .next (wake g (trapNow g 1 1 0 0 (wordOf 0x09 w) s))) ∧
     (bits (wordOf 0x0a w) 0 15 ≠ 0 ∨ bits (wordOf 0x0a w) 36 20 = 0 →
       exec (.notice g w) s = .next (wake g (trapNow g 1 1 0 0 (wordOf 0x0a w) s))) ∧
     (bits (wordOf 0x0b w) 0 31 ≠ 0 → exec (.rwait g w) s = .next (wake g (trapNow g 1 1 0 0 (wordOf 0x0b w) s)))) ∧
  (∀ (g : CoreId) (w : BitVec 56) (op : Nat) (s : State),
     (∀ cls cause line, mCheck g (wordOf op w) s = some (cls, cause, line) →
       issueMatrix g (wordOf op w) s = trap g cls cause (getCore g s).pc (getCore g s).pc line 0 (wordOf op w) s) ∧
     (∀ cls cause line, vCheck g (wordOf op w) (getCore g s).vcfg s = some (cls, cause, line) →
       issueVector g (wordOf op w) s = trap g cls cause (getCore g s).pc (getCore g s).pc line 0 (wordOf op w) s) ∧
     (CanIssue g s → vcfgCause (wordOf 0x80 w) ≠ 0 →
       exec (.vcfg g w) s = .next (wake g (trapNow g 1 (vcfgCause (wordOf 0x80 w)) 0 0 (wordOf 0x80 w) s))))

/-- On a core that can issue, with no reserved bit set: NOP only advances; LOOP and LOOPI start their loop when the body is legal (LOOPI
with its count from the word it reads, once that line is written and unless it is poisoned or the count is above 32,767); NOTICE with a
LEAD above 0 hands the notice to the cluster's regulator with LEAD turned into nanoseconds and advances; RWAIT with NEXT = 0 advances
once OFFSET is reached and waits in ROUND_WAIT before it. `wake` is what the core's units and its waiting instruction do afterwards. -/
def Obligations.LetterFlow : Prop :=
  ∀ (g : CoreId) (w : BitVec 56) (s : State), CanIssue g s →
    (exec (.nop g 0) s = .next (wake g (advance g s))) ∧
    (bits (wordOf 0x07 w) 0 28 = 0 → badLoop g (bits (wordOf 0x07 w) 28 13) s = false →
      exec (.loop g w) s = .next (wake g (startLoop g (bits (wordOf 0x07 w) 41 15) (bits (wordOf 0x07 w) 28 13) s))) ∧
    (bits (wordOf 0x08 w) 0 27 = 0 → badLoop g (bits (wordOf 0x08 w) 27 13) s = false →
      lineUnwritten (bits (wordOf 0x08 w) 43 13) (getCore g s) = false →
      linePoison g (bits (wordOf 0x08 w) 43 13) s = false →
      spWord g (bits (wordOf 0x08 w) 43 13) (bits (wordOf 0x08 w) 40 3) s ≤ 32767 →
      exec (.loopi g w) s = .next (wake g (startLoop g
        (spWord g (bits (wordOf 0x08 w) 43 13) (bits (wordOf 0x08 w) 40 3) s) (bits (wordOf 0x08 w) 27 13) s))) ∧
    (bits (wordOf 0x0a w) 0 15 = 0 → 0 < bits (wordOf 0x0a w) 36 20 →
      exec (.notice g w) s = .next (wake g (advance g { s with notices := s.notices ++
        [⟨clusterOf g, bits (wordOf 0x0a w) 32 4,
          bits (wordOf 0x0a w) 36 20 * 1000 / max 1 (rd .pwrclSetpMhz (clusterOf g) s), bits (wordOf 0x0a w) 16 16, s.now, false⟩] }))) ∧
    (bits (wordOf 0x0b w) 0 32 = 0 →
      exec (.rwait g w) s = .next (wake g
        (if offsetReached g (bits (wordOf 0x0b w) 32 24) s then advance g s else waitIn g (wordOf 0x0b w) .roundWait s)))

/-- On a core that can issue, with no reserved bit set: DWAIT advances when every channel of its mask is IDLE; BAR arrives at its barrier
when no channel is BUSY or HALTED and no VAPND data is open, and the barrier is then examined; HALT, with nothing under way, writes CODE
to CORE.STATE.HALT_CODE, leaves the core HALTED with its part of the step reported, and changes no other register field but
NET.STATUS.UNREACH, which the barrier it leaves may set; RWAIT with NEXT = 1, with nothing under way and a
release held, takes it and, OFFSET being reached, goes on. -/
def Obligations.LetterSync : Prop :=
  ∀ (g : CoreId) (w : BitVec 56) (s : State), CanIssue g s →
    (bits (wordOf 0x03 w) 0 48 = 0 → (∀ j ∈ chansIn (bits (wordOf 0x03 w) 48 8), (getChan j (getCore g s)).st = .idle) →
      exec (.dwait g w) s = .next (wake g (advance g s))) ∧
    (bits (wordOf 0x06 w) 0 54 = 0 → (getCore g s).arrived = none → (∀ j ∈ chansIn 255, (getChan j (getCore g s)).st = .idle) →
      apndOpen g s = false →
      exec (.bar g w) s = .next (settle (wake g (barrierChecks g (updCore g (fun c =>
        { c with arrived := some (bits (wordOf 0x06 w) 54 2), st := .barrierWait, wait := some (wordOf 0x06 w) }) s))))) ∧
    (bits (wordOf 0x01 w) 0 40 = 0 → UnitsIdle g s → busyIn 255 (getCore g s) = false → apndOpen g s = false →
      ∃ t, exec (.halt g w) s = .next (settle t) ∧ (getCore g t).st = .halted ∧ (getCore g t).reported = true ∧
        rd .coreStateHaltCode g t = bits (wordOf 0x01 w) 40 16 ∧
        ∀ f i, f ≠ .coreStateHaltCode → f ≠ .netStatusUnreach → rd f i t = rd f i s) ∧
    (bits (wordOf 0x0b w) 0 31 = 0 → bits (wordOf 0x0b w) 31 1 = 1 → UnitsIdle g s →
      (∀ j ∈ chansIn 255, (getChan j (getCore g s)).st = .idle) → apndOpen g s = false → (getCore g s).took = false →
      (getCore g s).held = true → offsetReached g (bits (wordOf 0x0b w) 32 24) s = true →
      ∃ t, exec (.rwait g w) s = .next t ∧ (getCore g t).st = .running ∧ (getCore g t).held = false ∧
        (getCore g t).took = false ∧ (getCore g t).fresh = false ∧ (getCore g t).wait = none ∧
        (getCore g t).pc = (loopNext (getCore g s).pc (getCore g s).loops).1 ∧ ∀ f i, rd f i t = rd f i s)

/-- On a core that can issue, with no reserved bit set: DMAX on an IDLE channel, its descriptor line written, not poisoned and free to be
advanced, gives the descriptor to the channel (startDma) and advances; where the descriptor passes the before-data checks, the channel is
BUSY with code 0 and the descriptor of the line.
DMA_COMPLETE of a BUSY channel that nothing holds back moves the data and ends the transfer with the code of the movement, 0 being IDLE:
where no data halt it, the channel is IDLE with code 0, memories and registers being as the movement leaves them; of a channel that is not
BUSY it changes nothing. DMA_HALT of a BUSY channel whose data meet a halt within n leaves it HALTED with that code, and else a base-die
reset (10) or a remote error (12) with its own code; code 11, the check bits of the SRAM line there failing, with what the movement then
meets; code 0, a corrected check-bit error, only counts (these two are the model's choice, log 2). A destination in the letter region of a
running core is not written and ends the movement with LETTER_REGION. Starting a transfer, the channel gets the descriptor of its line:
BUSY with code 0 when the before-data checks pass, and HALTED with the first failing check's code otherwise; no register field changes but
NET.STATUS.UNREACH.
The before-data checks give the first failing one's code in the order BAD_DESC 1, ZERO_LENGTH 2, ADDR_RANGE 4, FOREIGN_TARGET 6,
LENGTH_EXCEEDS 3, LETTER_REGION 5, and 0 when all pass; and a descriptor whose KIND is reserved is BAD_DESC whatever else it holds. -/
def Obligations.DmaRules : Prop :=
  (∀ (g : CoreId) (w : BitVec 56) (s : State), CanIssue g s → bits (wordOf 0x02 w) 0 40 = 0 →
     (getChan (bits (wordOf 0x02 w) 53 3) (getCore g s)).st = .idle →
     lineUnwritten (bits (wordOf 0x02 w) 40 13) (getCore g s) = false → linePoison g (bits (wordOf 0x02 w) 40 13) s = false →
     (dAdv (spLine g (bits (wordOf 0x02 w) 40 13) s) && lineUnread (bits (wordOf 0x02 w) 40 13) (getCore g s)) = false →
     exec (.dmax g w) s = .next (wake g (advance g (startDma g (bits (wordOf 0x02 w) 53 3) (bits (wordOf 0x02 w) 40 13) s))) ∧
     (dmaCheck g (spLine g (bits (wordOf 0x02 w) 40 13) s) s = 0 → bits (wordOf 0x02 w) 53 3 < (getCore g s).chans.length →
       ∃ t, exec (.dmax g w) s = .next (wake g t) ∧ (getChan (bits (wordOf 0x02 w) 53 3) (getCore g t)).st = .busy ∧
         (getChan (bits (wordOf 0x02 w) 53 3) (getCore g t)).code = 0 ∧
         (getChan (bits (wordOf 0x02 w) 53 3) (getCore g t)).desc = spLine g (bits (wordOf 0x02 w) 40 13) s ∧
         (getCore g t).pc = (loopNext (getCore g s).pc (getCore g s).loops).1)) ∧
  (∀ (g : CoreId) (ch : ChanId) (code : Fin 64) (n : Nat) (s : State), let d := (getChan ch (getCore g s)).desc
     let m := moveDma g d (2 ^ 64) s
     let r := moveDma g d n s
     let sp := moveDma g d (2 ^ 64) (spoilLine g d n s)
     ((getChan ch (getCore g s)).st = .busy → stalled g s = false → dmaHeld g ch s = false →
       dmaCut g (getChan ch (getCore g s)) s = false →
       exec (.dmaComplete g ch) s = .next (settle (endDma g ch m.1 m.2)) ∧
       (m.1 = 0 → ∃ t, exec (.dmaComplete g ch) s = .next (settle (wake g (goIfWaiting g t))) ∧ OnlyCore g m.2 t ∧
         (getChan ch (getCore g t)).st = .idle ∧ (getChan ch (getCore g t)).code = 0)) ∧
     ((getChan ch (getCore g s)).st = .busy → dmaHeld g ch s = false →
       (code.val = 0 → exec (.dmaHalt g ch code n) s = .next (settle (countCorrected g d s))) ∧
       (code.val ≠ 0 → r.1 ≠ 0 → r.1 ≠ 64 → exec (.dmaHalt g ch code n) s = .next (settle (endDma g ch r.1 r.2)) ∧
         ∃ t, exec (.dmaHalt g ch code n) s = .next (settle (wake g (goIfWaiting g t))) ∧ (getChan ch (getCore g t)).st = .halted ∧
           (getChan ch (getCore g t)).code = r.1) ∧
       (r.1 = 0 ∨ r.1 = 64 → code.val = 10 ∨ code.val = 12 →
         ∃ t, exec (.dmaHalt g ch code n) s = .next (settle (wake g (goIfWaiting g t))) ∧ (getChan ch (getCore g t)).st = .halted ∧
           (getChan ch (getCore g t)).code = code.val) ∧
       (r.1 = 0 ∨ r.1 = 64 → code.val = 11 → sp.1 ≠ 0 → exec (.dmaHalt g ch code n) s = .next (settle (endDma g ch sp.1 sp.2)))) ∧
     ((getChan ch (getCore g s)).st ≠ .busy → exec (.dmaComplete g ch) s = .next (settle s) ∧
       exec (.dmaHalt g ch code n) s = .next (settle s)) ∧
     (∀ d lim, intoLetter g d s = true → moveDma g d lim s = (5, s)) ∧
     (∀ line x, ch.val < (getCore g s).chans.length → x = getChan ch (getCore g (startDma g ch line s)) →
       x.st = (if dmaCheck g (spLine g line s) s = 0 then .busy else .halted) ∧ x.code = dmaCheck g (spLine g line s) s ∧
       x.desc = spLine g line s ∧ x.lost = false ∧ ∀ f i, f ≠ .netStatusUnreach → rd f i (startDma g ch line s) = rd f i s)) ∧
  (∀ (g d : Nat) (s : State),
     (badDesc d = true → dmaCheck g d s = 1) ∧
     (badDesc d = false →
       ((isSkew (dKind d) = false ∧ dRbytes d = 0) ∨ dRows d = 0 → dmaCheck g d s = 2) ∧
       ((isSkew (dKind d) = true ∨ dRbytes d ≠ 0) → dRows d ≠ 0 →
         (badAddr d = true → dmaCheck g d s = 4) ∧
         (badAddr d = false → foreignTarget g d s = true → dmaCheck g d s = 6) ∧
         (badAddr d = false → foreignTarget g d s = false → tooLong d = true → dmaCheck g d s = 3) ∧
         (badAddr d = false → foreignTarget g d s = false → tooLong d = false → intoLetter g d s = true → dmaCheck g d s = 5) ∧
         (badAddr d = false → foreignTarget g d s = false → tooLong d = false → intoLetter g d s = false → dmaCheck g d s = 0))) ∧
     ((dKind d = 0 ∨ 8 ≤ dKind d) → dmaCheck g d s = 1))

/-- Each semaphore is a 16-bit field. SIG sends VALUE for semaphore SEM of core TCORE; a signal that reaches a core of a site in service, in whatever state
the core is, adds its value: the sum stops at 65,535 and then sets CORE.STATE.SEM_OVF. SWAIT advances with VALUE subtracted when its semaphore
is at least VALUE, and waits otherwise with nothing changed but the wait; with VALUE = 0 every semaphore reads as before. The premise
Inv is the model's invariant. -/
def Obligations.SemaphoreRules : Prop :=
  ∀ (g : CoreId) (w : BitVec 56) (s : State), Inv s →
    (regInfo .coreSemValue).w = 16 ∧ (regInfo .coreSemValue).sub = 16 ∧
    (∀ (src : Nat) (x : Signal) (rest : List Signal), takeSignal src g s.cores.signals = some (x, rest) → stalled g s = false →
      bit .brsiteStatusLost (siteOf g) s = false → (pathOpen (signalSite x) (siteOf g) s = true ∨ drains x.sent s = true) →
      exec (.signalArrival src g) s = .next (wake g (addSem g x.sem x.val { s with cores := { s.cores with signals := rest } }))) ∧
    (∀ (sem : Fin 16) (v : Nat),
      rd .coreSemValue (16 * g.val + sem.val) (addSem g sem v s) = min 65535 (rd .coreSemValue (16 * g.val + sem.val) s + v) ∧
      (65535 < rd .coreSemValue (16 * g.val + sem.val) s + v → rd .coreStateSemOvf g (addSem g sem v s) = 1) ∧
      (rd .coreSemValue (16 * g.val + sem.val) s + v ≤ 65535 → rd .coreStateSemOvf g (addSem g sem v s) = rd .coreStateSemOvf g s) ∧
      (∀ f i, f ≠ .coreStateSemOvf → (f = .coreSemValue → i ≠ 16 * g.val + sem.val) → rd f i (addSem g sem v s) = rd f i s)) ∧
    (CanIssue g s → bits (wordOf 0x05 w) 0 36 = 0 →
      (bits (wordOf 0x05 w) 36 16 ≤ rd .coreSemValue (16 * g.val + bits (wordOf 0x05 w) 52 4) s →
        exec (.swait g w) s = .next (wake g (advance g (wr .coreSemValue (16 * g.val + bits (wordOf 0x05 w) 52 4)
          (rd .coreSemValue (16 * g.val + bits (wordOf 0x05 w) 52 4) s - bits (wordOf 0x05 w) 36 16) s)))) ∧
      (rd .coreSemValue (16 * g.val + bits (wordOf 0x05 w) 52 4) s < bits (wordOf 0x05 w) 36 16 →
        exec (.swait g w) s = .next (wake g (waitIn g (wordOf 0x05 w) .semWait s))) ∧
      (bits (wordOf 0x05 w) 36 16 = 0 → UnitsIdle g s →
        ∃ t, exec (.swait g w) s = .next t ∧ ∀ f i, rd f i t = rd f i s)) ∧
    (CanIssue g s → bits (wordOf 0x04 w) 0 11 = 0 → (∃ d, coreDistrict g s = some d) →
      coreDistrict (bits (wordOf 0x04 w) 39 17) s = coreDistrict g s → usable (bits (wordOf 0x04 w) 39 17) s = true →
      (∀ j ∈ chansIn (bits (wordOf 0x04 w) 11 8), (getChan j (getCore g s)).st = .idle) →
      unreachable (siteOf g) (siteOf (bits (wordOf 0x04 w) 39 17)) s = false →
      exec (.sig g w) s = .next (settle (wake g (advance g { s with cores := { s.cores with signals := s.cores.signals ++
        [⟨g, bits (wordOf 0x04 w) 39 17, bits (wordOf 0x04 w) 35 4, bits (wordOf 0x04 w) 19 16,
          pathOpen (siteOf g) (siteOf (bits (wordOf 0x04 w) 39 17)) s⟩] } }))))

/-- BR on a core that can issue, with no reserved bit set. COND 3, and COND 0 with a nonzero LINE or WORD, raise RESERVED_ENCODING;
TARGET at or past 4 x LLEN raises BRANCH_TARGET; COND 0 branches; COND 1 and 2, the line being written and not poisoned, branch when the
word is 0 and is not 0 respectively and else advance. A taken branch sets the PC to TARGET and keeps exactly the loops from the innermost
one whose body holds TARGET outwards; with no active loop the instruction after the current one comes next. -/
def Obligations.BranchRule : Prop :=
  ∀ (g : CoreId) (w : BitVec 56) (s : State), CanIssue g s → bits (wordOf 0x09 w) 0 25 = 0 →
    (bits (wordOf 0x09 w) 54 2 = 3 → exec (.br g w) s = .next (wake g (trapNow g 1 1 0 0 (wordOf 0x09 w) s))) ∧
    (bits (wordOf 0x09 w) 54 2 = 0 → (bits (wordOf 0x09 w) 41 13 ≠ 0 ∨ bits (wordOf 0x09 w) 38 3 ≠ 0) →
      exec (.br g w) s = .next (wake g (trapNow g 1 1 0 0 (wordOf 0x09 w) s))) ∧
    (bits (wordOf 0x09 w) 54 2 ≠ 3 →
      (bits (wordOf 0x09 w) 54 2 = 0 → bits (wordOf 0x09 w) 41 13 = 0 ∧ bits (wordOf 0x09 w) 38 3 = 0) →
      (4 * rd .coreLetterLlen g s ≤ bits (wordOf 0x09 w) 25 13 →
        exec (.br g w) s = .next (wake g (trapNow g 1 9 0 0 (wordOf 0x09 w) s))) ∧
      (bits (wordOf 0x09 w) 25 13 < 4 * rd .coreLetterLlen g s →
        (bits (wordOf 0x09 w) 54 2 = 0 → exec (.br g w) s = .next (wake g (branchTo g (bits (wordOf 0x09 w) 25 13) s))) ∧
        (bits (wordOf 0x09 w) 54 2 ≠ 0 → lineUnwritten (bits (wordOf 0x09 w) 41 13) (getCore g s) = false →
          linePoison g (bits (wordOf 0x09 w) 41 13) s = false →
          (((spWord g (bits (wordOf 0x09 w) 41 13) (bits (wordOf 0x09 w) 38 3) s = 0) ↔ bits (wordOf 0x09 w) 54 2 = 1) →
            exec (.br g w) s = .next (wake g (branchTo g (bits (wordOf 0x09 w) 25 13) s))) ∧
          (¬ ((spWord g (bits (wordOf 0x09 w) 41 13) (bits (wordOf 0x09 w) 38 3) s = 0) ↔ bits (wordOf 0x09 w) 54 2 = 1) →
            exec (.br g w) s = .next (wake g (advance g s)))))) ∧
    (∀ t : Nat, (getCore g (branchTo g t s)).pc = t ∧
      ∃ ended, (getCore g s).loops = ended ++ (getCore g (branchTo g t s)).loops ∧
        (∀ f ∈ ended, ¬ (f.first ≤ t ∧ t ≤ f.last)) ∧
        (∀ f, (getCore g (branchTo g t s)).loops.head? = some f → f.first ≤ t ∧ t ≤ f.last)) ∧
    ((getCore g s).loops = [] → (getCore g (advance g s)).pc = (getCore g s).pc + 1)

/-- A trap records class, cause, PC, NEXT_PC, line, channel and the instruction word in CORE.TRAP and CORE.TRAP_INSN, leaves the core
TRAPPED with its matrix and vector queues empty and nothing waiting, and changes no other register field (but NET.STATUS.UNREACH, which
the barrier it leaves may set), no scratchpad, no semaphore, no barrier arrival, no channel, no bank and no tile of the core.
The report of a trap that is due on a core of a district: with a step running, the trap is logged with the district and its dead letter is
kept; a letter error (classes 1, 2, 3, 6 and a DMA halt with a code up to 8) fails the district with LETTER_ERROR, any other trap only the
step. A core outside every district reports to nobody. Without a trap due nothing happens. -/
def Obligations.TrapRules : Prop :=
  (∀ (g : CoreId) (cls cause pc next line ch word : Nat) (s : State),
     cls < 8 → cause < 256 → pc < 2 ^ 13 → next < 2 ^ 13 → line < 2 ^ 13 → ch < 8 → word < 2 ^ 64 →
     rd .coreTrapClass g (trap g cls cause pc next line ch word s) = cls ∧
     rd .coreTrapCause g (trap g cls cause pc next line ch word s) = cause ∧
     rd .coreTrapPc g (trap g cls cause pc next line ch word s) = pc ∧
     rd .coreTrapNextPc g (trap g cls cause pc next line ch word s) = next ∧
     rd .coreTrapLine g (trap g cls cause pc next line ch word s) = line ∧
     rd .coreTrapCh g (trap g cls cause pc next line ch word s) = ch ∧
     rd .coreTrapInsnWord g (trap g cls cause pc next line ch word s) = word ∧
     (∀ f i, f ∉ [Reg.coreTrapClass, .coreTrapCause, .coreTrapPc, .coreTrapNextPc, .coreTrapLine, .coreTrapCh, .coreTrapInsnWord,
         .netStatusUnreach] → rd f i (trap g cls cause pc next line ch word s) = rd f i s) ∧
     (getCore g (trap g cls cause pc next line ch word s)).st = .trapped ∧
     UnitsIdle g (trap g cls cause pc next line ch word s) ∧
     (getCore g (trap g cls cause pc next line ch word s)).wait = none ∧
     (getCore g (trap g cls cause pc next line ch word s)).arrived = (getCore g s).arrived ∧
     (getCore g (trap g cls cause pc next line ch word s)).chans = (getCore g s).chans ∧
     (getCore g (trap g cls cause pc next line ch word s)).banks = (getCore g s).banks ∧
     (getCore g (trap g cls cause pc next line ch word s)).tiles = (getCore g s).tiles ∧
     (trap g cls cause pc next line ch word s).cores.spad = s.cores.spad ∧
     (trap g cls cause pc next line ch word s).vaults = s.vaults) ∧
  (∀ (g : CoreId) (s : State),
     ((getCore g s).trapDue = false → exec (.trapReport g) s = .next (settle s)) ∧
     ((getCore g s).trapDue = true → coreDistrict g s = none →
       exec (.trapReport g) s = .next (settle (updCore g (fun c => { c with trapDue := false }) s))) ∧
     (∀ d, (getCore g s).trapDue = true → coreDistrict g s = some d → (getDistrict d s).running = true →
       exec (.trapReport g) s = .next (settle
         (let s1 := logEvent { faultRec 2 0x0035 (siteOf g) (g.val % 2048) (rd .coreTrapClass g s * 256 + rd .coreTrapCause g s) 5 with
             districts := [d] } [d] (deadLetter d 2 0 (trapRecord g s) (updCore g (fun c => { c with trapDue := false }) s))
          if letterError g s then failDistrict d 32 false s1 else failStep d true s1))) ∧
     (letterError g s = true ↔ rd .coreTrapClass g s ∈ [1, 2, 3, 6] ∨ (rd .coreTrapClass g s = 5 ∧ rd .coreTrapCause g s ≤ 8)))

/-- NOP, LOOP, LOOPI, BR and DWAIT, whether they complete, wait or trap, on a core with idle units: no register field but those of
CORE.TRAP and CORE.TRAP_INSN, and NET.STATUS.UNREACH by a trap, changes, no byte of any memory, no line tag and no poison mark; no near-memory engine, district, stream or
page record. -/
def Obligations.FlowLettersFrame : Prop :=
  ∀ (g : CoreId) (w : BitVec 56) (s t : State), UnitsIdle g s → (getCore g s).wait = none →
    (∃ c ∈ [Instr.nop g w, .loop g w, .loopi g w, .br g w, .dwait g w], exec c s = .next t) →
    (∀ f i, f ∉ [Reg.coreTrapClass, .coreTrapCause, .coreTrapPc, .coreTrapNextPc, .coreTrapLine, .coreTrapCh, .coreTrapInsnWord,
        .netStatusUnreach] → rd f i t = rd f i s) ∧
    (∀ a, mget t.cores.spad a = mget s.cores.spad a) ∧ (∀ a, mget t.cores.pig a = mget s.cores.pig a) ∧
    (∀ a, mget t.vaults.dram a = mget s.vaults.dram a) ∧ t.cores.lineTag = s.cores.lineTag ∧
    t.cores.linePoison = s.cores.linePoison ∧ t.engines = s.engines ∧ t.districts = s.districts ∧ t.sort = s.sort ∧
    t.pages = s.pages ∧ t.outbox = s.outbox

/-- For every element format, every stored code whose value is finite, every rounding mode, draw and saturation bit: converting the
decoded value back to the format gives the same code and raises no flag. So no bit of any element encoding is dropped, and a value
already representable is returned unchanged. -/
def Obligations.RepresentableUnchanged : Prop :=
  ∀ (f : Fmt) (r : Rnd) (sat : Bool) (u w : Nat), w < (if f = .t158 then 3 else 2 ^ fmtBits f) →
    (∃ n m e, decodeElem f w = .fin n m e) → convert f r sat u (decodeElem f w) = (w, {})

/-- A T158 digit 0, 1, 2 has the value -1, 0, +1. A region of n digits takes ceil(n / 5) bytes, so that 160 take 32; packed, element i reads
back as digit i from the base-3 number of byte i / 5 and is no invalid byte, every byte is at most 242, and the positions of the last byte
beyond the last element hold digit 1. -/
def Obligations.TernaryPacking : Prop :=
  (decodeElem .t158 0 = ofInt (-1) ∧ decodeElem .t158 1 = ofInt 0 ∧ decodeElem .t158 2 = ofInt 1) ∧
  (∀ n, regionBytes .t158 n = ceilDiv n 5) ∧ regionBytes .t158 160 = 32 ∧
  (∀ xs : List Nat, (∀ x ∈ xs, x < 3) →
    (∀ i, i < xs.length → elemBits .t158 (packElems .t158 xs) i = (xs.getD i 0, false)) ∧
    (∀ i, xs.length ≤ i → i < 5 * ceilDiv xs.length 5 → elemBits .t158 (packElems .t158 xs) i = (1, false)) ∧
    (∀ j, packElems .t158 xs / 256 ^ j % 256 ≤ 242) ∧ packElems .t158 xs < 256 ^ regionBytes .t158 xs.length) ∧
  (∀ reg i, 243 ≤ reg / 256 ^ (i / 5) % 256 ∨
    elemBits .t158 reg i = (reg / 256 ^ (i / 5) % 256 / 3 ^ (i % 5) % 3, false))

/-- An E8M0 scale X from 0 to 254 is exactly 2 to the X - 127 and 0xFF is NaN, so no code is a zero, a negative or an infinity; it covers 32
elements. A fine scale is the E4M3 value of its byte with its sign and covers 16: a zero scale makes every finite element zero, a negative
one turns the sign of a finite element's product, and a NaN scale makes any element NaN. -/
def Obligations.ScaleValues : Prop :=
  (∀ x : Nat, x ≤ 254 → decodeScale .e8m0 x = .fin false 1 ((x : Int) - 127)) ∧ decodeScale .e8m0 255 = .nan ∧
  (∀ x : Nat, x < 256 → isZero (decodeScale .e8m0 x) = false ∧ isNeg (decodeScale .e8m0 x) = false ∧
    ∀ b, decodeScale .e8m0 x ≠ .inf b) ∧
  sfmtBlock .e8m0 = 32 ∧ sfmtBlock .fine = 16 ∧
  (∀ b : Nat, b < 256 → decodeScale .fine b = decodeElem .e4m3 b) ∧
  (∀ (b : Nat) (v : Val), isZero (decodeScale .fine b) = true → (∃ n m e, v = .fin n m e) → isZero (vmul v (decodeScale .fine b)) = true) ∧
  (∀ (b : Nat) (n : Bool) (m : Nat) (e : Int), isNan (decodeScale .fine b) = false → isNeg (decodeScale .fine b) = true →
    isNeg (vmul (.fin n m e) (decodeScale .fine b)) = !n) ∧
  (∀ (b : Nat) (v : Val), isNan (decodeScale .fine b) = true → vmul v (decodeScale .fine b) = .nan)

/-- On FP32 operands: VADD and VADDB the sum, VSUB the difference, VMUL and VMULB the product, VFMA the product plus the old destination,
each exact and rounded once to FP32; VMAX and VMIN the larger and the smaller with NaN for a NaN operand; VCVT and VTROW the operand; and
of two zeros VMAX takes +0 and VMIN takes -0.
VEXP, VLOG, VRCP, VRSQ, VTANH and VSIGM give the exact and special results of their table: at zeros, infinities, NaN, one, and for
negative operands of VLOG and VRSQ. Elsewhere the result is open within the bound (log 4) and nothing is claimed. -/
def Obligations.VectorResults : Prop :=
  (∀ a b d : Word32,
     (vElem 0x81 a b d).1 = fp32Bits (vadd (fp32Val a) (fp32Val b)) ∧ (vElem 0x88 a b d).1 = fp32Bits (vadd (fp32Val a) (fp32Val b)) ∧
     (vElem 0x82 a b d).1 = fp32Bits (vadd (fp32Val a) (vneg (fp32Val b))) ∧
     (vElem 0x83 a b d).1 = fp32Bits (vmul (fp32Val a) (fp32Val b)) ∧ (vElem 0x89 a b d).1 = fp32Bits (vmul (fp32Val a) (fp32Val b)) ∧
     (vElem 0x84 a b d).1 = fp32Bits (vadd (vmul (fp32Val a) (fp32Val b)) (fp32Val d)) ∧
     (isNan (fp32Val a) = true ∨ isNan (fp32Val b) = true → (vElem 0x85 a b d).1 = 0x7FC00000 ∧ (vElem 0x86 a b d).1 = 0x7FC00000) ∧
     (vElem 0x85 0 0x80000000 d).1 = 0 ∧ (vElem 0x85 0x80000000 0 d).1 = 0 ∧
     (vElem 0x86 0 0x80000000 d).1 = 0x80000000 ∧ (vElem 0x86 0x80000000 0 d).1 = 0x80000000 ∧
     (vElem 0x87 a b d).1 = fp32Bits (fp32Val a) ∧ (vElem 0x8A a b d).1 = fp32Bits (fp32Val a)) ∧
  ((∀ a : Word32, isNan (fp32Val a) = true →
     spExp a = 0x7FC00000 ∧ spLog a = 0x7FC00000 ∧ spRcp a = 0x7FC00000 ∧ spRsq a = 0x7FC00000 ∧ spTanh a = 0x7FC00000 ∧
       spSigm a = 0x7FC00000) ∧
   (∀ a : Word32, isZero (fp32Val a) = true →
     spExp a = 0x3F800000 ∧ spLog a = 0xFF800000 ∧ spRcp a = a ||| 0x7F800000 ∧ spRsq a = a ||| 0x7F800000 ∧ spTanh a = a ∧
       spSigm a = 0x3F000000) ∧
   (spExp 0x7F800000 = 0x7F800000 ∧ spExp 0xFF800000 = 0 ∧ spLog 0x7F800000 = 0x7F800000 ∧ spLog 0x3F800000 = 0 ∧
     spRcp 0x7F800000 = 0 ∧ spRcp 0xFF800000 = 0x80000000 ∧ spRsq 0x7F800000 = 0 ∧ spTanh 0x7F800000 = 0x3F800000 ∧
     spTanh 0xFF800000 = 0xBF800000 ∧ spSigm 0x7F800000 = 0x3F800000 ∧ spSigm 0xFF800000 = 0) ∧
   (∀ a : Word32, isNan (fp32Val a) = false → isZero (fp32Val a) = false → isNeg (fp32Val a) = true →
     spLog a = 0x7FC00000 ∧ spRsq a = 0x7FC00000))

/-- On a core that can issue and whose units are idle, an instruction that passes the issue checks advances and takes its effect on the
array at once: MLOAD loads the stationary operand, MSTREAM and MACC run their stream, MDRAIN with a free tile entry drains, MCLEAR clears.
So, none of the lines it reads being mistagged or poisoned: MLOAD leaves the stationary operand of its region's rows and scales and every
bank as it was; MSTREAM, and MACC into an EMPTY bank or one of the stream's type and width class, leave their bank with all the wavefronts
summed and every other bank and the stationary operand as they were; MDRAIN adds one tile with its bank's number and its UTAG; MCLEAR
leaves its bank EMPTY without SAT and NV and every other as it was. Each leaves the core RUNNING, past the instruction.
CoresWf is part of the model's invariant.
MDRAIN with CVT = 0 and CLR = 0 appends one tile of the bank's values as they are, with the bank's type, width class, number, SAT and NV
marks, whether it was INVALID, and the instruction's UTAG; an EMPTY bank gives zeros. The waiting drain is over, the banks and the
stationary operand stay as they were. With CLR = 1 the bank is EMPTY with no SAT or NV mark. -/
def Obligations.DrainedTileAndMatrixRuns : Prop :=
  (∀ (g : CoreId) (w : BitVec 56) (s : State), CanIssue g s → UnitsIdle g s → CoresWf s →
     (mCheck g (wordOf 0x40 w) s = none → exec (.mload g w) s = .next (runMload g (entryOf g (wordOf 0x40 w) s) (advance g s))) ∧
     (mCheck g (wordOf 0x41 w) s = none → exec (.mstream g w) s = .next (runStream g (entryOf g (wordOf 0x41 w) s) (advance g s))) ∧
     (mCheck g (wordOf 0x42 w) s = none → exec (.macc g w) s = .next (runStream g (entryOf g (wordOf 0x42 w) s) (advance g s))) ∧
     (mCheck g (wordOf 0x43 w) s = none → (getCore g s).tiles.length < 8 →
       exec (.mdrain g w) s = .next (runDrain g (entryOf g (wordOf 0x43 w) s) (advance g s))) ∧
     (mCheck g (wordOf 0x44 w) s = none → exec (.mclear g w) s = .next (runMclear g (entryOf g (wordOf 0x44 w) s) (advance g s))) ∧
     (∀ f rl sl, mCheck g (wordOf 0x40 w) s = none → fmtOfCode (mSfmt (wordOf 0x40 w)) = some f →
       rl = rowLines f (mK (wordOf 0x40 w)) →
       sl = scaleLines (scaleOf (mSsf (wordOf 0x40 w)) (mSse (wordOf 0x40 w))) (mK (wordOf 0x40 w)) →
       mloadBad g (wordOf 0x40 w) rl sl s = none →
       ∃ t, exec (.mload g w) s = .next t ∧ Issued g s t ∧ (getCore g t).banks = (getCore g s).banks ∧
         (getCore g t).stat = some ⟨f, scaleOf (mSsf (wordOf 0x40 w)) (mSse (wordOf 0x40 w)), mK (wordOf 0x40 w),
           (List.range 16).map (fun n => regionNat g (mSbase (wordOf 0x40 w) + n * rl) rl s),
           (List.range 16).map (fun n => regionNat g (mBase (wordOf 0x40 w) + n * sl) sl s)⟩) ∧
     (∀ p ∈ ([(Instr.mstream, 0x41), (.macc, 0x42)] : List ((CoreId → BitVec 56 → Instr) × Nat)), ∀ x st,
       mCheck g (wordOf p.2 w) s = none → streamArgs (wordOf p.2 w) = some x → (getCore g s).stat = some st →
       streamConflict (entryOf g (wordOf p.2 w) s) x (getCore g s) = none → firstBadWave g x s = none →
       x.bank < (getCore g s).banks.length →
       ∃ t, exec (p.1 g w) s = .next t ∧ Issued g s t ∧ (getCore g t).stat = some st ∧
         getBank x.bank (getCore g t) = (streamBank x st (regionNat g x.base (streamLines x.b x.k x.g (saWc x)) s)
           (regionNat g (x.base + streamLines x.b x.k x.g (saWc x)) (streamScaleLines x.sb x.k) s)
           (waveCount x.k x.g (saWc x)) (p.2 == 0x41) (getBank x.bank (getCore g s))).1 ∧
         ∀ b, b ≠ x.bank → getBank b (getCore g t) = getBank b (getCore g s)) ∧
     (mCheck g (wordOf 0x43 w) s = none → (getCore g s).tiles.length < 8 →
       ∃ t tile, exec (.mdrain g w) s = .next t ∧ Issued g s t ∧ (getCore g t).tiles = (getCore g s).tiles ++ [tile] ∧
         tile.bank = mBank (wordOf 0x43 w) ∧ tile.utag = mUtag (wordOf 0x43 w) ∧ (getCore g t).drain = none) ∧
     (mCheck g (wordOf 0x44 w) s = none → mBank (wordOf 0x44 w) < (getCore g s).banks.length →
       ∃ t, exec (.mclear g w) s = .next t ∧ Issued g s t ∧ (getBank (mBank (wordOf 0x44 w)) (getCore g t)).st = .empty ∧
         (getBank (mBank (wordOf 0x44 w)) (getCore g t)).sat = false ∧ (getBank (mBank (wordOf 0x44 w)) (getCore g t)).nv = false ∧
         ∀ b, b ≠ mBank (wordOf 0x44 w) → getBank b (getCore g t) = getBank b (getCore g s))) ∧
  (∀ (g : CoreId) (q : Queued) (s : State), mCvt q.word = false → mBank q.word < (getCore g s).banks.length →
     (getCore g (runDrain g q s)).tiles = (getCore g s).tiles ++
       [⟨(getBank (mBank q.word) (getCore g s)).last == .int32, (getBank (mBank q.word) (getCore g s)).wcb, mBank q.word,
         (getBank (mBank q.word) (getCore g s)).sat, (getBank (mBank q.word) (getCore g s)).st == .invalid,
         (getBank (mBank q.word) (getCore g s)).nv, mUtag q.word,
         if (getBank (mBank q.word) (getCore g s)).st == .empty
           then List.replicate (16 * wcOf (getBank (mBank q.word) (getCore g s)).wcb) 0
           else (getBank (mBank q.word) (getCore g s)).vals⟩] ∧
     (getCore g (runDrain g q s)).drain = none ∧ (getCore g (runDrain g q s)).stat = (getCore g s).stat ∧
     (mClr q.word = false → ∀ b, getBank b (getCore g (runDrain g q s)) = getBank b (getCore g s)) ∧
     (mClr q.word = true → (getBank (mBank q.word) (getCore g (runDrain g q s))).st = .empty ∧
       (getBank (mBank q.word) (getCore g (runDrain g q s))).sat = false ∧
       ∀ b, b ≠ mBank q.word → getBank b (getCore g (runDrain g q s)) = getBank b (getCore g s)) ∧
     (∀ f i, rd f i (runDrain g q s) = rd f i s))

/-- On a core that can issue: a legal VCFG sets the vector configuration and advances; a vector instruction of any opcode that passes the
issue checks with COUNT = 0 only advances; with COUNT above 0, the units idle and nothing to wait for, it advances and runs on its
operands with the configuration in force (runVector), and VAPND hands its data to the KV manager of the core's site (runVapnd). -/
def Obligations.VectorRuns : Prop :=
  ∀ (g : CoreId) (w : BitVec 56) (s : State), CanIssue g s →
    (vcfgCause (wordOf 0x80 w) = 0 →
      exec (.vcfg g w) s = .next (wake g (updCore g (fun c => { advanceFrom c.pc c with vcfg := vcfgOf (wordOf 0x80 w) }) s))) ∧
    (∀ p ∈ ([(Instr.vadd, 0x81), (.vsub, 0x82), (.vmul, 0x83), (.vfma, 0x84), (.vmax, 0x85), (.vmin, 0x86), (.vcvt, 0x87),
        (.vaddb, 0x88), (.vmulb, 0x89), (.vtrow, 0x8A), (.vexp, 0x90), (.vlog, 0x91), (.vrcp, 0x92), (.vrsq, 0x93), (.vtanh, 0x94),
        (.vsigm, 0x95), (.vrsum, 0xA0), (.vrmax, 0xA1), (.vrmin, 0xA2), (.vrssq, 0xA3), (.vsmax, 0xA8), (.vsexp, 0xA9),
        (.vrope, 0xB0), (.vkvq, 0xB1), (.vapnd, 0xB2)] : List ((CoreId → BitVec 56 → Instr) × Nat)),
      vCheck g (wordOf p.2 w) (getCore g s).vcfg s = none →
      (vCount (wordOf p.2 w) = 0 → exec (p.1 g w) s = .next (wake g (advance g s))) ∧
      (0 < vCount (wordOf p.2 w) → UnitsIdle g s → CoresWf s → vBlocked g (entryOf g (wordOf p.2 w) s) s = false →
        tileCheck (wordOf p.2 w) (getCore g s) = none →
        exec (p.1 g w) s = .next
          ((if p.2 = 0xB2 then runVapnd else runVector) g (entryOf g (wordOf p.2 w) s) (advance g s))))

/-- Running a vector instruction on its operands changes no register field but those of this core's CORE.TRAP, CORE.TRAP_INSN,
CORE.NUMFLAGS, CORE.SR_SEED and SR_CTR and CORE.VEC_STATUS.SERIAL (and NET.STATUS.UNREACH, by the barrier that a trap leaves), no byte of a pigeonhole, of vault memory or of the poste restante, and
no signal, engine, district or stream. -/
def Obligations.VectorFrame : Prop :=
  ∀ (g : CoreId) (q : Queued) (s : State),
    (∀ f i, (f ∉ [Reg.coreTrapClass, .coreTrapCause, .coreTrapPc, .coreTrapNextPc, .coreTrapLine, .coreTrapCh, .coreTrapInsnWord,
        .coreNumflagsNv, .coreNumflagsOf, .coreNumflagsTrit, .coreNumflagsScaleNan, .coreSrSeed, .coreSrCtr, .coreVecStatusSerial] ∨
        i ≠ g.val) → f ≠ .netStatusUnreach → rd f i (runVector g q s) = rd f i s) ∧
    (runVector g q s).cores.pig = s.cores.pig ∧ (runVector g q s).vaults = s.vaults ∧ (runVector g q s).sort = s.sort ∧
    (runVector g q s).engines = s.engines ∧ (runVector g q s).districts = s.districts ∧
    (runVector g q s).cores.signals = s.cores.signals ∧ (runVector g q s).outbox = s.outbox

/-- Of a core whose block is not BUSY and whose cluster is lit. GO in IDLE, HALTED, TRAPPED or STOPPED, with a letter region that R81 accepts:
with a channel BUSY it only waits for it, and else the core runs from CORE.LETTER.ENTRY with CORE.TRAP clear, its HALTED channels IDLE, its
semaphores 0, no loop and the reset vector configuration, and with its stationary operand, banks, tile queue and every layout tag kept; a GO
that waited acts as soon as no channel is BUSY. GO in any other state changes nothing. STOP in RUNNING or a wait state leaves the core
STOPPED with its queues dropped, no release held and nothing waiting, changing no register field but NET.STATUS.UNREACH, which the barrier
it leaves may set; in any other state it changes nothing. While the block is BUSY either write is dropped and sets OVERRUN; of a darkened
cluster's core it sets BUSY and waits, changing no other register field and no core. -/
def Obligations.GoRule : Prop :=
  ∀ (g : CoreId) (s : State),
    (bit .corePostBusy g s = true → exec (.coreCtrlGo g) s = .next (flag .corePostOverrun g s) ∧
      exec (.coreCtrlStop g) s = .next (settle (flag .corePostOverrun g s))) ∧
    (bit .corePostBusy g s = false → bit .thclCtrlDark (clusterOf g) s = true →
      exec (.coreCtrlGo g) s = .next { flag .corePostBusy g s with posted := s.posted ++ [⟨.core, g, [(.coreCtrlGo, g, 1)]⟩] } ∧
      exec (.coreCtrlStop g) s =
        .next (settle { flag .corePostBusy g s with posted := s.posted ++ [⟨.core, g, [(.coreCtrlStop, g, 1)]⟩] })) ∧
    (bit .corePostBusy g s = false → bit .thclCtrlDark (clusterOf g) s = false →
      (goState (getCore g s).st = true → letterOk g s = true →
        (busyIn 255 (getCore g s) = true → ∃ t, exec (.coreCtrlGo g) s = .next t ∧ OnlyCore g s t ∧ (getCore g t).goWait = true ∧
          (getCore g t).st = (getCore g s).st) ∧
        (busyIn 255 (getCore g s) = false → exec (.coreCtrlGo g) s = .next (startCore g s))) ∧
      (goState (getCore g s).st = false → exec (.coreCtrlGo g) s = .next s) ∧
      (goState (getCore g s).st = false → ∃ t, exec (.coreCtrlStop g) s = .next (settle t) ∧ (getCore g t).st = .stopped ∧
        UnitsIdle g t ∧ (getCore g t).wait = none ∧ (getCore g t).held = false ∧ (getCore g t).chans = (getCore g s).chans ∧
        ∀ f i, f ≠ .netStatusUnreach → rd f i t = rd f i s) ∧
      (goState (getCore g s).st = true → exec (.coreCtrlStop g) s = .next (settle s))) ∧
    ((getCore g s).goWait = true → busyIn 255 (getCore g s) = false → goIfWaiting g s = startCore g s) ∧
    ((getCore g (startCore g s)).st = .running ∧ (getCore g (startCore g s)).pc = rd .coreLetterEntry g s ∧
      (getCore g (startCore g s)).loops = [] ∧ (getCore g (startCore g s)).vcfg = {} ∧
      (getCore g (startCore g s)).chans = (getCore g s).chans.map (fun h => if h.st = .halted then { h with st := .idle, code := 0 } else h) ∧
      (getCore g (startCore g s)).stat = (getCore g s).stat ∧ (getCore g (startCore g s)).banks = (getCore g s).banks ∧
      (getCore g (startCore g s)).tiles = (getCore g s).tiles ∧ (startCore g s).cores.lineTag = s.cores.lineTag ∧
      (∀ f ∈ [Reg.coreTrapClass, .coreTrapCause, .coreTrapPc, .coreTrapNextPc, .coreTrapLine, .coreTrapCh], rd f g (startCore g s) = 0) ∧
      (∀ j : Fin 16, rd .coreSemValue (16 * g.val + j.val) (startCore g s) = 0))

/-- A barrier release that is under way to a core in BARRIER_WAIT, not stalled, with a path from the district's home or draining from before
the route change: the core goes on after the BAR with nothing arrived and no release under way, and nothing else changes. A step release
under way to a core that is not stalled, with such a path, is dropped by a core in a state GO accepts and held by any other, which then goes
on with what waited for it. A waiting RWAIT of a core that is not stalled, one that needs no step release or has taken one, goes on at its
release, and nothing else changes. A drain of a core in a state GO does not accept that waits on a full tile queue, no instruction that
reads the queue having issued, traps at TILE_DEADLOCK with the drain's own PC and word: the core is TRAPPED with CORE.TRAP and the word
recorded.
A write of CORE.SR_SEED or CORE.SR_CTR, the core's block not being BUSY, joins the end of the core's held writes and changes nothing else;
while the block is BUSY it is dropped and sets OVERRUN. When no drawing instruction executes the held writes take effect: none is held any
more, a register with a held write reads the value of its last one, one without reads as before, and no other register field and no other
core changes. -/
def Obligations.ReleasesAndHeldWrites : Prop :=
  (∀ (g : CoreId) (s : State),
     let path (sent : Bool) : Prop :=
       pathOpen (match coreDistrict g s with | some d => rd .distCfgHome d s | none => siteOf g) (siteOf g) s = true ∨ drains sent s = true
     (stalled g s = false → (getCore g s).releasing = true → (getCore g s).st = .barrierWait → path (getCore g s).relSent →
       ∃ t, exec (.barrierRelease g) s = .next t ∧ OnlyCore g s t ∧ (getCore g t).st = .running ∧ (getCore g t).wait = none ∧
         (getCore g t).arrived = none ∧ (getCore g t).releasing = false ∧
         (getCore g t).pc = (loopNext (getCore g s).pc (getCore g s).loops).1 ∧
         (getCore g t).loops = (loopNext (getCore g s).pc (getCore g s).loops).2) ∧
     (stalled g s = false → (getCore g s).rel = true → path (getCore g s).stepSent →
       (goState (getCore g s).st = true → exec (.stepRelease g) s = .next (updCore g (fun c => { c with rel := false }) s)) ∧
       (goState (getCore g s).st = false →
         exec (.stepRelease g) s = .next (wake g (updCore g (fun c => { c with rel := false, held := true }) s)))) ∧
     (∀ w, (getCore g s).wait = some w → (getCore g s).st = .roundWait → stalled g s = false → bits w 56 8 = 0x0B →
       (bits w 31 1 = 0 ∨ (getCore g s).took = true) →
       ∃ t, exec (.roundWaitRelease g) s = .next t ∧ OnlyCore g s t ∧ (getCore g t).st = .running ∧ (getCore g t).wait = none ∧
         (getCore g t).took = false ∧ (getCore g t).pc = (loopNext (getCore g s).pc (getCore g s).loops).1 ∧
         (getCore g t).loops = (loopNext (getCore g s).pc (getCore g s).loops).2) ∧
     (∀ q, (getCore g s).drain = some q → 8 ≤ (getCore g s).tiles.length → goState (getCore g s).st = false →
       ((getCore g s).vq.any fun v => vQa v.word) = false → q.pc < 2 ^ 13 → q.word < 2 ^ 64 →
       ∃ t, exec (.tileDeadlock g) s = .next t ∧ t = trap g 1 0x0B q.pc (getCore g s).pc 0 0 q.word s ∧ (getCore g t).st = .trapped ∧
         rd .coreTrapClass g t = 1 ∧ rd .coreTrapCause g t = 11 ∧ rd .coreTrapPc g t = q.pc ∧ rd .coreTrapInsnWord g t = q.word)) ∧
  (∀ (g : CoreId) (v : Word64) (s : State),
     (bit .corePostBusy g s = false →
       (∃ t, exec (.srSeedWrite g v) s = .next t ∧ OnlyCore g s t ∧
         getCore g t = { getCore g s with srHeld := (getCore g s).srHeld ++ [(true, v)] }) ∧
       (∃ t, exec (.srCtrWrite g v) s = .next t ∧ OnlyCore g s t ∧
         getCore g t = { getCore g s with srHeld := (getCore g s).srHeld ++ [(false, v)] })) ∧
     (bit .corePostBusy g s = true → exec (.srSeedWrite g v) s = .next (flag .corePostOverrun g s) ∧
       exec (.srCtrWrite g v) s = .next (flag .corePostOverrun g s)) ∧
     (∃ t, exec (.srWriteEffect g) s = .next t ∧ getCore g t = { getCore g s with srHeld := [] } ∧
       (∀ h, h ≠ g.val → getCore h t = getCore h s) ∧ t.vaults = s.vaults ∧ t.cores.spad = s.cores.spad ∧
       (∀ b : Bool, rd (if b = true then .coreSrSeed else .coreSrCtr) g t =
         match ((getCore g s).srHeld.filter fun p => p.1 == b).getLast? with
         | some p => p.2.toNat
         | none => rd (if b = true then .coreSrSeed else .coreSrCtr) g s) ∧
       ∀ f i, (f ≠ .coreSrSeed ∧ f ≠ .coreSrCtr) ∨ i ≠ g.val → rd f i t = rd f i s))

/-- With the flip-mask not armed, a write of a whole aligned word of a vault by any requester is never lost, whatever the word held before
(an error, the unwritten marker or the poison marker), and a checked read of the word by any requester then delivers exactly the written
bytes; every other aligned word's raw bytes, marker and bad symbols, in this vault and in every other, are as before. -/
def Obligations.VaultReadAfterWrite : Prop :=
  ∀ (v : VaultId) (k src src' : Nat) (bs : List Byte) (s : State), bs.length = 32 → k < 2 ^ 21 → rd .vaultFlipCtrlArmed v s = 0 →
    (vwrite v (32 * k) src bs s).1 = none ∧
    (vread v (32 * k) src' (vwrite v (32 * k) src bs s).2).1 = .ok bs ∧
    ∀ (u : VaultId) (j : Nat), j < 2 ^ 21 → (u.val ≠ v.val ∨ j ≠ k) →
      dramRead u (32 * j) 32 (vwrite v (32 * k) src bs s).2 = dramRead u (32 * j) 32 s ∧
      getMark u (32 * j) (vwrite v (32 * k) src bs s).2 = getMark u (32 * j) s ∧
      badOf u (32 * j) (vwrite v (32 * k) src bs s).2 = badOf u (32 * j) s

/-- A checked read of a coded word without wrong symbols that carries the unwritten marker or the poison marker delivers no data: the
unwritten one is counted in VAULT.ERRCNT.UNWR up to the counter's end, and VAULT.ERRADDR records offset, kind (4 unwritten, 3 poisoned),
requester and round; the word itself and every other word stay as they were. -/
def Obligations.UnwrittenRead : Prop :=
  ∀ (v : VaultId) (k src : Nat) (s : State), 32 * k < counterBase → src < 8 → badOf v (32 * k) s = [] →
    (getMark v (32 * k) s = .unwritten →
      (vread v (32 * k) src s).1 = .unwritten ∧
      rd .vaultErrcntUnwr v (vread v (32 * k) src s).2 = min (rd .vaultErrcntUnwr v s + 1) (2 ^ (regInfo .vaultErrcntUnwr).w - 1) ∧
      rd .vaultErraddrOffset v (vread v (32 * k) src s).2 = (32 * k) % 2 ^ (regInfo .vaultErraddrOffset).w ∧
      rd .vaultErraddrKind v (vread v (32 * k) src s).2 = 4 ∧ rd .vaultErraddrSrc v (vread v (32 * k) src s).2 = src) ∧
    (getMark v (32 * k) s = .poison →
      (vread v (32 * k) src s).1 = .poisoned ∧ rd .vaultErraddrKind v (vread v (32 * k) src s).2 = 3 ∧
      rd .vaultErrcntUnwr v (vread v (32 * k) src s).2 = rd .vaultErrcntUnwr v s) ∧
    (getMark v (32 * k) s ≠ .data → (vread v (32 * k) src s).2.vaults.dram = s.vaults.dram ∧
      (vread v (32 * k) src s).2.vaults.mark = s.vaults.mark ∧ (vread v (32 * k) src s).2.vaults.bad = s.vaults.bad)

/-- Below the end of a vault whose controller works: a word read reads the aligned word for its requester and delivers its bytes, or poisoned
data when it cannot; a full write writes the aligned word's 32 bytes; a narrow write writes the given bytes, as many as fit into the word;
a strong repair repairs an established block for its first flagged word; a queued demand scrub scrubs the oldest queued block and takes it
from the queue. At a hole no access is made.
A refresh leaves the bank precharged and every byte, marker and symbol of every vault as it was. The patrol scrub of a site whose
scrub is enabled takes the vault's next word, moves the vault on by one, notes when the site begins a new pass, and shows the site's passes and progress; with the scrub disabled
it does nothing. A replayed flit of a vertical channel is counted in VAULT.CHAN_CRC up to the counter's end, and changes no other field. -/
def Obligations.VaultAccessAndUpkeep : Prop :=
  (∀ (v : VaultId) (off : BitVec 26) (src : Fin 7) (data : BitVec 256) (bytes : List Byte) (blk : Fin 12032) (s : State),
     (vaultEnd ≤ off.toNat → exec (.vaultWordRead v off src) s = .next (settle s) ∧
       exec (.vaultFullWrite v off data src) s = .next (settle s) ∧ exec (.vaultNarrowWrite v off bytes src) s = .next (settle s)) ∧
     (vaultWorks v s = true → off.toNat < vaultEnd →
       (∀ bs, (vread v (off.toNat / 32 * 32) src s).1 = .ok bs → exec (.vaultWordRead v off src) s =
         .next (settle (emit (.readData false bs) (vread v (off.toNat / 32 * 32) src s).2))) ∧
       ((∀ bs, (vread v (off.toNat / 32 * 32) src s).1 ≠ .ok bs) → exec (.vaultWordRead v off src) s =
         .next (settle (emit (.readData true []) (vread v (off.toNat / 32 * 32) src s).2))) ∧
       exec (.vaultFullWrite v off data src) s = .next (settle (vwrite v (off.toNat / 32 * 32) src (natLe 32 data.toNat) s).2) ∧
       exec (.vaultNarrowWrite v off bytes src) s = .next (settle (vwrite v off.toNat src (bytes.take (32 - off.toNat % 32)) s).2)) ∧
     (vaultWorks v s = true → isEst v (4096 * blk.val) s = true →
       exec (.strongRepair v blk) s = .next (settle (strongRepair v (wordOffset (4096 * blk.val) (failingWord v (4096 * blk.val) s))
         (failingWord v (4096 * blk.val) s) srcScrub s))) ∧
     (vaultWorks v s = true → isEst v (4096 * blk.val) s = false → exec (.strongRepair v blk) s = .next (settle s)) ∧
     (∀ b bs, tget dsqNone s.vaults.dsq v = b :: bs → vaultWorks v s = true →
       exec (.demandScrub v) s = .next (settle
         { demandScrub v b s with vaults := { (demandScrub v b s).vaults with dsq := tset dsqNone (demandScrub v b s).vaults.dsq v bs } }))) ∧
  (∀ (v : VaultId) (layer : Fin 12) (bank : Fin 4) (s : State),
     (∃ t, exec (.dramRefresh v layer bank) s = .next t ∧ tget noBad t.vaults.openRow (48 * v.val + 4 * layer.val + bank.val) = 0 ∧
       t.vaults.dram = s.vaults.dram ∧ t.vaults.mark = s.vaults.mark ∧ t.vaults.bad = s.vaults.bad ∧ t.regs = s.regs) ∧
     (rd .vsiteScrubEn (siteOf v) s = 0 → exec (.patrolScrub v) s = .next (settle s)) ∧
     (bit .vsiteScrubEn (siteOf v) s = true → vaultWorks v s = true →
       exec (.patrolScrub v) s = .next (settle (
         let s1 := patrolWord v (tget noBad s.vaults.patrol v % patrolWords) s
         let s2 := { s1 with vaults := { s1.vaults with patrol := tset noBad s1.vaults.patrol v (tget noBad s.vaults.patrol v + 1) } }
         let s3 := if (patrolSite (siteOf v) s2).1 = (patrolSite (siteOf v) s).1 then s2
           else { s2 with vaults := { s2.vaults with patrolFrom := tset noBad s2.vaults.patrolFrom (siteOf v) s.now } }
         wr .vsiteScrubPassPasses (siteOf v) (patrolSite (siteOf v) s2).1
           (wr .vsiteScrubPassProgress (siteOf v) (65536 * (patrolSite (siteOf v) s2).2 / (2048 * patrolWords)) s3)))) ∧
     (∃ t, exec (.channelFlitReplay v) s = .next t ∧
       rd .vaultChanCrcCrcErr v t = min (rd .vaultChanCrcCrcErr v s + 1) (2 ^ (regInfo .vaultChanCrcCrcErr).w - 1) ∧
       ∀ f i, f ≠ .vaultChanCrcCrcErr ∨ i ≠ v.val → rd f i t = rd f i s))

/-- A host window access whose port's site is in service and joined to a target site in service and not in reset: where the address is a hole, or the function's window
grants do not admit the page for the access, the access is not made: a read returns poisoned data, a write is discarded, the HOLE flag of
VSITE.STATUS is set, and no vault changes. Where the grants admit it, a read delivers the rest of the 64-byte line and a write writes its
bytes, as many as fit into the line. -/
def Obligations.HostWindowRule : Prop :=
  ∀ (port : HPortId) (func : FuncId) (vlocal : Bool) (addr : BitVec 48) (bytes : List Byte) (s : State),
    siteUp (hostSite vlocal addr.toNat) s = true → s.net.out.contains (hostPortSite port s) = false →
    unreachable (hostPortSite port s) (hostSite vlocal addr.toNat) s = false →
    pathHeld (hostPortSite port s) (hostSite vlocal addr.toNat) s = false →
    ((hostTarget vlocal addr.toNat = none ∨ ∃ t, hostTarget vlocal addr.toNat = some t ∧
        grantAllows port func t.1 (t.2 / 65536) false s = false) →
      exec (.hostWindowRead port func vlocal addr) s =
        .next (settle (emit (.readData true []) (flag .vsiteStatusHole (hostSite vlocal addr.toNat) s)))) ∧
    ((hostTarget vlocal addr.toNat = none ∨ ∃ t, hostTarget vlocal addr.toNat = some t ∧
        grantAllows port func t.1 (t.2 / 65536) true s = false) →
      exec (.hostWindowWrite port func vlocal addr bytes) s = .next (settle (flag .vsiteStatusHole (hostSite vlocal addr.toNat) s))) ∧
    (∀ t, hostTarget vlocal addr.toNat = some t → grantAllows port func t.1 (t.2 / 65536) false s = true →
      (∀ bs, (vreadBytes t.1 t.2 (64 - t.2 % 64) srcHost (meetHost t.1 s)).1 = (bs, none) →
        exec (.hostWindowRead port func vlocal addr) s =
          .next (settle (emit (.readData false bs) (vreadBytes t.1 t.2 (64 - t.2 % 64) srcHost (meetHost t.1 s)).2))) ∧
      (∀ bs o, (vreadBytes t.1 t.2 (64 - t.2 % 64) srcHost (meetHost t.1 s)).1 = (bs, some o) →
        exec (.hostWindowRead port func vlocal addr) s =
          .next (settle (emit (.readData true []) (vreadBytes t.1 t.2 (64 - t.2 % 64) srcHost (meetHost t.1 s)).2)))) ∧
    (∀ t, hostTarget vlocal addr.toNat = some t → grantAllows port func t.1 (t.2 / 65536) true s = true →
      exec (.hostWindowWrite port func vlocal addr bytes) s =
        .next (settle (vwrite t.1 t.2 srcHost (bytes.take (64 - addr.toNat % 64)) (meetHost t.1 s)).2)) ∧
    (∀ i u, (flag .vsiteStatusHole i u).vaults = u.vaults ∧ rd .vsiteStatusHole i (flag .vsiteStatusHole i u) = 1)

/-- For every vault and every offset below 0x200_0000, the host-window address computed from them decodes back to that vault and that offset,
and it is below 2 to the 42; so no two bytes share an address of the interleaved window. -/
def Obligations.HostWindowForms : Prop :=
  ∀ (v : VaultId) (off : Nat), off < 0x2000000 → hostWindow (toHostWindow v off) = (v.val, off) ∧ toHostWindow v off < 2 ^ 42

/-- An idle engine with work, which no stop, gated slice, lost site or site reset holds, starts its next operation when the activity
placement allows it, the KV manager's first, and is else held and counted once, with the condition that holds it: the start moves the
operation from the queue into the engine, with the vaults it touches noted, shows RUNNING, fills the queue from what waits and changes no
vault. The running operation of an engine completes: it runs, and one that fails no check writes its record, sends its signal, shows status
0 and is answered with status 0, in this order; one that ends otherwise ends as its status says; the engine is then free and admits what
waits. An engine held by the checkerboard starts at the end of its hold and the expiry is counted.
A replay on an existing edge is counted and changes nothing else. A lane failure on an edge neither DOWN nor of a site that is out starts,
where the edge stays usable and no recovery is in the way, the lane's substitution or rehash; one that leaves fewer than 16 lanes takes the
edge down with one lane less. A finished substitution leaves the edge's list, the edge shows SUBSTITUTING, DEGRADED or UP, and where it was
the running recovery that one ends, counted. 20 us after a route change begins the routes are to be loaded, and the signals to and from a
lost site and those inside one are dropped, no other. Loaded, the routes are in force without the sites and edges that are out, barriers
are looked at again, held accesses go on, and a recovery of an edge or of a lost site ends. A router failure of a site not out loses the
packets inside it, takes the site out of the route set and starts a route change; of a site that is out it changes nothing. A transfer
whose packets were lost halts with REMOTE_ERROR 12 at its acknowledgement time-out, n of its bytes moved. -/
def Obligations.EnginesAndNetwork : Prop :=
  (∀ (e : EngineId) (busy : Bool) (s : State),
     ((getEngine e s).running = none → (getEngine e s).queue ≠ [] → engineStopped e s = false →
       (startHold e busy s = 2 → exec (.nmOpStart e busy) s = .next (settle (startOp e s))) ∧
       (startHold e busy s ≠ 2 → (getEngine e s).held = false → exec (.nmOpStart e busy) s = .next (settle
         (showEngine e (setEngine e { getEngine e s with held := true, checker := checkerHolds e busy s }
           (bump .thsiteHoldHeld (e.val / 32) s)))))) ∧
     (∀ op, (getEngine e s).running = none → nextOp (getEngine e s).queue = some op →
       (getEngine e (startOp e s)).running = some { op with vaults := nmVaults e op s } ∧ (getEngine e (startOp e s)).held = false ∧
         (getEngine e (startOp e s)).queue = (getEngine e s).queue.erase op ++
           (getEngine e s).waiting.take (16 - ((getEngine e s).queue.erase op).length) ∧
         rd .nmeStatusRunning e (startOp e s) = 1 ∧ (startOp e s).vaults = s.vaults) ∧
     (∀ op, (getEngine e s).running = some op →
       let r := nmRun e op (2 ^ 20) 0 s
       let free (u : State) : State :=
         showEngine e (admitWaiting e (setEngine e { getEngine e u with running := none, met := false, abort := false } u))
       (r.1.1.status = 0 → exec (.nmOpComplete e) s = .next (settle (
         let bs := nmRecord r.1.1 r.1.2 (getEngine e r.2).met r.2
         let s1 := if nCen op.desc then
             (vwrite (nCrec op.desc / 2 ^ 26) (nCrec op.desc % 2 ^ 26) (engineSrc e (nCrec op.desc / 2 ^ 26)) bs r.2).2 else r.2
         let s2 := if nSen op.desc then sendSignal (131072 + e) (nTcore op.desc) (nSem op.desc) 1 s1 else s1
         let s3 := wr .nmeStatusLast e 0 (if (getEngine e r.2).met then flag .nmeStatusHostMet e s2 else s2)
         free (fencePass op.seq (nmAnswer op 0 bs s3))))) ∧
       exec (.nmOpComplete e) s = .next (settle (free (nmEnd e op r.1.1 r.1.2 r.2)))) ∧
     ((getEngine e s).held = true → (getEngine e s).checker = true → startHold e false s ≠ 0 → engineStopped e s = false →
       exec (.nmHoldExpiry e) s = .next (settle (startOp e (bump .thsiteHoldExpired (e.val / 32) s))))) ∧
  (∀ (site : SiteId) (edge : Fin 4) (lane : Fin 34) (g : CoreId) (ch : ChanId) (n : Nat) (s : State),
     let k := edgeKey site edge
     let rep := mkRepair 3 (k / 4) (k % 4) lane (touchedByEdge (k / 4) (otherEnd k / 4) s)
     let v := barriersAgain (releaseHeld (routesLoaded s))
     (edgeExists k = true → exec (.iwFlitReplay site edge) s = .next (bump .netEdgeReplay k s)) ∧
     (edgeExists k = true → rd .netEdgeState k s ≠ 3 → bit .netStatusOut (k / 4) s = false →
       (lastLane k s = false → s.faults.running = none →
         exec (.laneFailure site edge lane) s = .next (settle (startLane k lane (startRecovery rep s)))) ∧
       (lastLane k s = true →
         exec (.laneFailure site edge lane) s = .next (settle (edgeDown k (wr .netEdgeActive k (rd .netEdgeActive k s - 1) s))))) ∧
     (s.net.phase = 1 → ∃ t, exec .routeDrainExpiry s = .next (settle t) ∧ t.net = { s.net with phase := 2 } ∧ t.vaults = s.vaults ∧
       t.cores.signals = s.cores.signals.filter fun x => !(signalSite x != siteOf x.dst &&
         ((sitesLost s).contains (siteOf x.dst) || (sitesLost s).contains (signalSite x) || (x.sent &&
           match routeIn s.net.out s.net.down (signalSite x) (siteOf x.dst) with
           | some p => p.any fun y => (sitesLost s).contains y
           | none => false)))) ∧
     (s.net.phase = 2 →
       (routesLoaded s).net.phase = 0 ∧ (routesLoaded s).net.out = outNow s ∧ (routesLoaded s).net.down = downNow s ∧
       (v.faults.running = none → exec .routeLoadDone s = .next (settle (startWaiting v))) ∧
       (∀ r, v.faults.running = some r →
         (r.kind = 4 → exec .routeLoadDone s = .next (settle (startWaiting (finishRecovery v)))) ∧
         (r.kind = 5 → exec .routeLoadDone s = .next (settle (startWaiting (endSiteLoss r.site v)))) ∧
         (r.kind ≠ 4 → r.kind ≠ 5 → exec .routeLoadDone s = .next (settle (startWaiting v))))) ∧
     (∀ x, s.net.subs.find? (fun x => x.1 == k) = some x →
       ∃ t, t.net.subs = s.net.subs.erase x ∧ t.faults = s.faults ∧
         rd .netEdgeState k t = (if (s.net.subs.erase x).any (fun y => y.1 == k) then 1 else if rd .netEdgeActive k s < 32 then 2 else 0) ∧
         exec (.laneSubstitutionDone site edge) s = .next (settle (startWaiting
           (if runs 3 (k / 4) (k % 4) s then endRecovery 3 0x0022 0 (bump .fltdevCountRepairs 0 t) else t)))) ∧
     ((outNow s).contains site.val = false → ∃ t u, exec (.siteRouterFailure site) s = .next (settle t) ∧
       t = startRoute (wr .netStatusOut site 1 (setNet { s.net with dead := s.net.dead ++ [site.val] } u)) ∧ u.net = s.net ∧
       (∀ f i, f ≠ .netStatusUnreach → rd f i u = rd f i s) ∧
       u.cores.signals = s.cores.signals.filter fun x => !(x.sent && signalSite x != siteOf x.dst &&
         match routeIn s.net.out s.net.down (signalSite x) (siteOf x.dst) with
         | some p => p.contains site.val
         | none => false)) ∧
     ((outNow s).contains site.val = true → exec (.siteRouterFailure site) s = .next (settle s)) ∧
     ((getChan ch (getCore g s)).st = .busy → dKind (getChan ch (getCore g s)).desc = 6 → (getChan ch (getCore g s)).lost = true →
       ∃ t, exec (.ackTimeout g ch n) s = .next (settle (wake g (goIfWaiting g t))) ∧
         OnlyCore g (moveDma g (getChan ch (getCore g s)).desc n s).2 t ∧ (getChan ch (getCore g t)).st = .halted ∧
         (getChan ch (getCore g t)).code = 12))

/-- A doorbell 1 to the ring's size ahead of HEAD is taken, any other sets ERING.STATUS.DB_ERR. A consumer index of an envelope, delivery or
receipt ring that lies within the span from the old index to the producer's is taken, any other sets CONS_ERR. A refused write changes
nothing but the flag, an accepted one nothing but the index.
On an enabled ring of a READY device that is not stopping, with an envelope waiting, a free reply position and fewer than 64 envelopes
outstanding: a good fetch of an envelope that the opcode table holds reads the slot at BASE + 4,096 times its index, the header and as many
bytes as LEN says, moves HEAD on by one and adds these bytes, not yet passed on, with the ring's function to the outstanding ones; a failed
fetch clears EN and sets FETCH_ERR, moves HEAD not and forgets nothing outstanding. A ring that is not enabled fetches nothing. Disabling a
ring clears EN, keeps what is outstanding and shows IDLE when nothing is. -/
def Obligations.RingRules : Prop :=
  (∀ (n : ERingId) (r : DRingId) (q : RRingId) (v : BitVec 17) (x : BitVec 21) (s : State),
     (1 ≤ (v.toNat + 2 ^ 17 - rd .eringHeadIndex n s) % 2 ^ 17 ∧
         (v.toNat + 2 ^ 17 - rd .eringHeadIndex n s) % 2 ^ 17 ≤ 2 ^ rd .eringCfgLog2size n s →
       ∃ t, exec (.eringDoorbell n v) s = .next t ∧ rd .eringDbIndex n t = v.toNat ∧
         ∀ f i, f ≠ .eringDbIndex ∨ i ≠ n.val → rd f i t = rd f i s) ∧
     (¬ (1 ≤ (v.toNat + 2 ^ 17 - rd .eringHeadIndex n s) % 2 ^ 17 ∧
         (v.toNat + 2 ^ 17 - rd .eringHeadIndex n s) % 2 ^ 17 ≤ 2 ^ rd .eringCfgLog2size n s) →
       ∃ t, exec (.eringDoorbell n v) s = .next t ∧ rd .eringStatusDbErr n t = 1 ∧
         ∀ f i, f ≠ .eringStatusDbErr ∨ i ≠ n.val → rd f i t = rd f i s) ∧
     (((v.toNat + 2 ^ 17 - rd .eringRconsIndex n s) % 2 ^ 17 ≤
           (rd .eringRprodIndex n s + 2 ^ 17 - rd .eringRconsIndex n s) % 2 ^ 17 →
         exec (.eringRcons n v) s = .next (wr .eringRconsIndex n v.toNat s)) ∧
       ((rd .eringRprodIndex n s + 2 ^ 17 - rd .eringRconsIndex n s) % 2 ^ 17 <
           (v.toNat + 2 ^ 17 - rd .eringRconsIndex n s) % 2 ^ 17 →
         exec (.eringRcons n v) s = .next (wr .eringStatusConsErr n 1 s))) ∧
     (((x.toNat + 2 ^ 21 - rd .dringConsIndex r s) % 2 ^ 21 ≤ (rd .dringProdIndex r s + 2 ^ 21 - rd .dringConsIndex r s) % 2 ^ 21 →
         exec (.dringCons r x) s = .next (wr .dringConsIndex r x.toNat s)) ∧
       ((rd .dringProdIndex r s + 2 ^ 21 - rd .dringConsIndex r s) % 2 ^ 21 < (x.toNat + 2 ^ 21 - rd .dringConsIndex r s) % 2 ^ 21 →
         exec (.dringCons r x) s = .next (wr .dringStatusConsErr r 1 s))) ∧
     (((v.toNat + 2 ^ 17 - rd .rringConsIndex q s) % 2 ^ 17 ≤ (rd .rringProdIndex q s + 2 ^ 17 - rd .rringConsIndex q s) % 2 ^ 17 →
         exec (.rringCons q v) s = .next (wr .rringConsIndex q v.toNat s)) ∧
       ((rd .rringProdIndex q s + 2 ^ 17 - rd .rringConsIndex q s) % 2 ^ 17 < (v.toNat + 2 ^ 17 - rd .rringConsIndex q s) % 2 ^ 17 →
         exec (.rringCons q v) s = .next (wr .rringStatusConsErr q 1 s)))) ∧
  (∀ (n : ERingId) (raw : List Byte) (s : State),
     (bit .eringCfgEn n s = true → rd .eringDbIndex n s ≠ rd .eringHeadIndex n s →
       (rd .eringHeadIndex n s + 2 ^ 17 - rd .eringRconsIndex n s) % 2 ^ 17 < 2 ^ rd .eringCfgLog2size n s →
       (s.eng.outst.filter fun o => o.ring == n.val).length < 64 → rd .brdevStatusPhase 0 s = 6 → stopping s = false →
       (∀ e len, e = ringEnv n (rd .eringHeadIndex n s) raw s → len = (if 64 ≤ envLen e ∧ envLen e ≤ 4096 then envLen e else 64) →
         outsideTable { e with raw := raw.take len } = false →
         ∃ t, exec (.envelopeFetch n raw false) s = .next t ∧
           rd .eringHeadIndex n t = (rd .eringHeadIndex n s + 1) % 2 ^ 17 ∧
           t.eng.outst = s.eng.outst ++ [⟨n.val, rd .eringHeadIndex n s, raw.take len, false, false, ringFunc n s⟩] ∧
           t.outbox = s.outbox ++ [.slotRead (n.val / 64)
             (4096 * (rd .eringBaseAddr n s + rd .eringHeadIndex n s % 2 ^ rd .eringCfgLog2size n s)) len]) ∧
       (∃ t, exec (.envelopeFetch n raw true) s = .next (fetchEvent n t) ∧ rd .eringCfgEn n t = 0 ∧ rd .eringStatusFetchErr n t = 1 ∧
         rd .eringHeadIndex n t = rd .eringHeadIndex n s ∧ t.eng = s.eng)) ∧
     (bit .eringCfgEn n s = false → ∀ bad, exec (.envelopeFetch n raw bad) s = .next s) ∧
     (∃ t, exec (.eringDisable n) s = .next t ∧ rd .eringCfgEn n t = 0 ∧ t.eng = s.eng ∧
       (rd .eringStatusIdle n t = 1 ↔ (s.eng.outst.filter fun o => o.ring == n.val) = [])))

/-- Where BAR0 serves the mailboxes, a commit to a full mailbox completes with Completer Abort and sets REJECT and changes no slot; to an empty one it puts the staged
256 bytes into the slot (mboxFill: FULL set, SEQ one more, the receiver interrupted) and returns the new SEQ. An acknowledgement of the current SEQ
of a full mailbox, with no firmware message kept, empties it, and one of another SEQ changes nothing. A withdrawal empties a full one and
sets WITHDRAWN. In a device whose bring-up failed a commit does nothing. A time-out of a full mailbox sets TIMEOUT and interrupts the sender; of an empty one it changes nothing.
A message in a full host-to-firmware mailbox whose firmware runs, no stop being under way, is acknowledged, and its short envelope of at
most 256 bytes handled as the opcode table says. -/
def Obligations.MailboxProtocol : Prop :=
  (∀ (m : MBoxId) (seq : BitVec 8) (s : State),
     (barServes .mbox s = true → bit .mboxStatusFull m s = true →
       exec (.mboxSend m) s = .next (emit .abort (flag .mboxStatusReject m s))) ∧
     (barServes .mbox s = false → exec (.mboxSend m) s = .next s) ∧
     (barServes .mbox s = true → bit .mboxStatusFull m s = false → exec (.mboxSend m) s = .next
       (let t := mboxFill m (mread s.eng.staging (256 * m.val) 256) s; emit (.readData false (natLe 8 (rd .mboxStatusSeq m t))) t)) ∧
     (∀ bs : List Byte, bs.length = 256 → rd .mboxCfgCopy m s = 0 →
       rd .mboxStatusFull m (mboxFill m bs s) = 1 ∧ rd .mboxStatusSeq m (mboxFill m bs s) = (rd .mboxStatusSeq m s + 1) % 256 ∧
       mread (mboxFill m bs s).eng.slots (256 * m.val) 256 = bs ∧
       ∀ k : MBoxId, k ≠ m → mread (mboxFill m bs s).eng.slots (256 * k.val) 256 = mread s.eng.slots (256 * k.val) 256) ∧
     (bit .mboxStatusFull m s = true → tget noUnsent s.eng.unsent m = [] →
       (seq.toNat = rd .mboxStatusSeq m s → exec (.mboxAck m seq) s = .next (wr .mboxStatusFull m 0 s)) ∧
       exec (.mboxWithdraw m) s = .next (flag .mboxStatusWithdrawn m (wr .mboxStatusFull m 0 s))) ∧
     (bit .mboxStatusFull m s = false ∨ seq.toNat ≠ rd .mboxStatusSeq m s → exec (.mboxAck m seq) s = .next s) ∧
     (bit .mboxStatusFull m s = true → exec (.mailboxTimeout m) s = .next (emit
       (if mboxToFw m then .msix (mboxPort m) (mboxFunc m s) (rd .mboxCfgVector m s) else .fwIrq m) (flag .mboxStatusTimeout m s))) ∧
     (bit .mboxStatusFull m s = false → exec (.mailboxTimeout m) s = .next s ∧ exec (.mboxWithdraw m) s = .next s)) ∧
  (∀ (m : MBoxId) (input : List Byte) (outFault : Bool) (found : List BadUnit) (extOk : Bool) (s : State),
     mboxToFw m = true → bit .mboxStatusFull m s = true → (mboxSecure m = true ∨ clerkUp s = true) →
     stopping s = false →
     envLen (mboxEnv m input outFault found extOk s) ≤ 256 →
     exec (.mailboxMessage m input outFault found extOk) s =
       .next (settle (anyEnvelope (mboxEnv m input outFault found extOk s) (mboxAck m (rd .mboxStatusSeq m s) s))))

/-- A root port reaches no register. A write of a wrong width or alignment only sets WIDTH_ERR; one to a site that is not in service or in
reset is counted as dropped; one to no block, or in a device whose bring-up failed to a block other than DEV and BRDEV, does nothing; one
that the function may not make is refused and counted; one into a mailbox's staging buffer stores the bytes there and touches no register;
one into its message does nothing.
A write to a block that is BUSY sets OVERRUN beside its refusals; one to an idle block of a register with an RWP field sets BUSY and is
held, and POSTED_WRITE_EFFECT makes it and clears BUSY; any other takes effect at once, field by field.
FLIP_ARM arms the vault's flip-mask with the mode bits written, and NME_ABORT ends every operation of the engine, running, queued or
waiting, and its status shows an idle engine with an empty queue; either, on a block that is BUSY, is dropped and sets OVERRUN. NMSITE_LOCK
sets the site's lock and nothing else, and on a locked site is refused: counted and recorded as function 0's, of a port left open (log 130).
VMIN_CLR restarts the cluster's minimum-voltage record from the present voltage, the round and the time. A popped dead-letter queue of the
selected district loses its head (nothing when it is empty) and COUNT shows its length. A scan corrects, counts and notes a register one of
whose copies is wrong; where more than one is, the register is counted and noted as lost and its restore is PENDING. A completed restore of
a register that was pending ends it, PENDING telling whether another is; of one that was not, it counts and notes the loss first. -/
def Obligations.RegisterRules : Prop :=
  (∀ (port : HPortId) (func : FuncId) (off : BitVec 28) (data : List Byte) (s : State),
     (rootPort port s = true → exec (.registerWrite port func off data) s = .next (settle s)) ∧
     (rootPort port s = false → widthOk off.toNat data.length = false → exec (.registerWrite port func off data) s = .next (settle (flag .devAccessWidthErr 0 s))) ∧
     (rootPort port s = false → widthOk off.toNat data.length = true → off.toNat < 0x8000000 → siteUp (off.toNat / 0x200000) s = false →
       exec (.registerWrite port func off data) s = .next (settle (bump .devAccessDropped 0 s))) ∧
     (rootPort port s = false → widthOk off.toNat data.length = true → (0x8000000 ≤ off.toNat ∨ siteUp (off.toNat / 0x200000) s = true) →
       (locate off.toNat = none → exec (.registerWrite port func off data) s = .next (settle s)) ∧
       (∀ b i o, locate off.toNat = some (b, i, o) → barServes b s = false →
         exec (.registerWrite port func off data) s = .next (settle s)) ∧
       (∀ b i o, locate off.toNat = some (b, i, o) → barServes b s = true →
         (mayWrite port func b i s = false →
           exec (.registerWrite port func off data) s = .next (settle (denied true port func off.toNat s))) ∧
         (mayWrite port func b i s = true →
           (b = .mbox → o < 256 → ∃ t, exec (.registerWrite port func off data) s = .next (settle t) ∧ t.regs = s.regs ∧
             ∀ a, mget t.eng.staging a = if 256 * i + o ≤ a ∧ a < 256 * i + o + data.length then data.getD (a - (256 * i + o)) 0
               else mget s.eng.staging a) ∧
           (b = .mbox → 256 ≤ o → o < 512 → exec (.registerWrite port func off data) s = .next (settle s)) ∧
           (b ≠ .mbox ∨ 512 ≤ o →
             exec (.registerWrite port func off data) s = .next (settle (writeRegister port func b i o off.toNat data s)))))) ∧
     (∀ b i o, ∃ s1 ok, (s1 = s ∨ s1 = denied true port func off.toNat s) ∧ (∀ x ∈ ok, x ∈ enabledFields b i o data) ∧
       writeRegister port func b i o off.toNat data s =
         match busyBits b with
         | some r =>
           if bit r.1 i s then flag r.2 i s1
           else if holdsRwp b o then { flag r.1 i s1 with posted := s1.posted ++ [⟨b, i, ok⟩] }
           else ok.foldl (fun u w => writeField func w.1 w.2.1 w.2.2 u) s1
         | none => ok.foldl (fun u w => writeField func w.1 w.2.1 w.2.2 u) s1) ∧
     (∀ b i p, s.posted.find? (fun p => p.blk == b && p.inst == i) = some p → coreDark b i s = false →
       ∀ o, locate off.toNat = some (b, i, o) → ∀ r, busyBits b = some r →
         exec (.postedWriteEffect off) s = .next (settle
           (let u := wr r.1 i 0 { s with posted := s.posted.erase p }
            (effective i p.sets u).foldl (fun u w => writeField 0 w.1 w.2.1 w.2.2 u) u)))) ∧
  (∀ (v : CoreId) (ctrl : BitVec 6) (site : SiteId) (k : ClusterId) (off : BitVec 28) (s : State),
     (bit .vaultStatusBusy v s = false →
       ∃ t, exec (.flipArm v ctrl) s = .next t ∧ rd .vaultFlipCtrlArmed v t = 1 ∧ rd .vaultFlipCtrlDat v t = bits ctrl.toNat 1 1 ∧
       rd .vaultFlipCtrlChk v t = bits ctrl.toNat 2 1 ∧ rd .vaultFlipCtrlPar v t = bits ctrl.toNat 3 1 ∧
       rd .vaultFlipCtrlParw v t = bits ctrl.toNat 4 2 ∧
       ∀ f i, f ∉ [Reg.vaultFlipCtrlArmed, .vaultFlipCtrlDat, .vaultFlipCtrlChk, .vaultFlipCtrlPar, .vaultFlipCtrlParw] ∨ i ≠ v.val →
         rd f i t = rd f i s) ∧
     (bit .vaultStatusBusy v s = true → exec (.flipArm v ctrl) s = .next (flag .vaultStatusOverrun v s)) ∧
     (bit .nmsiteLockLock site s = false → ∃ t, exec (.nmsiteLock site) s = .next t ∧ rd .nmsiteLockLock site t = 1 ∧
       ∀ f i, f ≠ .nmsiteLockLock ∨ i ≠ site.val → rd f i t = rd f i s) ∧
     (bit .nmsiteLockLock site s = true → ∃ p t, p < 4 ∧ t.regs = s.regs ∧
       exec (.nmsiteLock site) s = .next (denied true p 0 (site.val * 0x200000 + 0x142280) t)) ∧
     (∃ t, exec (.vminClr k) s = .next t ∧ rd .pwrclVminMv k t = presentMv k s % 2 ^ (regInfo .pwrclVminMv).w ∧
       rd .pwrclVminRound k t = roundNow s % 2 ^ (regInfo .pwrclVminRound).w ∧
       rd .pwrclVminPtpNs k t = s.now % 2 ^ (regInfo .pwrclVminPtpNs).w ∧
       ∀ f i, f ∉ [Reg.pwrclVminMv, .pwrclVminRound, .pwrclVminPtpNs] ∨ i ≠ k.val → rd f i t = rd f i s) ∧
     (bit .nmeStatusBusy k s = false → ∃ t, exec (.nmeAbort k) s = .next (settle t) ∧ t = nmAbort k (fun _ => true) 15 s ∧
       (getEngine k t).running = none ∧ (getEngine k t).queue = [] ∧ (getEngine k t).waiting = [] ∧ (getEngine k t).held = false ∧
       rd .nmeStatusRunning k t = 0 ∧ rd .nmeStatusQocc k t = 0 ∧ rd .nmeStatusHeld k t = 0) ∧
     (bit .nmeStatusBusy k s = true → exec (.nmeAbort k) s = .next (settle (flag .nmeStatusOverrun k s))) ∧
     (∃ t, exec .dlqPop s = .next t ∧ dlqOf (rd .fltdevDlqSelDistrict 0 s) t = (dlqOf (rd .fltdevDlqSelDistrict 0 s) s).tail ∧
       rd .fltdevDlqStateCount 0 t = (dlqOf (rd .fltdevDlqSelDistrict 0 s) s).tail.length % 2 ^ (regInfo .fltdevDlqStateCount).w ∧
       ∀ d, d ≠ rd .fltdevDlqSelDistrict 0 s → dlqOf d t = dlqOf d s) ∧
     (exec (.tvScanWindow []) s = .next s ∧
       (∀ o c xs, (∀ x ∈ xs, x.1 ≠ o) → exec (.tvScanWindow ((o, c) :: xs)) s =
         exec (.tvScanWindow xs) (note 255 c o 0 (wr .devTvOffset 0 o (bump .devTvCorr 0 s)))) ∧
       (∀ o c c', s.eng.tvPending.contains o = false → ∃ t, exec (.tvScanWindow [(o, c), (o, c')]) s = .next t ∧
         t.eng.tvPending = s.eng.tvPending ++ [o] ∧ rd .devTvPending 0 t = 1 ∧ rd .devTvOffset 0 t = o % 2 ^ (regInfo .devTvOffset).w ∧
         rd .devTvUncorr 0 t = min (rd .devTvUncorr 0 s + 1) (2 ^ (regInfo .devTvUncorr).w - 1))) ∧
     (s.eng.tvPending.contains off.toNat = true → ∃ t, exec (.tvRestore off) s = .next (settle t) ∧
       t.eng.tvPending = s.eng.tvPending.filter (· != off.toNat) ∧
       rd .devTvPending 0 t = natBool (!(s.eng.tvPending.filter (· != off.toNat)).isEmpty) ∧ rd .devTvUncorr 0 t = rd .devTvUncorr 0 s) ∧
     (s.eng.tvPending.contains off.toNat = false → ∃ t, exec (.tvRestore off) s = .next (settle t) ∧
       rd .devTvPending 0 t = natBool (!s.eng.tvPending.isEmpty) ∧ rd .devTvOffset 0 t = off.toNat ∧
       rd .devTvUncorr 0 t = min (rd .devTvUncorr 0 s + 1) (2 ^ (regInfo .devTvUncorr).w - 1)))

/-- A reset of a function other than 0 (the premise Inv is the model's invariant): every ring of the port that is the function's has EN, DB,
HEAD and DROPPED 0, and its outstanding envelopes, none of which is forgotten, are marked dead, so that no slip of theirs is posted; rings
of other functions and ports keep EN, HEAD and DROPPED.
A clerk that is up and silent restarts: CLERK_UP is 0 and it is starting, and the envelopes that wait stay; one that is down stays so. One that does
not come up in time is replaced by the previous bank and this is noted. CLERK_UP of a starting clerk sets the bit and empties the store. The rollback
counter never falls. PERST of a port that is no Type-2 device does nothing, and of one that is resets its eight functions. A loss of a reference clock
is noted and the source changes only to a worse one. -/
def Obligations.ClerkAndResetRules : Prop :=
  (∀ (port : HPortId) (func : FuncId) (s : State), Inv s → func ≠ 0 →
     ∃ t, exec (.functionReset port func) s = .next (settle t) ∧
       (∀ n : Fin 64, ringFunc (64 * port.val + n.val) s = func.val →
         rd .eringCfgEn (64 * port.val + n.val) t = 0 ∧ rd .eringDbIndex (64 * port.val + n.val) t = 0 ∧
         rd .eringHeadIndex (64 * port.val + n.val) t = 0 ∧ rd .eringStatusDropped (64 * port.val + n.val) t = 0) ∧
       (∀ n : ERingId, (n.val / 64 ≠ port.val ∨ ringFunc n s ≠ func.val) → rd .eringCfgEn n t = rd .eringCfgEn n s ∧
         rd .eringHeadIndex n t = rd .eringHeadIndex n s ∧ rd .eringStatusDropped n t = rd .eringStatusDropped n s) ∧
       t.eng.outst = s.eng.outst.map fun o =>
         if o.ring / 64 = port.val ∧ ringFunc o.ring s = func.val then { o with dead := true } else o) ∧
  (∀ (port : HPortId) (image : Fin 3) (both : Bool) (s : State),
     (clerkUp s = false → exec .clerkWatchdog s = .next (settle s)) ∧
     (clerkUp s = true → s.eng.fences = [] → ∃ t, exec .clerkWatchdog s = .next (settle t) ∧ clerkUp t = false ∧ t.eng.clerk.starting = true ∧
       t.eng.store = s.eng.store ∧ ∀ f i, f ≠ .brdevStatusClerkUp → rd f i t = rd f i s) ∧
     (s.eng.clerk.starting = false → exec .clerkStartTimeout s = .next (settle s) ∧ exec .clerkUp s = .next (settle s)) ∧
     (s.eng.clerk.starting = true →
       (∃ t, exec .clerkStartTimeout s = .next (settle (note 255 0 s.eng.clerk.version 0 t)) ∧ t.eng.clerk.active = s.eng.clerk.other ∧
         t.eng.clerk.other = s.eng.clerk.active ∧ t.eng.clerk.version = s.eng.clerk.otherVersion) ∧
       (s.eng.store = [] → ∃ t, exec .clerkUp s = .next (settle t) ∧ clerkUp t = true ∧ t.eng.clerk.starting = false ∧
         ∀ f i, f ≠ .brdevStatusClerkUp → rd f i t = rd f i s)) ∧
     (∃ t, exec (.rollbackRaise image) s = .next t ∧ s.eng.clerk.rollback ≤ t.eng.clerk.rollback ∧ s.eng.patch.rollback ≤ t.eng.patch.rollback ∧
       (image.val = 1 → s.eng.clerk.starting = false → t.eng.clerk.rollback = max s.eng.clerk.rollback s.eng.clerk.version) ∧
       (image.val ≠ 1 → t.eng.patch.rollback = max s.eng.patch.rollback s.eng.patch.version) ∧ ∀ f i, rd f i t = rd f i s) ∧
     (s.boot.hostModes / 4 ^ port.val % 4 ≠ 1 → exec (.perst port) s = .next (settle s)) ∧
     (s.boot.hostModes / 4 ^ port.val % 4 = 1 → exec (.perst port) s =
       .next (settle ((List.range 8).foldl (fun u f => functionReset port f u) s))) ∧
     (s.boot.hostModes / 4 ^ port.val % 4 = 1 → ∃ t, exec (.perst port) s = .next (settle t) ∧
       ∀ n < 256, n / 64 = port.val → rd .eringCfgEn n t = 0) ∧
     (∃ t, exec (.refclkLoss both) s = .next (settle (note 255 0 (if both = true then 2 else 1) 0 t)) ∧
       t.boot.refclk = max s.boot.refclk (if both = true then 2 else 1) ∧ ∀ f i, rd f i t = rd f i s))

/-- For each of the 58 envelope rows: an envelope whose class is not its source's, or that its ring does not yet pass on, changes nothing; one
that fails a header check is answered with the first failing check's status, and with its byte in DETAIL for the statuses 1 to 3, an
AUTHORITY refusal being counted; one bound for a clerk that is down is kept, or refused with BUSY when 256 are kept; where the opcode's own
list begins with the class, an AUTHORITY refusal comes next, counted; and one that fails a check of its parameter area is answered with that
check's status and byte. In none of these cases does anything else change but the reply and the mark that the envelope has been passed. -/
def Obligations.EnvelopeChecks : Prop :=
  ∀ (e : Env) (s : State), ∀ x ∈ envelopeRows e,
    let u := markPassed e s
    (ready e s = false → exec x.1 s = .next (settle s)) ∧
    (ready e s = true →
      (∀ r, headerCheck x.2 e = some r → exec x.1 s = .next (settle
        (reply x.2.code e ⟨r.1, if r.1 ≤ 3 then r.2 else 0, [], []⟩ (if r.1 = 4 then countAuthority x.2 e u else u)))) ∧
      (headerCheck x.2 e = none → x.2.clerk = true → clerkUp u = false →
        (u.eng.store.length < 256 → exec x.1 s = .next (settle (setEng { u.eng with store := u.eng.store ++ [(16 * x.2.code + x.2.op, e)] } u))) ∧
        (256 ≤ u.eng.store.length → exec x.1 s = .next (settle (reply x.2.code e (refuse 7) u)))) ∧
      (headerCheck x.2 e = none → (x.2.clerk = true → clerkUp u = true) → x.2.first = true → classAllowed x.2 e = false →
        exec x.1 s = .next (settle (countAuthority x.2 e (reply x.2.code e (refuse 4) u)))) ∧
      (headerCheck x.2 e = none → (x.2.clerk = true → clerkUp u = true) → (x.2.first = true → classAllowed x.2 e = true) →
        ∀ r, paramCheck x.2 e = some r → exec x.1 s = .next (settle (reply x.2.code e ⟨r.1, r.2, [], []⟩ u))))

/-- The header checks of an envelope, each given that the earlier ones pass: a LEN of 0 is ZERO_LENGTH (2), above 4,096 LENGTH_EXCEEDS (3), below
64 INVALID_PARAMETER (1); a VERSION other than 1 is INVALID_PARAMETER at byte 2, nonzero reserved bits at byte 3 or 6; a class that the opcode
does not allow, unless its chapter places that check, is AUTHORITY (4); a buffer address of a MGMT or PEER envelope is ADDR_RANGE (6); and an
output larger than OUTLEN is LENGTH_EXCEEDS. A class marked M* is allowed to MGMT only in a secured session.
An envelope that names a district is refused with FOREIGN (5) when its source is a HOST function without a READ_WRITE grant naming it, then with
DISTRICT_STATE (18) for a free district and REBINDING (19) while it re-binds; MGMT and HOSTS sources need no grant. -/
def Obligations.HeaderAndGateOrder : Prop :=
  (∀ (o : OpInfo) (e : Env),
     (envLen e = 0 → headerCheck o e = some (2, 4)) ∧
     (4096 < envLen e → headerCheck o e = some (3, 4)) ∧
     (1 ≤ envLen e → envLen e ≤ 63 → headerCheck o e = some (1, 4)) ∧
     (64 ≤ envLen e → envLen e ≤ 4096 →
       (hNat e 2 1 ≠ 1 → headerCheck o e = some (1, 2)) ∧
       (hNat e 2 1 = 1 → 4 ≤ hNat e 3 1 → headerCheck o e = some (1, 3)) ∧
       (hNat e 2 1 = 1 → hNat e 3 1 < 4 → hNat e 4 2 < 8192 → hNat e 6 2 ≠ 0 → headerCheck o e = some (1, 6)) ∧
       (hNat e 2 1 = 1 → hNat e 3 1 < 4 → hNat e 4 2 < 8192 → hNat e 6 2 = 0 → firstNonzero e 40 64 = none →
         (o.late = false → classAllowed o e = false → headerCheck o e = some (4, 0)) ∧
         ((o.late = true ∨ classAllowed o e = true) →
           (e.cls = .mgmt ∨ e.cls = .peer → hNat e 28 8 ≠ 0 ∨ hNat e 16 8 ≠ 0 → headerCheck o e = some (6, 0)) ∧
           (e.via = .mgmt → hNat e 28 8 = 0 → hNat e 16 8 = 0 → hNat e 36 4 = 0 → hNat e 24 4 < o.out → headerCheck o e = some (3, 24)) ∧
           (e.via = .mgmt → hNat e 28 8 = 0 → hNat e 16 8 = 0 → hNat e 36 4 = 0 → o.out ≤ hNat e 24 4 → o.out ≤ 4064 →
             headerCheck o e = none)))) ∧
     (e.cls = .mgmt → o.m = 2 → (classAllowed o e = true ↔ e.secured = true)) ∧
     (e.cls = .mgmt → o.m = 1 → classAllowed o e = true) ∧ (e.cls = .mgmt → o.m = 0 → classAllowed o e = false)) ∧
  (∀ (e : Env) (d : Nat) (s : State),
     (e.cls = .host → holdsGrant e.port.val e.func.val d true s = false → districtGate e d s = some (refuse 5)) ∧
     ((e.cls = .host → holdsGrant e.port.val e.func.val d true s = true) →
       (rd .distCfgState d s = 0 → districtGate e d s = some (refuse 18)) ∧
       (rd .distCfgState d s = 2 → districtGate e d s = some (refuse 19)) ∧
       (rd .distCfgState d s ≠ 0 → rd .distCfgState d s ≠ 2 → districtGate e d s = none)))

/-- When an opcode's own checks answer with a status other than OK, the state is as it was. Apart from this are only the four opcodes whose
refusals have an effect of their own in their chapters or follow a reading of memory, PARCEL_SEAL, COPY, GRAMMAR_LOAD and FW_ACTIVATE, and
an ATOMIC of a field that cannot be read (status 9). -/
def Obligations.RefusedUnchanged : Prop :=
  ∀ (e : Env) (s t : State) (a : Ans), a.status ≠ 0 →
    (∀ f ∈ [doNop, doDevQuery, doConfig, doLock, doTest 1, doTest 2, doTest 3, doParcelReserve, doParcelDiscard, doGrant, doFill,
        doSwappoolAdd, doSwappoolRemove, doCancel, doFreeze, doRelease, doQuery, doDiscard], f e s = (a, t) → t = s) ∧
    (a.status ≠ 9 → doAtomic e s = (a, t) → t = s) ∧
    (∀ f ∈ [doBookSet, doBookBind, doBookUnbind, doSampleCfg, doGrammarUnload, doRingEnable, doRingDisable, doReceiptsEnable,
        doReceiptsDisable, doPowerCap, doPowerLimit, doThermal, doFabric, doRoundCfg, doJobForm, doJobDissolve, doCirc, doTwinPair,
        doTwinUnpair, doTwinMsg, doLeaseKeyEnrol, doLeaseKeyClear, doLeaseGrant, doLogRead, doFwStage], f e s = (a, t) → t = s) ∧
    (∀ f ∈ [doReset, rebind, doFence, doNmSubmit, doSubmit, doPreempt, doResume], f e s = (some a, t) → t = s)

/-- NOP, DEV_QUERY, CONFIG, LOCK, RESET, TEST, POWER, THERMAL and LOG_READ, once taken and with their own checks passing, are answered with OK and
have the effect that the opcode table gives: a flash item, locks, a reset that runs, faults found, cap and weights, limit, thermal
configuration, or an output. A RESET during a recovery is kept unanswered; one that has run is shown in the site's LASTDOM, and a core
reset leaves the core halted with its units and channels idle. TEST counts the faults that are not on record. -/
def Obligations.DeviceEnvelopes : Prop :=
  ∀ (e : Env) (s : State), let u := markPassed e s
    (Taken (opNop e) e s → exec (.elermuxNop e) s = .next (settle (reply 0x0001 e okAns u))) ∧
    (Taken (opDevQuery e) e s → exec (.devQuery e) s = .next (settle (reply 0x0002 e ⟨0, 0, [], devInfo u⟩ u))) ∧
    (Taken (opConfig e) e s → configOk (pNat e 0 2) (pNat e 4 8) = true → bit .devLockFlash 0 u = false → e.extOk = true →
      ∃ f, exec (.config e) s = .next (settle (reply 0x0003 e okAns (setFlash f u))) ∧
        f.fabricModes = (if pNat e 0 2 = 1 then pNat e 4 8 else u.boot.flash.fabricModes) ∧
        f.hostModes = (if pNat e 0 2 = 2 then pNat e 4 8 else u.boot.flash.hostModes) ∧
        f.selftest = (if pNat e 0 2 = 3 then pNat e 4 8 else u.boot.flash.selftest) ∧
        f.fid = (if pNat e 0 2 = 4 then pNat e 4 8 else u.boot.flash.fid)) ∧
    (Taken (opLock e) e s → pNat e 0 4 < 32 → (bit .devLockSecurity 0 u = false ∨ pNat e 0 4 = 0) →
      ∃ t, exec (.lock e) s = .next (settle (reply 0x0004 e okAns t)) ∧
        ∀ x ∈ [(0, Reg.devLockSecurity), (1, .devLockCap), (2, .devLockFlash), (3, .devLockNmsite), (4, .devLockKeys)],
          bit x.2 0 t = ((pNat e 0 4).testBit x.1 || bit x.2 0 u)) ∧
    (∀ x ∈ [(Instr.resetSite e, opReset 1 e), (.resetLayer e, opReset 2 e), (.resetCore e, opReset 3 e)], Taken x.2 e s → pNat e 1 1 < 64 →
      ¬ (pNat e 0 1 = 2 ∧ 13 < pNat e 2 1) → ¬ (pNat e 0 1 = 3 ∧ 2048 ≤ pNat e 4 2) →
      bit .brsiteStatusLost (pNat e 1 1) u = false → inReset (pNat e 0 1) (pNat e 2 1) (pNat e 1 1) u = false →
      busyClusters (if pNat e 0 1 = 3 then [clusterOf (2048 * pNat e 1 1 + pNat e 4 2)] else (List.range 32).map (32 * pNat e 1 1 + ·)) u = false →
      (recovering u = false → exec x.1 s = .next (settle (reply 0x0005 e okAns (runReset e u)))) ∧
      (recovering u = true → exec x.1 s = .next (settle (setBoot { u.boot with waiting := u.boot.waiting ++ [(pNat e 0 1, e)] } u)))) ∧
    (∀ k : SiteId, pNat e 1 1 = k.val → rd .brsiteResetLastdom k (runReset e u) = match pNat e 0 1 with
      | 1 => 1
      | 2 => if pNat e 2 1 = 0 then 2 else if pNat e 2 1 = 13 then 4 else 3
      | _ => 5) ∧
    (∀ g : CoreId, pNat e 0 1 ≠ 1 → pNat e 0 1 ≠ 2 → 2048 * pNat e 1 1 + pNat e 4 2 = g.val →
      (getCore g (runReset e u)).st = .halted ∧ UnitsIdle g (runReset e u) ∧ ∀ c : ChanId, (getChan c (getCore g (runReset e u))).st = .idle) ∧
    (Taken (opTest 1 e) e s → pNat e 1 1 < 64 → pNat e 2 1 < 32 → bit .brsiteStatusLost (pNat e 1 1) u = false →
      bit .brsiteStatusResetting (pNat e 1 1) u = false → busyClusters [32 * pNat e 1 1 + pNat e 2 1] u = false →
      (∀ x ∈ u.pages, clusterOf (x.1 / 768) = 32 * pNat e 1 1 + pNat e 2 1 → x.2.owner = .free) →
      ∀ mine, mine = e.found.filter (fun y => y.kind == 4 && y.site == pNat e 1 1 &&
        clusterOf (2048 * pNat e 1 1 + y.unit) == 32 * pNat e 1 1 + pNat e 2 1) →
      exec (.testVaultMarch e) s = .next (settle (reply 0x0006 e ⟨0, 0, natLe 4 (mine.filter fun y => !onRecord y u).length, []⟩
        (wipeWhere (fun v => clusterOf v == 32 * pNat e 1 1 + pNat e 2 1) (mine.foldl (fun w x => recordFault x w) u))))) ∧
    (Taken (opTest 2 e) e s → pNat e 1 1 < 64 → pNat e 2 1 < 32 → bit .brsiteStatusLost (pNat e 1 1) u = false →
      bit .brsiteStatusResetting (pNat e 1 1) u = false → busyClusters [32 * pNat e 1 1 + pNat e 2 1] u = false →
      ∀ mine, mine = e.found.filter (fun y => y.kind == 1 && y.site == pNat e 1 1 &&
        clusterOf (2048 * pNat e 1 1 + y.unit) == 32 * pNat e 1 1 + pNat e 2 1) →
      exec (.testArray e) s = .next (settle (reply 0x0006 e ⟨0, 0, natLe 4 (mine.filter fun y => !onRecord y u).length, []⟩
        (mine.foldl (fun w x => recordFault x w) u)))) ∧
    (Taken (opTest 3 e) e s → pNat e 3 1 < 32 → portBusy (pNat e 3 1) u = false →
      exec (.testLoopback e) s = .next (settle (reply 0x0006 e ⟨0, 0, natLe 4 e.found.length, []⟩ u))) ∧
    (Taken (opPower 1 e) e s → 800 ≤ pNat e 2 2 → pNat e 2 2 ≤ 3200 → pNat e 4 1 ≤ 5 → pNat e 2 2 ≤ rd .pdevCapLimit 0 u →
      exec (.powerCap e) s = .next (settle (reply 0x0601 e okAns (applyCap ((List.range 64).foldl
        (fun w k => wr .psiteAllotWeight k (pNat e (8 + k) 1) w) (wr .pdevCapCap 0 (pNat e 2 2) (wr .pdevCapOrder 0 (pNat e 4 1) u))))))) ∧
    (Taken (opPower 2 e) e s → 800 ≤ pNat e 2 2 → pNat e 2 2 ≤ 3200 → bit .devLockCap 0 u = false → bit .devLockSecurity 0 u = false →
      exec (.powerLimit e) s = .next (settle (reply 0x0601 e okAns (applyCap (wr .pdevCapCap 0 (min (pNat e 2 2) (rd .pdevCapCap 0 u))
        (wr .pdevCapLimit 0 (pNat e 2 2) u)))))) ∧
    (Taken (opThermal e) e s → 300 ≤ pNat e 2 2 → pNat e 2 2 ≤ 1000 → pNat e 4 1 ≤ 1 →
      exec (.thermal e) s = .next (settle (reply 0x0602 e okAns (wr .thdevCfgRotate 0 (pNat e 0 2) (wr .thdevCfgFlownom 0 (pNat e 2 2)
        (wr .thdevCfgChecker 0 (pNat e 4 1) u)))))) ∧
    (Taken (opLogRead e) e s → pNat e 0 2 < 4096 →
      exec (.logRead e) s = .next (settle (reply 0x0801 e ⟨0, 0, natLe 2 ((u.logSeq + 4095) % 4096),
        (List.range (pNat e 2 2)).flatMap fun i => logAt (pNat e 0 2 + i) u⟩ u)))

/-- FW_STAGE of a contiguous chunk that the flash takes goes into the inactive bank, after the bytes before it; a chunk whose offset is not
contiguous is refused with INVALID_PARAMETER. FW_ACTIVATE of an image that is not complete or not signed gives SIGNATURE (14), else of one
below the rollback counter ROLLBACK (15), and neither changes anything. A clerk image that passes becomes the active bank with the clerk
down and starting, the other bank keeping the previous image; a patch that passes waits in its bank for the next device reset. -/
def Obligations.FirmwareEnvelopes : Prop :=
  ∀ (e : Env) (s : State), let u := markPassed e s
    let f := getFw (pNat e 0 1) u
    let chunk := if hNat e 28 8 = 0 then (e.raw.take (envLen e)).drop 80 else e.input.take (hNat e 36 4)
    let bank := f.other.take (pNat e 4 4) ++ chunk
    let version := Config.imageVersion f.other
    (Taken (opFwStage e) e s → pNat e 0 1 = 1 ∨ pNat e 0 1 = 2 →
      (pNat e 4 4 ≠ stageNext f → exec (.fwStage e) s = .next (settle (reply 0x0901 e ⟨1, 68, [], []⟩ u))) ∧
      (pNat e 4 4 = stageNext f → pNat e 8 4 ≠ 0 → pNat e 8 4 ≠ 2 ^ 32 - 1 → chunk ≠ [] → (pNat e 4 4 = 0 ∨ pNat e 8 4 = f.total) →
        pNat e 4 4 + chunk.length ≤ pNat e 8 4 → e.extOk = true →
        exec (.fwStage e) s = .next (settle (reply 0x0901 e okAns (setFw (pNat e 0 1)
          { f with count := bank.length, total := pNat e 8 4, other := bank, otherVersion := Config.imageVersion bank } u))))) ∧
    (Taken (opFwActivate e) e s → pNat e 0 1 = 1 ∨ pNat e 0 1 = 2 →
      (f.count = 0 ∨ f.count ≠ f.total ∨ Config.imageSigned f.other = false →
        exec (.fwActivate e) s = .next (settle (reply 0x0902 e (refuse 14) u))) ∧
      (f.count ≠ 0 → f.count = f.total → Config.imageSigned f.other = true →
        (version < f.rollback → exec (.fwActivate e) s = .next (settle (reply 0x0902 e (refuse 15) u))) ∧
        (f.rollback ≤ version →
          (pNat e 0 1 = 1 → exec (.fwActivate e) s = .next (settle (reply 0x0902 e ⟨0, 0, natLe 4 version, []⟩
            (wr .brdevStatusClerkUp 0 0 (setFw 1 { f with
              count := 0, total := 0, other := f.active, otherVersion := f.version, active := f.other, version := version,
              starting := true } u))))) ∧
          (pNat e 0 1 = 2 → exec (.fwActivate e) s = .next (settle (reply 0x0902 e ⟨0, 0, natLe 4 version, []⟩
            (setFw 2 { f with count := 0, total := 0, scheduled := true } u)))))))

/-- PARCEL_RESERVE, PARCEL_SEAL, PARCEL_DISCARD, GRANT, FILL, FENCE, COPY, ATOMIC, SWAPPOOL and NM_SUBMIT, once taken and with their own checks
passing, have the effect that the opcode table and their chapters give; a fence with operations under way in its range, and a submitted
near-memory operation, are answered later: one that passes its engine's checks joins the queue of the engine while that holds fewer than 16.
ATOMIC answers the old value and stores what ADD, SWAP, CAS or MAX makes of it; COPY ends with status 9 where a word cannot be read or
a write is lost or its site cannot be reached. -/
def Obligations.MemoryEnvelopes : Prop :=
  ∀ (e : Env) (s : State), let u := markPassed e s
    (Taken (opParcelReserve e) e s → pNat e 0 1 < 64 → pNat e 266 2 ≠ 0 → pNat e 264 2 + pNat e 266 2 ≤ 752 →
      ∀ ks, ks = (List.range 2048).filter (pNat e 8 256).testBit → ks ≠ [] → (getParcel (pNat e 0 1) u).st = 0 →
      (∀ k ∈ ks, bit .brsiteStatusLost (k / 32) u = false) →
      (∀ q ∈ reservedPages { clusters := ks, first := pNat e 264 2, npages := pNat e 266 2 }, pageIsFree q.1 q.2 u = true) →
      exec (.parcelReserve e) s = .next (settle (reply 0x0110 e okAns
        (reserveParcel (pNat e 0 1) { clusters := ks, first := pNat e 264 2, npages := pNat e 266 2 } u))) ∧
      getParcel (pNat e 0 1) (reserveParcel (pNat e 0 1) { clusters := ks, first := pNat e 264 2, npages := pNat e 266 2 } u) =
        { clusters := ks, first := pNat e 264 2, npages := pNat e 266 2, st := 1 }) ∧
    (Taken (opParcelSeal e) e s → pNat e 0 1 < 64 →
      ((trySeal (pNat e 0 1) u).1 = 0 → exec (.parcelSeal e) s = .next (settle (reply 0x0111 e
        ⟨0, 0, natBe 16 ((getParcel (pNat e 0 1) (trySeal (pNat e 0 1) u).2).measure / 2 ^ 256), []⟩ (trySeal (pNat e 0 1) u).2)) ∧
        (getParcel (pNat e 0 1) (trySeal (pNat e 0 1) u).2).st = 2) ∧
      ((trySeal (pNat e 0 1) u).1 ≠ 0 → (trySeal (pNat e 0 1) u).1 ≠ 4 →
        exec (.parcelSeal e) s = .next (settle (reply 0x0111 e (refuse (trySeal (pNat e 0 1) u).1) (trySeal (pNat e 0 1) u).2)))) ∧
    (Taken (opParcelDiscard e) e s → pNat e 0 1 < 64 → boundTo (pNat e 0 1) u = none →
      (getParcel (pNat e 0 1) u).st ≠ 0 → (getParcel (pNat e 0 1) u).st ≠ 4 →
      exec (.parcelDiscard e) s = .next (settle (reply 0x0112 e okAns (discardParcel (pNat e 0 1) u))) ∧
      getParcel (pNat e 0 1) (discardParcel (pNat e 0 1) u) = {}) ∧
    (Taken (opGrant e) e s → pNat e 0 1 < 4 → pNat e 1 1 < 8 → pNat e 2 1 < 16 → mayConfigure e (pNat e 0 1) = true →
      ∀ g, (pNat e 3 1, g) ∈ [(0, GrantE.none_), (1, .district (pNat e 4 1) false), (2, .district (pNat e 4 1) true), (3, .parcel (pNat e 4 1))] →
      (pNat e 3 1 = 0 → pNat e 4 1 = 0) → (pNat e 3 1 = 3 → pNat e 4 1 < 64) →
      (pNat e 3 1 = 1 ∨ pNat e 3 1 = 2 → rd .distCfgState (pNat e 4 1) u ≠ 2) →
      exec (.grant e) s = .next (settle (reply 0x0120 e okAns (setEng { u.eng with
        grants := tset noGrant u.eng.grants (grantKey (pNat e 0 1) (pNat e 1 1) (pNat e 2 1)) g } u)))) ∧
    (Taken (opFill e) e s → fillBad e = none →
      (∀ r ∈ (fillRanges e).map (·.2), rangeForeign e r.1 r.2 true u = false ∧ rangeSealed r.1 r.2 u = false ∧
        rangeBusy r.1 r.2 u = false ∧ rangeLost r.1 u = false) →
      exec (.fill e) s = .next (settle (reply 0x0201 e okAns (finishWrite srcDispatcher
        ((fillRanges e).map fun y => ((vaultLocal y.2.1).1, (vaultLocal y.2.1).2, y.2.2)) ((fillRanges e).foldl (fun w y =>
          (List.range (y.2.2 / 32)).foldl (fun z j =>
            writeWord (vaultLocal y.2.1).1 ((vaultLocal y.2.1).2 + 32 * j) (pBytes e 0 32) z) w) u))))) ∧
    (Taken (opFence e) e s → pNat e 8 8 ≠ 0 → pNat e 0 8 < 2 ^ 43 → inVault (pNat e 0 8) (pNat e 8 8) = true →
      rangeForeign e (pNat e 0 8) (pNat e 8 8) false u = false →
      ∀ ops, ops = fenceOps (vaultLocal (pNat e 0 8)).1 (vaultLocal (pNat e 0 8)).2 (pNat e 8 8) u →
      (ops = [] → exec (.fence e) s = .next (settle (reply 0x0202 e okAns u))) ∧
      (ops ≠ [] → exec (.fence e) s = .next (settle (setEng { u.eng with fences := u.eng.fences ++ [⟨e, ops⟩] } u)))) ∧
    (Taken (opCopy e) e s → pNat e 16 4 ≠ 0 → pNat e 16 4 % 32 = 0 →
      (∀ a ∈ [pNat e 0 8, pNat e 8 8], a < 2 ^ 43 ∧ inVault a (pNat e 16 4) = true ∧ rangeSealed a (pNat e 16 4) u = false ∧
        rangeBusy a (pNat e 16 4) u = false ∧ rangeLost a u = false) →
      rangeForeign e (pNat e 0 8) (pNat e 16 4) false u = false → rangeForeign e (pNat e 8 8) (pNat e 16 4) true u = false →
      ∀ r, r = vreadBytes (vaultLocal (pNat e 0 8)).1 (vaultLocal (pNat e 0 8)).2 (pNat e 16 4) srcSide u →
      (r.1.2 = none → unreachable (siteOf (vaultLocal (pNat e 0 8)).1) (siteOf (vaultLocal (pNat e 8 8)).1) r.2 = true →
        exec (.copy e) s =
          .next (settle (reply 0x0203 e ⟨9, 14, [], []⟩ (flag .netStatusUnreach (siteOf (vaultLocal (pNat e 0 8)).1) r.2)))) ∧
      (r.1.2 = none → unreachable (siteOf (vaultLocal (pNat e 0 8)).1) (siteOf (vaultLocal (pNat e 8 8)).1) r.2 = false → ∀ w, w = vwrite (vaultLocal (pNat e 8 8)).1 (vaultLocal (pNat e 8 8)).2 srcSide r.1.1 r.2 →
        (w.1 = none → exec (.copy e) s = .next (settle (reply 0x0203 e okAns w.2))) ∧
        (w.1 ≠ none → exec (.copy e) s = .next (settle (reply 0x0203 e ⟨9, 14, [], []⟩ w.2)))) ∧
      (r.1.2 ≠ none → exec (.copy e) s = .next (settle (reply 0x0203 e ⟨9, 13, [], []⟩ r.2)))) ∧
    (Taken (opAtomic e) e s → 1 ≤ pNat e 0 1 → pNat e 0 1 ≤ 4 → (pNat e 1 1 = 4 ∨ pNat e 1 1 = 8) → pNat e 8 8 % pNat e 1 1 = 0 → pNat e 8 8 < 2 ^ 43 →
      inVault (pNat e 8 8) (pNat e 1 1) = true → counterBase ≤ pNat e 8 8 % 2 ^ 26 →
      rangeForeign e (pNat e 8 8) (pNat e 1 1) true u = false → rangeBusy (pNat e 8 8) (pNat e 1 1) u = false → rangeLost (pNat e 8 8) u = false →
      ∀ r, r = counterBytes (vaultLocal (pNat e 8 8)).1 (vaultLocal (pNat e 8 8)).2 srcHost (pNat e 1 1)
        (grantSlots false (vaultLocal (pNat e 8 8)).1 1 u) →
      (r.1.2 = false → exec (.atomic e) s = .next (settle (reply 0x0204 e ⟨0, 0, natLe 8 (leNat r.1.1), []⟩
        (vwrite (vaultLocal (pNat e 8 8)).1 (vaultLocal (pNat e 8 8)).2 srcHost
          (natLe (pNat e 1 1) (atomicNew (pNat e 0 1) (pNat e 1 1) (leNat r.1.1) (pNat e 16 8) (pNat e 24 8))) r.2).2))) ∧
      (r.1.2 = true → exec (.atomic e) s = .next (settle (reply 0x0204 e ⟨9, 13, [], []⟩ r.2)))) ∧
    (∀ p a n, swapRange e = (p, a, n) → swapBad e = none →
      (Taken (opSwappool 1 e) e s → u.sort.pool.length < 16 →
        (∀ q ∈ u.sort.pool, ¬ (q.1 = p ∧ q.2.1 < a + n ∧ a < q.2.1 + q.2.2)) →
        exec (.swappoolAdd e) s = .next (settle (reply 0x0205 e okAns (setSort { u.sort with pool := u.sort.pool ++ [(p, a, n)] } u)))) ∧
      (Taken (opSwappool 2 e) e s → (p, a, n) ∈ u.sort.pool →
        (∀ q ∈ poolUsed u, ¬ (q.1 = p ∧ q.2.1 < a + n ∧ a < q.2.1 + q.2.2)) →
        exec (.swappoolRemove e) s = .next (settle (reply 0x0205 e okAns (setSort { u.sort with pool := u.sort.pool.erase (p, a, n) } u))))) ∧
    (Taken (opNmSubmit e) e s → districtGate e (pNat e 64 1) u = none →
      bit .brsiteStatusLost (nmSite (pNat e 0 64) (pNat e 64 1) u) u = false →
      exec (.nmSubmit e) s = .next (settle (nmSubmit (32 * nmSite (pNat e 0 64) (pNat e 64 1) u + nEngine (pNat e 0 64))
        { desc := pNat e 0 64, district := some (pNat e 64 1), who := .envelope e } u))) ∧
    (∀ k op, k = 32 * nmSite (pNat e 0 64) (pNat e 64 1) u + nEngine (pNat e 0 64) →
      op = { desc := pNat e 0 64, district := some (pNat e 64 1), who := .envelope e, seq := u.eng.nmSeq } →
      Taken (opNmSubmit e) e s → districtGate e (pNat e 64 1) u = none → bit .brsiteStatusLost (nmSite (pNat e 0 64) (pNat e 64 1) u) u = false →
      nmCheck k op u = 0 → (getEngine k u).queue.length < 16 →
      ∃ t, exec (.nmSubmit e) s = .next (settle t) ∧ (getEngine k t).queue = (getEngine k u).queue ++ [op] ∧
        t.eng.nmSeq = u.eng.nmSeq + 1)

/-- SUBMIT in a re-binding district is held; a submit that its checks refuse is answered with the first failing check; one that passes takes
records, control block and addresses, a registered one lapsing at once where every twin port is down, or is answered with the status of the
allocation that fails. CANCEL marks the stream, PREEMPT starts a
pre-emption, once the running step has completed, and RESUME queues a resume, both answered later; a RESUME that fails a check of R280, R302
or R310 is refused; FREEZE reserves the lowest unused handle and answers its number; RELEASE releases a
handle, which goes once nothing refers to it; QUERY answers the record; DISCARD removes the image and issues the receipt with CANCELLED. An unknown stream is STREAM_STATE (50). -/
def Obligations.StreamEnvelopes : Prop :=
  ∀ (e : Env) (s : State), let u := markPassed e s
    (Taken (opSubmit e) e s →
      (rd .distCfgState (pNat e 0 1) u = 2 →
        exec (.submit e) s = .next (settle (updDistrict (pNat e 0 1) (fun x => { x with held := x.held ++ [e] }) u))) ∧
      (rd .distCfgState (pNat e 0 1) u ≠ 2 → submitCheck e u = none →
        (placeStream (specNat (e.raw.drop 64 ++ List.replicate 4032 0) 0 1) (nextId u) (e.raw.drop 64 ++ List.replicate 4032 0) false u).1.1 ≠ 4 →
        exec (.submit e) s = .next (settle (reply 0x0401 e (takeStream e u).1 (takeStream e u).2))) ∧
      (∀ slot v, rd .distCfgState (pNat e 0 1) u ≠ 2 → submitCheck e u = none →
        placeStream (specNat (e.raw.drop 64 ++ List.replicate 4032 0) 0 1) (nextId u) (e.raw.drop 64 ++ List.replicate 4032 0) false u =
          ((0, slot), v) →
        ∃ t, exec (.submit e) s = .next (settle (reply 0x0401 e ⟨0, 0, natLe 8 slot ++ natLe 8 (nextId u), []⟩ t)) ∧
          t.sort.issued = u.sort.issued + 1 ∧ (twinCut v = false → getStream slot t = getStream slot v) ∧
          (twinCut v = true → protects (getStream slot v) v = true → getStream slot t = { getStream slot v with lapsed := true })) ∧
      (∀ a, rd .distCfgState (pNat e 0 1) u ≠ 2 → submitCheck e u = some a → a.status ≠ 4 →
        exec (.submit e) s = .next (settle (reply 0x0401 e a u)))) ∧
    (∀ x ∈ [(Instr.cancel e, opCancel e), (.preempt e, opPreempt e), (.freeze e, opFreeze e), (.query e, opQuery e)], Taken x.2 e s →
      findStream (pNat e 0 8) u = none → exec x.1 s = .next (settle (reply x.2.code e (refuse 50) u))) ∧
    (∀ a, streamGate e false u = .error a → ∀ x ∈ [(Instr.cancel e, opCancel e), (.preempt e, opPreempt e), (.freeze e, opFreeze e)],
      Taken x.2 e s → exec x.1 s = .next (settle (reply x.2.code e a u))) ∧
    (∀ k, streamGate e false u = .ok k →
      (Taken (opCancel e) e s → exec (.cancel e) s = .next (settle (reply 0x0402 e okAns (updStream k (fun x => { x with cancel := true }) u)))) ∧
      (Taken (opPreempt e) e s → (getStream k u).cancel = false →
        exec (.preempt e) s = .next (settle (startPreempt k (some e) u)) ∧
          ((getStream k u).st = .running → (getStream k (startPreempt k (some e) u)).pre = 1 ∧
            (getStream k (startPreempt k (some e) u)).preEnv = some e) ∧
          ((getStream k u).st = .ready → (getStream k (startPreempt k (some e) u)).st = .preempting ∧
            (getStream k (startPreempt k (some e) u)).pre = 2 ∧ (getStream k (startPreempt k (some e) u)).preEnv = some e)) ∧
      (Taken (opPreempt e) e s → (getStream k u).cancel = true →
        exec (.preempt e) s = .next (settle (reply 0x0403 e (refuse 50) u))) ∧
      (Taken (opFreeze e) e s → pNat e 8 4 ≠ 0 → pNat e 8 4 ≤ (getStream k u).pos →
        ∀ h < 4096, (getHandle h u).used = false → (∀ i < h, (getHandle i u).used = true) →
        exec (.freeze e) s = .next (settle (reply 0x0405 e ⟨0, 0, natLe 2 h, []⟩
          (updStream k (fun y => { y with freezes := y.freezes ++ [(h, pNat e 8 4)] })
            (setHandle h { used := true, district := (getStream k u).district } u))))) ∧
      (Taken (opFreeze e) e s → pNat e 8 4 = 0 ∨ (getStream k u).pos < pNat e 8 4 →
        exec (.freeze e) s = .next (settle (reply 0x0405 e ⟨1, 72, [], []⟩ u)))) ∧
    (∀ k, streamGate e true u = .ok k → Taken (opQuery e) e s →
      exec (.query e) s = .next (settle (reply 0x0407 e ⟨0, 0, [], recordOf (getStream k u)⟩ u))) ∧
    (∀ d i, findImage (pNat e 0 8) u = some (d, i) → mayAct e d u = true →
      (Taken (opResume e) e s → rd .distCfgState d u = 1 →
        (resumeBar d i u = 51 → exec (.resume e) s = .next (settle (reply 0x0404 e (refuse 51) u))) ∧
        (resumeBar d i u ≠ 51 → e.extOk = false → exec (.resume e) s = .next (settle (reply 0x0404 e (refuse 52) u))) ∧
        (resumeBar d i u ≠ 51 → e.extOk = true → resumeBar d i u ≠ 0 →
          exec (.resume e) s = .next (settle (reply 0x0404 e (refuse (resumeBar d i u)) u))) ∧
        (resumeBar d i u = 0 → e.extOk = true →
          exec (.resume e) s = .next (settle (setSort { u.sort with resumes := u.sort.resumes ++ [(e, none)] } u)))) ∧
      (Taken (opDiscard e) e s → rd .distCfgState d u ≠ 2 →
        exec (.discard e) s = .next (settle (reply 0x0408 e okAns (issueReceipt i.stream 5 (some ((i.ctl.drop 10248).take 56))
          (updDistrict d (fun y => { y with preempted := y.preempted.filter fun k => k.stream.id != i.stream.id }) u)))))) ∧
    (Taken (opRelease e) e s → districtGate e (pNat e 0 1) u = none → pNat e 2 2 < 4096 →
      (getHandle (pNat e 2 2) u).district = pNat e 0 1 →
      ((getHandle (pNat e 2 2) u).made = true → (getHandle (pNat e 2 2) u).released = false →
        exec (.release e) s = .next (settle (reply 0x0406 e okAns (releaseHandle (pNat e 2 2) u))) ∧
        ((getHandle (pNat e 2 2) u).refs ≠ 0 →
          releaseHandle (pNat e 2 2) u = setHandle (pNat e 2 2) { getHandle (pNat e 2 2) u with released := true } u) ∧
        ((getHandle (pNat e 2 2) u).used = true → (getHandle (pNat e 2 2) u).refs = 0 →
          (getHandle (pNat e 2 2) (releaseHandle (pNat e 2 2) u)).used = false)) ∧
      ((getHandle (pNat e 2 2) u).made = false ∨ (getHandle (pNat e 2 2) u).released = true →
        exec (.release e) s = .next (settle (reply 0x0406 e (refuse 41) u))))

/-- A specification whose every field lies in range is refused by the first of these that holds, the earlier ones not holding: a class that may
not submit (4), no grant (5), a district that is not ACTIVE (18), no parcel or sampling configuration (33), a book (34) or ring (37) that is not
bound or enabled for the district, a ring that is at its number of streams (38), a registered stream without a twin (40), a context above CTXMAX
(48), no slot left (29); and else it passes. -/
def Obligations.SubmitOrder : Prop :=
  ∀ (e : Env) (s : State), let sp := e.raw.drop 64
    let n := fun (off k : Nat) => specNat sp off k
    let d := n 0 1
    (e.cls = .mgmt ∨ e.cls = .peer → submitCheck e s = some (refuse 4)) ∧
    (e.cls = .host → mayAct e d s = false → submitCheck e s = some (refuse 5)) ∧
    (e.cls = .hosts ∨ (e.cls = .host ∧ mayAct e d s = true) → n 1 1 / 32 % 4 = 0 → n 57 1 / 16 % 2 = 0 →
      specReserved sp (512 + 8 * n 54 2) = none → specRanges sp = none →
      (∀ x ∈ specTokens sp 0, x < (sampOf d s).elim (2 ^ 32) (·.vocab)) →
      1 ≤ n 16 4 → n 16 4 ≤ 2 ^ 24 → 1 ≤ n 20 4 → n 20 4 ≤ 2 ^ 24 → 1 ≤ n 24 4 → n 24 4 ≤ 2 ^ 24 →
      512 + 8 * n 54 2 ≤ envLen e - 64 →
      (rd .distCfgState d s ≠ 1 → submitCheck e s = some (refuse 18)) ∧
      (rd .distCfgState d s = 1 →
        (bit .distCfgPv d s = false ∨ sampOf d s = none → submitCheck e s = some (refuse 33)) ∧
        (bit .distCfgPv d s = true → (sampOf d s).isSome = true →
          (bit .bookBindBound (n 4 2) s = false ∨ rd .bookBindDistrict (n 4 2) s ≠ d → submitCheck e s = some (refuse 34)) ∧
          (bit .bookBindBound (n 4 2) s = true → rd .bookBindDistrict (n 4 2) s = d →
            (bit .dringCfgEn (n 6 2) s = false ∨ rd .dringCfgDistrict (n 6 2) s ≠ d → submitCheck e s = some (refuse 37)) ∧
            (bit .dringCfgEn (n 6 2) s = true → rd .dringCfgDistrict (n 6 2) s = d →
              (2 ^ (rd .dringCfgLog2size (n 6 2) s - 1) ≤ rd .dringStatusStreams (n 6 2) s → submitCheck e s = some (refuse 38)) ∧
              (rd .dringStatusStreams (n 6 2) s < 2 ^ (rd .dringCfgLog2size (n 6 2) s - 1) →
                (n 1 1 / 8 % 2 = 1 → bit .twinCfgPaired 0 s = false → submitCheck e s = some (refuse 40)) ∧
                ((n 1 1 / 8 % 2 = 1 → bit .twinCfgPaired 0 s = true) →
                  (n 24 4 < n 16 4 → submitCheck e s = some (refuse 48)) ∧
                  (n 16 4 ≤ n 24 4 → rd .distResSlots d s ≤ rd .distUseSlots d s → submitCheck e s = some (refuse 29)) ∧
                  (n 16 4 ≤ n 24 4 → rd .distUseSlots d s < rd .distResSlots d s → (freeSlot d s).isSome = true →
                    submitCheck e s = none))))))))

/-- BOOK_SET keeps the parameters for the next round boundary; BOOK_BIND fills the book and binds it to the district; BOOK_UNBIND clears the
binding; SAMPLE_CFG keeps vocabulary and shards in site order for the district's next step. The refusals: a depth below the two weights
BOOK_PARAM (35), a book that resident streams name BOOK_BUSY (36), a book that is not bound BOOK_STATE (34), shards that do not cover the
vocabulary SAMPLE_CFG (47).
Parameters that wait take effect once a later round runs: rate, depth, interval and weights are the new ones, the level falls to the depth if it
is above, and nothing waits; in the same round nothing happens. At a round that is a multiple of INTERVAL a book, bound or not, whose refill of the
round has not been made rises by RATE up to DEPTH, and no other register field changes; in another round it stays as it is. -/
def Obligations.BookTimeRules : Prop :=
  (∀ (e : Env) (s : State), let u := markPassed e s
     let b := pNat e 0 2
     (Taken (opBook 1 e) e s → b < 4096 → pNat e 8 4 ≠ 0 → 1 ≤ pNat e 12 2 → pNat e 12 2 ≤ 16384 →
       (pNat e 8 4 < pNat e 14 2 + pNat e 16 2 → exec (.bookSet e) s = .next (settle (reply 0x0501 e (refuse 35) u))) ∧
       (pNat e 14 2 + pNat e 16 2 ≤ pNat e 8 4 → (bit .bookBindBound b u = true → rd .distCfgState (rd .bookBindDistrict b u) u ≠ 2) →
         exec (.bookSet e) s = .next (settle (reply 0x0501 e okAns (setBook b { getBook b u with
           pend := some (⟨pNat e 4 4, pNat e 8 4, pNat e 12 2, pNat e 14 2, pNat e 16 2⟩, roundNow u) } u))))) ∧
     (Taken (opBook 2 e) e s → b < 4096 → districtGate e (pNat e 3 1) u = none →
       (bookNamed b u = true → rd .bookBindDistrict b u ≠ pNat e 3 1 → exec (.bookBind e) s = .next (settle (reply 0x0501 e (refuse 36) u))) ∧
       (bookNamed b u = false ∨ rd .bookBindDistrict b u = pNat e 3 1 →
         exec (.bookBind e) s = .next (settle (reply 0x0501 e okAns (wr .bookBindDistrict b (pNat e 3 1) (flag .bookBindBound b
           (wr .bookLevelLevel b (rd .bookParamDepth b u) u))))))) ∧
     (Taken (opBook 3 e) e s → b < 4096 →
       (bit .bookBindBound b u = false → exec (.bookUnbind e) s = .next (settle (reply 0x0501 e (refuse 34) u))) ∧
       (bit .bookBindBound b u = true → rd .distCfgState (rd .bookBindDistrict b u) u ≠ 2 →
         (bookNamed b u = true → exec (.bookUnbind e) s = .next (settle (reply 0x0501 e (refuse 36) u))) ∧
         (bookNamed b u = false →
           exec (.bookUnbind e) s = .next (settle (reply 0x0501 e okAns (wr .bookBindDistrict b 0 (wr .bookBindBound b 0 u))))))) ∧
     (Taken (opSampleCfg e) e s → 2 ≤ pNat e 4 4 → pNat e 4 4 ≤ 2 ^ 20 → shardBad e = none → districtGate e (pNat e 0 1) u = none →
       ∀ hs, hs = ((List.range (pNat e 1 1)).map (parseShard e)).insertionSort (fun a b => a.site ≤ b.site) →
       (shardsCover (pNat e 4 4) 0 none hs = false → exec (.sampleCfg e) s = .next (settle (reply 0x0502 e (refuse 47) u))) ∧
       (shardsCover (pNat e 4 4) 0 none hs = true → exec (.sampleCfg e) s = .next (settle (reply 0x0502 e okAns
         (updDistrict (pNat e 0 1) (fun x => { x with sampNext := some ⟨pNat e 4 4, hs⟩ }) u)))))) ∧
  (∀ (b : BookId) (s : State),
     ((getBook b s).pend = none → exec (.bookParamEffect b) s = .next s) ∧
     (∀ p r, (getBook b s).pend = some (p, r) →
       (roundNow s ≤ r → exec (.bookParamEffect b) s = .next s) ∧
       (r < roundNow s → ∃ t, exec (.bookParamEffect b) s = .next t ∧ rd .bookParamRate b t = p.rate % 2 ^ 32 ∧
         rd .bookParamDepth b t = p.depth % 2 ^ 32 ∧ rd .bookWInterval b t = p.interval % 2 ^ 15 ∧ rd .bookWWin b t = p.win % 2 ^ 16 ∧
         rd .bookWWout b t = p.wout % 2 ^ 16 ∧ rd .bookLevelLevel b t = min p.depth (rd .bookLevelLevel b s) % 2 ^ 32 ∧
         (getBook b t).pend = none ∧ ∀ f i, (regInfo f).blk ≠ .book ∨ i ≠ b.val → rd f i t = rd f i s)) ∧
     ((getBook b s).pend = none →
       (rd .bookWInterval b s ≠ 0 → roundNow s % rd .bookWInterval b s = 0 →
         (getBook b s).refilled ≤ roundNow s →
         ∃ t, exec (.bookRefill b) s = .next t ∧
           rd .bookLevelLevel b t = min (rd .bookParamDepth b s) (rd .bookLevelLevel b s + rd .bookParamRate b s) % 2 ^ 32 ∧
           (∀ f i, f ≠ .bookLevelLevel ∨ i ≠ b.val → rd f i t = rd f i s) ∧ exec (.bookRefill b) t = .next t) ∧
       (rd .bookWInterval b s = 0 ∨ roundNow s % rd .bookWInterval b s ≠ 0 →
         exec (.bookRefill b) s = .next s)))

/-- GRAMMAR_LOAD reads a table of the district's home site and, when it is well formed and pages are there, takes it in place of the slot's old
one; where a write of its words is lost it is GRAMMAR_BAD (45) and the pages are free again (log 124). GRAMMAR_UNLOAD frees a table; a slot that a resident stream names is GRAMMAR_BUSY (46). RING_ENABLE of a ring that is not enabled sets it up from
its reset values; of one that is, RING_STATE (37). RING_DISABLE clears EN, and refuses with RING_BUSY (39) while streams use the ring.
RECEIPTS_ENABLE and RECEIPTS_DISABLE do so for a receipt ring, whose held receipts then count again. -/
def Obligations.RingEnvelopes : Prop :=
  ∀ (e : Env) (s : State), let u := markPassed e s
    let d := pNat e 0 1
    let g := pNat e 1 1
    let r := pNat e 0 2
    (Taken (opGrammar 1 e) e s → g < 16 → pNat e 8 6 < 2 ^ 43 → pNat e 16 4 ≠ 0 → pNat e 16 4 ≠ 2 ^ 32 - 1 → districtGate e d u = none →
      (gramNamed d g u = true → exec (.grammarLoad e) s = .next (settle (reply 0x0503 e (refuse 46) u))) ∧
      (gramNamed d g u = false → onHome d (pNat e 8 6) (pNat e 16 4) u = true →
        ∀ x, x = dvaReadN d (pNat e 8 6) (pNat e 16 4) srcDispatcher u →
        (x.1 = none → exec (.grammarLoad e) s = .next (settle (reply 0x0503 e (refuse 45) x.2))) ∧
        (∀ b, x.1 = some b →
          (grammarOk b = false → exec (.grammarLoad e) s = .next (settle (reply 0x0503 e (refuse 45) x.2))) ∧
          (grammarOk b = true → ∀ t, t = takePages d (ceilDiv (pNat e 16 4) 65536) (unloadGrammar d g x.2) → t.1.1 = 0 →
            ((writePages b t.1.2 t.2).1 = true → exec (.grammarLoad e) s = .next (settle (reply 0x0503 e okAns (updDistrict d
              (fun y => { y with grammars := y.grammars ++ [(g, ⟨t.1.2, pNat e 16 4⟩)] }) (writePages b t.1.2 t.2).2)))) ∧
            ((writePages b t.1.2 t.2).1 = false → exec (.grammarLoad e) s = .next (settle (reply 0x0503 e (refuse 45)
              (t.1.2.foldl (fun u p => freePage d p.1 p.2 u) (writePages b t.1.2 t.2).2)))))))) ∧
    (Taken (opGrammar 2 e) e s → g < 16 → districtGate e d u = none →
      ((∀ x ∈ (getDistrict d u).grammars, x.1 ≠ g) → exec (.grammarUnload e) s = .next (settle (reply 0x0503 e (refuse 44) u))) ∧
      ((∃ x ∈ (getDistrict d u).grammars, x.1 = g) →
        (gramNamed d g u = true → exec (.grammarUnload e) s = .next (settle (reply 0x0503 e (refuse 46) u))) ∧
        (gramNamed d g u = false → exec (.grammarUnload e) s = .next (settle (reply 0x0503 e okAns (unloadGrammar d g u)))))) ∧
    (Taken (opRing 1 e) e s → r < 4096 → 4 ≤ pNat e 4 1 → pNat e 4 1 ≤ 20 → pNat e 5 1 < 2 → pNat e 6 1 < 4 → type2 (pNat e 6 1) u = true →
      pNat e 8 2 < 2048 → pNat e 16 8 % 64 = 0 → mayConfigure e (pNat e 6 1) = true → districtGate e (pNat e 3 1) u = none →
      (bit .dringCfgEn r u = true → exec (.ringEnable e) s = .next (settle (reply 0x0504 e (refuse 37) u))) ∧
      (bit .dringCfgEn r u = false → ∃ t, exec (.ringEnable e) s = .next (settle (reply 0x0504 e okAns t)) ∧
        (∀ x ∈ [(Reg.dringCfgEn, 1), (.dringCfgDistrict, pNat e 3 1), (.dringCfgLog2size, pNat e 4 1), (.dringCfgR193, pNat e 5 1),
          (.dringCfgPort, pNat e 6 1), (.dringCfgVector, pNat e 8 2), (.dringBaseAddr, pNat e 16 8)], rd x.1 r t = x.2) ∧
        ∀ f i, (regInfo f).blk ≠ .dring ∨ i ≠ r → rd f i t = rd f i u)) ∧
    (Taken (opRing 2 e) e s → r < 4096 →
      (bit .dringCfgEn r u = false → exec (.ringDisable e) s = .next (settle (reply 0x0504 e (refuse 37) u))) ∧
      (bit .dringCfgEn r u = true → mayConfigure e (rd .dringCfgPort r u) = true → rd .distCfgState (rd .dringCfgDistrict r u) u ≠ 2 →
        (rd .dringStatusStreams r u ≠ 0 → exec (.ringDisable e) s = .next (settle (reply 0x0504 e (refuse 39) u))) ∧
        (rd .dringStatusStreams r u = 0 → exec (.ringDisable e) s = .next (settle (reply 0x0504 e okAns (wr .dringCfgEn r 0 u)))))) ∧
    (Taken (opReceipts 1 e) e s → r ≤ 256 → pNat e 3 1 < 4 → type2 (pNat e 3 1) u = true → 4 ≤ pNat e 4 1 → pNat e 4 1 ≤ 16 →
      pNat e 6 2 < 2048 → pNat e 8 8 % 512 = 0 → mayConfigure e (pNat e 3 1) = true → (r < 256 → rd .distCfgState r u ≠ 2) → bit .rringCfgEn r u = false →
      exec (.receiptsEnable e) s = .next (settle (reply 0x0505 e okAns (showHeld r (flag .rringCfgEn r (wr .rringCfgPort r (pNat e 3 1)
        (wr .rringCfgLog2size r (pNat e 4 1) (wr .rringCfgVector r (pNat e 6 2) (wr .rringBaseAddr r (pNat e 8 8 / 512)
          (clearRegs (fun f i => (regInfo f).blk == .rring && i == r) u)))))))))) ∧
    (Taken (opReceipts 2 e) e s → r ≤ 256 → bit .rringCfgEn r u = true → mayConfigure e (rd .rringCfgPort r u) = true →
      (r < 256 → rd .distCfgState r u ≠ 2) →
      exec (.receiptsDisable e) s = .next (settle (reply 0x0505 e okAns (wr .rringCfgEn r 0 u))))

/-- FABRIC takes the FID and replaces the route table; ROUND_CFG writes the round domain's configuration, a new master or standby starting the
marker tree afresh. JOB forms a job over a district that is bound and in no job, the device being a member of fewer than 16, at its nominal
setpoint, and refuses a re-binding district with DISTRICT_BUSY (19) and the rest with JOB_STATE (53); it dissolves one, and CIRC takes ports,
span and ring order, at the district's next admission pass, or at once where none comes (log 127). TWIN pairs or unpairs. HANDOVER and DYING
trigger the failover of the districts they name, which starts when no recovery runs, refusing a re-binding one and a device that is not
paired. LEASE_KEY writes a key; LEASE_GRANT is checked before the grant is used, and the lease device relays it. -/
def Obligations.FabricEnvelopes : Prop :=
  ∀ (e : Env) (s : State), let u := markPassed e s
    let j := pNat e 0 1
    (Taken (opFabric e) e s → pNat e 0 2 < 1023 → (∀ i < pNat e 2 2, routeBad e i = none) →
      exec (.fabric e) s = .next (settle (reply 0x0701 e okAns (takeFid (pNat e 0 2) (setFab { u.fab with
        routes := (List.range (pNat e 2 2)).foldl (fun t i => tset (fun _ => []) t (routeOf e i).1 (routeOf e i).2) [] } u))))) ∧
    (Taken (opRoundCfg e) e s → pNat e 0 2 < 1024 → pNat e 2 2 < 1024 → pNat e 4 1 < 32 → pNat e 5 1 < 32 → 1 ≤ pNat e 6 1 →
      pNat e 6 1 ≤ 50 → 2 * pNat e 6 1 ≤ pNat e 8 2 → 20 ≤ pNat e 8 2 → pNat e 8 2 ≤ 10000 →
      ∀ s1, s1 = (if pNat e 0 2 ≠ rd .roundCfgMaster 0 u ∨ pNat e 2 2 ≠ rd .roundCfgStandby 0 u
        then setFab { u.fab with deposed := false, acting := false, fly := 0, marker := none, master := none } u else u) →
      exec (.roundCfg e) s = .next (settle (reply 0x0702 e okAns (announcePeriod (pNat e 8 2) (wr .roundCfgMaster 0 (pNat e 0 2)
        (wr .roundCfgStandby 0 (pNat e 2 2) (wr .roundCfgUp 0 (pNat e 4 1 + 32 * pNat e 5 1) (wr .roundCfgBudget 0 (pNat e 6 1)
          (wr .roundCfgPeriod 0 (pNat e 8 2) (wr .roundCfgDown 0 (pNat e 12 4) s1)))))))))) ∧
    (Taken (opJob 1 e) e s → jobBad e = none →
      (rd .distCfgState (pNat e 2 1) u = 2 → exec (.jobForm e) s = .next (settle (reply 0x0703 e (refuse 19) u))) ∧
      (rd .distCfgState (pNat e 2 1) u ≠ 2 →
        (bit .jobCfgMember j u = true ∨ rd .distCfgState (pNat e 2 1) u = 0 ∨ bit .distCfgPv (pNat e 2 1) u = false ∨
            jobOf (pNat e 2 1) u ≠ none ∨ 16 ≤ (memberJobs u).length →
          exec (.jobForm e) s = .next (settle (reply 0x0703 e (refuse 53) u))) ∧
        (bit .jobCfgMember j u = false → rd .distCfgState (pNat e 2 1) u ≠ 0 → bit .distCfgPv (pNat e 2 1) u = true →
          jobOf (pNat e 2 1) u = none → (memberJobs u).length < 16 →
          ∃ s1, exec (.jobForm e) s = .next (settle (reply 0x0703 e okAns (clockJob j (setJob j
            { members := (List.range (pNat e 4 1)).map fun i => pNat e (16 + 2 * i) 2 } s1)))) ∧
            (∀ x ∈ [(Reg.jobCfgMember, 1), (.jobCfgDistrict, pNat e 2 1), (.jobCfgJobidx, pNat e 3 1), (.jobCfgLeasedev, pNat e 6 2),
              (.jobCfgLeasesb, pNat e 8 2), (.jobSetpNom, pNat e 10 2), (.jobSetpCur, pNat e 10 2)], rd x.1 j s1 = x.2) ∧
            ∀ f i, (regInfo f).blk ≠ .job ∨ i ≠ j → rd f i s1 = rd f i u))) ∧
    (Taken (opJob 2 e) e s → j < 64 →
      (bit .jobCfgMember j u = false → exec (.jobDissolve e) s = .next (settle (reply 0x0703 e (refuse 53) u))) ∧
      (bit .jobCfgMember j u = true →
        (passesCome (rd .jobCfgDistrict j u) u = true →
          exec (.jobDissolve e) s = .next (settle (reply 0x0703 e okAns (updJob j (fun x => { x with dissolve := true }) u)))) ∧
        (passesCome (rd .jobCfgDistrict j u) u = false →
          exec (.jobDissolve e) s = .next (settle (reply 0x0703 e okAns (dissolveJob j u)))))) ∧
    dissolveJob j u = (clustersOf (rd .jobCfgDistrict j u) u).foldl (fun w k => clockCluster k w) (setJob j {} (clearBlock .job j u)) ∧
    (Taken (opCirc e) e s → j < 64 → bit .jobCfgMember j u = true →
      ∀ ports n order, ports = (List.range 32).filter (pNat e 4 4).testBit → ports ≠ [] → ports.length ≤ 8 →
      n = (getJob j u).members.length → order = (List.range 16).map (fun i => pNat e (16 + i) 1) →
      1024 ≤ pNat e 8 4 → pNat e 8 4 ≤ 2 ^ 20 → pNat e 8 4 % kTpp (kvWord (rd .jobCfgDistrict j u) u) = 0 →
      (order.take n).insertionSort (· ≤ ·) = List.range n → (∀ x ∈ order.drop n, x = 0) →
      (passesCome (rd .jobCfgDistrict j u) u = true → exec (.circ e) s = .next (settle (reply 0x0704 e okAns
        (updJob j (fun x => { x with circNext := some ⟨ports, pNat e 8 4, order.take n⟩ }) u)))) ∧
      (passesCome (rd .jobCfgDistrict j u) u = false → exec (.circ e) s = .next (settle (reply 0x0704 e okAns
        (updJob j (fun x => { x with circ := some ⟨ports, pNat e 8 4, order.take n⟩, circNext := none }) u))))) ∧
    (Taken (opTwin 1 e) e s → pNat e 1 1 ≤ 1 → (∀ i < pNat e 2 1, rd .distCfgState (pNat e (24 + 2 * i) 1) u ≠ 2) →
      (bit .twinCfgPaired 0 u = true ∨ bit .twinStatusFailover 0 u = true ∨ u.fab.handed ≠ [] →
        exec (.twinPair e) s = .next (settle (reply 0x0705 e (refuse 54) u))) ∧
      (bit .twinCfgPaired 0 u = false → bit .twinStatusFailover 0 u = false → u.fab.handed = [] →
        exec (.twinPair e) s = .next (settle (reply 0x0705 e okAns (formPair e.extOk (setFab { u.fab with
          wanted := true, mirrors := (List.range (pNat e 2 1)).map (fun i => (pNat e (24 + 2 * i) 1, pNat e (25 + 2 * i) 1)),
          peerSerial := pNat e 8 16 } (wr .twinCfgSenior 0 (pNat e 1 1) u))))))) ∧
    (Taken (opTwin 2 e) e s →
      (bit .twinStatusFailover 0 u = true ∨ u.fab.handed ≠ [] → exec (.twinUnpair e) s = .next (settle (reply 0x0705 e (refuse 54) u))) ∧
      (bit .twinStatusFailover 0 u = false → u.fab.handed = [] →
        exec (.twinUnpair e) s = .next (settle (reply 0x0705 e okAns (doTwinUnpair e u).2)) ∧
        bit .twinCfgPaired 0 (doTwinUnpair e u).2 = false ∧ rd .twinCfgPeer 0 (doTwinUnpair e u).2 = 0 ∧
        (doTwinUnpair e u).2.fab.wanted = false ∧ (doTwinUnpair e u).2.fab.mirrors = [])) ∧
    (∀ x ∈ [(Instr.handover e, opTwinMsg 1 e), (.dying e, opTwinMsg 2 e)], Taken x.2 e s →
      ((∃ i < pNat e 2 1, rd .distCfgState (pNat e (8 + i) 1) u = 2) → exec x.1 s = .next (settle (reply 0x0706 e (refuse 19) u))) ∧
      ((∀ i < pNat e 2 1, rd .distCfgState (pNat e (8 + i) 1) u ≠ 2) → bit .twinCfgPaired 0 u = false →
        exec x.1 s = .next (settle (reply 0x0706 e (refuse 54) u))) ∧
      ((∀ i < pNat e 2 1, rd .distCfgState (pNat e (8 + i) 1) u ≠ 2) → bit .twinCfgPaired 0 u = true → exec x.1 s = .next (settle (reply 0x0706 e okAns
        (triggerFailover ((List.range (pNat e 2 1)).map fun i => pNat e (8 + i) 1) u))))) ∧
    (∀ ds new, new = ds.filter (fun d => !u.fab.handed.contains d && rd .distCfgState d u != 0) → new ≠ [] → u.faults.running = none →
      rd .twinStatusFailover 0 (triggerFailover ds u) = 1 ∧ (triggerFailover ds u).fab.handed = u.fab.handed ++ new) ∧
    (∀ x ∈ [(Instr.leaseKeyEnrol e, opLeaseKey 1 e, pBytes e 8 96), (.leaseKeyClear e, opLeaseKey 2 e, [])], Taken x.2.1 e s → j < 4 →
      (bit .devLockKeys 0 u = true ∨ bit .devLockSecurity 0 u = true → exec x.1 s = .next (settle (reply 0x0707 e (refuse 12) u))) ∧
      (bit .devLockKeys 0 u = false → bit .devLockSecurity 0 u = false → exec x.1 s = .next (settle (reply 0x0707 e okAns
        (setEng { u.eng with leaseKeys := tset noKey u.eng.leaseKeys j x.2.2 } u))))) ∧
    (Taken (opLeaseGrant e) e s → ∀ g, g = pBytes e 0 160 →
      ((grantCheck g u).status ≠ 0 → exec (.leaseGrant e) s = .next (settle (reply 0x0708 e (grantCheck g u) u))) ∧
      ((grantCheck g u).status = 0 → exec (.leaseGrant e) s = .next (settle (reply 0x0708 e okAns
        (if gNat g 0 1 = 1 then relayGrant (gNat g 1 1) g (takeGrant g u) else takeGrant g u)))))

/-- A request on a transport that the responder does not hear changes nothing. On one it hears, GET_VERSION is always answered and starts that
transport's negotiation afresh; GET_CAPABILITIES and NEGOTIATE_ALGORITHMS need it; the digests, the certificates and challenges of slots 0
and 1, the measurements and KEY_EXCHANGE need the transport's algorithms; FINISH needs a session of the transport that is not complete,
HEARTBEAT and END_SESSION a complete one. A request that comes before what it needs is answered with ERROR and changes nothing. That the
transport is the request's first byte and that a request out of order is answered so are the model's choice (log 57). Measurements 1 to 6 are
always present, 16 + p while parcel p is sealed or bound. -/
def Obligations.SpdmRules : Prop :=
  ∀ (req : List Byte) (slot n : Nat) (s : State), let p := s.eng.spdm
    let t := spdmVia req
    (spdmHears t s = false → ∀ c ∈ [Instr.getVersion req, .getCapabilities req, .negotiateAlgorithms req, .getDigests req,
      .getCertificate slot req, .challenge slot req, .keyExchange req, .finish n req], exec c s = .next s) ∧
    (spdmHears (n / 256) s = false → exec (.getMeasurements n) s = .next s) ∧
    (spdmHears t s = true →
      exec (.getVersion req) s = .next (spdmAnswer t 0x04 req (setSpdm { p with
        version := (p.version ++ [t]).dedup, algorithms := p.algorithms.filter (· != t) } s)) ∧
      exec (.getCapabilities req) s = .next (if p.version.contains t = true then spdmAnswer t 0x61 req s else spdmError t s) ∧
      exec (.negotiateAlgorithms req) s = .next (if p.version.contains t = true
        then spdmAnswer t 0x63 req (setSpdm { p with algorithms := (p.algorithms ++ [t]).dedup } s) else spdmError t s) ∧
      exec (.getDigests req) s = .next (if p.algorithms.contains t = true then spdmAnswer t 0x01 req s else spdmError t s) ∧
      exec (.getCertificate slot req) s =
        .next (if p.algorithms.contains t = true ∧ slot < 2 then spdmAnswer t 0x02 req s else spdmError t s) ∧
      exec (.challenge slot req) s =
        .next (if p.algorithms.contains t = true ∧ slot < 2 then spdmAnswer t 0x03 req s else spdmError t s) ∧
      (p.algorithms.contains t = true → ∃ u, exec (.keyExchange req) s = .next u ∧
        u.eng.spdm = { p with sessions := p.sessions ++ [(p.nextSession, t, false)], nextSession := p.nextSession + 1 } ∧
        ∀ f i, rd f i u = rd f i s) ∧
      (p.algorithms.contains t = false → exec (.keyExchange req) s = .next (spdmError t s)) ∧
      (sessionOf n s = some (t, false) → ∃ u, exec (.finish n req) s = .next u ∧ sessionOf n u = some (t, true) ∧
        ∀ m, m ≠ n → sessionOf m u = sessionOf m s) ∧
      (sessionOf n s ≠ some (t, false) → exec (.finish n req) s = .next (spdmError t s))) ∧
    (spdmHears (n / 256) s = true → exec (.getMeasurements n) s =
      .next (if p.algorithms.contains (n / 256) = true then emit (.spdm (n / 256) 0x60 (measurements (n % 256) s)) s
        else spdmError (n / 256) s)) ∧
    (∀ v, sessionOf n s = some (v, true) → spdmHears v s = true → exec (.heartbeat n) s = .next (spdmAnswer v 0x68 [] s) ∧
      ∃ u, exec (.endSession n) s = .next u ∧ sessionOf n u = none ∧ ∀ m, m ≠ n → sessionOf m u = sessionOf m s) ∧
    ((∀ v, sessionOf n s ≠ some (v, true)) →
      exec (.heartbeat n) s = .next (spdmError 0 s) ∧ exec (.endSession n) s = .next (spdmError 0 s)) ∧
    (measurement n s ≠ none ↔ (1 ≤ n ∧ n ≤ 6) ∨ (16 ≤ n ∧ n ≤ 79 ∧ ((getParcel (n - 16) s).st = 2 ∨ (getParcel (n - 16) s).st = 3)))

/-- A REBIND whose first failing check of R238 is one of a change is answered with that check's status and the change's index, and changes nothing
else; one that passes puts each district it names into REBINDING with the pages it will take reserved, unanswered; before that, a class that may
not re-bind gets AUTHORITY. REBIND_RUN during a recovery changes nothing; else it goes through the waiting re-bindings in turn: one that is not
quiet waits; a quiet one hands its streams over, and once they have gone gives up its reserved pages, carries its live changes out, gives back
the districts of changes that a fault has ended, zeroes what they released, answers with each change's status and takes up the held submits.
A handle is created for a stream's FREEZE when its pages are there. -/
def Obligations.RebindRules : Prop :=
  ∀ (e : Env) (slot : SlotId) (s : State), let u := markPassed e s
    let cs := (List.range (pNat e 0 1)).map (parseChange e)
    (∀ r, Taken (opRebind e) e s → rebindCheck e cs u = some r → r.1 ≠ 4 →
      exec (.rebind e) s = .next (settle (reply 0x0101 e ⟨r.1, r.2, [], []⟩ u))) ∧
    (Taken (opRebind e) e s → rebindCheck e cs u = none → (e.cls = .mgmt ∨ e.cls = .hosts) →
      ∀ cs', cs' = cs.map (fun c => if rd .distCfgState c.district u = 4 then { c with zero := true } else c) →
      ∀ ps s1, ps = takenPages (tryOut cs' u).2 u → s1 = setReserved true ps u →
      exec (.rebind e) s = .next (settle (setBoot { s1.boot with rebinds := s1.boot.rebinds ++ [⟨e, cs', ps⟩] }
        (cs'.foldl (fun w c => wr .distCfgState c.district 2 w) s1)))) ∧
    (Taken (opRebind e) e s → rebindCheck e cs u = none → (e.cls = .host ∨ e.cls = .peer) →
      exec (.rebind e) s = .next (settle (countAuthority (opRebind e) e (reply 0x0101 e (refuse 4) u)))) ∧
    (recovering s = true → exec .rebindRun s = .next (settle s)) ∧
    (recovering s = false → exec .rebindRun s = .next (settle (s.boot.rebinds.foldl (fun w r => runOne submitHeld r w) s))) ∧
    (∀ (r : Rebinding) (v : State),
      (rebindQuiet r.changes v = false → runOne submitHeld r v = v) ∧
      (rebindQuiet r.changes v = true →
        ∀ live s1, live = r.changes.filter (fun c => changeLost c v == 0) →
          s1 = live.foldl (fun w c => handleStreams c (quiesce c.district w)) v →
          (streamsGone live s1 = false → runOne submitHeld r v = s1) ∧
          (streamsGone live s1 = true →
            ∀ t, t = carryOut live (live.foldl (fun w c => dropShadows c w)
              (setReserved false r.pages (setBoot { s1.boot with rebinds := s1.boot.rebinds.erase r } s1))) →
            ∀ s4, s4 = t.1.2.foldl (fun w x => zeroReleased x w) (r.changes.foldl (fun w c => giveBack c w)
              (live.foldl (fun w c => wr .distCfgState c.district (if c.action = 2 then 0 else 1) w) t.2)) →
            ∃ (res : Change → Nat) (s5 : State), runOne submitHeld r v = (r.changes.flatMap fun c => (getDistrict c.district s1).held).foldl
                (fun w x => submitHeld x w) (r.changes.foldl (fun w c => updDistrict c.district (fun x => { x with held := [] }) w) s5) ∧
              s5 = reply 0x0101 r.env ⟨0, 0, r.changes.flatMap fun c => natLe 2 (res c), []⟩ s4 ∧
              (∀ c ∈ r.changes, changeLost c s1 ≠ 0 → res c = changeLost c s1) ∧
              ∀ c ∈ r.changes, changeLost c s1 = 0 →
                res c = ((live.zip t.1.1).find? fun x => x.1.district == c.district).elim 0 (·.2)))) ∧
    exec (.prefixHandleCreate slot) s = .next (settle (createHandle slot.val s)) ∧
    (∀ x h n rest v0 vp cs s1, x = getStream slot s → x.freezes = (h, n) :: rest → (x.st = .ready ∨ x.st = .ending) →
      v0 = setStream slot { x with freezes := rest } s → underLimit x.district 1 v0 = true →
      findPage (vaultsOn x.district (rd .distCfgHome x.district v0) v0) false v0 = some vp →
      shareChains slot n ((chainsOf slot v0).map (·.1)) (takePage x.district vp.1 vp.2 (.district x.district) v0) = some (cs, s1) →
      ∃ t, exec (.prefixHandleCreate slot) s = .next (settle t) ∧ (getHandle h t).made = true ∧ (getHandle h t).district = x.district ∧
        (getHandle h t).len = n ∧ (getHandle h t).chains = cs ∧ (getHandle h t).refs = 1)

/-- A ROUND_BOUNDARY acts when this device issues markers or holds an accepted one, and else changes nothing; FLYWHEEL_OPEN acts exactly when it
does not. Where nothing else hangs on the boundary, a master's boundary raises ROUND by one, an accepted marker's gives ROUND its number and its
period, and a flywheel boundary raises ROUND by one and counts. A marker that comes on a port that is not upstream, or of a lower epoch, or under the
same epoch to a device that issues markers or for a round already named or open (the last is log 115), changes nothing; one that is accepted in time
is kept, with its epoch, and does not move ROUND; one that comes too late opens its round on arrival; one of a higher epoch deposes this device. The
standby takes over after three flywheel rounds, issuing under an epoch one above that of the last accepted marker, which ROUND.STATUS still
shows. With eight flywheel rounds every job is held from the next boundary.
COLOUR flips at rounds that ROTATE divides. -/
def Obligations.RoundRules : Prop :=
  ∀ (s : State) (port : FPortId) (m : Marker) (fwd : Nat),
    let up := port.val = rd .roundCfgUp 0 s % 32 ∨ port.val = rd .roundCfgUp 0 s / 32
    let old := epochNow s
    let plain := (∀ x ∈ s.districts, x.2.running = false ∧ x.2.ran = []) ∧ (∀ x ∈ s.sort.streams, x.2.wait = none) ∧ memberJobs s = []
    (issues s = true ∨ s.fab.marker ≠ none → exec .roundBoundary s = .next (settle (atBoundary roundBoundary s)) ∧
      exec .flywheelOpen s = .next (settle s)) ∧
    (issues s = false → s.fab.marker = none → exec .roundBoundary s = .next (settle s) ∧
      exec .flywheelOpen s = .next (settle (atBoundary flywheelOpen s))) ∧
    (plain → issues s = true → ∃ t, exec .roundBoundary s = .next (settle t) ∧ rd .roundCountRound 0 t = (roundNow s + 1) % 2 ^ 48) ∧
    (plain → issues s = false → ∀ k, s.fab.marker = some k → ∃ t, exec .roundBoundary s = .next (settle t) ∧
      rd .roundCountRound 0 t = k.round % 2 ^ 48 ∧ t.fab.period = k.period ∧ t.fab.marker = none ∧ t.fab.fly = 0) ∧
    (plain → issues s = false → s.fab.marker = none → ∃ t, exec .flywheelOpen s = .next (settle t) ∧
      rd .roundCountRound 0 t = (roundNow s + 1) % 2 ^ 48 ∧ t.fab.fly = s.fab.fly + 1) ∧
    (¬up ∨ m.epoch < old ∨ (m.epoch = old ∧ (issues s = true ∨ s.fab.marker ≠ none ∨ m.round = roundNow s)) →
      exec (.markerReceived port m fwd) s = .next (settle s)) ∧
    (up → m.epoch < 2 ^ 16 → old < m.epoch ∨ (m.epoch = old ∧ issues s = false ∧ s.fab.marker = none ∧ m.round ≠ roundNow s) →
      (markerLate port m fwd s = false → ∃ t, exec (.markerReceived port m fwd) s = .next (settle t) ∧ t.fab.marker = some m ∧
        rd .roundStatusEpoch 0 t = m.epoch ∧ rd .roundCountRound 0 t = rd .roundCountRound 0 s ∧
        (old < m.epoch → t.fab.deposed = true ∧ t.fab.acting = false)) ∧
      (markerLate port m fwd s = true → plain → ∃ t, exec (.markerReceived port m fwd) s = .next (settle t) ∧ t.fab.marker = none ∧
        rd .roundCountRound 0 t = m.round % 2 ^ 48 ∧ rd .roundStatusLate 0 t = 1)) ∧
    (rd .roundCfgStandby 0 s = ownFid s → issues s = false → s.fab.fly = 3 →
      ∃ t, exec .standbyTakeover s = .next t ∧ t.fab.acting = true ∧ t.fab.fly = 0 ∧
        t.fab.epoch = rd .roundStatusEpoch 0 s + 1 ∧ rd .roundStatusEpoch 0 t = rd .roundStatusEpoch 0 s) ∧
    (rd .roundCfgStandby 0 s ≠ ownFid s ∨ issues s = true ∨ s.fab.fly ≠ 3 → exec .standbyTakeover s = .next s) ∧
    (s.fab.fly < 8 → exec .beatLoss s = .next s) ∧
    (8 ≤ s.fab.fly → ∃ t, exec .beatLoss s = .next t ∧ (∀ j ∈ memberJobs s, (getJob j t).holdNext = true) ∧ ∀ f i, rd f i t = rd f i s) ∧
    (rd .thdevCfgRotate 0 s ≠ 0 → roundNow s % rd .thdevCfgRotate 0 s = 0 →
      exec .colourFlip s = .next (wr .thdevCfgColour 0 (1 - rd .thdevCfgColour 0 s) s)) ∧
    (rd .thdevCfgRotate 0 s = 0 ∨ roundNow s % rd .thdevCfgRotate 0 s ≠ 0 → exec .colourFlip s = .next s)

/-- At a step start point of an ACTIVE district with a parcel, the first of a round, in a device that is not stopping, a step that still runs
counts an overrun; where none runs what JOB and CIRC have left for the pass is taken, and then a job that holds counts an overrun and else a
step starts. STEP_COMPLETE with a part of the step outstanding changes nothing; with a shard that was never triggered the step fails;
with every draw posted it commits. A trigger semaphore below its count, or in a stop, changes nothing; at its count it falls by the count and the
shard's logits are taken, or the armed template operation is submitted. A stream without 64 deferrals for staging is not pre-empted; one with them starts its pre-emption, keeping a CANCEL that waits. Of the streams
of a look-ahead pass those stay listed whose chains are not ready.
A draw of a stream that is not due, or is drawn already, or with shards outstanding, or in a device that stops, changes nothing. A control block that cannot be read gives no
draw and fails the stream with 24; when every logit is minus infinity there is no draw; else the token with its probability enters the record. A
draw that an earlier step made and kept is not made again. The twin's acknowledgement, or the end of the wait for it, posts the token, and the
latter lapses the stream. -/
def Obligations.StepAndDrawRules : Prop :=
  (∀ (d : DistrictId) (slot : SlotId) (stage : StageId) (n : Nat) (s : State), let x := getDistrict d s
     (rd .distCfgState d s ≠ 1 ∨ bit .distCfgPv d s = false ∨ roundNow s < x.started ∨ stopping s = true → exec (.stepStartPoint d) s = .next (settle s)) ∧
     (rd .distCfgState d s = 1 → bit .distCfgPv d s = true → x.started ≤ roundNow s → stopping s = false →
       ∀ s1, s1 = setDistrict d { x with stepStart := s.now, started := roundNow s + 1 } s →
       (x.running = true → exec (.stepStartPoint d) s = .next (settle (bump .distStepOvrCount d s1))) ∧
       (x.running = false → ∀ s2, s2 = takeConfigs d s1 →
         (jobHolds d s2 = true → exec (.stepStartPoint d) s = .next (settle (bump .distStepOvrCount d s2))) ∧
         (jobHolds d s2 = false → exec (.stepStartPoint d) s = .next (settle (startStep d s2)) ∧
           (getDistrict d (startStep d s2)).running = true))) ∧
     (x.running = false ∨ partsDone d s = false → exec (.stepComplete d) s = .next (settle s)) ∧
     (x.running = true → partsDone d s = true →
       (x.armed ≠ [] → exec (.stepComplete d) s = .next (settle (failStep d false s))) ∧
       (x.armed = [] → drawsPosted d s = false → exec (.stepComplete d) s = .next (settle s)) ∧
       (x.armed = [] → drawsPosted d s = true → exec (.stepComplete d) s = .next (settle (commitStep d s)) ∧
         (getDistrict d (commitStep d s)).running = false)) ∧
     (∀ cfg sh, x.samp = some cfg → cfg.shards[n]? = some sh →
       (rd .coreSemValue (16 * sh.tcore + sh.sem) s < sh.count ∨ stopping s = true → exec (.samplingTrigger d n) s = .next (settle s)) ∧
       (x.running = true → stopping s = false → n ∈ x.armed → sh.count ≤ rd .coreSemValue (16 * sh.tcore + sh.sem) s →
         ∀ s2, s2 = updDistrict d (fun y => { y with armed := y.armed.erase n })
           (wr .coreSemValue (16 * sh.tcore + sh.sem) (rd .coreSemValue (16 * sh.tcore + sh.sem) s - sh.count) s) →
         ∀ r, r = readShard d sh (drawers d s2) s2 →
         (r.1 = none → exec (.samplingTrigger d n) s = .next (settle (addDue (.stepFail d) r.2))) ∧
         (∀ out, r.1 = some out → exec (.samplingTrigger d n) s =
           .next (settle (updDistrict d (fun y => { y with shardOut := y.shardOut ++ [(n, out)] }) r.2))))) ∧
     (∀ op, (stageE (parcelOf d s) stage).ops[n]? = some op →
       (rd .coreSemValue (16 * actor op.core s + op.sem) s < op.count → exec (.templateNmTrigger d stage n) s = .next (settle s)) ∧
       ((stage.val, n) ∈ x.armedOps → op.count ≤ rd .coreSemValue (16 * actor op.core s + op.sem) s →
         exec (.templateNmTrigger d stage n) s = .next (settle (nmSubmit (32 * siteOf (actor op.core s) + nEngine op.desc)
           { desc := op.desc, district := some d.val, who := .dispatcher d (16 * stage.val + n) }
           (setDistrict d { x with armedOps := x.armedOps.erase (stage.val, n) } (wr .coreSemValue (16 * actor op.core s + op.sem)
             (rd .coreSemValue (16 * actor op.core s + op.sem) s - op.count) s))))) ∧
       ((stage.val, n) ∈ x.armedOps → op.count ≤ rd .coreSemValue (16 * actor op.core s + op.sem) s →
         ∃ t, exec (.templateNmTrigger d stage n) s = .next (settle t) ∧
           (getDistrict d t).armedOps = x.armedOps.erase (stage.val, n))) ∧
     ((getStream slot s).st = .ready → 64 ≤ (getStream slot s).stag → exec (.stagingDeferPreempt slot) s =
       .next (settle (startPreempt slot none (updStream slot (fun y => { y with stag := 0 }) s)))) ∧
     ((getStream slot s).st = .ready → 64 ≤ (getStream slot s).stag → (getStream slot s).freezes = [] → ∃ t,
       exec (.stagingDeferPreempt slot) s = .next (settle t) ∧ getStream slot t =
         { getStream slot s with st := .preempting, pre := 2, preEnv := none, stag := 0 }) ∧
     ((getStream slot s).st ≠ .ready ∨ (getStream slot s).stag < 64 → exec (.stagingDeferPreempt slot) s = .next (settle s)) ∧
     (∃ t, exec (.lookaheadPass d) s = .next (settle t) ∧
       ∀ k, k ∈ (getDistrict d t).look → k ∈ x.look ∧ (getStream k t).st ≠ .free ∧ chainsReady k t = false) ∧
     (x.look = [] → ∃ t, exec (.lookaheadPass d) s = .next (settle t) ∧ t.sort = s.sort ∧ t.vaults = s.vaults ∧ ∀ f i, rd f i t = rd f i s)) ∧
  (∀ (slot : SlotId) (s : State), let x := getStream slot s
     let dx := getDistrict x.district s
     (dx.samp = none ∨ (slot.val ∉ drawers x.district s) ∨ x.drawn = true ∨ dx.armed ≠ [] ∨ stopping s = true → exec (.tokenDraw slot) s = .next (settle s)) ∧
     (∀ cfg, dx.samp = some cfg → slot.val ∈ drawers x.district s → x.drawn = false → dx.armed = [] → stopping s = false →
       ∀ c, c = cbWhole slot s →
       (c.1 = none → exec (.tokenDraw slot) s = .next (settle (noDraw slot 0 24 c.2))) ∧
       (∀ cb, c.1 = some cb →
         (∀ r, x.kept = some r → r.index = x.out → exec (.tokenDraw slot) s = .next (settle (applyDraw slot cb r false c.2))) ∧
         (∀ r, x.kept = none → (x.recorded.find? fun y => y.index == x.out) = some r → exec (.tokenDraw slot) s =
           .next (settle (applyDraw slot cb r true (setStream slot { x with recorded := x.recorded.erase r } c.2)))) ∧
         (x.kept = none → (∀ y ∈ x.recorded, y.index ≠ x.out) →
           ∀ rows, rows = cfg.shards.zipIdx.filterMap (fun p => (dx.shardOut.find? fun o => o.1 == p.2).bind fun o =>
             (o.2.find? fun y => y.1 == slot.val).map fun y => (p.1, y.2)) →
           (drawFrom x cb cfg.vocab rows = none → exec (.tokenDraw slot) s =
             .next (settle (noDraw slot (if specNat cb 57 1 / 16 % 2 = 1 then 6 else 7) 0 c.2))) ∧
           (∀ t cs, drawFrom x cb cfg.vocab rows = some (t, cs) → ∃ r, exec (.tokenDraw slot) s =
               .next (settle (applyDraw slot cb r true c.2)) ∧ r.index = x.out ∧ r.token = t.1 ∧
             r.alts.map (·.1) = (cs.take x.nalt).map (·.1) ∧
             r.code = (if stopCode x cb t.1 = 0 ∧ x.cancel = true then 5 else stopCode x cb t.1))))) ∧
     (x.wait = none → exec (.drawCopyAck slot) s = .next (settle s) ∧ exec (.drawWaitTimeout slot) s = .next (settle s)) ∧
     (∀ r, x.wait = some r → exec (.drawCopyAck slot) s = .next (settle (postDraw slot r s)) ∧
       exec (.drawWaitTimeout slot) s = .next (settle (lapse slot (postDraw slot r s)))))

/-- STREAM_END of a stream that is not ending, or whose end finds no room in its ring, changes nothing; else the stream's slot is free, and its site
counts an end. A pre-emption's image goes to the pool, or ends the stream with 23 when the pool has no place; a write of it or of its tag that
fails puts the stream back to READY; the tag frees the slot; ten milliseconds after an abort it begins again. A receipt is posted when its ring is enabled with room and the receipt
is closed: PROD rises by one; else nothing happens. The statement of the oldest ended interval takes the next number. -/
def Obligations.StreamLeaves : Prop :=
  ∀ (slot : SlotId) (r : RRingId) (s : State), let x := getStream slot s
    (x.st ≠ .ending → exec (.streamEnd slot) s = .next (settle s)) ∧
    (x.st = .ending → x.endRec = false → bit .dringCfgEn x.ring s = true → ringFree x.ring s = 0 → exec (.streamEnd slot) s = .next (settle s)) ∧
    (x.st = .ending → x.endRec = true →
      ∃ t, exec (.streamEnd slot) s = .next (settle t) ∧ (getStream slot t).st = .free ∧ rd .sositeEndedCount (slot.val / 4096) t =
        min (rd .sositeEndedCount (slot.val / 4096) s + 1) (2 ^ (regInfo .sositeEndedCount).w - 1)) ∧
    (x.st = .preempting → x.pre = 2 → ∀ r, r = imageOf slot s →
      ((getStream slot r.2).fault ≠ 0 → exec (.preemptionWriteout slot true) s = .next (settle r.2)) ∧
      ((getStream slot r.2).fault = 0 → poolPlace r.1.len r.2 = none →
        exec (.preemptionWriteout slot true) s = .next (settle (beginEnd slot 23 r.2))) ∧
      (∀ p a, (getStream slot r.2).fault = 0 → poolPlace r.1.len r.2 = some (p, a) →
        ∃ t, exec (.preemptionWriteout slot true) s = .next (settle t) ∧
        getStream slot t = { getStream slot r.2 with pre := 3 } ∧
        (getDistrict x.district t).preempted = (getDistrict x.district r.2).preempted ++ [{ r.1 with port := p, addr := a }])) ∧
    (x.st = .preempting → (x.pre = 2 → ∃ t, exec (.preemptionWriteout slot false) s = .next (settle t) ∧
        (getStream slot t).st = .ready ∧ (getStream slot t).pre = 4) ∧
      (x.pre = 3 → ∃ t, exec (.preemptionWriteout slot false) s = .next (settle t) ∧
        (getStream slot t).st = .ready ∧ (getStream slot t).pre = 4)) ∧
    (x.st = .preempting → x.pre = 3 → ∃ t, exec (.preemptionTag slot) s = .next (settle t) ∧ (getStream slot t).st = .free) ∧
    (x.st ≠ .preempting → exec (.preemptionTag slot) s = .next (settle s) ∧ ∀ ok, exec (.preemptionWriteout slot ok) s = .next (settle s)) ∧
    (x.pre = 4 → exec (.preemptionRetry slot) s = .next (settle (startPreempt slot x.preEnv s))) ∧
    (x.pre = 4 → x.st = .ready → x.freezes = [] → ∃ t, exec (.preemptionRetry slot) s = .next (settle t) ∧
      getStream slot t = { x with st := .preempting, pre := 2 }) ∧
    (x.pre ≠ 4 → exec (.preemptionRetry slot) s = .next (settle s)) ∧
    (∀ h, (s.sort.held.find? fun h => h.ring == r.val) = some h →
      (h.opened.isSome = true ∨ bit .rringCfgEn r s = false → exec (.receiptPost r) s = .next s) ∧
      (h.opened = none → bit .rringCfgEn r s = true →
        (rd .rringProdIndex r s + 2 ^ 17 - rd .rringConsIndex r s) % 2 ^ 17 < 2 ^ rd .rringCfgLog2size r s →
        ∃ t, exec (.receiptPost r) s = .next t ∧ t.sort.held = s.sort.held.erase h ∧ (r.val ≠ 256 → t.sort.posts = s.sort.posts + 1) ∧
          rd .rringProdIndex r t = (rd .rringProdIndex r s + 1) % 2 ^ 17 ∧
          ∀ f i, f ≠ .rringProdIndex → f ≠ .energyStatHeld → f ≠ .rringStatusHeld → rd f i t = rd f i s)) ∧
    ((∀ h ∈ s.sort.held, h.ring ≠ r.val) → exec (.receiptPost r) s = .next s) ∧
    (s.power.ended = [] → exec .statementIssue s = .next s) ∧
    (∀ i rest, s.power.ended = i :: rest → ∃ t, exec .statementIssue s = .next t ∧ t.power.ended = rest ∧
      rd .energySseqNext 0 t = (rd .energySseqNext 0 s + 1) % 2 ^ 64)

/-- The append at the head of a site's queue: refused with the first failing check, its code shown in LAST_REFUSE and counted; waiting while its page
opens; written when its pages stand; and refused with NOSPACE when it fails for pages. An opening that ends gives the page its zeros, its header and
its map entry. A page that returns with its own header stands in its new place, and one that returns with poison fails the stream's page; a spill that is not under way changes nothing, and one
whose write fails leaves its page in the site and the place out of use. A site whose spilling cannot meet the need pre-empts one stream at a time. -/
def Obligations.KvRules : Prop :=
  ∀ (site : SiteId) (slot : SlotId) (c j : Nat) (s : State),
    ((getKv site s).queue = [] → exec (.kvAppend site) s = .next (settle (wakeSite site s)) ∧
      exec (.chainOpenFailure site) s = .next (settle (wakeSite site s))) ∧
    (∀ a rest, (getKv site s).queue = a :: rest →
      ∀ x w ch pg, x = getStream (apSlot a.desc) s → w = kvWord x.district s → ch = apLayer a.desc * kNg w + apHgrp a.desc →
        pg = apToken a.desc / kTpp w →
      (kvCheck site a s ≠ 0 → exec (.kvAppend site) s = .next (settle (wakeSite site (popAppend site
          (refuseAppend site a (kvCheck site a s) s)))) ∧
        exec (.chainOpenFailure site) s = .next (settle (wakeSite site s))) ∧
      (kvCheck site a s = 0 →
        (appendRoom a ch pg s = none → exec (.kvAppend site) s = .next (settle (wakeSite site s)) ∧
          exec (.chainOpenFailure site) s = .next (settle (wakeSite site (popAppend site (refuseAppend site a 7 s))))) ∧
        (∀ u, appendRoom a ch pg s = some u → exec (.chainOpenFailure site) s = .next (settle (wakeSite site s)) ∧
          (((getChain (apSlot a.desc) ch u).pages.getD pg {}).opening = true → exec (.kvAppend site) s =
            .next (settle (wakeSite site u))) ∧
          (((getChain (apSlot a.desc) ch u).pages.getD pg {}).opening = false → exec (.kvAppend site) s =
            .next (settle (wakeSite site (popAppend site (bump .kvsiteCnt0Appends site (putAppend a ch pg u)))))) ∧
          (((getChain (apSlot a.desc) ch u).pages.getD pg {}).opening = false → ∃ t, exec (.kvAppend site) s =
            .next (settle (wakeSite site t)) ∧ (getKv site t).queue = rest)))) ∧
    (∀ a code, code < 8 → rd .kvsiteLastRefuseCode site (refuseAppend site a code s) = code ∧
      rd .kvsiteLastRefuseSlot site (refuseAppend site a code s) = apSlot a.desc % 2 ^ 18 ∧
      (getKv site (popAppend site s)).queue = (getKv site s).queue.tail) ∧
    (((getChain slot c s).pages.getD j {}).opening = false → exec (.chainPageOpen slot c j) s = .next (settle s)) ∧
    (((getChain slot c s).pages.getD j {}).opening = true → ∀ p w, p = (getChain slot c s).pages.getD j {} →
      w = kvWord (getStream slot s).district s → ∀ lsr,
      lsr = (if (getChain slot c s).attend.contains j = true then (getChain slot c s).round % 2 ^ 32 else 0) →
      exec (.chainPageOpen slot c j) s = .next (settle (writeEntry (getStream slot s).district (kvPageVpn (getStream slot s) w c j)
        (pteOf p.vault p.page false false) (writeHeader slot c j (pcWrite slot p.pcloc (natLe 4 lsr ++ (pcOpen w).drop 4)
          (zeroPage p.vault p.page (updPage slot c j (fun q => { q with opening := false }) s)))))) ∧
      ∃ t, exec (.chainPageOpen slot c j) s = .next (settle t) ∧ ((getChain slot c t).pages.getD j {}).opening = false) ∧
    (spillNeeded site s = false → ∃ t, exec (.spillStart site) s = .next (settle t) ∧ t = setSpilling site false s ∧
      rd .kvsiteStatusSpilling site t = 0) ∧
    (∀ s1, s1 = (List.range 64).foldl (fun u _ => spillOne site u) (setSpilling site true s) → spillNeeded site s = true →
      (spillStuck site s1 = false ∨ sitePreempting site s1 = true → exec (.spillStart site) s = .next (settle s1) ∧
        rd .kvsiteStatusSpilling site s1 = 1) ∧
      (spillStuck site s1 = true → sitePreempting site s1 = false →
        (spillVictim site s1 = none → exec (.spillStart site) s = .next (settle s1)) ∧
        (∀ k, spillVictim site s1 = some k → exec (.spillStart site) s = .next (settle (startPreempt k none s1))))) ∧
    (∀ l, ((getChain slot c s).pages.getD j {}).spilling = some l → ∃ t, exec (.spillWriteDone slot c j false) s = .next (settle t) ∧
      ((getChain slot c t).pages.getD j {}).spilling = none ∧ ((getChain slot c t).pages.getD j {}).spilled =
        ((getChain slot c s).pages.getD j {}).spilled ∧ (getKv (siteOf (getChain slot c s).home) t).prBad =
        (getKv (siteOf (getChain slot c s).home) s).prBad ++ [l]) ∧
    (∀ ok u, u = spillDone slot c j ok s → exec (.spillWriteDone slot c j ok) s = .next (settle
      (if spillNeeded (siteOf (getChain slot c s).home) u = true then u
        else setSpilling (siteOf (getChain slot c s).home) false u))) ∧
    (((getChain slot c s).pages.getD j {}).spilling = none → ∀ ok, spillDone slot c j ok s = s) ∧
    (((getChain slot c s).pages.getD j {}).back = none ∨ ((getChain slot c s).pages.getD j {}).spilled = none →
      ∀ poison, exec (.pageReturn slot c j poison) s = .next (settle s)) ∧
    (∀ v q l, ((getChain slot c s).pages.getD j {}).back = some (v, q) → ((getChain slot c s).pages.getD j {}).spilled = some l →
      (exec (.pageReturn slot c j true) s = .next (settle (failPage (siteOf (getChain slot c s).home) slot (awayPage c j) 24
        (updPage slot c j (fun y => { y with back := none }) (freePage (getStream slot s).district v q s)))) ∧
        ∃ t, exec (.pageReturn slot c j true) s = .next (settle t) ∧ ((getChain slot c t).pages.getD j {}).back = none ∧
          ((getStream slot s).bad.contains (awayPage c j) = false → (getStream slot s).fault = 0 → (getStream slot t).fault = 24)) ∧
      (∀ bs, bs = mread s.sort.pr (prAddr l) 65536 → headerMatches slot c j bs s = true →
        exec (.pageReturn slot c j false) s = .next (settle (advanceChain slot c (showPr (siteOf (getChain slot c s).home)
          (bump .kvsiteCnt2Returns (siteOf (getChain slot c s).home)
            (updPage slot c j (fun y => { y with back := none, spilled := none, vault := v, page := q })
              (writeEntry (getStream slot s).district (kvPageVpn (getStream slot s) (kvWord (getStream slot s).district s) c j)
                (pteOf v q false false) (kvWrite slot v (65536 * q) bs (zeroPage v q s)))))))))) ∧
    (∀ (port : HPortId) exp, s.sort.chains = [] → ∃ t, exec (.expanderLost port exp) s = .next (settle t) ∧
      t.sort.exps = s.sort.exps.map (fun e => if e.1 = port.val ∧ (∀ k, exp = some k → e.2.1 = k) then (e.1, e.2.1, e.2.2.1, true) else e) ∧
      ∀ k < 64, rd .kvsitePrShare k t = ((t.sort.exps.filter fun e => !e.2.2.2).map shareOf).sum % 2 ^ (regInfo .kvsitePrShare).w)

/-- A link to a device of the same FID is held down; any other comes up as x8 or x4 with the peer and the delay shown. Lanes failed in both halves take
the port down, in one half leave it retraining, and a port that is down stays so. A replay is counted. On a port that carries no traffic a
packet goes no further. One at its destination is consumed: the twin's answer to a copy, nine bytes, acts on the copy's stream (log 11), a
refusal ending its resynchronisation; any other changes nothing here. One without a route is counted and discarded; one with routes goes to
one of its egress ports, is discarded with UNREACH where no way leads to that port, waits while a route change or the port's retraining
holds it, and is else forwarded as it came. A frame on an ETHERNET port is passed on when it is within rate and length, and counted when beyond the rate. An overdue acknowledgement halts a BUSY transfer
with REMOTE_ERROR (12), lapses a copy's stream, or fails the step of a circulating job. -/
def Obligations.LinkRules : Prop :=
  ∀ (p : FPortId) (fid src : BitVec 10) (serial : BitVec 128) (delay : BitVec 17) (x4 pr : Bool) (failed : BitVec 8) (body : List Byte)
    (len : Nat) (s : State),
    (rd .nolucpPortMode p s ≠ 1 → exec (.fabricLinkUp p fid serial delay x4 pr) s = .next (settle s)) ∧
    (rd .nolucpPortMode p s = 1 → fid.toNat = ownFid s → exec (.fabricLinkUp p fid serial delay x4 pr) s =
      .next (settle (note 255 p fid.toNat 0 (portLost (wr .nolucpPortState p 0 s))))) ∧
    (rd .nolucpPortMode p s = 1 → fid.toNat ≠ ownFid s → ∃ t, exec (.fabricLinkUp p fid serial delay x4 pr) s =
        .next (settle (formPair pr (showTwinPorts t))) ∧ rd .nolucpPortState p t = (if x4 = true then 3 else 2) ∧
      rd .nolucpPortPeer p t = fid.toNat ∧ rd .nolucpPortDelay p t = delay.toNat ∧ tget noSerial t.fab.serials p = serial.toNat) ∧
    (rd .nolucpPortMode p s = 1 → rd .nolucpPortState p s ≠ 0 → failed ≠ 0#8 → bit .twinCfgPaired 0 s = false →
      ∃ t, exec (.fabricLaneFail p failed) s = .next (settle t) ∧
        (∀ f i, f ∉ [Reg.twinStatusPorts, .nolucStatusUnrouted, .netStatusUnreach] → rd f i t = if f = .nolucpPortState ∧ i = p.val then (if bothHalves failed.toNat = true then 0 else 1)
          else rd f i s)) ∧
    (rd .nolucpPortMode p s ≠ 1 ∨ rd .nolucpPortState p s = 0 ∨ failed = 0#8 → exec (.fabricLaneFail p failed) s = .next (settle s)) ∧
    (∃ t, exec (.fabricFlitReplay p) s = .next t ∧ (∀ f i, f ≠ .nolucpPortReplay ∨ i ≠ p.val → rd f i t = rd f i s) ∧
      rd .nolucpPortReplay p t = min (rd .nolucpPortReplay p s + 1) (2 ^ 32 - 1)) ∧
    (portUp p s = false → exec (.transportPacket p fid src body) s = .next s) ∧
    (portUp p s = true → fid.toNat = ownFid s →
      (bit .twinCfgPaired 0 s = false ∨ src.toNat ≠ rd .twinCfgPeer 0 s ∨ body.length ≠ 9 → exec (.transportPacket p fid src body) s = .next s) ∧
      (bit .twinCfgPaired 0 s = true → src.toNat = rd .twinCfgPeer 0 s → body.length = 9 →
        exec (.transportPacket p fid src body) s = .next (copyAcked (leNat (body.take 8)) (leNat (body.drop 8)) s))) ∧
    (∀ id st, (∀ x ∈ s.sort.streams, x.2.st = .free ∨ x.2.shadow = true ∨ x.2.id ≠ id) → copyAcked id st s = s) ∧
    (∀ id st k x, (s.sort.streams.find? fun x => x.2.st != .free && !x.2.shadow && x.2.id == id) = some (k, x) →
      (st ≠ 0 → copyAcked id st s = lapse k (updStream k (fun y => { y with resync := false, resynced := false }) s)) ∧
      (st = 0 → copyAcked id st s = if x.resync = true then updStream k (fun y => { y with resynced := true }) s else s)) ∧
    (portUp p s = true → fid.toNat ≠ ownFid s →
      (egress fid.toNat s = [] → exec (.transportPacket p fid src body) s = .next (bump .nolucStatusUnrouted 0 s)) ∧
      (egress fid.toNat s ≠ [] → ∃ q ∈ egress fid.toNat s, ∀ a b, a = fabricPortSite p s → b = fabricPortSite q s →
        (s.net.out.contains b = true ∨ unreachable a b s = true →
          exec (.transportPacket p fid src body) s = .next (flag .netStatusUnreach a s)) ∧
        (s.net.out.contains b = false → unreachable a b s = false →
          (pathHeld a b s = true ∨ rd .nolucpPortState q s = 1 → exec (.transportPacket p fid src body) s =
            .next { s with fab := { s.fab with packets := s.fab.packets ++ [(a, q, .forward q fid.toNat src.toNat body)] } }) ∧
          (pathHeld a b s = false → rd .nolucpPortState q s ≠ 1 → exec (.transportPacket p fid src body) s =
            .next (emit (.forward q fid.toNat src.toNat body) s))))) ∧
    (rd .nolucpPortMode p s ≠ 2 → ∀ o, exec (.ethernetFrame p len o) s = .next s) ∧
    (rd .nolucpPortMode p s = 2 → exec (.ethernetFrame p len true) s = .next (bump .nolucpPortReplay p s) ∧
      (len ≤ 9216 → exec (.ethernetFrame p len false) s = .next (emit (.frame p len) s)) ∧
      (9216 < len → exec (.ethernetFrame p len false) s = .next s)) ∧
    (∀ (g : CoreId) (ch : ChanId), (getChan ch (getCore g s)).st = .busy → exec (.transportAckTimeout (.dma g ch)) s = .next (settle (endDma g ch 12 s))) ∧
    (∀ k : SlotId, exec (.transportAckTimeout (.copy k)) s = .next (settle (lapse k s))) ∧
    (∀ j : JobId, bit .jobCfgMember j s = true → exec (.transportAckTimeout (.circ j)) s =
      .next (settle (addDue (.stepFail (rd .jobCfgDistrict j s)) s)))

/-- A slow request, a STEPDONE or a heartbeat is taken by a device that issues markers or is a member of the job, and dropped by any other; a
request of 0 MHz withdraws; a STEPDONE clears what its member owed and names it in LAGDEV. A split is declared only with a member cut off or
silent, holds the job from the next boundary, fails the step of a job that circulates, and has the lease device ask the arbiter for a grant
over the members it can reach. An expired lease clears LEASED and holds the job too, and the standby lease device asks. A lease device
renews by asking, and relays the grant it holds. A relayed grant counts only if its checks pass. A hold that lasts 60 s fails the job's
district with EPOCH_LOST.
A job's grant is refused with SIGNATURE (14) without an enrolled key's signature, JOB_STATE (53) for a job that the device is no member of,
and LEASE (16) when it has expired or its epoch is below the last. Taking one that names this device leases the job with the grant's epoch
and expiry, and announces a hold where the membership does not cover every JOBIDX. One that leaves the device out, of a membership that is
whole, ends the membership with EPOCH_LOST where its epoch is higher, leaving the lease as it was, and changes nothing else where it is not;
of a membership that is not whole, no half goes on: the job holds and keeps lease and epoch. -/
def Obligations.JobAndLeaseRules : Prop :=
  (∀ (j : JobId) (fid : BitVec 10) (cause : Fin 4) (mhz : BitVec 11) (g : List Byte) (s : State),
     (hears j s = (issues s || bit .jobCfgMember j s)) ∧
     (hears j s = false → exec (.slowRequest j fid cause mhz) s = .next s ∧ exec (.stepdone j fid) s = .next s ∧
       exec (.stepHeartbeat j fid) s = .next s) ∧
     (hears j s = true → ∃ t, exec (.slowRequest j fid cause mhz) s = .next t ∧ (getJob j t).reqs =
         ((getJob j s).reqs.filter fun r => !(r.1 == fid.toNat && r.2.1 == cause.val)) ++
           (if mhz = 0#11 then [] else [(fid.toNat, cause.val, mhz.toNat)]) ∧ ∀ f i, rd f i t = rd f i s) ∧
     (hears j s = true →
       (∃ t, exec (.stepdone j fid) s = .next t ∧ (getJob j t).owed = (getJob j s).owed.filter (· ≠ fid.toNat) ∧
         (getJob j t).missed = (getJob j s).missed.filter (·.1 ≠ fid.toNat) ∧ rd .jobStatusLagdev j t = fid.toNat ∧
         bit .jobStatusLagv j t = true ∧ ∀ f i, f ≠ .jobStatusLagdev → f ≠ .jobStatusLagv → rd f i t = rd f i s) ∧
       (∃ t, exec (.stepHeartbeat j fid) s = .next t ∧ (getJob j t).missed = (getJob j s).missed.filter (·.1 ≠ fid.toNat) ∧
         (getJob j t).owed = (getJob j s).owed ∧ ∀ f i, rd f i t = rd f i s)) ∧
     (bit .jobCfgMember j s = false ∨ (memberCut j s = false ∧ beatsMissed j s = false) → exec (.splitDeclare j) s = .next (settle s)) ∧
     (bit .jobCfgMember j s = true → memberCut j s = true ∨ beatsMissed j s = true →
       ∃ t, exec (.splitDeclare j) s = .next (settle t) ∧ (getJob j t).holdNext = true ∧ (getJob j t).freeNext = false ∧
         (∀ f i, rd f i t = rd f i s) ∧ t.due = s.due ++ (if (getJob j s).circ.isSome = true then [.stepFail (rd .jobCfgDistrict j s)] else []) ∧
         t.outbox = s.outbox ++ (if rd .jobCfgLeasedev j s = ownFid s then [.leaseAsk s.boot.flash.arbiter j (rd .jobStatusEpoch j s) (reachable j s)] else [])) ∧
     (bit .jobCfgMember j s = false ∨ rd .jobCfgLeasedev j s ≠ ownFid s → exec (.leaseRenewal j) s = .next s) ∧
     (bit .jobCfgMember j s = true → rd .jobCfgLeasedev j s = ownFid s → (getJob j s).lease = none →
       exec (.leaseRenewal j) s = .next (emit (.leaseAsk s.boot.flash.arbiter j (rd .jobStatusEpoch j s) (reachable j s)) s)) ∧
     (∀ l, bit .jobCfgMember j s = true → rd .jobCfgLeasedev j s = ownFid s → (getJob j s).lease = some l →
       exec (.leaseRenewal j) s = .next (relayGrant j l.raw (emit (.leaseAsk s.boot.flash.arbiter j (rd .jobStatusEpoch j s) (reachable j s)) s))) ∧
     ((grantCheck g s).status = 0 → exec (.leaseRelay g) s = .next (settle (takeGrant g s))) ∧
     ((grantCheck g s).status = 0 → gNat g 0 1 = 1 → ownFid s ∈ grantMembers g (getJob (gNat g 1 1) s).members.length →
       ∃ t, exec (.leaseRelay g) s = .next (settle t) ∧ bit .jobStatusLeased (gNat g 1 1) t = true ∧
         rd .jobStatusEpoch (gNat g 1 1) t = gNat g 2 2) ∧
     ((grantCheck g s).status ≠ 0 → exec (.leaseRelay g) s = .next (settle s)) ∧
     (bit .jobCfgMember j s = true → bit .jobStatusLeased j s = true → ∃ t, exec (.leaseExpiry j) s = .next t ∧
       bit .jobStatusLeased j t = false ∧ (getJob j t).holdNext = true ∧ t.outbox = s.outbox ++ (if rd .jobCfgLeasesb j s = ownFid s
         then [.leaseAsk s.boot.flash.arbiter j (rd .jobStatusEpoch j s) (reachable j s)] else []) ∧ ∀ f i, f ≠ .jobStatusLeased ∨ i ≠ j.val → rd f i t = rd f i s) ∧
     (bit .jobCfgMember j s = false ∨ bit .jobStatusLeased j s = false → exec (.leaseExpiry j) s = .next s) ∧
     (bit .jobCfgMember j s = true → bit .jobStatusHold j s = true → exec (.splitHoldTimeout j) s =
       .next (settle (failDistrict (rd .jobCfgDistrict j s) 35 false s))) ∧
     (bit .jobCfgMember j s = true → bit .jobStatusHold j s = true → ∀ d, d = rd .jobCfgDistrict j s → rd .distCfgState d s = 1 →
       s.sort.streams = [] → ∃ t, exec (.splitHoldTimeout j) s = .next (settle t) ∧ rd .distCfgState d t = 3) ∧
     (bit .jobCfgMember j s = false ∨ bit .jobStatusHold j s = false → exec (.splitHoldTimeout j) s = .next (settle s))) ∧
  (∀ (g : List Byte) (s : State), gNat g 0 1 = 1 → gNat g 1 1 < 64 →
     (grantSigned g s = false → (grantCheck g s).status = 14) ∧
     (grantSigned g s = true → gNat g 8 8 ≤ gNat g 16 8 + 1500000000 →
       (bit .jobCfgMember (gNat g 1 1) s = false → (grantCheck g s).status = 53) ∧
       (bit .jobCfgMember (gNat g 1 1) s = true →
         ((grantCheck g s).status = 16 ↔ gNat g 8 8 ≤ s.now ∨ gNat g 2 2 < rd .jobStatusEpoch (gNat g 1 1) s) ∧
         ((grantCheck g s).status = 0 ↔ s.now < gNat g 8 8 ∧ rd .jobStatusEpoch (gNat g 1 1) s ≤ gNat g 2 2))) ∧
     (let x := getJob (gNat g 1 1) s
      let whole := grantCovers g x.members.length
      (ownFid s ∈ grantMembers g x.members.length →
       rd .jobStatusEpoch (gNat g 1 1) (takeGrant g s) = gNat g 2 2 ∧ bit .jobStatusLeased (gNat g 1 1) (takeGrant g s) = true ∧
       getJob (gNat g 1 1) (takeGrant g s) = { x with
         lease := some ⟨gNat g 2 2, gNat g 8 8, grantMembers g x.members.length, g⟩, holdNext := !whole,
         freeNext := whole && bit .jobStatusHold (gNat g 1 1) s } ∧
       ∀ f i, f ≠ .jobStatusEpoch → f ≠ .jobStatusLeased → rd f i (takeGrant g s) = rd f i s) ∧
      (ownFid s ∉ grantMembers g x.members.length →
       (whole = false → takeGrant g s = setJob (gNat g 1 1) { x with holdNext := true, freeNext := false } s) ∧
       (whole = true →
         (gNat g 2 2 ≤ rd .jobStatusEpoch (gNat g 1 1) s → takeGrant g s = s) ∧
         (rd .jobStatusEpoch (gNat g 1 1) s < gNat g 2 2 →
           rd .jobStatusEpoch (gNat g 1 1) (takeGrant g s) = gNat g 2 2 ∧ getJob (gNat g 1 1) (takeGrant g s) = x ∧
           (takeGrant g s).due = s.due ++ [.districtFail (rd .jobCfgDistrict (gNat g 1 1) s) 35 false])))))

/-- A DRAW, STEP, SEAL, FREEZE or END copy for a STREAM_ID without a shadow, or whose mirror district takes no copies, changes nothing. For a
shadow that takes them: a DRAW copy is recorded in place of an earlier one of the same index; a STEP copy is applied whole and acknowledged
with 0, or refused with 31 with the shadow as it was; a SEAL copy keeps the shadow as what a failover goes on from and drops the draws of
sealed steps; a FREEZE copy with a handle in use or too many tokens is refused with 43, and else makes the handle or is refused with 31; an
END copy frees the shadow and is acknowledged. A SUBMIT copy in a district that takes copies frees an earlier shadow of its STREAM_ID, and
places the shadow and is acknowledged with 0, or is answered with what refuses it. The expiry of the primary's device lease fails over the
mirror districts of every shadow; an unpaired device ignores it.
FAILOVER_ACTIVATE without a running failover changes nothing; with one, the shadows of its districts that are known to have lapsed are freed and
the others become streams, its districts are no longer handed over nor mirrored, FAILOVER is clear and the recovery ends. TWIN_RESYNC of a stream that
has not lapsed, or is being sent, changes nothing, and else marks it as being sent and sends its state. -/
def Obligations.TwinAndFailoverRules : Prop :=
  (∀ (d : DistrictId) (id : Word64) (m : DrawMsg) (c : StepCopy) (round : BitVec 48) (h : BitVec 12) (n : Nat) (sp ctl : List Byte) (s : State),
     (shadowOf id.toNat s = none ∨ (∃ k, shadowOf id.toNat s = some k ∧ acceptsCopies (getStream k s).district s = false) →
       exec (.drawCopy id m) s = .next s ∧ exec (.stepCopy id c) s = .next (settle s) ∧ exec (.sealCopy id round) s = .next (settle s) ∧
       exec (.freezeCopy id h n) s = .next (settle s) ∧ exec (.endCopy id) s = .next (settle s)) ∧
     (∀ k x, shadowOf id.toNat s = some k → x = getStream k s → acceptsCopies x.district s = true →
       (∃ t, exec (.drawCopy id m) s = .next t ∧ (getStream k t).recorded = x.recorded.filter (fun y => y.index != m.index) ++
         [⟨m.index, m.token, m.logp, m.alts, m.code, roundNow s⟩] ∧ ∀ f i, f ≠ .netStatusUnreach → rd f i t = rd f i s) ∧
       (readyChains k c c.homes s = none → exec (.stepCopy id c) s = .next (settle (ackCopy id.toNat 31 s))) ∧
       (∀ t1, readyChains k c c.homes s = some t1 → ∃ t, exec (.stepCopy id c) s = .next (settle (ackCopy id.toNat 0 t)) ∧
         (getStream k t).pos = c.pos ∧ (getStream k t).out = c.out ∧ (getStream k t).token = c.token ∧ (getStream k t).lastadm = c.lastadm) ∧
       (∃ t, exec (.sealCopy id round) s = .next (settle (ackCopy id.toNat 0 t)) ∧ (getStream k t).snap = some (snapOf k round.toNat s) ∧
         (getStream k t).recorded = x.recorded.filter (fun r => decide (x.out ≤ r.index)) ∧ ∀ f i, rd f i t = rd f i s) ∧
       (n = 0 ∨ x.pos < n ∨ (getHandle h.toNat s).used = true → exec (.freezeCopy id h n) s = .next (settle (ackCopy id.toNat 43 s))) ∧
       (n ≠ 0 → n ≤ x.pos → (getHandle h.toNat s).used = false → ∃ t, exec (.freezeCopy id h n) s =
         .next (settle (ackCopy id.toNat (if (getHandle h.toNat t).made = true then 0 else 31) t))) ∧
       exec (.endCopy id) s = .next (settle (ackEnd id.toNat (freeStream k s))) ∧ (getStream k (freeStream k s)).st = .free) ∧
     (acceptsCopies d s = false → exec (.submitCopy d id sp ctl) s = .next (settle s)) ∧
     (acceptsCopies d s = true → ∀ s0, s0 = (match shadowOf id.toNat s with | some k => freeStream k s | none => s) →
       (shadowCheck d (sp ++ List.replicate 4032 0) s0 ≠ 0 → exec (.submitCopy d id sp ctl) s =
         .next (settle (ackCopy id.toNat (shadowCheck d (sp ++ List.replicate 4032 0) s0) s0))) ∧
       (shadowCheck d (sp ++ List.replicate 4032 0) s0 = 0 →
         ∀ r, r = placeStream d id.toNat (sp ++ List.replicate 4032 0) true s0 →
         (r.1.1 ≠ 0 → exec (.submitCopy d id sp ctl) s = .next (settle (ackCopy id.toNat r.1.1 s0))) ∧
         (r.1.1 = 0 → ∃ t, exec (.submitCopy d id sp ctl) s = .next (settle (ackCopy id.toNat 0 t)) ∧
           (getStream r.1.2 t).reg = true ∧ (getStream r.1.2 t).snap.isSome = true))) ∧
     (bit .twinCfgPaired 0 s = false → exec .deviceLeaseExpiry s = .next (settle s)) ∧
     (bit .twinCfgPaired 0 s = true → exec .deviceLeaseExpiry s = .next (settle (triggerFailover
       (((s.sort.streams.filter fun x => x.2.st != .free && x.2.shadow).map fun x => x.2.district).dedup) s))) ∧
     (bit .twinCfgPaired 0 s = true → s.faults.running = none → ∃ t, exec .deviceLeaseExpiry s = .next (settle t) ∧
       ∀ x ∈ s.sort.streams, x.2.st ≠ .free → x.2.shadow = true → rd .distCfgState x.2.district s ≠ 0 → x.2.district ∈ t.fab.handed)) ∧
  (∀ (lapsed : List Nat) (slot : SlotId) (s : State), let x := getStream slot s
     (s.faults.running = none ∨ (∃ r, s.faults.running = some r ∧ r.kind ≠ 7) →
       exec (.failoverActivate lapsed) s = .next (settle (startWaiting (settle s)))) ∧
     (∀ r, s.faults.running = some r → r.kind = 7 →
       ∀ s1, s1 = (r.districts.flatMap fun d => shadowsOf d s).foldl
         (fun u k => if k ∈ lapsed then freeStream k u else activateShadow k u) s →
       exec (.failoverActivate lapsed) s = .next (settle (startWaiting (settle (finishRecovery (wr .twinStatusFailover 0 0 (setFab { s1.fab with
         handed := s1.fab.handed.filter fun d => !r.districts.contains d,
         mirrors := s1.fab.mirrors.filter fun m => !r.districts.contains m.1 } s1)))))) ∧
       ∃ t, exec (.failoverActivate lapsed) s = .next (settle (startWaiting (settle t))) ∧ rd .twinStatusFailover 0 t = 0 ∧
         t.faults.running = none) ∧
     (x.st = .free ∨ x.st = .ending ∨ x.lapsed = false ∨ x.resync = true ∨ mirrored x.district s = false ∨ rd .twinStatusPorts 0 s = 0 →
       exec (.twinResync slot) s = .next s) ∧
     (x.st ≠ .free → x.st ≠ .ending → x.lapsed = true → x.resync = false → mirrored x.district s = true → rd .twinStatusPorts 0 s ≠ 0 →
       ∀ u, u = (imageOf slot s).2 → ∃ t, exec (.twinResync slot) s = .next t ∧
         getStream slot t = { getStream slot u with resync := true } ∧ ∀ f i, f ≠ .netStatusUnreach → rd f i t = rd f i u))

/-- A device that is no member of the job, or whose job does not circulate, drops blocks, queries and partial states; a third block is not taken.
A block that is taken has one hop more, counts at the letter's semaphore and is acknowledged to the member before, and one that has made its
last hop is not forwarded. A query is kept in place of an earlier one of the stream. A partial state is merged with this device's own: it
stays here after its last hop, and else goes to the next device of the ring. A send takes the oldest block still to be forwarded, or this
member's own of a running stream's chain; where no way leads to a port of the ring the packet is discarded with UNREACH at the home site, and
else goes out under the flow's next sequence number, in pieces of at most 4,096 bytes. -/
def Obligations.CirculationRules : Prop :=
  ∀ (j : JobId) (b : CircBlock) (sig : CircSem) (stream : Word64) (pos : Nat) (q : List Byte) (p own : Partial) (s : State), let x := getJob j s
    let home := rd .distCfgHome (rd .jobCfgDistrict j s) s
    (bit .jobCfgMember j s = false ∨ x.circ = none → exec (.circBlockReceived j b sig) s = .next (settle s) ∧
      exec (.circQueryReceived j stream pos q own) s = .next s ∧ exec (.partialStateReceived j p own) s = .next s) ∧
    (bit .jobCfgMember j s = false → ∀ o k, exec (.circBlockSend j o k) s = .next s) ∧
    (2 ≤ x.blocks.length → exec (.circBlockReceived j b sig) s = .next (settle s)) ∧
    (bit .jobCfgMember j s = true → x.circ ≠ none →
      (x.blocks.length < 2 → exec (.circBlockReceived j b sig) s = .next (settle (countAt home sig.core sig.sem sig.count
        (ackRing j (ringBefore j s) (meetPosition j b.stream b.first (setJob j { x with blocks := x.blocks ++
          [{ block := { b with hops := b.hops + 1 }, forwarded := decide (x.members.length ≤ b.hops + 2) }] } s)))))) ∧
      (∀ u, stalled sig.core u = false → countAt home sig.core sig.sem sig.count u = wake sig.core (addSem sig.core sig.sem sig.count u)) ∧
      (∃ t, exec (.circQueryReceived j stream pos q own) s = .next t ∧
        (getJob j t).queries = x.queries.filter (fun y => y.1 != stream.toNat) ++ [(stream.toNat, q)] ∧
        ∀ f i, f ≠ .netStatusUnreach → f ≠ .nolucStatusUnrouted → rd f i t = rd f i s) ∧
      (x.members.length ≤ p.hops + 2 → ∃ t, exec (.partialStateReceived j p own) s = .next t ∧
        (getJob j t).partials = x.partials.filter (fun y => y.stream != p.stream) ++ [mergePartial own p]) ∧
      (∀ f, p.hops + 2 < x.members.length → nextInRing j s = some f → exec (.partialStateReceived j p own) s =
        .next (sendRing j f .partialState (partialBytes (mergePartial own p)) (ackRing j (ringBefore j s) s)))) ∧
    (∀ f, bit .jobCfgMember j s = true → nextInRing j s = some f →
      ((∀ y ∈ x.blocks, y.forwarded = true) → exec (.circBlockSend j none none) s = .next s) ∧
      (∀ y rest, x.blocks = y :: rest → y.forwarded = false → exec (.circBlockSend j none none) s =
        .next (sendRing j f .circBlock (circBytes y.block)
          (setJob j { x with blocks := heldBlocks ({ y with forwarded := true } :: rest) } s))) ∧
      (∀ k c, (getStream k s).st = .running → (getStream k s).district = rd .jobCfgDistrict j s → (getChain k c s).opened = true →
        exec (.circBlockSend j (some (k, c)) none) s = .next (sendRing j f .circBlock (circBytes (ownBlock k c s)) s))) ∧
    (∀ (f : List Nat × Nat) k body, f.1 ≠ [] →
      (portsFrom home f.1 s = [] → sendRing j f k body s = flag .netStatusUnreach home s) ∧
      (portsFrom home f.1 s ≠ [] → ∃ r ∈ portsFrom home f.1 s,
        sendRing j f k body s = (pieces4k body).foldl (sendPiece home r f.2 k) s)) ∧
    (∀ r dst k (bs : List Byte) u, u = sendPiece home r dst k s bs → ∀ n, n = tget (fun _ => 0) s.fab.flows (4 * dst + kindClass k) →
      tget (fun _ => 0) u.fab.flows (4 * dst + kindClass k) = n + 1 ∧
      (s.net.out.contains (fabricPortSite r s) = false → unreachable home (fabricPortSite r s) s = false →
        pathHeld home (fabricPortSite r s) s = false → rd .nolucpPortState r s ≠ 1 →
        u.outbox = s.outbox ++ [.fabric r dst (rd .nolucStatusFid 0 s) (kindClass k) n k bs])) ∧
    (∀ body, ∀ x ∈ pieces4k body, x.length ≤ 4096) ∧
    (mergePartial own p).hops = p.hops + 1 ∧ (mergePartial own p).stream = p.stream

/-- CAPEFF after a re-evaluation is the least of cap, limit, coolant cap and input cap, SOURCE naming which: 0 the cap or limit, 1 coolant, 2 input.
A division by a clerk that is down changes nothing; one by a clerk that is up is its request of every site's share. A request within CAPEFF with every
site in service at 80 to 500 W writes the allotments, 0 for a lost site; any other is noted and changes no allotment. A window's end runs the
controllers of the sites in service, and takes the mean input voltage; between 97 % and all of its allotment a site keeps its levels and gate, and
above it with every level at 40 % its gate rises by one, to 9 at most. A 10 us slice is gated only where GATE is above 0; its end wakes the cores.
A microsecond's sample adds its energy in nJ to its meter, modulo 2^64: a cluster's or a site domain's sample changes that counter only, and a site
meter's or the input's also PDEV.E_DEV. A notice that reaches its regulator is counted as timely with a lead of 2 us or more, else as late; the end of
a heavy phase takes away the boost whose phase ends first. A voltage below the recorded minimum becomes the minimum with its round and time, and any other leaves it. -/
def Obligations.PowerRules : Prop :=
  (∀ (ws : List Nat) (k : SiteId) (s : State),
     (let own := min (rd .pdevCapCap 0 s) (rd .pdevCapLimit 0 s)
      (∀ c ∈ [own, rd .thdevCcapCap 0 s], (capEff s).1 ≤ c) ∧ (∀ i, inputCap s = some i → (capEff s).1 ≤ i) ∧
      ((capEff s).2 = 0 → (capEff s).1 = own) ∧ ((capEff s).2 = 1 → (capEff s).1 = rd .thdevCcapCap 0 s) ∧
      ((capEff s).2 = 2 → inputCap s = some (capEff s).1) ∧ (capEff s).2 ≤ 2) ∧
     (∀ f ∈ [(Reg.pdevStatusCapeff, (capEff s).1), (.pdevStatusSource, (capEff s).2)],
       rd f.1 0 (applyCap s) = f.2 % 2 ^ (regInfo f.1).w) ∧
     (clerkUp s = false → exec .capDivision s = .next (settle s)) ∧
     (clerkUp s = true → exec .capDivision s = exec (.allotmentRequest ((List.range 64).map fun j =>
       if bit .brsiteStatusLost j s = true then 0 else share j (largestK (10 * rd .pdevStatusCapeff 0 s) s 25 0) s)) s) ∧
     (((sitesUp s).map fun j => ws.getD j 0).sum ≤ 10 * rd .pdevStatusCapeff 0 s → (∀ j ∈ sitesUp s, 80 ≤ ws.getD j 0 ∧ ws.getD j 0 ≤ 500) →
       ∃ t, exec (.allotmentRequest ws) s = .next (settle t) ∧
         (∀ j < 64, rd .psiteAllotWatts j t = if bit .brsiteStatusLost j s = true then 0 else ws.getD j 0) ∧
         ∀ f i, f ≠ .psiteAllotWatts → rd f i t = rd f i s) ∧
     (10 * rd .pdevStatusCapeff 0 s < ((sitesUp s).map fun j => ws.getD j 0).sum ∨
         (∃ j ∈ sitesUp s, ws.getD j 0 < 80 ∨ 500 < ws.getD j 0) →
       exec (.allotmentRequest ws) s = .next (settle (note 255 0 0 0 s))) ∧
     (clerkUp s = true → ∃ t, exec .capDivision s = .next (settle t) ∧ ∀ f i, f ≠ .psiteAllotWatts → rd f i t = rd f i s) ∧
     (∀ u, u = (sitesUp (applyCap (inputWindow s))).foldl
         (fun u j => (List.range 32).foldl (fun v i => heatWindow (32 * j + i) v) (siteWindow j u)) (applyCap (inputWindow s)) →
       ∀ t, t = (u.districts.filter fun x => x.2.running && throttled x.1 u).foldl (fun v x => markThrottled x.1 v) u →
       exec .controlWindowEnd s = .next (settle ((memberJobs t).foldl (fun v j => heatRequest j (powerRequest j v)) t))) ∧
     ((inputWindow s).power.vin = [] ∧
       (s.power.vin ≠ [] → rd .pdevStatusVin 0 (inputWindow s) = (s.power.vin.sum / s.power.vin.length) % 2 ^ (regInfo .pdevStatusVin).w)) ∧
     (∀ a p, a = rd .psiteAllotWatts k s * 1000000 → p = windowEnergy k s →
       (a < p → rd .psiteLevelCompute k s ≤ 40 → rd .psiteLevelMemory k s ≤ 40 → rd .psiteLevelLinks k s ≤ 40 →
         rd .psiteStatusGate k (siteWindow k s) = if rd .psiteStatusGate k s < 9 then rd .psiteStatusGate k s + 1 else rd .psiteStatusGate k s) ∧
       (p ≤ a → 97 * a < 100 * p → ∀ f ∈ [Reg.psiteLevelCompute, .psiteLevelMemory, .psiteLevelLinks, .psiteStatusGate],
         rd f k (siteWindow k s) = rd f k s)) ∧
     (rd .psiteStatusGate k s = 0 → exec (.gatedSlice k true) s = .next (settle s)) ∧
     (rd .psiteStatusGate k s ≠ 0 → ∃ t, exec (.gatedSlice k true) s = .next (settle t) ∧ k.val ∈ t.power.gated ∧ ∀ f i, rd f i t = rd f i s) ∧
     (∃ u, exec (.gatedSlice k false) s = .next (settle ((List.range 2048).foldl (fun v j => wake (2048 * k.val + j) v) u)) ∧
       k.val ∉ u.power.gated ∧ ∀ f i, rd f i u = rd f i s)) ∧
  (∀ (k : ClusterId) (site : SiteId) (mv ma : Nat) (s : State),
     (∀ x ∈ [(Meter.cluster k, Reg.pwrclEnergyCount, k.val), (.dram site, .psiteEDramCount, site.val), (.base site, .psiteEBaseCount, site.val),
         (.lane site, .psiteELaneCount, site.val)],
       exec (.meterSample x.1 mv ma) s = .next (wr x.2.1 x.2.2 ((rd x.2.1 x.2.2 s + mv * ma / 1000) % 2 ^ 64) s)) ∧
     (∃ t, exec (.meterSample (.site site) mv ma) s = .next t ∧ rd .psiteESiteCount site t = (rd .psiteESiteCount site s + mv * ma / 1000) % 2 ^ 64 ∧
       ∀ f i, f ≠ .pdevEDevCount → (f ≠ .psiteESiteCount ∨ i ≠ site.val) → rd f i t = rd f i s) ∧
     (∃ t, exec (.meterSample .input mv ma) s = .next t ∧ rd .pdevEInCount 0 t = (rd .pdevEInCount 0 s + mv * ma / 1000) % 2 ^ 64 ∧
       t.power.vin = s.power.vin ++ [mv] ∧ ∀ f i, f ≠ .pdevEDevCount → (f ≠ .pdevEInCount ∨ i ≠ 0) → rd f i t = rd f i s) ∧
     ((s.notices.find? fun n => n.cluster == k.val) = none → exec (.regulatorNotice k) s = .next s) ∧
     (∀ n, (s.notices.find? fun n => n.cluster == k.val) = some n → ∃ t, exec (.regulatorNotice k) s = .next t ∧
       t.notices = s.notices.erase n ∧ n ∈ t.power.boosts ∧
       ∀ f i, (f ≠ (if 2000 ≤ n.lead then .pwrclNoticeTimely else .pwrclNoticeLate) ∨ i ≠ k.val) → rd f i t = rd f i s) ∧
     ((∃ b ∈ s.power.boosts, b.cluster = k.val ∧ b.dur ≠ 0) → ∃ t, ∃ b ∈ s.power.boosts, b.cluster = k.val ∧ b.dur ≠ 0 ∧
       (∀ c ∈ s.power.boosts, c.cluster = k.val → c.dur ≠ 0 → phaseEnd s b ≤ phaseEnd s c) ∧
       exec (.heavyPhaseEnd k) s = .next t ∧ t.power.boosts = s.power.boosts.erase b ∧ ∀ f i, rd f i t = rd f i s) ∧
     ((∀ b ∈ s.power.boosts, b.cluster = k.val → b.dur = 0) → exec (.heavyPhaseEnd k) s = .next s) ∧
     (∃ t, exec (.voltageDroop k mv) s = .next (settle t) ∧
       (mv < rd .pwrclVminMv k s → rd .pwrclVminMv k t = mv % 2 ^ 10 ∧ rd .pwrclVminRound k t = roundNow s % 2 ^ 32 ∧
         rd .pwrclVminPtpNs k t = s.now % 2 ^ 64) ∧
       (rd .pwrclVminMv k s ≤ mv → ∀ f ∈ [Reg.pwrclVminMv, .pwrclVminRound, .pwrclVminPtpNs], rd f k t = rd f k s) ∧
       tget noNat t.power.volt k = mv))

/-- A conversion that succeeds and lies from -40 to 150 degrees shows in the diode's field; one that fails marks the diode failed for good, shows 0x8000
and is noted; a failed one shows no later conversion. A trip needs two readings at shutdown temperature in a row. A read without a good sample is counted and retried, and a second one ends
its cycle; a retry when none is due changes nothing. Three cycles without a good sample set SENSOR_LOST, a coolant cap of 16,000 W in force. A model
update touches only its cluster's fields. -/
def Obligations.HeatRules : Prop :=
  ∀ (k : SiteId) (cl : ClusterId) (n : Fin 15) (x : Int) (words act : Nat) (c : Option Coolant) (s : State),
    (diodeFailed k n s = false → -320 ≤ x → x ≤ 1200 → ∃ t, exec (.diodeConversion k n (some x)) s = .next (settle t) ∧
      rd (diodeReg n) k t = tempBits x ∧ rd .thsiteStatusDfail k t = rd .thsiteStatusDfail k s) ∧
    (diodeFailed k n s = false → ∃ t, exec (.diodeConversion k n none) s = .next (settle t) ∧ rd (diodeReg n) k t = 0x8000 ∧
      diodeFailed k n t = true) ∧
    (diodeFailed k n s = true → ∃ t, exec (.diodeConversion k n (some x)) s = .next (settle t) ∧ rd (diodeReg n) k t = rd (diodeReg n) k s ∧
      rd .thsiteStatusDfail k t = rd .thsiteStatusDfail k s) ∧
    (tget noNat s.heat.hot (15 * k.val + n.val) < 2 ∨ powered s = false → exec (.dieTrip k n) s = .next (settle s)) ∧
    (2 ≤ tget noNat s.heat.hot (15 * k.val + n.val) → powered s = true → exec (.dieTrip k n) s = .next (settle
      (startStop (if n.val = 0 then 5 else if n.val ≤ 12 then 6 else if n.val = 13 then 7 else 8) k n (tempBits (tripValue k n s)) s))) ∧
    (∃ t, exec (.thermalModelUpdate cl words act) s = .next t ∧
      ∀ f i, (regInfo f).blk ≠ .thcl ∨ i ≠ cl.val → rd f i t = rd f i s) ∧
    (goodRead c s = none →
      (∃ t, exec (.coolantRead c) s = .next (settle t) ∧ t.heat.retry = true ∧ t.heat.bad = s.heat.bad ∧
        ∀ f i, f ≠ .thdevCcapRdfail → rd f i t = rd f i s) ∧
      (s.heat.retry = true → ∃ t, exec (.coolantReadRetry c) s = .next (settle t) ∧ t.heat.retry = false ∧ t.heat.bad = s.heat.bad + 1 ∧
        t.heat.good = 0 ∧ ∀ f i, f ≠ .thdevCcapRdfail → rd f i t = rd f i s)) ∧
    (s.heat.retry = false → exec (.coolantReadRetry c) s = .next (settle s)) ∧
    (∀ y, goodRead c s = some y → exec (.coolantRead c) s = .next (settle (goodSample y (setHeat { s.heat with lastCount := c.map (·.count) } s)))) ∧
    (s.heat.bad < 3 → exec .sensorLost s = .next (settle s)) ∧
    (3 ≤ s.heat.bad → ∃ t, exec .sensorLost s = .next (settle (applyCap t)) ∧ rd .thdevCcapCap 0 t = 1600 ∧ bit .thdevCcapSensorLost 0 t = true ∧
      ∀ f i, f ≠ .thdevCcapCap → f ≠ .thdevCcapSensorLost → rd f i t = rd f i s)

/-- In a powered device an input fault, or PWR_EN low, latches a stop with its cause, the time and the round, or joins OTHER of the stop that is latched;
in standby it changes nothing but the pin. The stop sequence of a latched stop in a powered device ends in standby with a SHUTDOWN record in the
logbook that names the cause; without a stop it changes nothing. A MOD_RESET during a stop, or with PWR_EN low, does nothing.
A power-on without a clerk image that verifies ends in PHASE 7; one with an image and no bad unit makes every site READY in PHASE 6, the clerk
starting; where the input has just been applied, no held receipt is left. -/
def Obligations.StopRules : Prop :=
  ∀ (high : Bool) (a b : Fin 3) (found : List BadUnit) (exps : List Expander) (ms : Nat) (s : State),
    (powered s = false → exec (.inputFault high) s = .next (settle s) ∧
      exec .pwrEnFall s = .next (settle (setBoot { s.boot with pwrEn := false } s))) ∧
    (powered s = true → s.boot.stop = none →
      (∃ t, exec (.inputFault high) s = .next (settle t) ∧ t.boot.stop =
        some { cause := if high = true then 10 else 9, t0 := s.now, round := roundNow s } ∧
        ∀ f i, f ≠ .netStatusUnreach → rd f i t = rd f i s) ∧
      (∃ t, exec .pwrEnFall s = .next (settle t) ∧ t.boot.pwrEn = false ∧ t.boot.stop =
        some { cause := 11, t0 := s.now, round := roundNow s } ∧ ∀ f i, f ≠ .netStatusUnreach → rd f i t = rd f i s)) ∧
    (∀ x, powered s = true → s.boot.stop = some x →
      (∃ t, exec (.inputFault high) s = .next (settle t) ∧
        t.boot.stop = some { x with other := Nat.lor x.other (2 ^ (if high = true then 10 else 9)) } ∧ t.outbox = s.outbox) ∧
      (∃ t, exec .stopSequence s = .next (settle t) ∧ rd .brdevStatusPhase 0 t = 0 ∧ t.boot.stop = some x ∧
        (∃ i r, t.boot.flash.lastShut = some (x.cause, i, r)) ∧ t.sort.streams = [] ∧ t.cores = State.reset.cores)) ∧
    (s.boot.stop = none ∨ powered s = false → exec .stopSequence s = .next (settle s)) ∧
    (s.boot.stop ≠ none ∨ s.boot.pwrEn = false → exec (.modReset a b found exps ms) s = .next (settle s)) ∧
    (s.boot.stop = none → s.boot.pwrEn = true → exec (.modReset a b found exps ms) s =
      .next (settle (bringUp 3 a b found exps ms (deviceReset s)))) ∧
    (s.boot.stop = none → s.boot.pwrEn = true → a = 2 → ∃ t, exec (.modReset a b found exps ms) s = .next (settle t) ∧
      rd .brdevStatusPhase 0 t = 7) ∧
    (rd .brdevStatusPhase 0 s ≠ 0 → exec .coolantWaitTimeout s = .next (settle s)) ∧
    (rd .brdevStatusPhase 0 s = 0 → exec .coolantWaitTimeout s = .next (settle (note 255 0 0 0 s))) ∧
    (rd .brdevStatusPhase 0 s ≠ 0 → rd .brdevStatusPhase 0 s ≠ 7 → ∀ edge, exec (.powerOn edge a b found exps ms) s = .next (settle s)) ∧
    (rd .brdevStatusPhase 0 s = 0 ∨ rd .brdevStatusPhase 0 s = 7 → exec (.powerOn true a b found exps ms) s = .next (settle
      (bringUp 2 a b found exps ms (setBoot { (deviceReset s).boot with stop := none, pwrEn := true } (deviceReset s))))) ∧
    (rd .brdevStatusPhase 0 s = 0 ∨ rd .brdevStatusPhase 0 s = 7 → ∀ u, u = loseHeld (deviceReset s) →
      exec (.powerOn false a b found exps ms) s = .next (settle
        (bringUp 1 a b found exps ms (setBoot { u.boot with stop := none, pwrEn := true } u))) ∧ u.sort.held = []) ∧
    (rd .brdevStatusPhase 0 s = 0 ∨ rd .brdevStatusPhase 0 s = 7 → a = 2 → ∀ edge, ∃ t,
      exec (.powerOn edge a b found exps ms) s = .next (settle t) ∧ rd .brdevStatusPhase 0 t = 7) ∧
    (rd .brdevStatusPhase 0 s = 0 ∨ rd .brdevStatusPhase 0 s = 7 → a ≠ 2 → s.boot.flash.fuses = [] → s.boot.flash.frm = [] → ∀ edge, ∃ t,
      exec (.powerOn edge a b [] exps ms) s = .next (settle t) ∧ rd .brdevStatusPhase 0 t = 6 ∧ t.eng.clerk.starting = true ∧
        ∀ k < 64, bit .brsiteStatusReady k t = true)

/-- A device reset leaves everything at its reset values but the flash, the logbook and its sequence, the STREAM_IDs issued, held receipts, the receipt
and statement numbers, which go on from their next blocks of 65,536, the firmware banks, and the enrolled keys. -/
def Obligations.DeviceResetKeeps : Prop :=
  ∀ (s : State), let t := deviceReset s
    t.cores = State.reset.cores ∧ t.vaults = State.reset.vaults ∧ t.pages = State.reset.pages ∧ t.fab = State.reset.fab ∧
    t.net = State.reset.net ∧ t.power = State.reset.power ∧ t.heat = State.reset.heat ∧ t.faults = State.reset.faults ∧
    t.districts = State.reset.districts ∧ t.sort.streams = [] ∧ t.sort.handles = [] ∧
    t.boot.flash = s.boot.flash ∧ t.logbook = s.logbook ∧ t.logSeq = s.logSeq ∧ t.sort.issued = s.sort.issued ∧
    t.sort.held.map (·.seq) = s.sort.held.map (·.seq) ∧ (∀ h ∈ t.sort.held, h.opened = none) ∧
    t.eng.leaseKeys = s.eng.leaseKeys ∧ t.eng.clerk = { s.eng.clerk with starting := false } ∧
    t.eng.patch = { s.eng.patch with starting := false } ∧
    rd .energyRseqNext 0 t = ((rd .energyRseqNext 0 s / 65536 + 1) * 65536) % 2 ^ 64 ∧
    rd .energySseqNext 0 t = ((rd .energySseqNext 0 s / 65536 + 1) * 65536) % 2 ^ 64 ∧
    ∀ f i, f ≠ .energyRseqNext → f ≠ .energySseqNext → f ≠ .energyStatHeld → f ≠ .rringStatusHeld → rd f i t = rd f i State.reset

/-- A fault that is detected with no recovery running starts one; with one running it is deferred behind it and RECOVERING stays. A site lost already
is lost no more, and one that is lost in service is isolated at once even when its repair is deferred. A base die in reset starts no second reset. A
deferred repair starts only when none runs, a deferred failover among them. A via remap of a channel that is already remapping or lost changes nothing. -/
def Obligations.RecoveryRules : Prop :=
  ∀ (r : Repair) (k : SiteId) (g : CoreId) (found : List Nat) (restarts : Bool) (s : State),
    (s.faults.running = none → (detect r s).1 = true ∧ (detect r s).2.faults.running = some r ∧
      rd .fltdevStatusRecovering 0 (detect r s).2 = 1 ∧ (detect r s).2.faults.deferred = s.faults.deferred) ∧
    (∀ q, s.faults.running = some q → (detect r s).1 = false ∧ (∃ q', (detect r s).2.faults.running = some q' ∧ q'.kind = q.kind ∧
        q'.site = q.site ∧ q'.districts = q.districts) ∧
      ((detect r s).2.faults.deferred.map fun x => (x.kind, x.site, x.unit)) =
        (s.faults.deferred.map fun x => (x.kind, x.site, x.unit)) ++ [(r.kind, r.site, r.unit)] ∧ bit .fltdevStatusDeferred 0 (detect r s).2 = true) ∧
    (bit .brsiteStatusLost k s = true → exec (.siteLoss k) s = .next (settle s)) ∧
    (bit .brsiteStatusLost k s = false → ∃ u, u = (detect (mkRepair 5 k 0 0 (districtsOnSite k s)) (isolateSite k s)) ∧
      (u.1 = true → exec (.siteLoss k) s = .next (settle (startSiteLoss k u.2))) ∧
      (u.1 = false → exec (.siteLoss k) s = .next (settle u.2))) ∧
    (bit .brsiteStatusLost k s = false → districtsOnSite k s = [] → s.engines = [] → s.faults.running = none →
      ∃ t, exec (.siteLoss k) s = .next (settle t) ∧ bit .brsiteStatusLost k t = true ∧ bit .brsiteStatusReady k t = false ∧
        bit .netStatusOut k t = true ∧ ∃ q, t.faults.running = some q ∧ q.kind = 5 ∧ q.site = k) ∧
    (bit .brsiteStatusLost k s = true ∨ bit .brsiteStatusResetting k s = true →
      exec (.bdWatchdog k restarts) s = .next (settle (startWaiting (settle s)))) ∧
    (bit .brsiteStatusLost k s = false → bit .brsiteStatusResetting k s = false →
      ∃ u, u = detect (mkRepair 6 k 0 0 (districtsOnSite k s)) s ∧
        exec (.bdWatchdog k restarts) s = .next (settle (startWaiting (settle
          (if u.1 = true then startBd k restarts (bdAssert k u.2) else bdAssert k u.2))))) ∧
    (bit .brsiteStatusLost k s = false → bit .brsiteStatusResetting k s = false → districtsOnSite k s = [] → s.engines = [] →
      s.faults.running = none → ∃ t, exec (.bdWatchdog k false) s = .next (settle (startWaiting (settle t))) ∧
        bit .brsiteStatusResetting k t = true ∧ rd .brsiteStatusRdomain k t = 2 ∧ ∃ q, t.faults.running = some q ∧ q.kind = 6 ∧ q.site = k) ∧
    (runs 6 k 0 s = false → exec (.bdRestartTimeout k restarts) s = .next (settle (startWaiting (settle s)))) ∧
    (runs 6 k 0 s = true → exec (.bdRestartTimeout k true) s =
      .next (settle (startWaiting (settle (endBd k (bump .brsiteResetCount k s)))))) ∧
    (runs 6 k 0 s = true → ∀ u q, u = resetBitsOff k (isolateSite k (wr .brsiteResetWatchdog k 1 (wr .brsiteResetLastdom k 2
        (bump .brsiteResetCount k (bump .brsiteResetCount k s))))) → u.faults.running = some q →
      exec (.bdRestartTimeout k false) s = .next (settle (startWaiting (settle
        (startSiteLoss k (showRecovery (setFaults { u.faults with running := some { q with kind := 5 } } u))))))) ∧
    (runs 6 k 0 s = true → bit .brsiteStatusLost k s = false → districtsOnSite k s = [] → s.engines = [] → ∃ t,
      exec (.bdRestartTimeout k false) s = .next (settle (startWaiting (settle t))) ∧ bit .brsiteStatusLost k t = true ∧
        bit .brsiteStatusResetting k t = false) ∧
    (0 < rd .vaultStatusChan g s ∨ bit .brsiteStatusLost (siteOf g) s = true →
      exec (.viaRemap g found) s = .next (settle (startWaiting (settle s)))) ∧
    (rd .vaultStatusChan g s = 0 → bit .brsiteStatusLost (siteOf g) s = false → s.faults.running = none →
      exec (.viaRemap g found) s = .next (settle (startWaiting (settle (remapVias g found (holdCore g true (wr .vaultStatusChan g 1
        (startRecovery (mkRepair 1 (siteOf g) (g.val % 2048) (found.headD 0) (touchedByChannel g s)) s)))))))) ∧
    (rd .vaultStatusChan g s = 0 → bit .brsiteStatusLost (siteOf g) s = false → s.faults.running = none → (badVias g s).length ≤ 8 →
      ∃ t, exec (.viaRemap g []) s = .next (settle (startWaiting (settle t))) ∧ rd .vaultStatusChan g t = 0 ∧ t.faults.running = none) ∧
    (s.faults.running ≠ none ∨ s.faults.deferred = [] →
      exec (.deferredRecovery found restarts) s = .next (settle (startWaiting (settle s)))) ∧
    (∀ q qs, s.faults.running = none → s.faults.deferred = q :: qs → ∀ u, u = startRecovery q (setFaults { s.faults with deferred := qs } s) →
      u.faults.running = some q ∧ u.faults.deferred = qs ∧
      ∀ v, (q.kind = 1 → v = remapVias (2048 * q.site + q.unit) found u) → (q.kind = 3 → v = startDeferredLane (4 * q.site + q.unit) q.detail u) →
        (q.kind = 4 → v = startEdge u) → (q.kind = 5 → v = startSiteLoss q.site u) → (q.kind = 6 → v = startBd q.site restarts u) →
        (q.kind = 0 ∨ q.kind = 2 ∨ 7 ≤ q.kind → v = flag .twinStatusFailover 0 u) →
        exec (.deferredRecovery found restarts) s = .next (settle (startWaiting (settle v))))
end

