-- ==== Sys2Proof/Laws/Table.lean ====
section
/-!
SUPPORT. The laws of sparse tables and byte memories: reading after writing, and that every operation keeps the canonical form.
-/

namespace Sys2Proof.Machine

variable {α : Type}

/-! Reading. -/

theorem tget_tins_same (d : Nat → α) (t : Table α) (k : Nat) (v : α) : tget d (tins k v t) k = v := by
  induction t with
  | nil => simp [tins, tget]
  | cons p t ih =>
    obtain ⟨k', v'⟩ := p
    simp only [tins]
    split
    · simp [tget]
    · split
      · simp [tget]
      · have : k' ≠ k := by omega
        simp [tget, this, ih]

theorem tget_tins_other (d : Nat → α) (t : Table α) (k j : Nat) (v : α) (h : j ≠ k) :
    tget d (tins k v t) j = tget d t j := by
  induction t with
  | nil => simp [tins, tget, Ne.symm h]
  | cons p t ih =>
    obtain ⟨k', v'⟩ := p
    simp only [tins]
    split
    · simp [tget, Ne.symm h]
    · split
      · next hk => subst hk; simp [tget, Ne.symm h]
      · simp only [tget, ih]

theorem tget_terase_other (d : Nat → α) (t : Table α) (k j : Nat) (h : j ≠ k) :
    tget d (terase k t) j = tget d t j := by
  induction t with
  | nil => rfl
  | cons p t ih =>
    obtain ⟨k', v'⟩ := p
    simp only [terase]
    split
    · next hk => subst hk; simp [tget, Ne.symm h, ih]
    · simp only [tget, ih]

/-- An erased key reads as the default: `terase` takes out every entry of the key. -/
theorem tget_terase_same (d : Nat → α) (t : Table α) (k : Nat) : tget d (terase k t) k = d k := by
  induction t with
  | nil => rfl
  | cons p t ih =>
    obtain ⟨k', v'⟩ := p
    simp only [terase]
    split
    · exact ih
    · next hk => simp [tget, hk, ih]

@[simp] theorem tget_tset_same [DecidableEq α] (d : Nat → α) (t : Table α) (k : Nat) (v : α) :
    tget d (tset d t k v) k = v := by
  unfold tset
  split
  · next h => rw [tget_terase_same, h]
  · exact tget_tins_same ..

theorem tget_tset_other [DecidableEq α] (d : Nat → α) (t : Table α) (k j : Nat) (v : α) (h : j ≠ k) :
    tget d (tset d t k v) j = tget d t j := by
  unfold tset
  split
  · exact tget_terase_other _ _ _ _ h
  · exact tget_tins_other _ _ _ _ _ h

theorem tget_tset [DecidableEq α] (d : Nat → α) (t : Table α) (k j : Nat) (v : α) :
    tget d (tset d t k v) j = if j = k then v else tget d t j := by
  split
  · next h => subst h; exact tget_tset_same ..
  · next h => exact tget_tset_other _ _ _ _ _ h

/-! The canonical form, as strictly rising keys and no default values. -/

/-- Keys strictly rising. -/
def Rising (t : Table α) : Prop := t.Pairwise fun a b => a.1 < b.1

theorem twf_iff [DecidableEq α] (d : Nat → α) (t : Table α) :
    twf d t = true ↔ Rising t ∧ ∀ p ∈ t, p.2 ≠ d p.1 := by
  induction t with
  | nil => simp [twf, Rising]
  | cons p t ih =>
    obtain ⟨k, v⟩ := p
    cases t with
    | nil => simp [twf, Rising]
    | cons q t =>
      obtain ⟨k', v'⟩ := q
      simp only [twf, Bool.and_eq_true, bne_iff_ne, ne_eq, decide_eq_true_eq, ih]
      constructor
      · rintro ⟨⟨hv, hk⟩, hr, hn⟩
        refine ⟨List.Pairwise.cons ?_ hr, ?_⟩
        · intro x hx
          rcases List.mem_cons.1 hx with rfl | hx
          · exact hk
          · exact Nat.lt_trans hk (List.rel_of_pairwise_cons hr hx)
        · intro x hx
          rcases List.mem_cons.1 hx with rfl | hx
          · exact hv
          · exact hn x hx
      · rintro ⟨hr, hn⟩
        refine ⟨⟨hn (k, v) (by simp), List.rel_of_pairwise_cons hr (a' := (k', v')) (by simp)⟩, hr.of_cons, ?_⟩
        exact fun x hx => hn x (List.mem_cons_of_mem _ hx)

theorem mem_terase (t : Table α) (k : Nat) (p : Nat × α) (h : p ∈ terase k t) : p ∈ t := by
  induction t with
  | nil => simp [terase] at h
  | cons q t ih =>
    obtain ⟨k', v'⟩ := q
    simp only [terase] at h
    split at h
    · exact List.mem_cons_of_mem _ (ih h)
    · rcases List.mem_cons.1 h with rfl | h
      · simp
      · exact List.mem_cons_of_mem _ (ih h)

theorem mem_tins (t : Table α) (k : Nat) (v : α) (p : Nat × α) (h : p ∈ tins k v t) : p = (k, v) ∨ p ∈ t := by
  induction t with
  | nil => simpa [tins] using h
  | cons q t ih =>
    obtain ⟨k', v'⟩ := q
    simp only [tins] at h
    split at h
    · simpa using h
    · split at h
      · rcases List.mem_cons.1 h with rfl | h
        · exact .inl rfl
        · exact .inr (List.mem_cons_of_mem _ h)
      · rcases List.mem_cons.1 h with rfl | h
        · exact .inr (by simp)
        · rcases ih h with h | h
          · exact .inl h
          · exact .inr (List.mem_cons_of_mem _ h)

theorem rising_terase (t : Table α) (k : Nat) (h : Rising t) : Rising (terase k t) := by
  induction t with
  | nil => exact h
  | cons q t ih =>
    obtain ⟨k', v'⟩ := q
    simp only [terase]
    split
    · exact ih h.of_cons
    · exact List.Pairwise.cons (fun x hx => List.rel_of_pairwise_cons h (mem_terase _ _ _ hx)) (ih h.of_cons)

theorem rising_tins (t : Table α) (k : Nat) (v : α) (h : Rising t) : Rising (tins k v t) := by
  induction t with
  | nil => simp [tins, Rising]
  | cons q t ih =>
    obtain ⟨k', v'⟩ := q
    simp only [tins]
    split
    · next hk =>
      refine List.Pairwise.cons ?_ h
      intro x hx
      rcases List.mem_cons.1 hx with rfl | hx
      · exact hk
      · exact Nat.lt_trans hk (List.rel_of_pairwise_cons h hx)
    · split
      · next hk => subst hk; exact List.Pairwise.cons (fun x hx => List.rel_of_pairwise_cons h hx) h.of_cons
      · refine List.Pairwise.cons ?_ (ih h.of_cons)
        intro x hx
        rcases mem_tins _ _ _ _ hx with rfl | hx
        · show k' < k; omega
        · exact List.rel_of_pairwise_cons h hx

/-- Writing a table keeps its form. -/
theorem twf_tset [DecidableEq α] (d : Nat → α) (t : Table α) (k : Nat) (v : α) (h : twf d t = true) :
    twf d (tset d t k v) = true := by
  rw [twf_iff] at h ⊢
  unfold tset
  split
  · exact ⟨rising_terase _ _ h.1, fun p hp => h.2 p (mem_terase _ _ _ hp)⟩
  · next hv =>
    refine ⟨rising_tins _ _ _ h.1, fun p hp => ?_⟩
    rcases mem_tins _ _ _ _ hp with rfl | hp
    · exact hv
    · exact h.2 p hp

/-- Taking out entries keeps a table's form. -/
theorem twf_filter [DecidableEq α] (d : Nat → α) (t : Table α) (f : Nat × α → Bool) (h : twf d t = true) :
    twf d (t.filter f) = true := by
  rw [twf_iff] at h ⊢
  exact ⟨h.1.filter f, fun p hp => h.2 p (List.mem_filter.1 hp).1⟩

theorem mem_tset [DecidableEq α] (d : Nat → α) (t : Table α) (k : Nat) (v : α) (p : Nat × α) (h : p ∈ tset d t k v) :
    p = (k, v) ∨ p ∈ t := by
  unfold tset at h
  split at h
  · exact .inr (mem_terase _ _ _ h)
  · exact mem_tins _ _ _ _ h

/-! Byte memories. -/

theorem Memory.wf_mset (m : Memory) (a : Nat) (b : Byte) (h : Memory.wf m = true) : Memory.wf (mset m a b) = true :=
  twf_tset _ _ _ _ h

theorem Memory.wf_mwrite (bs : List Byte) (m : Memory) (a : Nat) (h : Memory.wf m = true) :
    Memory.wf (mwrite m a bs) = true := by
  induction bs generalizing m a with
  | nil => exact h
  | cons b bs ih => exact ih _ _ (Memory.wf_mset _ _ _ h)

theorem Memory.wf_filter (m : Memory) (f : Nat × Byte → Bool) (h : Memory.wf m = true) : Memory.wf (m.filter f) = true :=
  twf_filter _ _ _ h

theorem mget_mset (m : Memory) (a x : Nat) (b : Byte) : mget (mset m a b) x = if x = a then b else mget m x :=
  tget_tset ..

/-- A byte after a write: the written one inside the range, the old one outside. -/
theorem mget_mwrite (bs : List Byte) (m : Memory) (a x : Nat) :
    mget (mwrite m a bs) x = if a ≤ x ∧ x < a + bs.length then bs.getD (x - a) 0 else mget m x := by
  induction bs generalizing m a with
  | nil => simp [mwrite, show ¬ (a ≤ x ∧ x < a) by omega]
  | cons b bs ih =>
    rw [mwrite, ih, mget_mset]
    by_cases h1 : x = a
    · subst h1
      simp
    · by_cases h2 : a + 1 ≤ x ∧ x < a + 1 + bs.length
      · have h3 : a ≤ x ∧ x < a + (b :: bs).length := by simp; omega
        rw [if_pos h2, if_pos h3]
        obtain ⟨n, hn⟩ : ∃ n, x - a = n + 1 := ⟨x - a - 1, by omega⟩
        rw [hn, show x - (a + 1) = n by omega]
        simp
      · have h3 : ¬ (a ≤ x ∧ x < a + (b :: bs).length) := by simp; omega
        rw [if_neg h2, if_neg h3, if_neg h1]

end Sys2Proof.Machine
end

