-- ==== Sys2Proof/Laws/Good.lean ====
section
/-!
SUPPORT. `Good p s`: the invariant holds in s and its queue is p. One lemma for each way the primitives update a state; the files
of Laws/Keeps carry it through every operation.
-/

namespace Sys2Proof.Machine

/-- The invariant holds and the queue is p. -/
def Good (p : List Instr) (s : State) : Prop := Inv s ∧ s.pending = p

theorem regOfKey (f : Reg) (i : Nat) : Reg.ofNat (regKey f i % 512) = f := by
  have h : f.ctorIdx < 512 := by cases f <;> decide
  have : regKey f i % 512 = f.ctorIdx := by unfold regKey; omega
  rw [this]
  exact Reg.ofNat_ctorIdx f

theorem RegsWf.tset {s : State} (h : RegsWf s) (f : Reg) (i v : Nat) :
    RegsWf { s with regs := tset regDefault s.regs (regKey f i) (v % 2 ^ (regInfo f).w) } := by
  refine ⟨twf_tset _ _ _ _ h.1, fun q hq => ?_⟩
  rcases mem_tset _ _ _ _ _ hq with rfl | hq
  · simp only [regOfKey]
    exact Nat.mod_lt _ (Nat.two_pow_pos _)
  · exact h.2 q hq

theorem RegsWf.filter {s : State} (h : RegsWf s) (k : Nat × Nat → Bool) : RegsWf { s with regs := s.regs.filter k } :=
  ⟨twf_filter _ _ _ h.1, fun q hq => h.2 q (List.mem_filter.1 hq).1⟩

variable {p : List Instr} {s : State}

theorem Good.regs {r : Table Nat} (h : Good p s) (hr : RegsWf { s with regs := r }) : Good p { s with regs := r } :=
  ⟨⟨hr, h.1.2.1, h.1.2.2⟩, h.2⟩

theorem Good.cores {c : CoreSide} (h : Good p s) (hc : twf coreDefault c.cores = true) (hs : Memory.wf c.spad = true)
    (hp : Memory.wf c.pig = true) : Good p { s with cores := c } :=
  ⟨⟨h.1.1, hc, h.1.2.2.1, hs, hp, h.1.2.2.2.2.2⟩, h.2⟩

theorem Good.vaults {v : VaultSide} (h : Good p s) (hd : Memory.wf v.dram = true) : Good p { s with vaults := v } :=
  ⟨⟨h.1.1, h.1.2.1, hd, h.1.2.2.2⟩, h.2⟩

theorem Good.sort {x : SortSide} (h : Good p s) (hd : Memory.wf x.pr = true) : Good p { s with sort := x } :=
  ⟨⟨h.1.1, h.1.2.1, h.1.2.2.1, h.1.2.2.2.1, h.1.2.2.2.2.1, hd, h.1.2.2.2.2.2.2⟩, h.2⟩

theorem Good.eng {x : EngSide} (h : Good p s) (ht : Memory.wf x.staging = true) (hl : Memory.wf x.slots = true) :
    Good p { s with eng := x } :=
  ⟨⟨h.1.1, h.1.2.1, h.1.2.2.1, h.1.2.2.2.1, h.1.2.2.2.2.1, h.1.2.2.2.2.2.1, ht, hl⟩, h.2⟩

theorem Good.hcores (h : Good p s) : twf coreDefault s.cores.cores = true := h.1.2.1
theorem Good.hspad (h : Good p s) : Memory.wf s.cores.spad = true := h.1.2.2.2.1
theorem Good.hpig (h : Good p s) : Memory.wf s.cores.pig = true := h.1.2.2.2.2.1
theorem Good.hdram (h : Good p s) : Memory.wf s.vaults.dram = true := h.1.2.2.1
theorem Good.hpr (h : Good p s) : Memory.wf s.sort.pr = true := h.1.2.2.2.2.2.1
theorem Good.hstaging (h : Good p s) : Memory.wf s.eng.staging = true := h.1.2.2.2.2.2.2.1
theorem Good.hslots (h : Good p s) : Memory.wf s.eng.slots = true := h.1.2.2.2.2.2.2.2

/-! Updates of what the invariant does not speak of. -/

@[simp] theorem good_upd_posted {x} : Good p { s with posted := x } ↔ Good p s := Iff.rfl
@[simp] theorem good_upd_engines {x} : Good p { s with engines := x } ↔ Good p s := Iff.rfl
@[simp] theorem good_upd_kvSites {x} : Good p { s with kvSites := x } ↔ Good p s := Iff.rfl
@[simp] theorem good_upd_pages {x} : Good p { s with pages := x } ↔ Good p s := Iff.rfl
@[simp] theorem good_upd_districts {x} : Good p { s with districts := x } ↔ Good p s := Iff.rfl
@[simp] theorem good_upd_fab {x} : Good p { s with fab := x } ↔ Good p s := Iff.rfl
@[simp] theorem good_upd_parcels {x} : Good p { s with parcels := x } ↔ Good p s := Iff.rfl
@[simp] theorem good_upd_standIns {x} : Good p { s with standIns := x } ↔ Good p s := Iff.rfl
@[simp] theorem good_upd_notices {x} : Good p { s with notices := x } ↔ Good p s := Iff.rfl
@[simp] theorem good_upd_net {x} : Good p { s with net := x } ↔ Good p s := Iff.rfl
@[simp] theorem good_upd_faults {x} : Good p { s with faults := x } ↔ Good p s := Iff.rfl
@[simp] theorem good_upd_boot {x} : Good p { s with boot := x } ↔ Good p s := Iff.rfl
@[simp] theorem good_upd_power {x} : Good p { s with power := x } ↔ Good p s := Iff.rfl
@[simp] theorem good_upd_heat {x} : Good p { s with heat := x } ↔ Good p s := Iff.rfl
@[simp] theorem good_upd_logbook {x} : Good p { s with logbook := x } ↔ Good p s := Iff.rfl
@[simp] theorem good_upd_logSeq {x} : Good p { s with logSeq := x } ↔ Good p s := Iff.rfl
@[simp] theorem good_upd_due {x} : Good p { s with due := x } ↔ Good p s := Iff.rfl
@[simp] theorem good_upd_outbox {x} : Good p { s with outbox := x } ↔ Good p s := Iff.rfl
@[simp] theorem good_upd_now {x} : Good p { s with now := x } ↔ Good p s := Iff.rfl
@[simp] theorem good_upd_freeCtr {x} : Good p { s with freeCtr := x } ↔ Good p s := Iff.rfl
@[simp] theorem good_upd_lineTag {x} : Good p { s with cores := { s.cores with lineTag := x } } ↔ Good p s := Iff.rfl
@[simp] theorem good_upd_linePoison {x} : Good p { s with cores := { s.cores with linePoison := x } } ↔ Good p s := Iff.rfl
@[simp] theorem good_upd_pigPoison {x} : Good p { s with cores := { s.cores with pigPoison := x } } ↔ Good p s := Iff.rfl
@[simp] theorem good_upd_signals {x} : Good p { s with cores := { s.cores with signals := x } } ↔ Good p s := Iff.rfl
@[simp] theorem good_upd_mark {x} : Good p { s with vaults := { s.vaults with mark := x } } ↔ Good p s := Iff.rfl
@[simp] theorem good_upd_bad {x} : Good p { s with vaults := { s.vaults with bad := x } } ↔ Good p s := Iff.rfl
@[simp] theorem good_upd_parBad {x} : Good p { s with vaults := { s.vaults with parBad := x } } ↔ Good p s := Iff.rfl
@[simp] theorem good_upd_cntBad {x} : Good p { s with vaults := { s.vaults with cntBad := x } } ↔ Good p s := Iff.rfl
@[simp] theorem good_upd_est {x} : Good p { s with vaults := { s.vaults with est := x } } ↔ Good p s := Iff.rfl
@[simp] theorem good_upd_dsq {x} : Good p { s with vaults := { s.vaults with dsq := x } } ↔ Good p s := Iff.rfl
@[simp] theorem good_upd_patrol {x} : Good p { s with vaults := { s.vaults with patrol := x } } ↔ Good p s := Iff.rfl
@[simp] theorem good_upd_openRow {x} : Good p { s with vaults := { s.vaults with openRow := x } } ↔ Good p s := Iff.rfl
@[simp] theorem good_upd_parMark {x} : Good p { s with vaults := { s.vaults with parMark := x } } ↔ Good p s := Iff.rfl
@[simp] theorem good_upd_patrolFrom {x} : Good p { s with vaults := { s.vaults with patrolFrom := x } } ↔ Good p s := Iff.rfl
@[simp] theorem good_upd_slots {x} : Good p { s with vaults := { s.vaults with slots := x } } ↔ Good p s := Iff.rfl
@[simp] theorem good_upd_scrubSlots {x} : Good p { s with vaults := { s.vaults with scrubSlots := x } } ↔ Good p s := Iff.rfl
@[simp] theorem good_upd_log {x n} : Good p { s with logbook := x, logSeq := n } ↔ Good p s := Iff.rfl

/-! Compositions. -/

@[simp] theorem good_ite {c : Prop} [Decidable c] {t : State} : Good p (if c then s else t) ↔ if c then Good p s else Good p t := by
  split <;> rfl

@[simp] theorem good_ite_snd {α : Type} {c : Prop} [Decidable c] {a b : α × State} :
    Good p (if c then a else b).2 ↔ if c then Good p a.2 else Good p b.2 := by
  split <;> rfl

theorem good_foldl {β : Type} {f : State → β → State} {l : List β} (h : Good p s)
    (hf : ∀ u x, Good p u → Good p (f u x)) : Good p (l.foldl f s) := by
  induction l generalizing s with
  | nil => exact h
  | cons x l ih => exact ih (hf _ _ h)

theorem good_foldl_snd {β γ : Type} {f : γ × State → β → γ × State} {l : List β} {a : γ × State} (h : Good p a.2)
    (hf : ∀ u x, Good p u.2 → Good p (f u x).2) : Good p (l.foldl f a).2 := by
  induction l generalizing a with
  | nil => exact h
  | cons x l ih => exact ih (hf _ _ h)

theorem good_foldl_fst {β γ : Type} {f : State × γ → β → State × γ} {l : List β} {a : State × γ} (h : Good p a.1)
    (hf : ∀ u x, Good p u.1 → Good p (f u x).1) : Good p (l.foldl f a).1 := by
  induction l generalizing a with
  | nil => exact h
  | cons x l ih => exact ih (hf _ _ h)

end Sys2Proof.Machine
end

