-- ==== Sys2Proof/Laws/Keeps/Ops.lean ====
section
/-!
SUPPORT. Every operation of Machine/Ops.lean keeps the invariant and the queue.
-/

namespace Sys2Proof.Machine

set_option linter.unusedSimpArgs false

variable {p : List Instr}

theorem good_wr (f : Reg) (i : ℕ) (v : ℕ) (s : State) (h0 : Good p s) : Good p (wr f i v s) := by
  exact h0.regs (RegsWf.tset h0.1.1 f i v)

theorem good_addSat (f : Reg) (i : ℕ) (n : ℕ) (s : State) (h0 : Good p s) : Good p (addSat f i n s) := by
  simp +contextual (maxDischargeDepth := 99) only [addSat, good_wr, *, implies_true, ite_self]

theorem good_bump (f : Reg) (i : ℕ) (s : State) (h0 : Good p s) : Good p (bump f i s) := by
  simp +contextual (maxDischargeDepth := 99) only [bump, good_addSat, *, implies_true, ite_self]

theorem good_flag (f : Reg) (i : ℕ) (s : State) (h0 : Good p s) : Good p (flag f i s) := by
  simp +contextual (maxDischargeDepth := 99) only [flag, good_wr, *, implies_true, ite_self]

theorem good_flagIf (b : Bool) (f : Reg) (i : ℕ) (s : State) (h0 : Good p s) : Good p (flagIf b f i s) := by
  simp +contextual (maxDischargeDepth := 99) only [flagIf, good_flag, good_ite, good_ite_snd, *, implies_true, ite_self]

theorem good_wrIf (b : Bool) (f : Reg) (i : ℕ) (v : ℕ) (s : State) (h0 : Good p s) : Good p (wrIf b f i v s) := by
  simp +contextual (maxDischargeDepth := 99) only [wrIf, good_wr, good_ite, good_ite_snd, *, implies_true, ite_self]

theorem good_clearBlock (b : Block) (i : ℕ) (s : State) (h0 : Good p s) : Good p (clearBlock b i s) := by
  exact h0.regs (RegsWf.filter h0.1.1 _)

theorem good_setPage (v : ℕ) (page : ℕ) (r : PageRec) (s : State) (h0 : Good p s) : Good p (setPage v page r s) := by
  simp +contextual (maxDischargeDepth := 99) only [setPage, good_wr, good_upd_pages, good_ite, good_ite_snd, *, implies_true, ite_self]

theorem good_emit (e : Emission) (s : State) (h0 : Good p s) : Good p (emit e s) := by
  simp +contextual (maxDischargeDepth := 99) only [emit, good_upd_outbox, *, implies_true, ite_self]

theorem good_addDue (x : Due) (s : State) (h0 : Good p s) : Good p (addDue x s) := by
  simp +contextual (maxDischargeDepth := 99) only [addDue, good_upd_due, *, implies_true, ite_self]

theorem good_addLog (r : LogRec) (s : State) (h0 : Good p s) : Good p (addLog r s) := by
  exact h0

theorem good_events (code : ℕ) (ds : List ℕ) (site : ℕ) (s : State) (h0 : Good p s) : Good p (events code ds site s) := by
  unfold events
  exact good_foldl h0 fun u x hu => by simp only [good_addDue, hu]

theorem good_logEvent (r : LogRec) (ds : List ℕ) (s : State) (h0 : Good p s) : Good p (logEvent r ds s) := by
  simp +contextual (maxDischargeDepth := 99) only [logEvent, good_addLog, good_events, good_ite, good_ite_snd, *, implies_true, ite_self]

theorem good_note (site : ℕ) (unit : ℕ) (detail : ℕ) (event : ℕ) (s : State) (h0 : Good p s) : Good p (note site unit detail event s) := by
  simp +contextual (maxDischargeDepth := 99) only [note, good_logEvent, *, implies_true, ite_self]

theorem good_fresh (s : State) (h0 : Good p s) : Good p (fresh s).2 := by
  simp +contextual (maxDischargeDepth := 99) only [fresh, good_upd_freeCtr, *, implies_true, ite_self]

theorem good_setCore (g : ℕ) (c : Core) (s : State) (h0 : Good p s) : Good p (setCore g c s) := by
  exact h0.cores (twf_tset _ _ _ _ h0.hcores) h0.hspad h0.hpig

theorem good_updCore (g : ℕ) (f : Core → Core) (s : State) (h0 : Good p s) : Good p (updCore g f s) := by
  simp +contextual (maxDischargeDepth := 99) only [updCore, good_setCore, *, implies_true, ite_self]

theorem good_setDistrict (d : ℕ) (x : District) (s : State) (h0 : Good p s) : Good p (setDistrict d x s) := by
  simp +contextual (maxDischargeDepth := 99) only [setDistrict, good_upd_districts, *, implies_true, ite_self]

theorem good_updDistrict (d : ℕ) (f : District → District) (s : State) (h0 : Good p s) : Good p (updDistrict d f s) := by
  simp +contextual (maxDischargeDepth := 99) only [updDistrict, good_setDistrict, *, implies_true, ite_self]

theorem good_setTag (g : ℕ) (line : ℕ) (t : ℕ) (s : State) (h0 : Good p s) : Good p (setTag g line t s) := by
  simp +contextual (maxDischargeDepth := 99) only [setTag, good_upd_lineTag, *, implies_true, ite_self]

theorem good_setPoison (g : ℕ) (line : ℕ) (b : Bool) (s : State) (h0 : Good p s) : Good p (setPoison g line b s) := by
  simp +contextual (maxDischargeDepth := 99) only [setPoison, good_upd_linePoison, *, implies_true, ite_self]

theorem good_spWrite (g : ℕ) (off : ℕ) (tag : ℕ) (bs : List Byte) (s : State) (h0 : Good p s) : Good p (spWrite g off tag bs s) := by
  unfold spWrite
  refine good_foldl (h0.cores h0.hcores (Memory.wf_mwrite _ _ _ h0.hspad) h0.hpig) fun u x hu => ?_
  simp only [good_setTag, good_setPoison, good_ite, hu, ite_self]

theorem good_setPigPoison (y0 : ℕ) (line : ℕ) (b : Bool) (s : State) (h0 : Good p s) : Good p (setPigPoison y0 line b s) := by
  simp +contextual (maxDischargeDepth := 99) only [setPigPoison, good_upd_pigPoison, *, implies_true, ite_self]

theorem good_pigWrite (y0 : ℕ) (off : ℕ) (bs : List Byte) (s : State) (h0 : Good p s) : Good p (pigWrite y0 off bs s) := by
  unfold pigWrite
  refine good_foldl (h0.cores h0.hcores h0.hspad (Memory.wf_mwrite _ _ _ h0.hpig)) fun u x hu => ?_
  simp only [good_setPigPoison, good_ite, hu, ite_self]

theorem good_blockWrite (b : Block) (i : ℕ) (act : State → State) (s : State) (hf : ∀ u, Good p u → Good p (act u)) (h1 : Good p s) : Good p (blockWrite b i act s) := by
  simp only [blockWrite]
  repeat' split
  all_goals simp +contextual (maxDischargeDepth := 99) only [good_flag, good_ite, good_ite_snd, *, implies_true, ite_self]

theorem good_post (b : Block) (i : ℕ) (sets : List (Reg × ℕ × ℕ)) (s : State) (h0 : Good p s) : Good p (post b i sets s) := by
  simp only [post]
  repeat' split
  all_goals simp +contextual (maxDischargeDepth := 99) only [good_flag, good_upd_posted, *, implies_true, ite_self]

theorem good_coreWrite (g : ℕ) (f : Reg) (act : State → State) (s : State) (hf : ∀ u, Good p u → Good p (act u)) (h1 : Good p s) : Good p (coreWrite g f act s) := by
  simp +contextual (maxDischargeDepth := 99) only [coreWrite, good_blockWrite, good_post, good_ite, good_ite_snd, *, implies_true, ite_self]

end Sys2Proof.Machine
end

