-- ==== Sys2Proof/Laws/Keeps/Vault.lean ====
section
/-!
SUPPORT. Every operation of Machine/Vault.lean keeps the invariant and the queue.
-/

namespace Sys2Proof.Machine

set_option linter.unusedSimpArgs false

variable {p : List Instr}

theorem good_setMark (v : ℕ) (off : ℕ) (m : Mark) (s : State) (h0 : Good p s) : Good p (setMark v off m s) := by
  simp +contextual (maxDischargeDepth := 99) only [setMark, good_upd_mark, *, implies_true, ite_self]

theorem good_setBad (v : ℕ) (off : ℕ) (j : ℕ) (x : ℕ) (s : State) (h0 : Good p s) : Good p (setBad v off j x s) := by
  simp +contextual (maxDischargeDepth := 99) only [setBad, good_upd_bad, *, implies_true, ite_self]

theorem good_setParBad (v : ℕ) (off : ℕ) (y2 : ℕ) (j : ℕ) (x : ℕ) (s : State) (h0 : Good p s) : Good p (setParBad v off y2 j x s) := by
  simp +contextual (maxDischargeDepth := 99) only [setParBad, good_upd_parBad, *, implies_true, ite_self]

theorem good_clearBad (v : ℕ) (off : ℕ) (s : State) (h0 : Good p s) : Good p (clearBad v off s) := by
  simp +contextual (maxDischargeDepth := 99) only [clearBad, good_upd_bad, *, implies_true, ite_self]

theorem good_clearParBad (v : ℕ) (off : ℕ) (y2 : ℕ) (s : State) (h0 : Good p s) : Good p (clearParBad v off y2 s) := by
  simp +contextual (maxDischargeDepth := 99) only [clearParBad, good_upd_parBad, *, implies_true, ite_self]

theorem good_setCntBad (v : ℕ) (off : ℕ) (x : ℕ) (s : State) (h0 : Good p s) : Good p (setCntBad v off x s) := by
  simp +contextual (maxDischargeDepth := 99) only [setCntBad, good_upd_cntBad, *, implies_true, ite_self]

theorem good_setEst (v : ℕ) (off : ℕ) (b : Bool) (s : State) (h0 : Good p s) : Good p (setEst v off b s) := by
  simp +contextual (maxDischargeDepth := 99) only [setEst, good_upd_est, *, implies_true, ite_self]

theorem good_setParMark (v : ℕ) (off : ℕ) (y2 : ℕ) (m : Mark) (s : State) (h0 : Good p s) : Good p (setParMark v off y2 m s) := by
  simp +contextual (maxDischargeDepth := 99) only [setParMark, good_upd_parMark, *, implies_true, ite_self]

theorem good_freshParity (v : ℕ) (off : ℕ) (s : State) (h0 : Good p s) : Good p (freshParity v off s) := by
  simp +contextual (maxDischargeDepth := 99) only [freshParity, good_clearParBad, good_setParMark, good_foldl, good_foldl_snd, *, implies_true, ite_self]

theorem good_dramWrite (v : ℕ) (off : ℕ) (bs : List Byte) (s : State) (h0 : Good p s) : Good p (dramWrite v off bs s) := by
  exact h0.vaults (Memory.wf_mwrite _ _ _ h0.hdram)

theorem good_openRow (v : ℕ) (off : ℕ) (s : State) (h0 : Good p s) : Good p (openRow v off s) := by
  simp +contextual (maxDischargeDepth := 99) only [openRow, good_upd_openRow, *, implies_true, ite_self]

theorem good_grantSlots (scrub : Bool) (v : ℕ) (n : ℕ) (s : State) (h0 : Good p s) : Good p (grantSlots scrub v n s) := by
  simp +contextual (maxDischargeDepth := 99) only [grantSlots, good_upd_scrubSlots, good_upd_slots, good_ite, good_ite_snd, *, implies_true, ite_self]

theorem good_openBlock (v : ℕ) (off : ℕ) (s : State) (h0 : Good p s) : Good p (openBlock v off s) := by
  simp +contextual (maxDischargeDepth := 99) only [openBlock, good_openRow, *, implies_true, ite_self]

theorem good_errAddr (v : ℕ) (off : ℕ) (kind : ℕ) (src : ℕ) (s : State) (h0 : Good p s) : Good p (errAddr v off kind src s) := by
  simp +contextual (maxDischargeDepth := 99) only [errAddr, good_wr, *, implies_true, ite_self]

theorem good_dataUe (v : ℕ) (off : ℕ) (kind : ℕ) (src : ℕ) (s : State) (h0 : Good p s) : Good p (dataUe v off kind src s) := by
  simp +contextual (maxDischargeDepth := 99) only [dataUe, good_bump, good_errAddr, good_logEvent, *, implies_true, ite_self]

theorem good_queueScrub (v : ℕ) (off : ℕ) (s : State) (h0 : Good p s) : Good p (queueScrub v off s) := by
  simp +contextual (maxDischargeDepth := 99) only [queueScrub, good_wr, good_flag, good_upd_dsq, good_ite, good_ite_snd, *, implies_true, ite_self]

theorem good_adoptWord (v : ℕ) (off : ℕ) (s : State) (h0 : Good p s) : Good p (adoptWord v off s) := by
  simp +contextual (maxDischargeDepth := 99) only [adoptWord, good_clearBad, good_dramWrite, good_ite, good_ite_snd, *, implies_true, ite_self]

theorem good_clearWordBad (v : ℕ) (base : ℕ) (j : ℕ) (s : State) (h0 : Good p s) : Good p (clearWordBad v base j s) := by
  simp +contextual (maxDischargeDepth := 99) only [clearWordBad, good_clearBad, good_clearParBad, good_ite, good_ite_snd, *, implies_true, ite_self]

theorem good_keepWord (v : ℕ) (base : ℕ) (c : ℕ) (j : ℕ) (s : State) (h0 : Good p s) : Good p (keepWord v base c j s) := by
  simp +contextual (maxDischargeDepth := 99) only [keepWord, good_clearBad, good_setMark, good_adoptWord, good_ite, good_ite_snd, *, implies_true, ite_self]

theorem good_strongRepair (v : ℕ) (off : ℕ) (j : ℕ) (src : ℕ) (s0 : State) (h0 : Good p s0) : Good p (strongRepair v off j src s0) := by
  simp +contextual (maxDischargeDepth := 99) only [strongRepair, good_openBlock, good_queueScrub, good_bump, good_addSat, good_clearWordBad, good_setMark, good_clearBad, good_keepWord, good_addDue, good_dataUe, good_freshParity, good_foldl, good_foldl_snd, good_ite, good_ite_snd, *, implies_true, ite_self]

theorem good_reportMark (v : ℕ) (off : ℕ) (src : ℕ) (m : Mark) (s : State) (h0 : Good p s) : Good p (reportMark v off src m s).2 := by
  simp only [reportMark]
  repeat' split
  all_goals simp +contextual (maxDischargeDepth := 99) only [good_bump, good_errAddr, *, implies_true, ite_self]

theorem good_uncorrectable (v : ℕ) (off : ℕ) (src : ℕ) (s : State) (h0 : Good p s) : Good p (uncorrectable v off src s).2 := by
  simp +contextual (maxDischargeDepth := 99) only [uncorrectable, good_strongRepair, good_dataUe, good_setMark, good_clearBad, good_ite, good_ite_snd, *, implies_true, ite_self]

theorem good_counterByte (v : ℕ) (off : ℕ) (src : ℕ) (s0 : State) (h0 : Good p s0) : Good p (counterByte v off src s0).2 := by
  simp only [counterByte]
  repeat' split
  all_goals simp +contextual (maxDischargeDepth := 99) only [good_openRow, good_bump, good_dataUe, *, implies_true, ite_self]

theorem good_counterBytes (v : ℕ) (off : ℕ) (src : ℕ) (y3 : ℕ) (y4 : State) (h0 : Good p y4) : Good p (counterBytes v off src y3 y4).2 := by
  fun_induction counterBytes v off src y3 y4 <;> simp_all +contextual +zetaDelta (maxDischargeDepth := 99) only [good_counterByte, implies_true, ite_self]

theorem good_rewriteCounter (v : ℕ) (w : ℕ) (s : State) (h0 : Good p s) : Good p (rewriteCounter v w s) := by
  simp +contextual (maxDischargeDepth := 99) only [rewriteCounter, good_setCntBad, good_dramWrite, good_foldl, good_foldl_snd, good_ite, good_ite_snd, *, implies_true, ite_self]

theorem good_readTable (v : ℕ) (page : ℕ) (src : ℕ) (s : State) (h0 : Good p s) : Good p (readTable v page src s) := by
  simp +contextual (maxDischargeDepth := 99) only [readTable, good_counterByte, good_openRow, good_foldl, good_foldl_snd, *, implies_true, ite_self]

theorem good_corrected (k : ReadKind) (v : ℕ) (off : ℕ) (rewrite : State → State) (s : State) (hf : ∀ u, Good p u → Good p (rewrite u)) (h1 : Good p s) : Good p (corrected k v off rewrite s) := by
  simp +contextual (maxDischargeDepth := 99) only [corrected, good_bump, good_queueScrub, good_ite, good_ite_snd, *, implies_true, ite_self]

theorem good_metMark (k : ReadKind) (v : ℕ) (off : ℕ) (src : ℕ) (m : Mark) (s : State) (h0 : Good p s) : Good p (metMark k v off src m s).2 := by
  simp +contextual (maxDischargeDepth := 99) only [metMark, good_reportMark, good_ite, good_ite_snd, *, implies_true, ite_self]

theorem good_vreadAs (k : ReadKind) (v : ℕ) (off : ℕ) (src : ℕ) (s0 : State) (h0 : Good p s0) : Good p (vreadAs k v off src s0).2 := by
  simp only [vreadAs]
  repeat' split
  all_goals simp +contextual (maxDischargeDepth := 99) only [good_openRow, good_grantSlots, good_counterBytes, good_rewriteCounter, good_metMark, good_bump, good_clearBad, good_setMark, good_corrected, good_uncorrectable, good_setBad, good_ite, good_ite_snd, *, implies_true, ite_self]

theorem good_vread (v : ℕ) (off : ℕ) (src : ℕ) (s : State) (h0 : Good p s) : Good p (vread v off src s).2 := by
  simp +contextual (maxDischargeDepth := 99) only [vread, good_vreadAs, *, implies_true, ite_self]

theorem good_parRead (k : ReadKind) (v : ℕ) (base : ℕ) (y3 : ℕ) (s0 : State) (h0 : Good p s0) : Good p (parRead k v base y3 s0) := by
  simp only [parRead]
  repeat' split
  all_goals simp +contextual (maxDischargeDepth := 99) only [good_openRow, good_grantSlots, good_reportMark, good_bump, good_clearParBad, good_setParMark, good_corrected, good_strongRepair, good_dataUe, good_setParBad, good_ite, good_ite_snd, *, implies_true, ite_self]

theorem good_flipFire (v : ℕ) (off : ℕ) (s : State) (h0 : Good p s) : Good p (flipFire v off s) := by
  simp +contextual (maxDischargeDepth := 99) only [flipFire, good_setCntBad, good_setParBad, good_setBad, good_wr, good_flag, good_foldl, good_foldl_snd, good_ite, good_ite_snd, *, implies_true, ite_self]

theorem good_writeWord (v : ℕ) (off : ℕ) (bs : List Byte) (s : State) (h0 : Good p s) : Good p (writeWord v off bs s) := by
  simp +contextual (maxDischargeDepth := 99) only [writeWord, good_dramWrite, good_openRow, good_grantSlots, good_setCntBad, good_clearBad, good_setMark, good_foldl, good_foldl_snd, good_ite, good_ite_snd, *, implies_true, ite_self]

theorem good_writePart (v : ℕ) (off : ℕ) (src : ℕ) (bs : List Byte) (s : State) (h0 : Good p s) : Good p (writePart v off src bs s).2 := by
  simp only [writePart]
  repeat' split
  all_goals simp +contextual (maxDischargeDepth := 99) only [good_setCntBad, good_dramWrite, good_openRow, good_grantSlots, good_vreadAs, good_writeWord, good_bump, good_errAddr, good_logEvent, good_foldl, good_foldl_snd, good_ite, good_ite_snd, *, implies_true, ite_self]

theorem good_establish (ps : List Piece) (s : State) (h0 : Good p s) : Good p (establish ps s) := by
  simp +contextual (maxDischargeDepth := 99) only [establish, good_setEst, good_freshParity, good_foldl, good_foldl_snd, good_ite, good_ite_snd, *, implies_true, ite_self]

theorem good_finishWrite (src : ℕ) (ps : List Piece) (s : State) (h0 : Good p s) : Good p (finishWrite src ps s) := by
  simp +contextual (maxDischargeDepth := 99) only [finishWrite, good_flipFire, good_establish, good_foldl, good_foldl_snd, good_ite, good_ite_snd, *, implies_true, ite_self]

theorem good_writeWords (v : ℕ) (src : ℕ) (y2 : ℕ) (y3 : ℕ) (y4 : List Byte) (y5 : State) (h0 : Good p y5) : Good p (writeWords v src y2 y3 y4 y5).2 := by
  fun_induction writeWords v src y2 y3 y4 y5 <;> simp_all +contextual +zetaDelta (maxDischargeDepth := 99) only [good_writeWord, good_writePart, good_ite, good_ite_snd, implies_true, ite_self]

theorem good_vwriteRaw (v : ℕ) (off : ℕ) (src : ℕ) (bs : List Byte) (s : State) (h0 : Good p s) : Good p (vwriteRaw v off src bs s).2 := by
  simp +contextual (maxDischargeDepth := 99) only [vwriteRaw, good_writeWords, *, implies_true, ite_self]

theorem good_vwrite (v : ℕ) (off : ℕ) (src : ℕ) (bs : List Byte) (s : State) (h0 : Good p s) : Good p (vwrite v off src bs s).2 := by
  simp +contextual (maxDischargeDepth := 99) only [vwrite, good_vwriteRaw, good_finishWrite, good_ite, good_ite_snd, *, implies_true, ite_self]

theorem good_readWords (v : ℕ) (src : ℕ) (y2 : ℕ) (y3 : ℕ) (y4 : ℕ) (y5 : State) (h0 : Good p y5) : Good p (readWords v src y2 y3 y4 y5).2 := by
  fun_induction readWords v src y2 y3 y4 y5 <;> simp_all +contextual +zetaDelta (maxDischargeDepth := 99) only [good_vread, good_ite, good_ite_snd, implies_true, ite_self]

theorem good_vreadBytes (v : ℕ) (off : ℕ) (n : ℕ) (src : ℕ) (s : State) (h0 : Good p s) : Good p (vreadBytes v off n src s).2 := by
  simp +contextual (maxDischargeDepth := 99) only [vreadBytes, good_readWords, *, implies_true, ite_self]

theorem good_establishIfClean (v : ℕ) (base : ℕ) (s : State) (h0 : Good p s) : Good p (establishIfClean v base s) := by
  simp +contextual (maxDischargeDepth := 99) only [establishIfClean, good_setEst, good_freshParity, good_adoptWord, good_foldl, good_foldl_snd, good_ite, good_ite_snd, *, implies_true, ite_self]

theorem good_patrolWord (v : ℕ) (k : ℕ) (s : State) (h0 : Good p s) : Good p (patrolWord v k s) := by
  simp +contextual (maxDischargeDepth := 99) only [patrolWord, good_parRead, good_vreadAs, good_establishIfClean, good_ite, good_ite_snd, *, implies_true, ite_self]

theorem good_demandScrub (v : ℕ) (blk : ℕ) (s : State) (h0 : Good p s) : Good p (demandScrub v blk s) := by
  simp +contextual (maxDischargeDepth := 99) only [demandScrub, good_vreadAs, good_openBlock, good_establishIfClean, good_parRead, good_foldl, good_foldl_snd, *, implies_true, ite_self]

end Sys2Proof.Machine
end

