-- ==== Sys2Proof/Laws/Keeps/CoreOps.lean ====
section
/-!
SUPPORT. Every operation of Machine/CoreOps.lean keeps the invariant and the queue.
-/

namespace Sys2Proof.Machine

set_option linter.unusedSimpArgs false

variable {p : List Instr}

theorem good_barrierLoss (d : ℕ) (site : ℕ) (s : State) (h0 : Good p s) : Good p (barrierLoss d site s) := by
  simp +contextual (maxDischargeDepth := 99) only [barrierLoss, good_addDue, good_flag, *, implies_true, ite_self]

theorem good_barrierCheck (d : ℕ) (b : ℕ) (s : State) (h0 : Good p s) : Good p (barrierCheck d b s) := by
  simp +contextual (maxDischargeDepth := 99) only [barrierCheck, good_barrierLoss, good_updCore, good_foldl, good_foldl_snd, good_ite, good_ite_snd, *, implies_true, ite_self]

theorem good_barrierChecks (g : ℕ) (s : State) (h0 : Good p s) : Good p (barrierChecks g s) := by
  simp only [barrierChecks]
  repeat' split
  all_goals simp +contextual (maxDischargeDepth := 99) only [good_barrierCheck, good_foldl, good_foldl_snd, *, implies_true, ite_self]

theorem good_trap (g : ℕ) (cls : ℕ) (cause : ℕ) (pc : ℕ) (next : ℕ) (line : ℕ) (ch : ℕ) (word : ℕ) (s : State) (h0 : Good p s) : Good p (trap g cls cause pc next line ch word s) := by
  simp +contextual (maxDischargeDepth := 99) only [trap, good_wr, good_barrierChecks, good_updCore, *, implies_true, ite_self]

theorem good_setFlags (g : ℕ) (f : NumFlags) (s : State) (h0 : Good p s) : Good p (setFlags g f s) := by
  simp +contextual (maxDischargeDepth := 99) only [setFlags, good_flagIf, *, implies_true, ite_self]

theorem good_applySr (g : ℕ) (s : State) (h0 : Good p s) : Good p (applySr g s) := by
  simp +contextual (maxDischargeDepth := 99) only [applySr, good_wr, good_setCore, good_foldl, good_foldl_snd, good_ite, good_ite_snd, *, implies_true, ite_self]

theorem good_countDraws (g : ℕ) (n : ℕ) (s : State) (h0 : Good p s) : Good p (countDraws g n s) := by
  simp +contextual (maxDischargeDepth := 99) only [countDraws, good_wr, good_ite, good_ite_snd, *, implies_true, ite_self]

theorem good_takeDraws (g : ℕ) (n : ℕ) (s0 : State) (h0 : Good p s0) : Good p (takeDraws g n s0).2 := by
  simp +contextual (maxDischargeDepth := 99) only [takeDraws, good_applySr, good_countDraws, good_ite, good_ite_snd, *, implies_true, ite_self]

end Sys2Proof.Machine
end

