-- ==== Sys2Proof/Laws/Keeps/Array.lean ====
section
/-!
SUPPORT. Every operation of Machine/Array.lean keeps the invariant and the queue.
-/

namespace Sys2Proof.Machine

set_option linter.unusedSimpArgs false

variable {p : List Instr}

theorem good_runMload (g : ℕ) (q : Queued) (s : State) (h0 : Good p s) : Good p (runMload g q s) := by
  simp only [runMload]
  repeat' split
  all_goals simp +contextual (maxDischargeDepth := 99) only [good_trap, good_updCore, good_setFlags, *, implies_true, ite_self]

theorem good_runStream (g : ℕ) (q : Queued) (s : State) (h0 : Good p s) : Good p (runStream g q s) := by
  simp only [runStream]
  repeat' split
  all_goals simp +contextual (maxDischargeDepth := 99) only [good_trap, good_flagIf, good_setFlags, good_updCore, good_upd_bad, good_ite, good_ite_snd, *, implies_true, ite_self]

theorem good_runDrain (g : ℕ) (q : Queued) (s : State) (h0 : Good p s) : Good p (runDrain g q s) := by
  simp +contextual (maxDischargeDepth := 99) only [runDrain, good_takeDraws, good_setFlags, good_updCore, good_foldl, good_foldl_snd, good_ite, good_ite_snd, *, implies_true, ite_self]

theorem good_runMclear (g : ℕ) (q : Queued) (s : State) (h0 : Good p s) : Good p (runMclear g q s) := by
  simp +contextual (maxDischargeDepth := 99) only [runMclear, good_updCore, *, implies_true, ite_self]

theorem good_moveMatrix (vWrites : Queued → List Rng) (vDraws : Queued → Bool) (g : ℕ) (s : State) (h0 : Good p s) : ∀ t, moveMatrix vWrites vDraws g s = some t → Good p t := by
  intro t ht
  simp only [moveMatrix] at ht
  repeat' split at ht
  all_goals (cases ht <;> simp +contextual (maxDischargeDepth := 99) only [good_runDrain, good_setCore, good_runMload, good_runStream, good_updCore, good_runMclear, good_ite, good_ite_snd, *])

end Sys2Proof.Machine
end

