-- ==== Sys2Proof/Laws/Keeps/Vector.lean ====
section
/-!
SUPPORT. Every operation of Machine/Vector.lean keeps the invariant and the queue.
-/

namespace Sys2Proof.Machine

set_option linter.unusedSimpArgs false

variable {p : List Instr}

theorem good_touchLines (g : ℕ) (ls : List (ℕ × Bool)) (s : State) (h0 : Good p s) : Good p (touchLines g ls s) := by
  simp +contextual (maxDischargeDepth := 99) only [touchLines, good_setTag, good_setPoison, good_foldl, good_foldl_snd, good_ite, good_ite_snd, *, implies_true, ite_self]

theorem Memory.wf_writeElem (m : Memory) (base : ℕ) (f : Fmt) (i v : ℕ) (b : Bool) (h : Memory.wf m = true) :
    Memory.wf (writeElem m base f i v b) = true := by
  unfold writeElem
  repeat' first
    | exact h
    | exact Memory.wf_mwrite _ _ _ h
    | exact Memory.wf_mset _ _ _ h
    | split
  all_goals first
    | exact Memory.wf_mwrite _ _ _ (Memory.wf_mwrite _ _ _ h)
    | exact Memory.wf_mset _ _ _ (Memory.wf_mset _ _ _ h)

theorem good_pokeElem (g line : ℕ) (f : Fmt) (i n v : ℕ) (s : State) (h0 : Good p s) : Good p (pokeElem g line f i n v s) :=
  h0.cores h0.hcores (Memory.wf_writeElem _ _ _ _ _ _ h0.hspad) h0.hpig

theorem good_pokeByte (g : ℕ) (a : ℕ) (v : ℕ) (s : State) (h0 : Good p s) : Good p (pokeByte g a v s) := by
  exact h0.cores h0.hcores (Memory.wf_mset _ _ _ h0.hspad) h0.hpig

theorem good_chunkStore (g : ℕ) (w : ℕ) (c : VecCfg) (draws : List ℕ) (i : ℕ) (outs : List (BitVec 32)) (s : State) (h0 : Good p s) : Good p (chunkStore g w c draws i outs s).1 := by
  simp only [chunkStore]
  repeat' first
    | (simp +contextual (maxDischargeDepth := 99) only [good_pokeByte, good_pokeElem, good_foldl, good_foldl_snd, good_ite, good_ite_snd, *, implies_true, ite_self]; done)
    | (refine good_foldl ?_ fun u x hu => ?_)
    | (refine good_foldl_snd ?_ fun u x hu => ?_)
    | (refine good_foldl_fst ?_ fun u x hu => ?_)
    | split

theorem good_chunkStep (g w : ℕ) (c : VecCfg) (tile : Option Tile) (mx : BitVec 32) (draws : List ℕ) (r : VRun) (ch : ℕ × ℕ)
    (h : Good p r.s) : Good p (chunkStep g w c tile mx draws r ch).s := by
  simp only [chunkStep]
  repeat' first
    | exact h
    | exact good_touchLines _ _ _ (good_chunkStore _ _ _ _ _ _ _ h)
    | split

theorem good_chunks (g w : ℕ) (c : VecCfg) (tile : Option Tile) (mx : BitVec 32) (draws : List ℕ) (l : List (ℕ × ℕ)) (r : VRun)
    (h : Good p r.s) : Good p (l.foldl (chunkStep g w c tile mx draws) r).s := by
  induction l generalizing r with
  | nil => exact h
  | cons x l ih => exact ih _ (good_chunkStep _ _ _ _ _ _ _ _ h)

theorem good_pokeWord (g : ℕ) (line : ℕ) (k : ℕ) (v : BitVec 32) (s : State) (h0 : Good p s) : Good p (pokeWord g line k v s) := by
  exact good_touchLines _ _ _ (h0.cores h0.hcores (Memory.wf_mwrite _ _ _ h0.hspad) h0.hpig)

theorem good_storeOne (g w : ℕ) (c : VecCfg) (draws : List ℕ) (v : BitVec 32) (r : VRun) (h : Good p r.s) :
    Good p (storeOne g w c draws v r).s := by
  unfold storeOne
  split
  · exact h
  · exact good_touchLines _ _ _ (good_chunkStore _ _ _ _ _ _ _ h)

theorem good_vFinish (g w : ℕ) (c : VecCfg) (draws : List ℕ) (sum mx : BitVec 32) (r : VRun) (h : Good p r.s) :
    Good p (vFinish g w c draws sum mx r).s := by
  simp only [vFinish]
  repeat' split
  all_goals simp +contextual (maxDischargeDepth := 99) only [good_storeOne, good_pokeWord, *]

theorem good_runVector (g : ℕ) (q : Queued) (s0 : State) (h0 : Good p s0) : Good p (runVector g q s0) := by
  have hs : Good p (if vDraws q = true then applySr g s0 else s0) := by
    split
    · exact good_applySr _ _ h0
    · exact h0
  have hv : ∀ b : Bool, ∀ u, Good p u → Good p (flagIf b .coreVecStatusSerial g u) := fun b u h => good_flagIf _ _ _ _ h
  simp only [runVector]
  split
  · refine good_trap _ _ _ _ _ _ _ _ _ (good_foldl ?_ fun u x hu => good_setTag _ _ _ _ (good_setPoison _ _ _ _ hu))
    exact hv _ _ (good_setFlags _ _ _ (good_countDraws _ _ _ (good_vFinish _ _ _ _ _ _ _ (good_chunks _ _ _ _ _ _ _ _ hs))))
  · exact good_updCore _ _ _ (hv _ _ (good_setFlags _ _ _ (good_countDraws _ _ _ (good_vFinish _ _ _ _ _ _ _ (good_chunks _ _ _ _ _ _ _ _ hs)))))

theorem good_setKv (site : ℕ) (k : KvSite) (s : State) (h0 : Good p s) : Good p (setKv site k s) := by
  simp +contextual (maxDischargeDepth := 99) only [setKv, good_upd_kvSites, *, implies_true, ite_self]

theorem good_showQocc (site : ℕ) (s : State) (h0 : Good p s) : Good p (showQocc site s) := by
  simp +contextual (maxDischargeDepth := 99) only [showQocc, good_wr, *, implies_true, ite_self]

theorem good_runVapnd (g : ℕ) (q : Queued) (s : State) (h0 : Good p s) : Good p (runVapnd g q s) := by
  simp only [runVapnd]
  repeat' split
  all_goals simp +contextual (maxDischargeDepth := 99) only [good_trap, good_setFlags, good_showQocc, good_setKv, good_ite, good_ite_snd, *, implies_true, ite_self]

theorem good_moveVector (g : ℕ) (s : State) (h0 : Good p s) : ∀ t, moveVector g s = some t → Good p t := by
  intro t ht
  simp only [moveVector] at ht
  repeat' split at ht
  all_goals (cases ht <;> simp +contextual (maxDischargeDepth := 99) only [good_setCore, good_trap, good_runVapnd, good_runVector, good_ite, good_ite_snd, *])

theorem good_runUnits (g n : ℕ) (s : State) (h : Good p s) : Good p (runUnits g n s) := by
  induction n generalizing s with
  | zero => exact h
  | succ n ih =>
    unfold runUnits
    split
    · next t ht => exact ih t (good_moveMatrix _ _ _ _ h _ ht)
    · split
      · next t ht => exact ih t (good_moveVector _ _ h _ ht)
      · exact h

end Sys2Proof.Machine
end

