-- ==== Sys2Proof/Laws/Keeps/Dma.lean ====
section
/-!
SUPPORT. Every operation of Machine/Dma.lean keeps the invariant and the queue.
-/

namespace Sys2Proof.Machine

set_option linter.unusedSimpArgs false

variable {p : List Instr}

theorem good_walkReads (d : ℕ) (va : ℕ) (src : ℕ) (s : State) (h0 : Good p s) : Good p (walkReads d va src s) := by
  simp only [walkReads]
  repeat' split
  all_goals simp +contextual (maxDischargeDepth := 99) only [good_counterBytes, good_grantSlots, good_ite, good_ite_snd, *, implies_true, ite_self]

theorem good_dmaWalk (g : ℕ) (d : ℕ) (a : ℕ) (s : State) (h0 : Good p s) : Good p (dmaWalk g d a s) := by
  simp only [dmaWalk]
  repeat' split
  all_goals simp +contextual (maxDischargeDepth := 99) only [good_walkReads, good_ite, good_ite_snd, *, implies_true, ite_self]

theorem good_dmaVaultRead (g : ℕ) (d : ℕ) (y2 : ℕ) (y3 : ℕ) (y4 : ℕ) (y5 : State) (h0 : Good p y5) : Good p (dmaVaultRead g d y2 y3 y4 y5).2 := by
  fun_induction dmaVaultRead g d y2 y3 y4 y5 <;> simp_all +contextual +zetaDelta (maxDischargeDepth := 99) only [good_dmaWalk, good_vreadBytes, good_ite, good_ite_snd, implies_true, ite_self]

theorem good_dmaVaultWrite (g : ℕ) (d : ℕ) (y2 : ℕ) (y3 : ℕ) (y4 : List Byte) (y5 : State) (h0 : Good p y5) : Good p (dmaVaultWrite g d y2 y3 y4 y5).2 := by
  fun_induction dmaVaultWrite g d y2 y3 y4 y5 <;> simp_all +contextual +zetaDelta (maxDischargeDepth := 99) only [good_dmaWalk, good_vwriteRaw, good_ite, good_ite_snd, implies_true, ite_self]

theorem good_dmaRead (g : ℕ) (d : ℕ) (a : ℕ) (n : ℕ) (s : State) (h0 : Good p s) : Good p (dmaRead g d a n s).2 := by
  simp only [dmaRead]
  repeat' split
  all_goals simp +contextual (maxDischargeDepth := 99) only [good_dmaVaultRead, good_bump, good_ite, good_ite_snd, *, implies_true, ite_self]

theorem good_dmaWrite (g : ℕ) (d : ℕ) (a : ℕ) (bs : List Byte) (s : State) (h0 : Good p s) : Good p (dmaWrite g d a bs s).2 := by
  simp only [dmaWrite]
  repeat' split
  all_goals simp +contextual (maxDischargeDepth := 99) only [good_dmaVaultWrite, good_pigWrite, good_spWrite, good_ite, good_ite_snd, *, implies_true, ite_self]

theorem good_moveRows (g : ℕ) (d : ℕ) (y2 : List ℕ) (y3 : ℕ) (y4 : State) (h0 : Good p y4) : Good p (moveRows g d y2 y3 y4).2 := by
  fun_induction moveRows g d y2 y3 y4 <;> simp_all +contextual +zetaDelta (maxDischargeDepth := 99) only [good_dmaRead, good_dmaWrite, good_ite, good_ite_snd, implies_true, ite_self]

theorem good_skewRows (g : ℕ) (d : ℕ) (n : ℕ) (y3 : List ℕ) (y4 : State) (h0 : Good p y4) : Good p (skewRows g d n y3 y4).2 := by
  fun_induction skewRows g d n y3 y4 <;> simp_all +contextual +zetaDelta (maxDischargeDepth := 99) only [good_dmaRead, good_ite, good_ite_snd, implies_true, ite_self]

theorem good_skewWrite (g : ℕ) (d : ℕ) (rows : List (List Byte)) (y3 : List ℕ) (y4 : ℕ) (y5 : State) (h0 : Good p y5) : Good p (skewWrite g d rows y3 y4 y5).2 := by
  fun_induction skewWrite g d rows y3 y4 y5 <;> simp_all +contextual +zetaDelta (maxDischargeDepth := 99) only [good_spWrite, good_ite, good_ite_snd, implies_true, ite_self]

theorem good_moveSkew (g : ℕ) (d : ℕ) (lim : ℕ) (s : State) (h0 : Good p s) : Good p (moveSkew g d lim s).2 := by
  simp +contextual (maxDischargeDepth := 99) only [moveSkew, good_skewRows, good_skewWrite, good_setFlags, good_setTag, good_foldl, good_foldl_snd, good_ite, good_ite_snd, *, implies_true, ite_self]

theorem good_moveDma (g : ℕ) (d : ℕ) (lim : ℕ) (s : State) (h0 : Good p s) : Good p (moveDma g d lim s).2 := by
  simp +contextual (maxDischargeDepth := 99) only [moveDma, good_moveSkew, good_moveRows, good_finishWrite, good_ite, good_ite_snd, *, implies_true, ite_self]

theorem good_poisonSome (g : ℕ) (y1 : List ℕ) (y2 : State) (h0 : Good p y2) : Good p (poisonSome g y1 y2) := by
  fun_induction poisonSome g y1 y2 <;> simp_all +contextual +zetaDelta (maxDischargeDepth := 99) only [good_fresh, good_setTag, good_setPoison, good_ite, good_ite_snd, implies_true, ite_self]

theorem good_cutMove (g : ℕ) (d : ℕ) (lim : ℕ) (s : State) (h0 : Good p s) : Good p (cutMove g d lim s) := by
  simp +contextual (maxDischargeDepth := 99) only [cutMove, good_poisonSome, good_moveDma, good_setTag, good_foldl, good_foldl_snd, good_ite, good_ite_snd, *, implies_true, ite_self]

theorem good_spoilLine (g : ℕ) (d : ℕ) (n : ℕ) (s : State) (h0 : Good p s) : Good p (spoilLine g d n s) := by
  simp +contextual (maxDischargeDepth := 99) only [spoilLine, good_setPigPoison, good_setPoison, good_ite, good_ite_snd, *, implies_true, ite_self]

theorem good_countCorrected (g : ℕ) (d : ℕ) (s : State) (h0 : Good p s) : Good p (countCorrected g d s) := by
  simp +contextual (maxDischargeDepth := 99) only [countCorrected, good_bump, good_ite, good_ite_snd, *, implies_true, ite_self]

end Sys2Proof.Machine
end

