-- ==== Sys2Proof/Laws/Keeps/Faults.lean ====
section
/-!
SUPPORT. Every operation of Machine/Faults.lean keeps the invariant and the queue.
-/

namespace Sys2Proof.Machine

set_option linter.unusedSimpArgs false

variable {p : List Instr}

theorem good_setFaults (f : FaultSide) (s : State) (h0 : Good p s) : Good p (setFaults f s) := by
  simp +contextual (maxDischargeDepth := 99) only [setFaults, good_upd_faults, *, implies_true, ite_self]

theorem good_setNet (n : NetSide) (s : State) (h0 : Good p s) : Good p (setNet n s) := by
  simp +contextual (maxDischargeDepth := 99) only [setNet, good_upd_net, *, implies_true, ite_self]

theorem good_showRecovery (s : State) (h0 : Good p s) : Good p (showRecovery s) := by
  simp only [showRecovery]
  repeat' split
  all_goals simp +contextual (maxDischargeDepth := 99) only [good_wr, *, implies_true, ite_self]

theorem good_startRecovery (r : Repair) (s : State) (h0 : Good p s) : Good p (startRecovery r s) := by
  simp +contextual (maxDischargeDepth := 99) only [startRecovery, good_bump, good_setFaults, good_showRecovery, good_wr, *, implies_true, ite_self]

theorem good_detect (r : Repair) (s : State) (h0 : Good p s) : Good p (detect r s).2 := by
  simp only [detect]
  repeat' split
  all_goals simp +contextual (maxDischargeDepth := 99) only [good_startRecovery, good_addDue, good_bump, good_showRecovery, good_setFaults, good_foldl, good_foldl_snd, good_ite, good_ite_snd, *, implies_true, ite_self]

theorem good_noteFailed (ds : List ℕ) (s : State) (h0 : Good p s) : Good p (noteFailed ds s) := by
  simp only [noteFailed]
  repeat' split
  all_goals simp +contextual (maxDischargeDepth := 99) only [good_setFaults, *, implies_true, ite_self]

theorem good_logRecovery (cls : ℕ) (event : ℕ) (outcome : ℕ) (s : State) (h0 : Good p s) : Good p (logRecovery cls event outcome s) := by
  simp only [logRecovery]
  repeat' split
  all_goals simp +contextual (maxDischargeDepth := 99) only [good_addLog, good_events, good_upd_districts, good_ite, good_ite_snd, *, implies_true, ite_self]

theorem good_serialise (r : Repair) (s : State) (h0 : Good p s) : Good p (serialise r s).2 := by
  simp only [serialise]
  repeat' split
  all_goals simp +contextual (maxDischargeDepth := 99) only [good_startRecovery, good_showRecovery, good_setFaults, *, implies_true, ite_self]

theorem good_finishRecovery (s : State) (h0 : Good p s) : Good p (finishRecovery s) := by
  simp only [finishRecovery]
  repeat' split
  all_goals simp +contextual (maxDischargeDepth := 99) only [good_showRecovery, good_events, good_setFaults, *, implies_true, ite_self]

theorem good_endRecovery (cls : ℕ) (event : ℕ) (outcome : ℕ) (s : State) (h0 : Good p s) : Good p (endRecovery cls event outcome s) := by
  simp +contextual (maxDischargeDepth := 99) only [endRecovery, good_finishRecovery, good_logRecovery, *, implies_true, ite_self]

end Sys2Proof.Machine
end

