-- ==== Sys2Proof/Laws/Keeps/Network.lean ====
section
/-!
SUPPORT. Every operation of Machine/Network.lean keeps the invariant and the queue.
-/

namespace Sys2Proof.Machine

set_option linter.unusedSimpArgs false

variable {p : List Instr}

theorem good_signalLoss (x : Signal) (s : State) (h0 : Good p s) : Good p (signalLoss x s) := by
  simp +contextual (maxDischargeDepth := 99) only [signalLoss, good_addDue, good_foldl, good_foldl_snd, good_ite, good_ite_snd, *, implies_true, ite_self]

theorem good_sendSignal (g : ℕ) (t : ℕ) (sem : ℕ) (val : ℕ) (s : State) (h0 : Good p s) : Good p (sendSignal g t sem val s) := by
  simp +contextual (maxDischargeDepth := 99) only [sendSignal, good_signalLoss, good_flag, good_upd_signals, good_ite, good_ite_snd, *, implies_true, ite_self]

theorem good_dropSignals (bad : Signal → Bool) (s : State) (h0 : Good p s) : Good p (dropSignals bad s) := by
  simp +contextual (maxDischargeDepth := 99) only [dropSignals, good_signalLoss, good_flag, good_upd_signals, good_foldl, good_foldl_snd, *, implies_true, ite_self]

theorem good_dropReleases (bad : Bool → ℕ → ℕ → Bool) (s : State) (h0 : Good p s) : Good p (dropReleases bad s) := by
  simp only [dropReleases]
  repeat' first
    | (simp +contextual (maxDischargeDepth := 99) only [good_addDue, good_flag, good_updCore, good_foldl, good_foldl_snd, good_ite, good_ite_snd, *, implies_true, ite_self]; done)
    | (refine good_foldl ?_ fun u x hu => ?_)
    | (refine good_foldl_snd ?_ fun u x hu => ?_)
    | (refine good_foldl_fst ?_ fun u x hu => ?_)
    | split

theorem good_loseTransfers (bad : Bool → ℕ → ℕ → Bool) (s : State) (h0 : Good p s) : Good p (loseTransfers bad s) := by
  simp +contextual (maxDischargeDepth := 99) only [loseTransfers, good_flag, good_updCore, good_foldl, good_foldl_snd, good_ite, good_ite_snd, *, implies_true, ite_self]

theorem good_launch (a : ℕ) (y1 : ℕ) (e : Emission) (s : State) (h0 : Good p s) : Good p (launch a y1 e s) := by
  simp +contextual (maxDischargeDepth := 99) only [launch, good_flag, good_emit, good_upd_fab, good_ite, good_ite_snd, *, implies_true, ite_self]

theorem good_relaunch (s : State) (h0 : Good p s) : Good p (relaunch s) := by
  simp +contextual (maxDischargeDepth := 99) only [relaunch, good_bump, good_launch, good_upd_fab, good_foldl, good_foldl_snd, good_ite, good_ite_snd, *, implies_true, ite_self]

theorem good_sendPiece (a : ℕ) (y1 : ℕ) (dst : ℕ) (k : FabKind) (s : State) (bs : List Byte) (h0 : Good p s) : Good p (sendPiece a y1 dst k s bs) := by
  simp +contextual (maxDischargeDepth := 99) only [sendPiece, good_launch, good_upd_fab, *, implies_true, ite_self]

theorem good_offer (a : ℕ) (ps : List ℕ) (dst : ℕ) (k : FabKind) (body : List Byte) (s : State) (h0 : Good p s) : Good p (offer a ps dst k body s) := by
  simp +contextual (maxDischargeDepth := 99) only [offer, good_flag, good_sendPiece, good_foldl, good_foldl_snd, good_ite, good_ite_snd, *, implies_true, ite_self]

theorem good_sendTwin (a : ℕ) (k : FabKind) (body : List Byte) (s : State) (h0 : Good p s) : Good p (sendTwin a k body s) := by
  simp +contextual (maxDischargeDepth := 99) only [sendTwin, good_offer, *, implies_true, ite_self]

theorem good_startRoute (s : State) (h0 : Good p s) : Good p (startRoute s) := by
  simp +contextual (maxDischargeDepth := 99) only [startRoute, good_wr, good_setNet, good_foldl, good_foldl_snd, *, implies_true, ite_self]

theorem good_drainExpired (s : State) (h0 : Good p s) : Good p (drainExpired s) := by
  simp +contextual (maxDischargeDepth := 99) only [drainExpired, good_loseTransfers, good_dropReleases, good_dropSignals, good_setNet, good_upd_fab, good_ite, good_ite_snd, *, implies_true, ite_self]

theorem good_markSent (s : State) (h0 : Good p s) : Good p (markSent s) := by
  simp only [markSent]
  exact good_foldl h0 fun u x hu => good_updCore _ _ _ hu

theorem good_routesLoaded (s : State) (h0 : Good p s) : Good p (routesLoaded s) := by
  simp +contextual (maxDischargeDepth := 99) only [routesLoaded, good_setNet, good_dropSignals, good_markSent, good_loseTransfers, good_dropReleases, good_wr, good_relaunch, good_addLog, good_foldl, good_foldl_snd, *, implies_true, ite_self]

theorem good_markDown (e : ℕ) (s : State) (h0 : Good p s) : Good p (markDown e s) := by
  simp +contextual (maxDischargeDepth := 99) only [markDown, good_wr, good_setNet, *, implies_true, ite_self]

theorem good_startEdge (s : State) (h0 : Good p s) : Good p (startEdge s) := by
  simp +contextual (maxDischargeDepth := 99) only [startEdge, good_startRoute, good_logRecovery, *, implies_true, ite_self]

theorem good_edgeDown (e : ℕ) (s : State) (h0 : Good p s) : Good p (edgeDown e s) := by
  simp only [edgeDown]
  repeat' split
  all_goals simp +contextual (maxDischargeDepth := 99) only [good_markDown, good_startEdge, good_showRecovery, good_setFaults, good_detect, good_ite, good_ite_snd, *, implies_true, ite_self]

theorem good_startLane (e : ℕ) (lane : ℕ) (s : State) (h0 : Good p s) : Good p (startLane e lane s) := by
  simp +contextual (maxDischargeDepth := 99) only [startLane, good_setNet, good_wr, good_ite, good_ite_snd, *, implies_true, ite_self]

theorem good_startDeferredLane (e : ℕ) (lane : ℕ) (s : State) (h0 : Good p s) : Good p (startDeferredLane e lane s) := by
  simp +contextual (maxDischargeDepth := 99) only [startDeferredLane, good_finishRecovery, good_edgeDown, good_wr, good_startLane, good_ite, good_ite_snd, *, implies_true, ite_self]

theorem good_laneFails (e : ℕ) (lane : ℕ) (s : State) (h0 : Good p s) : Good p (laneFails e lane s) := by
  simp +contextual (maxDischargeDepth := 99) only [laneFails, good_edgeDown, good_wr, good_detect, good_startLane, good_ite, good_ite_snd, *, implies_true, ite_self]

theorem good_laneDone (e : ℕ) (s : State) (h0 : Good p s) : Good p (laneDone e s) := by
  simp only [laneDone]
  repeat' split
  all_goals simp +contextual (maxDischargeDepth := 99) only [good_setNet, good_wr, good_endRecovery, good_bump, good_ite, good_ite_snd, *, implies_true, ite_self]

theorem good_replayIw (e : ℕ) (s : State) (h0 : Good p s) : Good p (replayIw e s) := by
  simp +contextual (maxDischargeDepth := 99) only [replayIw, good_bump, good_ite, good_ite_snd, *, implies_true, ite_self]

theorem good_routerFails (site : ℕ) (s : State) (h0 : Good p s) : Good p (routerFails site s) := by
  simp +contextual (maxDischargeDepth := 99) only [routerFails, good_loseTransfers, good_dropReleases, good_dropSignals, good_startRoute, good_wr, good_setNet, good_ite, good_ite_snd, *, implies_true, ite_self]

end Sys2Proof.Machine
end

