-- ==== Sys2Proof/Laws/Keeps/Control.lean ====
section
/-!
SUPPORT. Every operation of Machine/Control.lean keeps the invariant and the queue.
-/

namespace Sys2Proof.Machine

set_option linter.unusedSimpArgs false

variable {p : List Instr}

theorem good_advance (g : ℕ) (s : State) (h0 : Good p s) : Good p (advance g s) := by
  simp +contextual (maxDischargeDepth := 99) only [advance, good_updCore, *, implies_true, ite_self]

theorem good_waitIn (g : ℕ) (w : ℕ) (st : CoreSt) (s : State) (h0 : Good p s) : Good p (waitIn g w st s) := by
  simp +contextual (maxDischargeDepth := 99) only [waitIn, good_updCore, *, implies_true, ite_self]

theorem good_trapNow (g : ℕ) (cls : ℕ) (cause : ℕ) (line : ℕ) (ch : ℕ) (w : ℕ) (s : State) (h0 : Good p s) : Good p (trapNow g cls cause line ch w s) := by
  simp +contextual (maxDischargeDepth := 99) only [trapNow, good_trap, *, implies_true, ite_self]

theorem good_issueMatrix (g : ℕ) (w : ℕ) (s : State) (h0 : Good p s) : Good p (issueMatrix g w s) := by
  simp only [issueMatrix]
  repeat' split
  all_goals simp +contextual (maxDischargeDepth := 99) only [good_trapNow, good_waitIn, good_runUnits, good_setCore, good_ite, good_ite_snd, *, implies_true, ite_self]

theorem good_issueVcfg (g : ℕ) (w : ℕ) (s : State) (h0 : Good p s) : Good p (issueVcfg g w s) := by
  simp +contextual (maxDischargeDepth := 99) only [issueVcfg, good_trapNow, good_updCore, good_ite, good_ite_snd, *, implies_true, ite_self]

theorem good_issueVector (g : ℕ) (w : ℕ) (s : State) (h0 : Good p s) : Good p (issueVector g w s) := by
  unfold issueVector
  dsimp only
  split
  · exact good_trapNow _ _ _ _ _ _ _ h0
  · split
    · exact good_advance _ _ h0
    · split
      · exact good_waitIn _ _ _ _ h0
      · exact good_runUnits _ _ _ (good_setCore _ _ _ h0)

theorem good_haltTrap (g : ℕ) (ch : ℕ) (w : ℕ) (s : State) (h0 : Good p s) : Good p (haltTrap g ch w s) := by
  simp +contextual (maxDischargeDepth := 99) only [haltTrap, good_trapNow, *, implies_true, ite_self]

theorem good_reservedTrap (g : ℕ) (w : ℕ) (s : State) (h0 : Good p s) : Good p (reservedTrap g w s) := by
  simp +contextual (maxDischargeDepth := 99) only [reservedTrap, good_trapNow, *, implies_true, ite_self]

theorem good_xNop (g : ℕ) (w : ℕ) (s : State) (h0 : Good p s) : Good p (xNop g w s) := by
  simp +contextual (maxDischargeDepth := 99) only [xNop, good_reservedTrap, good_advance, good_ite, good_ite_snd, *, implies_true, ite_self]

theorem good_xHalt (g : ℕ) (w : ℕ) (s : State) (h0 : Good p s) : Good p (xHalt g w s) := by
  simp +contextual (maxDischargeDepth := 99) only [xHalt, good_reservedTrap, good_waitIn, good_barrierChecks, good_updCore, good_wr, good_ite, good_ite_snd, *, implies_true, ite_self]

theorem good_startDma (g : ℕ) (ch : ℕ) (line : ℕ) (s : State) (h0 : Good p s) : Good p (startDma g ch line s) := by
  simp +contextual (maxDischargeDepth := 99) only [startDma, good_flagIf, good_setCore, good_spWrite, good_ite, good_ite_snd, *, implies_true, ite_self]

theorem good_xDmax (g : ℕ) (w : ℕ) (s : State) (h0 : Good p s) : Good p (xDmax g w s) := by
  simp only [xDmax]
  repeat' split
  all_goals simp +contextual (maxDischargeDepth := 99) only [good_reservedTrap, good_waitIn, good_haltTrap, good_trapNow, good_advance, good_startDma, good_ite, good_ite_snd, *, implies_true, ite_self]

theorem good_xDwait (g : ℕ) (w : ℕ) (s : State) (h0 : Good p s) : Good p (xDwait g w s) := by
  simp only [xDwait]
  repeat' split
  all_goals simp +contextual (maxDischargeDepth := 99) only [good_reservedTrap, good_waitIn, good_haltTrap, good_advance, good_ite, good_ite_snd, *, implies_true, ite_self]

theorem good_xSig (g : ℕ) (w : ℕ) (s : State) (h0 : Good p s) : Good p (xSig g w s) := by
  simp only [xSig]
  repeat' split
  all_goals simp +contextual (maxDischargeDepth := 99) only [good_reservedTrap, good_trapNow, good_haltTrap, good_waitIn, good_advance, good_sendSignal, good_ite, good_ite_snd, *, implies_true, ite_self]

theorem good_xSwait (g : ℕ) (w : ℕ) (s : State) (h0 : Good p s) : Good p (xSwait g w s) := by
  simp +contextual (maxDischargeDepth := 99) only [xSwait, good_reservedTrap, good_advance, good_wr, good_waitIn, good_ite, good_ite_snd, *, implies_true, ite_self]

theorem good_xBar (g : ℕ) (w : ℕ) (s : State) (h0 : Good p s) : Good p (xBar g w s) := by
  simp only [xBar]
  repeat' split
  all_goals simp +contextual (maxDischargeDepth := 99) only [good_reservedTrap, good_waitIn, good_haltTrap, good_barrierChecks, good_updCore, good_ite, good_ite_snd, *, implies_true, ite_self]

theorem good_startLoop (g : ℕ) (count : ℕ) (body : ℕ) (s : State) (h0 : Good p s) : Good p (startLoop g count body s) := by
  simp +contextual (maxDischargeDepth := 99) only [startLoop, good_updCore, good_ite, good_ite_snd, *, implies_true, ite_self]

theorem good_xLoop (g : ℕ) (w : ℕ) (s : State) (h0 : Good p s) : Good p (xLoop g w s) := by
  simp +contextual (maxDischargeDepth := 99) only [xLoop, good_reservedTrap, good_trapNow, good_startLoop, good_ite, good_ite_snd, *, implies_true, ite_self]

theorem good_xLoopi (g : ℕ) (w : ℕ) (s : State) (h0 : Good p s) : Good p (xLoopi g w s) := by
  simp +contextual (maxDischargeDepth := 99) only [xLoopi, good_reservedTrap, good_trapNow, good_waitIn, good_startLoop, good_ite, good_ite_snd, *, implies_true, ite_self]

theorem good_branchTo (g : ℕ) (t : ℕ) (s : State) (h0 : Good p s) : Good p (branchTo g t s) := by
  simp +contextual (maxDischargeDepth := 99) only [branchTo, good_updCore, *, implies_true, ite_self]

theorem good_xBr (g : ℕ) (w : ℕ) (s : State) (h0 : Good p s) : Good p (xBr g w s) := by
  simp +contextual (maxDischargeDepth := 99) only [xBr, good_reservedTrap, good_trapNow, good_branchTo, good_waitIn, good_advance, good_ite, good_ite_snd, *, implies_true, ite_self]

theorem good_xNotice (g : ℕ) (w : ℕ) (s : State) (h0 : Good p s) : Good p (xNotice g w s) := by
  simp +contextual (maxDischargeDepth := 99) only [xNotice, good_reservedTrap, good_advance, good_upd_notices, good_ite, good_ite_snd, *, implies_true, ite_self]

theorem good_xRwait (g : ℕ) (w : ℕ) (s : State) (h0 : Good p s) : Good p (xRwait g w s) := by
  simp only [xRwait]
  repeat' split
  all_goals simp +contextual (maxDischargeDepth := 99) only [good_reservedTrap, good_advance, good_waitIn, good_haltTrap, good_updCore, good_ite, good_ite_snd, *, implies_true, ite_self]

theorem good_issueWord (g : ℕ) (w : ℕ) (s : State) (h0 : Good p s) : Good p (issueWord g w s) := by
  simp only [issueWord]
  repeat' split
  all_goals simp +contextual (maxDischargeDepth := 99) only [good_xNop, good_xHalt, good_xDmax, good_xDwait, good_xSig, good_xSwait, good_xBar, good_xLoop, good_xLoopi, good_xBr, good_xNotice, good_xRwait, good_issueVcfg, good_reservedTrap, good_issueMatrix, good_issueVector, good_ite, good_ite_snd, *, implies_true, ite_self]

theorem good_wake (g : ℕ) (s : State) (h0 : Good p s) : Good p (wake g s) := by
  simp only [wake]
  repeat' split
  all_goals simp +contextual (maxDischargeDepth := 99) only [good_runUnits, good_issueWord, good_updCore, good_ite, good_ite_snd, *, implies_true, ite_self]

theorem good_wakeSite (site : ℕ) (s : State) (h0 : Good p s) : Good p (wakeSite site s) := by
  simp +contextual (maxDischargeDepth := 99) only [wakeSite, good_wake, good_foldl, good_foldl_snd, *, implies_true, ite_self]

theorem good_issue (f : ℕ → ℕ → State → State) (g : ℕ) (w : ℕ) (s : State) (hf : ∀ a b u, Good p u → Good p (f a b u)) (h1 : Good p s) : Good p (issue f g w s) := by
  simp +contextual (maxDischargeDepth := 99) only [issue, good_trapNow, good_wake, good_ite, good_ite_snd, *, implies_true, ite_self]

theorem good_startCore (g : ℕ) (s : State) (h0 : Good p s) : Good p (startCore g s) := by
  simp +contextual (maxDischargeDepth := 99) only [startCore, good_wr, good_updCore, good_foldl, good_foldl_snd, good_ite, good_ite_snd, *, implies_true, ite_self]

theorem good_goCore (g : ℕ) (s : State) (h0 : Good p s) : Good p (goCore g s) := by
  simp +contextual (maxDischargeDepth := 99) only [goCore, good_updCore, good_startCore, good_ite, good_ite_snd, *, implies_true, ite_self]

theorem good_goIfWaiting (g : ℕ) (s : State) (h0 : Good p s) : Good p (goIfWaiting g s) := by
  simp +contextual (maxDischargeDepth := 99) only [goIfWaiting, good_startCore, good_ite, good_ite_snd, *, implies_true, ite_self]

theorem good_stopCore (g : ℕ) (s : State) (h0 : Good p s) : Good p (stopCore g s) := by
  simp +contextual (maxDischargeDepth := 99) only [stopCore, good_barrierChecks, good_updCore, good_ite, good_ite_snd, *, implies_true, ite_self]

theorem good_endDma (g : ℕ) (ch : ℕ) (code : ℕ) (s : State) (h0 : Good p s) : Good p (endDma g ch code s) := by
  simp +contextual (maxDischargeDepth := 99) only [endDma, good_updCore, good_wake, good_goIfWaiting, good_ite, good_ite_snd, *, implies_true, ite_self]

theorem good_completeDma (g : ℕ) (ch : ℕ) (s : State) (h0 : Good p s) : Good p (completeDma g ch s) := by
  simp +contextual (maxDischargeDepth := 99) only [completeDma, good_moveDma, good_endDma, good_ite, good_ite_snd, *, implies_true, ite_self]

theorem good_haltDma (g : ℕ) (ch : ℕ) (code : ℕ) (n : ℕ) (s : State) (h0 : Good p s) : Good p (haltDma g ch code n s) := by
  simp +contextual (maxDischargeDepth := 99) only [haltDma, good_countCorrected, good_moveDma, good_spoilLine, good_endDma, good_cutMove, good_setTag, good_foldl, good_foldl_snd, good_ite, good_ite_snd, *, implies_true, ite_self]

theorem good_ackTimeout (g : ℕ) (ch : ℕ) (n : ℕ) (s : State) (h0 : Good p s) : Good p (ackTimeout g ch n s) := by
  simp +contextual (maxDischargeDepth := 99) only [ackTimeout, good_moveDma, good_endDma, good_flag, good_ite, good_ite_snd, *, implies_true, ite_self]

theorem good_addSem (g : ℕ) (sem : ℕ) (v : ℕ) (s : State) (h0 : Good p s) : Good p (addSem g sem v s) := by
  simp +contextual (maxDischargeDepth := 99) only [addSem, good_flag, good_wr, good_ite, good_ite_snd, *, implies_true, ite_self]

theorem good_deliverSignal (src : ℕ) (g : ℕ) (s : State) (h0 : Good p s) : Good p (deliverSignal src g s) := by
  simp only [deliverSignal]
  repeat' split
  all_goals simp +contextual (maxDischargeDepth := 99) only [good_wake, good_addSem, good_upd_signals, good_ite, good_ite_snd, *, implies_true, ite_self]

theorem good_releaseBarrier (g : ℕ) (s : State) (h0 : Good p s) : Good p (releaseBarrier g s) := by
  simp +contextual (maxDischargeDepth := 99) only [releaseBarrier, good_advance, good_updCore, good_ite, good_ite_snd, *, implies_true, ite_self]

theorem good_releaseStep (g : ℕ) (s : State) (h0 : Good p s) : Good p (releaseStep g s) := by
  simp +contextual (maxDischargeDepth := 99) only [releaseStep, good_updCore, good_wake, good_ite, good_ite_snd, *, implies_true, ite_self]

theorem good_releaseRound (g : ℕ) (s : State) (h0 : Good p s) : Good p (releaseRound g s) := by
  simp only [releaseRound]
  repeat' split
  all_goals simp +contextual (maxDischargeDepth := 99) only [good_advance, good_updCore, good_ite, good_ite_snd, *, implies_true, ite_self]

theorem good_tileDeadlock (g : ℕ) (s : State) (h0 : Good p s) : Good p (tileDeadlock g s) := by
  simp only [tileDeadlock]
  repeat' split
  all_goals simp +contextual (maxDischargeDepth := 99) only [good_trap, good_ite, good_ite_snd, *, implies_true, ite_self]

theorem good_holdSr (g : ℕ) (seed : Bool) (v : Word64) (s : State) (h0 : Good p s) : Good p (holdSr g seed v s) := by
  simp +contextual (maxDischargeDepth := 99) only [holdSr, good_updCore, *, implies_true, ite_self]

end Sys2Proof.Machine
end

