-- ==== Sys2Proof/Laws/Keeps/Envelope.lean ====
section
/-!
SUPPORT. Every operation of Machine/Envelope.lean keeps the invariant and the queue.
-/

namespace Sys2Proof.Machine

set_option linter.unusedSimpArgs false

variable {p : List Instr}

theorem good_setEng (x : EngSide) (s : State) (h : Good p s) (ht : x.staging = s.eng.staging) (hl : x.slots = s.eng.slots) :
    Good p (setEng x s) :=
  h.eng (ht ▸ h.hstaging) (hl ▸ h.hslots)

theorem good_mboxCopy (m : ℕ) (bs : List Byte) (s : State) (h0 : Good p s) : Good p (mboxCopy m bs s) := by
  simp +contextual (maxDischargeDepth := 99) only [mboxCopy, good_vwrite, good_flag, good_ite, good_ite_snd, *, implies_true, ite_self]

theorem good_mboxIrq (m : ℕ) (s : State) (h0 : Good p s) : Good p (mboxIrq m s) := by
  simp +contextual (maxDischargeDepth := 99) only [mboxIrq, good_emit, good_ite, good_ite_snd, *, implies_true, ite_self]

theorem good_mboxFill (m : ℕ) (bs : List Byte) (s : State) (h0 : Good p s) : Good p (mboxFill m bs s) := by
  simp only [mboxFill]
  refine good_mboxIrq _ _ (good_mboxCopy _ _ _ (good_wr _ _ _ _ (good_flag _ _ _ ?_)))
  exact h0.eng h0.hstaging (Memory.wf_mwrite _ _ _ h0.hslots)

theorem good_fwSend (m : ℕ) (event : Bool) (bs : List Byte) (s : State) (h0 : Good p s) : Good p (fwSend m event bs s) := by
  simp +contextual (maxDischargeDepth := 99) only [fwSend, good_mboxFill, good_flag, good_setEng, good_bump, good_ite, good_ite_snd, *, implies_true, ite_self]

theorem good_fwNext (m : ℕ) (s : State) (h0 : Good p s) : Good p (fwNext m s) := by
  simp only [fwNext]
  repeat' split
  all_goals simp +contextual (maxDischargeDepth := 99) only [good_mboxFill, good_setEng, *, implies_true, ite_self]

theorem good_sendEvent (code : ℕ) (d : ℕ) (site : ℕ) (index : ℕ) (s : State) (h0 : Good p s) : Good p (sendEvent code d site index s) := by
  simp +contextual (maxDischargeDepth := 99) only [sendEvent, good_fwSend, good_emit, good_foldl, good_foldl_snd, good_ite, good_ite_snd, *, implies_true, ite_self]

theorem good_ringIdle (n : ℕ) (s : State) (h0 : Good p s) : Good p (ringIdle n s) := by
  simp +contextual (maxDischargeDepth := 99) only [ringIdle, good_wr, *, implies_true, ite_self]

theorem good_reply (opcode : ℕ) (e : Env) (a : Ans) (s : State) (h0 : Good p s) : Good p (reply opcode e a s) := by
  simp only [reply]
  repeat' split
  all_goals simp +contextual (maxDischargeDepth := 99) only [good_setEng, good_bump, good_ringIdle, good_emit, good_wr, good_fwSend, good_ite, good_ite_snd, *, implies_true, ite_self]

theorem good_countAuthority (o : OpInfo) (e : Env) (s : State) (h0 : Good p s) : Good p (countAuthority o e s) := by
  simp +contextual (maxDischargeDepth := 99) only [countAuthority, good_bump, good_setEng, good_addLog, good_ite, good_ite_snd, *, implies_true, ite_self]

theorem good_markPassed (e : Env) (s : State) (h0 : Good p s) : Good p (markPassed e s) := by
  simp only [markPassed]
  repeat' split
  all_goals simp +contextual (maxDischargeDepth := 99) only [good_setEng, good_ite, good_ite_snd, *, implies_true, ite_self]

theorem good_handle (o : OpInfo) (e : Env) (body : State → Option Ans × State) (s : State) (hf : ∀ u, Good p u → Good p (body u).2) (h1 : Good p s) : Good p (handle o e body s) := by
  simp only [handle]
  repeat' split
  all_goals simp +contextual (maxDischargeDepth := 99) only [good_reply, good_countAuthority, good_ite, good_ite_snd, *, implies_true, ite_self]

theorem good_envelope (o : OpInfo) (e : Env) (body : State → Option Ans × State) (s : State) (hf : ∀ u, Good p u → Good p (body u).2) (h1 : Good p s) : Good p (envelope o e body s) := by
  simp only [envelope]
  repeat' split
  all_goals simp +contextual (maxDischargeDepth := 99) only [good_markPassed, good_countAuthority, good_reply, good_setEng, good_handle, good_ite, good_ite_snd, *, implies_true, ite_self]

theorem good_atOnce (f : State → Ans × State) (s : State) (hf : ∀ u, Good p u → Good p (f u).2) (h1 : Good p s) : Good p (atOnce f s).2 := by
  simp +contextual (maxDischargeDepth := 99) only [atOnce, *, implies_true, ite_self]

end Sys2Proof.Machine
end

