-- ==== Sys2Proof/Laws/Keeps/Pages.lean ====
section
/-!
SUPPORT. Every operation of Machine/Pages.lean keeps the invariant and the queue.
-/

namespace Sys2Proof.Machine

set_option linter.unusedSimpArgs false

variable {p : List Instr}

theorem good_fillPieces (ps : List Piece) (pat : List Byte) (s : State) (h0 : Good p s) : Good p (fillPieces ps pat s) := by
  simp +contextual (maxDischargeDepth := 99) only [fillPieces, good_finishWrite, good_writeWord, good_foldl, good_foldl_snd, *, implies_true, ite_self]

theorem good_fillRange (v : ℕ) (off : ℕ) (n : ℕ) (pat : List Byte) (s : State) (h0 : Good p s) : Good p (fillRange v off n pat s) := by
  simp +contextual (maxDischargeDepth := 99) only [fillRange, good_fillPieces, *, implies_true, ite_self]

theorem good_zeroPage (v : ℕ) (page : ℕ) (s : State) (h0 : Good p s) : Good p (zeroPage v page s) := by
  simp +contextual (maxDischargeDepth := 99) only [zeroPage, good_fillRange, *, implies_true, ite_self]

theorem good_takePage (d : ℕ) (v : ℕ) (page : ℕ) (o : PageOwner) (s : State) (h0 : Good p s) : Good p (takePage d v page o s) := by
  simp +contextual (maxDischargeDepth := 99) only [takePage, good_zeroPage, good_setPage, good_wr, good_ite, good_ite_snd, *, implies_true, ite_self]

theorem good_freePage (d : ℕ) (v : ℕ) (page : ℕ) (s : State) (h0 : Good p s) : Good p (freePage d v page s) := by
  simp +contextual (maxDischargeDepth := 99) only [freePage, good_setPage, good_wr, *, implies_true, ite_self]

theorem good_writeCounter (a : ℕ) (n : ℕ) (w : ℕ) (s : State) (h0 : Good p s) : Good p (writeCounter a n w s) := by
  simp +contextual (maxDischargeDepth := 99) only [writeCounter, good_vwrite, *, implies_true, ite_self]

theorem good_makeRoot (d : ℕ) (s : State) (h0 : Good p s) : Good p (makeRoot d s).2 := by
  simp only [makeRoot]
  repeat' split
  all_goals simp +contextual (maxDischargeDepth := 99) only [good_takePage, good_zeroPage, good_wr, good_ite, good_ite_snd, *, implies_true, ite_self]

theorem good_makeLeaf (d : ℕ) (n : ℕ) (s : State) (h0 : Good p s) : Good p (makeLeaf d n s).2 := by
  simp only [makeLeaf]
  repeat' split
  all_goals simp +contextual (maxDischargeDepth := 99) only [good_zeroPage, good_takePage, good_writeCounter, good_ite, good_ite_snd, *, implies_true, ite_self]

theorem good_mapPage (d : ℕ) (n : ℕ) (v : ℕ) (page : ℕ) (write : Bool) (parcel : Bool) (s : State) (h0 : Good p s) : Good p (mapPage d n v page write parcel s).2 := by
  simp only [mapPage]
  repeat' split
  all_goals simp +contextual (maxDischargeDepth := 99) only [good_makeLeaf, good_walkReads, good_writeCounter, good_ite, good_ite_snd, *, implies_true, ite_self]

theorem good_writeEntry (d : ℕ) (n : ℕ) (w : ℕ) (s : State) (h0 : Good p s) : Good p (writeEntry d n w s) := by
  simp only [writeEntry]
  repeat' split
  all_goals simp +contextual (maxDischargeDepth := 99) only [good_writeCounter, *, implies_true, ite_self]

theorem good_unmapPage (d : ℕ) (n : ℕ) (s : State) (h0 : Good p s) : Good p (unmapPage d n s) := by
  simp +contextual (maxDischargeDepth := 99) only [unmapPage, good_writeEntry, *, implies_true, ite_self]

theorem good_allocMapped (d : ℕ) (n : ℕ) (vs : List ℕ) (s : State) (h0 : Good p s) : Good p (allocMapped d n vs s).2 := by
  simp only [allocMapped]
  repeat' split
  all_goals simp +contextual (maxDischargeDepth := 99) only [good_mapPage, good_takePage, good_ite, good_ite_snd, *, implies_true, ite_self]

theorem good_dvaRead (d : ℕ) (va : ℕ) (n : ℕ) (src : ℕ) (s : State) (h0 : Good p s) : Good p (dvaRead d va n src s).2 := by
  simp only [dvaRead]
  repeat' split
  all_goals simp +contextual (maxDischargeDepth := 99) only [good_walkReads, good_vreadBytes, good_ite, good_ite_snd, *, implies_true, ite_self]

theorem good_dvaWrite (d : ℕ) (va : ℕ) (src : ℕ) (bs : List Byte) (s : State) (h0 : Good p s) : Good p (dvaWrite d va src bs s).2 := by
  simp only [dvaWrite]
  repeat' split
  all_goals simp +contextual (maxDischargeDepth := 99) only [good_walkReads, good_vwrite, *, implies_true, ite_self]

theorem good_reshape (d : ℕ) (s : State) (h0 : Good p s) : Good p (reshape d s) := by
  simp +contextual (maxDischargeDepth := 99) only [reshape, good_wr, *, implies_true, ite_self]

end Sys2Proof.Machine
end

