-- ==== Sys2Proof/Laws/Keeps/Host.lean ====
section
/-!
SUPPORT. Every operation of Machine/Host.lean keeps the invariant and the queue.
-/

namespace Sys2Proof.Machine

set_option linter.unusedSimpArgs false

variable {p : List Instr}

theorem good_setEngine (k : ℕ) (x : Engine) (s : State) (h0 : Good p s) : Good p (setEngine k x s) := by
  simp +contextual (maxDischargeDepth := 99) only [setEngine, good_upd_engines, *, implies_true, ite_self]

theorem good_meetHost (v : ℕ) (s : State) (h0 : Good p s) : Good p (meetHost v s) := by
  simp only [meetHost]
  repeat' first
    | (simp +contextual (maxDischargeDepth := 99) only [good_setEngine, good_foldl, good_foldl_snd, good_ite, good_ite_snd, *, implies_true, ite_self]; done)
    | (refine good_foldl ?_ fun u x hu => ?_)
    | (refine good_foldl_snd ?_ fun u x hu => ?_)
    | (refine good_foldl_fst ?_ fun u x hu => ?_)
    | split

theorem good_serveHost (x : HostAccess) (s : State) (h0 : Good p s) : Good p (serveHost x s) := by
  simp only [serveHost]
  repeat' split
  all_goals simp +contextual (maxDischargeDepth := 99) only [good_flag, good_emit, good_vwrite, good_meetHost, good_vreadBytes, good_ite, good_ite_snd, *, implies_true, ite_self]

theorem good_hostAccess (x : HostAccess) (s : State) (h0 : Good p s) : Good p (hostAccess x s) := by
  simp +contextual (maxDischargeDepth := 99) only [hostAccess, good_flag, good_emit, good_setNet, good_serveHost, good_ite, good_ite_snd, *, implies_true, ite_self]

theorem good_releaseHeld (s : State) (h0 : Good p s) : Good p (releaseHeld s) := by
  simp +contextual (maxDischargeDepth := 99) only [releaseHeld, good_hostAccess, good_setNet, good_foldl, good_foldl_snd, *, implies_true, ite_self]

end Sys2Proof.Machine
end

