-- ==== Sys2Proof/Laws/Keeps/NearMem.lean ====
section
/-!
SUPPORT. Every operation of Machine/NearMem.lean keeps the invariant and the queue.
-/

namespace Sys2Proof.Machine

set_option linter.unusedSimpArgs false

variable {p : List Instr}

theorem good_nmWalk (d : Option ℕ) (adm : ℕ) (a : ℕ) (n : ℕ) (s : State) (h0 : Good p s) : Good p (nmWalk d adm a n s) := by
  simp only [nmWalk]
  repeat' split
  all_goals simp +contextual (maxDischargeDepth := 99) only [good_walkReads, good_foldl, good_foldl_snd, good_ite, good_ite_snd, *, implies_true, ite_self]

theorem good_readPieces (e : ℕ) (y1 : List (Option Piece)) (y2 : State) (h0 : Good p y2) : Good p (readPieces e y1 y2).2 := by
  fun_induction readPieces e y1 y2 <;> simp_all +contextual +zetaDelta (maxDischargeDepth := 99) only [good_vreadBytes, good_addSat, good_ite, good_ite_snd, implies_true, ite_self]

theorem good_nmListRead (e : ℕ) (op : NmOp) (a : ℕ) (n : ℕ) (s : State) (h0 : Good p s) : Good p (nmListRead e op a n s).2 := by
  simp +contextual (maxDischargeDepth := 99) only [nmListRead, good_bump, good_readPieces, good_nmWalk, good_ite, good_ite_snd, *, implies_true, ite_self]

theorem good_nmEntry (e : ℕ) (op : NmOp) (y2 : ℕ) (s : State) (h0 : Good p s) : Good p (nmEntry e op y2 s).2 := by
  simp only [nmEntry]
  repeat' split
  all_goals simp +contextual (maxDischargeDepth := 99) only [good_nmListRead, good_nmWalk, good_readPieces, good_bump, good_ite, good_ite_snd, *, implies_true, ite_self]

theorem good_nmGroup (e : ℕ) (op : NmOp) (y2 : ℕ) (y3 : ℕ) (y4 : State) (h0 : Good p y4) : Good p (nmGroup e op y2 y3 y4).2 := by
  fun_induction nmGroup e op y2 y3 y4 <;> simp_all +contextual +zetaDelta (maxDischargeDepth := 99) only [good_nmEntry, good_ite, good_ite_snd, implies_true, ite_self]

theorem good_nmCompute (e : ℕ) (op : NmOp) (y2 : ℕ) (y3 : ℕ) (y4 : NmRun) (y5 : State) (h0 : Good p y5) : Good p (nmCompute e op y2 y3 y4 y5).2 := by
  fun_induction nmCompute e op y2 y3 y4 y5 <;> simp_all +contextual +zetaDelta (maxDischargeDepth := 99) only [good_nmGroup, good_ite, good_ite_snd, implies_true, ite_self]

theorem good_writeChunks (e : ℕ) (y1 : List Chunk) (y2 : NmOut) (y3 : State) (h0 : Good p y3) : Good p (writeChunks e y1 y2 y3).2 := by
  fun_induction writeChunks e y1 y2 y3 <;> simp_all +contextual +zetaDelta (maxDischargeDepth := 99) only [good_vwriteRaw, implies_true, ite_self]

theorem good_blockWords (e : ℕ) (cs : List Chunk) (a : ℕ) (y3 : ℕ) (y4 : State) (h0 : Good p y4) : Good p (blockWords e cs a y3 y4).2 := by
  fun_induction blockWords e cs a y3 y4 <;> simp_all +contextual +zetaDelta (maxDischargeDepth := 99) only [good_vread, good_addSat, good_ite, good_ite_snd, implies_true, ite_self]

theorem good_tupleLost (e : ℕ) (s : State) (y2 : ℕ × ℕ) (h0 : Good p s) : ∀ t, tupleLost e s y2 = some t → Good p t := by
  intro t ht
  unfold tupleLost at ht
  dsimp only at ht
  repeat' split at ht
  all_goals (cases ht <;> simp +contextual (maxDischargeDepth := 99) only [good_vreadAs, good_ite, good_ite_snd, *])

theorem good_writeBlock (e : ℕ) (cs : List Chunk) (tags : List (ℕ × ℕ × ℕ)) (b : ℕ) (o : NmOut) (s : State) (h0 : Good p s) : Good p (writeBlock e cs tags b o s).2 := by
  have hb := good_blockWords e cs (512 * b) 16 s h0
  have hu : ∀ u, (tags.map (tuplePlace b)).findSome? (tupleLost e (blockWords e cs (512 * b) 16 s).2) = some u → Good p u := by
    intro u h
    obtain ⟨x, _, hx⟩ := List.exists_of_findSome?_eq_some h
    exact good_tupleLost _ _ _ hb _ hx
  have hw := good_writeChunks e cs { o with blocks := b :: o.blocks } _ hb
  unfold writeBlock
  dsimp only
  split
  · exact hb
  · next h => exact hu _ h
  · split
    · exact hw
    · exact good_writeChunks _ _ _ _ hw

theorem good_guardWrite (e : ℕ) (all l : List Chunk) (o : NmOut) (s : State) (h0 : Good p s) : Good p (guardWrite e all l o s).2 := by
  induction l generalizing o s with
  | nil => exact h0
  | cons c l ih =>
    have h1 := good_writeChunks e [c] o s h0
    have h2 := good_writeBlock e (all.filter fun x => x.2.1 < 0x2000000 && chunkBlock x == chunkBlock c) (tagsOf c.1 c.2.1 s)
      (chunkBlock c) o s h0
    unfold guardWrite
    dsimp only
    by_cases ht : (tagsOf c.1 c.2.1 s).isEmpty = true
    · simp only [if_pos ht]
      split
      · exact h1
      · exact ih _ _ h1
    · by_cases hb : o.blocks.contains (chunkBlock c) = true
      · simp only [if_neg ht, if_pos hb]
        split
        · exact h0
        · exact ih _ _ h0
      · simp only [if_neg ht, if_neg hb]
        split
        · exact h2
        · exact ih _ _ h2

theorem good_nmWriteRow (e : ℕ) (op : NmOp) (all : List Chunk) (k : ℕ) (bs : List Byte) (o : NmOut) (s : State) (h0 : Good p s) : Good p (nmWriteRow e op all k bs o s).2 := by
  simp only [nmWriteRow]
  repeat' split
  all_goals simp +contextual (maxDischargeDepth := 99) only [good_pigWrite, good_nmWalk, good_guardWrite, good_writeChunks, good_ite, good_ite_snd, *, implies_true, ite_self]

theorem good_nmWriteRows (e : ℕ) (op : NmOp) (all : List Chunk) (y3 : ℕ) (y4 : List (List Byte)) (y5 : NmOut) (y6 : State) (h0 : Good p y6) : Good p (nmWriteRows e op all y3 y4 y5 y6).2 := by
  fun_induction nmWriteRows e op all y3 y4 y5 y6 <;> simp_all +contextual +zetaDelta (maxDischargeDepth := 99) only [good_nmWriteRow, good_ite, good_ite_snd, implies_true, ite_self]

theorem good_nmRun (e : ℕ) (op : NmOp) (lim : ℕ) (part : ℕ) (s : State) (h0 : Good p s) : Good p (nmRun e op lim part s).2 := by
  simp +contextual (maxDischargeDepth := 99) only [nmRun, good_nmCompute, good_nmWriteRows, good_finishWrite, good_ite, good_ite_snd, *, implies_true, ite_self]

theorem good_showEngine (e : ℕ) (s : State) (h0 : Good p s) : Good p (showEngine e s) := by
  simp +contextual (maxDischargeDepth := 99) only [showEngine, good_wr, *, implies_true, ite_self]

theorem good_fencePass (seq : ℕ) (s : State) (h0 : Good p s) : Good p (fencePass seq s) := by
  simp +contextual (maxDischargeDepth := 99) only [fencePass, good_setEng, good_reply, good_foldl, good_foldl_snd, *, implies_true, ite_self]

theorem good_nmAnswer (op : NmOp) (status : ℕ) (rec_ : List Byte) (s : State) (h0 : Good p s) : Good p (nmAnswer op status rec_ s) := by
  simp only [nmAnswer]
  repeat' split
  all_goals simp +contextual (maxDischargeDepth := 99) only [good_reply, good_addDue, good_updDistrict, good_ite, good_ite_snd, *, implies_true, ite_self]

theorem good_nmDrop (e : ℕ) (op : NmOp) (status : ℕ) (s : State) (h0 : Good p s) : Good p (nmDrop e op status s) := by
  simp +contextual (maxDischargeDepth := 99) only [nmDrop, good_fencePass, good_nmAnswer, good_wr, *, implies_true, ite_self]

theorem good_nmEnd (e : ℕ) (op : NmOp) (r : NmRun) (done : ℕ) (s : State) (h0 : Good p s) : Good p (nmEnd e op r done s) := by
  simp +contextual (maxDischargeDepth := 99) only [nmEnd, good_nmDrop, good_flag, good_vwrite, good_sendSignal, good_wr, good_fencePass, good_nmAnswer, good_ite, good_ite_snd, *, implies_true, ite_self]

theorem good_admitWaiting (e : ℕ) (s : State) (h0 : Good p s) : Good p (admitWaiting e s) := by
  simp only [admitWaiting]
  repeat' split
  all_goals simp +contextual (maxDischargeDepth := 99) only [good_setEngine, good_ite, good_ite_snd, *, implies_true, ite_self]

theorem good_nmComplete (e : ℕ) (s : State) (h0 : Good p s) : Good p (nmComplete e s) := by
  simp only [nmComplete]
  repeat' split
  all_goals simp +contextual (maxDischargeDepth := 99) only [good_nmRun, good_nmEnd, good_showEngine, good_admitWaiting, good_setEngine, *, implies_true, ite_self]

theorem good_startOp (e : ℕ) (s : State) (h0 : Good p s) : Good p (startOp e s) := by
  simp only [startOp]
  repeat' split
  all_goals simp +contextual (maxDischargeDepth := 99) only [good_showEngine, good_admitWaiting, good_setEngine, *, implies_true, ite_self]

theorem good_nmStart (e : ℕ) (busy : Bool) (s : State) (h0 : Good p s) : Good p (nmStart e busy s) := by
  simp +contextual (maxDischargeDepth := 99) only [nmStart, good_startOp, good_showEngine, good_setEngine, good_bump, good_ite, good_ite_snd, *, implies_true, ite_self]

theorem good_nmHoldExpired (e : ℕ) (s : State) (h0 : Good p s) : Good p (nmHoldExpired e s) := by
  simp +contextual (maxDischargeDepth := 99) only [nmHoldExpired, good_startOp, good_bump, good_ite, good_ite_snd, *, implies_true, ite_self]

theorem good_nmStop (e : ℕ) (op : NmOp) (code : ℕ) (s0 : State) (h0 : Good p s0) : Good p (nmStop e op code s0) := by
  simp +contextual (maxDischargeDepth := 99) only [nmStop, good_fresh, good_nmRun, good_nmDrop, good_nmEnd, good_setEngine, good_ite, good_ite_snd, *, implies_true, ite_self]

theorem good_nmAbort (e : ℕ) (mine : NmOp → Bool) (code : ℕ) (s : State) (h0 : Good p s) : Good p (nmAbort e mine code s) := by
  simp only [nmAbort]
  repeat' split
  all_goals simp +contextual (maxDischargeDepth := 99) only [good_nmStop, good_setEngine, good_showEngine, good_admitWaiting, good_nmDrop, good_foldl, good_foldl_snd, good_ite, good_ite_snd, *, implies_true, ite_self]

theorem good_nmSubmit (e : ℕ) (op : NmOp) (s : State) (h0 : Good p s) : Good p (nmSubmit e op s) := by
  simp +contextual (maxDischargeDepth := 99) only [nmSubmit, good_setEng, good_nmAnswer, good_showEngine, good_setEngine, good_ite, good_ite_snd, *, implies_true, ite_self]

end Sys2Proof.Machine
end

