-- ==== Sys2Proof/Laws/Keeps/Kv.lean ====
section
/-!
SUPPORT. Every operation of Machine/Kv.lean keeps the invariant and the queue.
-/

namespace Sys2Proof.Machine

set_option linter.unusedSimpArgs false

variable {p : List Instr}

theorem good_setSort (x : SortSide) (s : State) (h : Good p s) (hx : x.pr = s.sort.pr) : Good p (setSort x s) :=
  h.sort (hx ▸ h.hpr)

theorem good_setStream (slot : ℕ) (x : Stream) (s : State) (h0 : Good p s) : Good p (setStream slot x s) := by
  simp +contextual (maxDischargeDepth := 99) only [setStream, good_setSort, *, implies_true, ite_self]

theorem good_updStream (slot : ℕ) (f : Stream → Stream) (s : State) (h0 : Good p s) : Good p (updStream slot f s) := by
  simp +contextual (maxDischargeDepth := 99) only [updStream, good_setStream, *, implies_true, ite_self]

theorem good_setChain (slot : ℕ) (c : ℕ) (x : Chain) (s : State) (h0 : Good p s) : Good p (setChain slot c x s) := by
  simp +contextual (maxDischargeDepth := 99) only [setChain, good_setSort, *, implies_true, ite_self]

theorem good_updChain (slot : ℕ) (c : ℕ) (f : Chain → Chain) (s : State) (h0 : Good p s) : Good p (updChain slot c f s) := by
  simp +contextual (maxDischargeDepth := 99) only [updChain, good_setChain, *, implies_true, ite_self]

theorem good_updPage (slot : ℕ) (c : ℕ) (j : ℕ) (f : ChainPage → ChainPage) (s : State) (h0 : Good p s) : Good p (updPage slot c j f s) := by
  simp +contextual (maxDischargeDepth := 99) only [updPage, good_updChain, good_upd_pages, *, implies_true, ite_self]

theorem good_setParcel (y0 : ℕ) (x : Parcel) (s : State) (h0 : Good p s) : Good p (setParcel y0 x s) := by
  simp +contextual (maxDischargeDepth := 99) only [setParcel, good_upd_parcels, *, implies_true, ite_self]

theorem good_kvRead (v : ℕ) (off : ℕ) (n : ℕ) (s : State) (h0 : Good p s) : Good p (kvRead v off n s).2 := by
  simp +contextual (maxDischargeDepth := 99) only [kvRead, good_vreadBytes, good_ite, good_ite_snd, *, implies_true, ite_self]

theorem good_failPage (site : ℕ) (slot : ℕ) (page : ℕ × ℕ) (code : ℕ) (s : State) (h0 : Good p s) : Good p (failPage site slot page code s) := by
  simp +contextual (maxDischargeDepth := 99) only [failPage, good_bump, good_setStream, good_ite, good_ite_snd, *, implies_true, ite_self]

theorem good_kvReadOr (slot : ℕ) (v : ℕ) (off : ℕ) (n : ℕ) (s : State) (h0 : Good p s) : Good p (kvReadOr slot v off n s).2 := by
  simp only [kvReadOr]
  repeat' split
  all_goals simp +contextual (maxDischargeDepth := 99) only [good_kvRead, good_failPage, *, implies_true, ite_self]

theorem good_kvWrite (slot : ℕ) (v : ℕ) (off : ℕ) (bs : List Byte) (s : State) (h0 : Good p s) : Good p (kvWrite slot v off bs s) := by
  simp +contextual (maxDischargeDepth := 99) only [kvWrite, good_vwrite, good_failPage, good_ite, good_ite_snd, *, implies_true, ite_self]

theorem good_writeHeader (slot : ℕ) (c : ℕ) (j : ℕ) (s : State) (h0 : Good p s) : Good p (writeHeader slot c j s) := by
  simp +contextual (maxDischargeDepth := 99) only [writeHeader, good_kvWrite, good_ite, good_ite_snd, *, implies_true, ite_self]

theorem good_pcWrite (slot : ℕ) (loc : ℕ) (bs : List Byte) (s : State) (h0 : Good p s) : Good p (pcWrite slot loc bs s) := by
  simp +contextual (maxDischargeDepth := 99) only [pcWrite, good_kvWrite, *, implies_true, ite_self]

theorem good_withLsr (y0 : List (ℕ × ℕ × ℕ)) (y1 : State) (h0 : Good p y1) : Good p (withLsr y0 y1).2 := by
  fun_induction withLsr y0 y1 <;> simp_all +contextual +zetaDelta (maxDischargeDepth := 99) only [good_kvRead, good_failPage, good_ite, good_ite_snd, implies_true, ite_self]

theorem good_movePage (slot : ℕ) (c : ℕ) (j : ℕ) (v : ℕ) (page : ℕ) (s : State) (h0 : Good p s) : Good p (movePage slot c j v page s) := by
  simp +contextual (maxDischargeDepth := 99) only [movePage, good_vreadBytes, good_addSat, good_bump, good_zeroPage, good_failPage, good_updPage, good_vwrite, good_freePage, good_writeEntry, good_ite, good_ite_snd, *, implies_true, ite_self]

theorem good_markChain (v : ℕ) (page : ℕ) (s : State) (h0 : Good p s) : Good p (markChain v page s) := by
  simp +contextual (maxDischargeDepth := 99) only [markChain, good_setPage, *, implies_true, ite_self]

theorem good_takeChainPage (d : ℕ) (v : ℕ) (s : State) (h0 : Good p s) : ∀ t, takeChainPage d v s = some t → Good p t.2 := by
  intro t ht
  unfold takeChainPage at ht
  split at ht
  · cases ht
  · obtain ⟨x, hx, rfl⟩ := Option.map_eq_some_iff.1 ht
    exact good_markChain _ _ _ (good_takePage _ _ _ _ _ h0)

theorem good_moveOldest (d : ℕ) (v : ℕ) (s : State) (h0 : Good p s) : ∀ t, moveOldest d v s = some t → Good p t := by
  intro t ht
  unfold moveOldest at ht
  dsimp only at ht
  split at ht
  · cases ht
  · obtain ⟨x, hx, rfl⟩ := Option.map_eq_some_iff.1 ht
    exact good_bump _ _ _ (good_movePage _ _ _ _ _ _ (good_markChain _ _ _ (good_takePage _ _ _ _ _ (good_withLsr _ _ h0))))

theorem good_makeRun (d v n k : ℕ) (s : State) (h0 : Good p s) : Good p (makeRun d v n k s) := by
  induction k generalizing s with
  | zero => exact h0
  | succ k ih =>
    unfold makeRun
    split
    · exact h0
    · split
      · next s1 h1 => exact ih _ (good_moveOldest _ _ _ h0 _ h1)
      · exact h0

theorem good_makeRoom (d : ℕ) (v : ℕ) (n : ℕ) (s : State) (h0 : Good p s) : Good p (makeRoom d v n s) := by
  simp +contextual (maxDischargeDepth := 99) only [makeRoom, good_makeRun, good_ite, good_ite_snd, *, implies_true, ite_self]

theorem good_growSection (slot : ℕ) (c : ℕ) (j : ℕ) (s : State) (h0 : Good p s) : ∀ t, growSection slot c j s = some t → Good p t := by
  intro t ht
  unfold growSection at ht
  dsimp only at ht
  split at ht
  · cases ht; exact h0
  · split at ht
    · cases ht
    · obtain ⟨x, hx, rfl⟩ := Option.map_eq_some_iff.1 ht
      exact good_updChain _ _ _ _ (good_takePage _ _ _ _ _ h0)

theorem good_openPage (slot : ℕ) (c : ℕ) (s : State) (h0 : Good p s) : ∀ t, openPage slot c s = some t → Good p t := by
  intro t ht
  unfold openPage at ht
  dsimp only at ht
  split at ht
  · cases ht
  · next q s1 h1 =>
    split at ht
    · cases ht
    · obtain ⟨x, hx, rfl⟩ := Option.map_eq_some_iff.1 ht
      exact good_updChain _ _ _ _ (good_growSection _ _ _ _
        (good_makeLeaf _ _ _ (good_takeChainPage _ _ _ (good_makeRoom _ _ _ _ h0) _ h1)) _ hx)

theorem good_openTo (slot c n k : ℕ) (s : State) (h0 : Good p s) : ∀ t, openTo slot c n k s = some t → Good p t := by
  induction k generalizing s with
  | zero => intro t ht; cases ht; exact h0
  | succ k ih =>
    intro t ht
    unfold openTo at ht
    split at ht
    · cases ht; exact h0
    · split at ht
      · next s1 h1 => exact ih _ (good_openPage _ _ _ h0 _ h1) _ ht
      · cases ht

theorem good_openHead (slot : ℕ) (c : ℕ) (s : State) (h0 : Good p s) : ∀ t, openHead slot c s = some t → Good p t := by
  intro t ht
  unfold openHead at ht
  dsimp only at ht
  split at ht
  · cases ht; exact h0
  · split at ht
    · cases ht
    · obtain ⟨x, hx, rfl⟩ := Option.map_eq_some_iff.1 ht
      refine good_updChain _ _ _ _ (good_foldl (good_makeRoom _ _ _ _ h0) fun u i hu => ?_)
      exact good_zeroPage _ _ _ (good_markChain _ _ _ (good_takePage _ _ _ _ _ hu))

theorem good_writeHead (slot : ℕ) (c : ℕ) (s : State) (h0 : Good p s) : Good p (writeHead slot c s) := by
  simp only [writeHead]
  repeat' split
  all_goals simp +contextual (maxDischargeDepth := 99) only [good_kvWrite, *, implies_true, ite_self]

theorem good_attendNew (slot : ℕ) (c : ℕ) (n : ℕ) (s : State) (h0 : Good p s) : Good p (attendNew slot c n s) := by
  simp +contextual (maxDischargeDepth := 99) only [attendNew, good_updChain, good_writeHead, good_pcWrite, good_upd_pages, good_foldl, good_foldl_snd, good_ite, good_ite_snd, *, implies_true, ite_self]

theorem good_openChain (slot : ℕ) (c : ℕ) (v : ℕ) (n : ℕ) (s : State) (h0 : Good p s) : ∀ t, openChain slot c v n s = some t → Good p t := by
  intro t ht
  unfold openChain at ht
  dsimp only at ht
  split at ht
  · cases ht
  · next s2 h2 =>
    obtain ⟨x, hx, rfl⟩ := Option.map_eq_some_iff.1 ht
    exact good_attendNew _ _ _ _ (good_openTo _ _ _ _ _ (good_openHead _ _ _ (good_setChain _ _ _ _ h0) _ h2) _ hx)

theorem good_finishOpen (slot : ℕ) (c : ℕ) (j : ℕ) (s : State) (h0 : Good p s) : Good p (finishOpen slot c j s) := by
  simp +contextual (maxDischargeDepth := 99) only [finishOpen, good_zeroPage, good_updPage, good_writeHeader, good_pcWrite, good_writeEntry, good_ite, good_ite_snd, *, implies_true, ite_self]

theorem good_pcUpdate (slot : ℕ) (loc : ℕ) (off : ℕ) (w : ℕ) (vs : List Val) (s : State) (h0 : Good p s) : Good p (pcUpdate slot loc off w vs s) := by
  simp +contextual (maxDischargeDepth := 99) only [pcUpdate, good_kvReadOr, good_kvWrite, *, implies_true, ite_self]

theorem good_refuseAppend (site : ℕ) (a : Append) (code : ℕ) (s : State) (h0 : Good p s) : Good p (refuseAppend site a code s) := by
  simp only [refuseAppend]
  repeat' split
  all_goals simp +contextual (maxDischargeDepth := 99) only [good_bump, good_wr, good_flagIf, good_setStream, good_ite, good_ite_snd, *, implies_true, ite_self]

theorem good_rowMerge (slot : ℕ) (v : ℕ) (base : ℕ) (b : ℕ) (off : ℕ) (n : ℕ) (data : ℕ) (s : State) (h0 : Good p s) : Good p (rowMerge slot v base b off n data s) := by
  simp +contextual (maxDischargeDepth := 99) only [rowMerge, good_kvReadOr, good_kvWrite, good_ite, good_ite_snd, *, implies_true, ite_self]

theorem good_scaleWrites (slot : ℕ) (v : ℕ) (base : ℕ) (pitch : ℕ) (b0 : ℕ) (bs : List Byte) (s : State) (h0 : Good p s) : Good p (scaleWrites slot v base pitch b0 bs s) := by
  simp +contextual (maxDischargeDepth := 99) only [scaleWrites, good_kvWrite, good_foldl, good_foldl_snd, *, implies_true, ite_self]

theorem good_closeBlock (slot : ℕ) (c : ℕ) (j : ℕ) (r : ℕ) (s : State) (h0 : Good p s) : Good p (closeBlock slot c j r s) := by
  simp +contextual (maxDischargeDepth := 99) only [closeBlock, good_kvReadOr, good_kvWrite, good_writeHeader, good_updChain, good_foldl, good_foldl_snd, *, implies_true, ite_self]

theorem good_reopenRows (slot : ℕ) (c : ℕ) (j : ℕ) (r : ℕ) (n : ℕ) (s : State) (h0 : Good p s) : Good p (reopenRows slot c j r n s) := by
  simp +contextual (maxDischargeDepth := 99) only [reopenRows, good_kvReadOr, good_kvWrite, good_foldl, good_foldl_snd, good_ite, good_ite_snd, *, implies_true, ite_self]

theorem good_copyShared (slot : ℕ) (c : ℕ) (j : ℕ) (s : State) (h0 : Good p s) : ∀ t, copyShared slot c j s = some t → Good p t := by
  intro t ht
  unfold copyShared at ht
  dsimp only at ht
  split at ht
  · cases ht
  · next q s1 h1 =>
    obtain ⟨x, hx, rfl⟩ := Option.map_eq_some_iff.1 ht
    have hx := good_growSection _ _ _ _ (good_takeChainPage _ _ _ (good_makeRoom _ _ _ _ h0) _ h1) _ hx
    refine good_writeEntry _ _ _ _ (good_writeHeader _ _ _ _ (good_updPage _ _ _ _ _ (good_pcWrite _ _ _ _
      (good_kvWrite _ _ _ _ _ (good_zeroPage _ _ _ (good_kvReadOr _ _ _ _ _ (good_kvReadOr _ _ _ _ _ hx)))))))

theorem good_putAppend (a : Append) (c : ℕ) (j : ℕ) (s : State) (h0 : Good p s) : Good p (putAppend a c j s) := by
  simp +contextual (maxDischargeDepth := 99) only [putAppend, good_rowMerge, good_closeBlock, good_scaleWrites, good_pcUpdate, good_ite, good_ite_snd, *, implies_true, ite_self]

theorem good_popAppend (site : ℕ) (s : State) (h0 : Good p s) : Good p (popAppend site s) := by
  simp +contextual (maxDischargeDepth := 99) only [popAppend, good_showQocc, good_setKv, *, implies_true, ite_self]

theorem good_appendRoom (a : Append) (c : ℕ) (j : ℕ) (s : State) (h0 : Good p s) : ∀ t, appendRoom a c j s = some t → Good p t := by
  intro t ht
  unfold appendRoom at ht
  dsimp only at ht
  split at ht
  · cases ht
  · next u hu =>
    have h1 : Good p u := by
      split at hu
      · exact good_openTo _ _ _ _ _ h0 _ hu
      · exact good_openChain _ _ _ _ _ h0 _ hu
    split at ht
    · exact good_copyShared _ _ _ _ h1 _ ht
    · cases ht; exact h1

theorem good_headAppend (site : ℕ) (s : State) (h0 : Good p s) : Good p (headAppend site s) := by
  unfold headAppend
  split
  · exact h0
  · dsimp only
    split
    · exact good_popAppend _ _ (good_refuseAppend _ _ _ _ h0)
    · split
      · exact h0
      · next u hu =>
        have h1 := good_appendRoom _ _ _ _ h0 _ hu
        split
        · exact h1
        · exact good_popAppend _ _ (good_bump _ _ _ (good_putAppend _ _ _ _ h1))

theorem good_failAppend (site : ℕ) (s : State) (h0 : Good p s) : Good p (failAppend site s) := by
  unfold failAppend
  split
  · exact h0
  · dsimp only
    split
    · exact good_popAppend _ _ (good_refuseAppend _ _ _ _ h0)
    · exact h0

theorem good_setLen (slot : ℕ) (c : ℕ) (n : ℕ) (s : State) (h0 : Good p s) : Good p (setLen slot c n s) := by
  simp +contextual (maxDischargeDepth := 99) only [setLen, good_setChain, good_writeHeader, good_upd_pages, good_foldl, good_foldl_snd, *, implies_true, ite_self]

theorem good_commitKv (slot : ℕ) (n : ℕ) (s : State) (h0 : Good p s) : Good p (commitKv slot n s) := by
  simp +contextual (maxDischargeDepth := 99) only [commitKv, good_setLen, good_foldl, good_foldl_snd, *, implies_true, ite_self]

theorem good_uncommitKv (slot : ℕ) (s : State) (h0 : Good p s) : Good p (uncommitKv slot s) := by
  simp +contextual (maxDischargeDepth := 99) only [uncommitKv, good_writeHeader, good_updChain, good_reopenRows, good_foldl, good_foldl_snd, good_ite, good_ite_snd, *, implies_true, ite_self]

end Sys2Proof.Machine
end

