-- ==== Sys2Proof/Laws/Keeps/Lookahead.lean ====
section
/-!
SUPPORT. Every operation of Machine/Lookahead.lean keeps the invariant and the queue.
-/

namespace Sys2Proof.Machine

set_option linter.unusedSimpArgs false

variable {p : List Instr}

theorem good_readQuery (slot : ℕ) (c : ℕ) (s : State) (h0 : Good p s) : Good p (readQuery slot c s).2 := by
  simp only [readQuery]
  repeat' split
  all_goals simp +contextual (maxDischargeDepth := 99) only [good_kvReadOr, good_ite, good_ite_snd, *, implies_true, ite_self]

theorem good_scorePages (slot : ℕ) (c : ℕ) (w : ℕ) (q : List Val) (y4 : List ℕ) (y5 : State) (h0 : Good p y5) : Good p (scorePages slot c w q y4 y5).2 := by
  fun_induction scorePages slot c w q y4 y5 <;> simp_all +contextual +zetaDelta (maxDischargeDepth := 99) only [good_kvReadOr, implies_true, ite_self]

theorem good_showPr (site : ℕ) (s : State) (h0 : Good p s) : Good p (showPr site s) := by
  simp +contextual (maxDischargeDepth := 99) only [showPr, good_wr, *, implies_true, ite_self]

theorem good_readQtoken (slot : ℕ) (c : ℕ) (s : State) (h0 : Good p s) : Good p (readQtoken slot c s).2 := by
  simp only [readQtoken]
  repeat' split
  all_goals simp +contextual (maxDischargeDepth := 99) only [good_kvReadOr, *, implies_true, ite_self]

theorem good_dropStaging (slot : ℕ) (c : ℕ) (s : State) (h0 : Good p s) : Good p (dropStaging slot c s) := by
  simp +contextual (maxDischargeDepth := 99) only [dropStaging, good_updChain, good_freePage, good_foldl, good_foldl_snd, *, implies_true, ite_self]

theorem good_cancelSpills (slot : ℕ) (c : ℕ) (js : List ℕ) (s : State) (h0 : Good p s) : Good p (cancelSpills slot c js s) := by
  simp +contextual (maxDischargeDepth := 99) only [cancelSpills, good_bump, good_updPage, good_foldl, good_foldl_snd, good_ite, good_ite_snd, *, implies_true, ite_self]

theorem good_buildSet (slot : ℕ) (c : ℕ) (s : State) (h0 : Good p s) : Good p (buildSet slot c s) := by
  simp +contextual (maxDischargeDepth := 99) only [buildSet, good_readQtoken, good_readQuery, good_scorePages, good_showPr, good_cancelSpills, good_dropStaging, good_pcWrite, good_updChain, good_upd_pages, good_foldl, good_foldl_snd, good_ite, good_ite_snd, *, implies_true, ite_self]

theorem good_stagePage (slot : ℕ) (c : ℕ) (j : ℕ) (s : State) (h0 : Good p s) : Good p (stagePage slot c j s) := by
  unfold stagePage
  dsimp only
  split
  · next q s1 h n h1 h2 =>
    have hs := good_takeChainPage _ _ _ (good_makeRoom _ _ _ _ h0) _ h1
    exact good_nmSubmit _ _ _ (good_updChain _ _ _ _ (good_zeroPage _ _ _ hs))
  · exact h0

theorem good_startReturn (slot : ℕ) (c : ℕ) (j : ℕ) (s : State) (h0 : Good p s) : Good p (startReturn slot c j s) := by
  simp only [startReturn]
  repeat' split
  all_goals simp +contextual (maxDischargeDepth := 99) only [good_makeRoom, good_updPage, good_markChain, good_takePage, good_ite, good_ite_snd, *, implies_true, ite_self]

theorem good_fetchPage (slot : ℕ) (c : ℕ) (j : ℕ) (s : State) (h0 : Good p s) : Good p (fetchPage slot c j s) := by
  simp +contextual (maxDischargeDepth := 99) only [fetchPage, good_startReturn, good_stagePage, good_ite, good_ite_snd, *, implies_true, ite_self]

theorem good_advanceChain (slot : ℕ) (c : ℕ) (s : State) (h0 : Good p s) : Good p (advanceChain slot c s) := by
  unfold advanceChain
  dsimp only
  split
  · exact h0
  · split
    · exact h0
    · next s0 h1 =>
      have hs : Good p ((getChain slot c s).attend.foldl (fun u j => fetchPage slot c j u) s0) :=
        good_foldl (good_openHead _ _ _ h0 _ h1) fun u j hu => good_fetchPage _ _ _ _ hu
      split
      · exact good_updChain _ _ _ _ (good_writeHead _ _ _ hs)
      · exact hs

theorem good_lookStream (slot : ℕ) (s : State) (h0 : Good p s) : Good p (lookStream slot s) := by
  simp +contextual (maxDischargeDepth := 99) only [lookStream, good_advanceChain, good_buildSet, good_foldl, good_foldl_snd, good_ite, good_ite_snd, *, implies_true, ite_self]

theorem good_stagedDone (slot : ℕ) (c : ℕ) (j : ℕ) (status : ℕ) (s : State) (h0 : Good p s) : Good p (stagedDone slot c j status s) := by
  simp only [stagedDone]
  repeat' split
  all_goals simp +contextual (maxDischargeDepth := 99) only [good_advanceChain, good_updChain, good_nmSubmit, good_failPage, good_ite, good_ite_snd, *, implies_true, ite_self]

theorem good_firstSpill (site : ℕ) (s : State) (h0 : Good p s) : Good p (firstSpill site s).2 := by
  simp +contextual (maxDischargeDepth := 99) only [firstSpill, good_withLsr, good_foldl, good_foldl_snd, good_ite, good_ite_snd, *, implies_true, ite_self]

theorem good_spillDone (slot : ℕ) (c : ℕ) (j : ℕ) (ok : Bool) (s : State) (h0 : Good p s) : Good p (spillDone slot c j ok s) := by
  unfold spillDone
  dsimp only
  split
  · exact h0
  · next l hl =>
    split
    · exact good_showPr _ _ (good_addLog _ _ (good_setKv _ _ _ (good_updPage _ _ _ _ _ h0)))
    · have hr := good_kvRead ((getChain slot c s).pages.getD j {}).vault
        (65536 * ((getChain slot c s).pages.getD j {}).page) 65536
        (updPage slot c j (fun q => { q with spilling := none }) s) (good_updPage _ _ _ _ _ h0)
      split
      · exact good_showPr _ _ (good_failPage _ _ _ _ _ hr)
      · refine good_showPr _ _ (good_bump _ _ _ (good_updPage _ _ _ _ _ (good_freePage _ _ _ _ (good_writeEntry _ _ _ _ ?_))))
        exact hr.sort (Memory.wf_mwrite _ _ _ hr.hpr)

theorem good_pageReturned (slot : ℕ) (c : ℕ) (j : ℕ) (poison : Bool) (s : State) (h0 : Good p s) : Good p (pageReturned slot c j poison s) := by
  unfold pageReturned
  dsimp only
  split
  · split
    · exact good_failPage _ _ _ _ _ (good_updPage _ _ _ _ _ (good_freePage _ _ _ _ h0))
    · exact good_advanceChain _ _ _ (good_showPr _ _ (good_bump _ _ _ (good_updPage _ _ _ _ _
        (good_writeEntry _ _ _ _ (good_kvWrite _ _ _ _ _ (good_zeroPage _ _ _ h0))))))
  · exact h0

theorem good_expanderGone (port : ℕ) (exp : Option ℕ) (s : State) (h0 : Good p s) : Good p (expanderGone port exp s) := by
  simp only [expanderGone]
  repeat' first
    | (simp +contextual (maxDischargeDepth := 99) only [good_setSort, good_failPage, good_updPage, good_showPr, good_foldl, good_foldl_snd, good_ite, good_ite_snd, *, implies_true, ite_self]; done)
    | (refine good_foldl ?_ fun u x hu => ?_)
    | (refine good_foldl_snd ?_ fun u x hu => ?_)
    | (refine good_foldl_fst ?_ fun u x hu => ?_)
    | split

theorem good_freeChain (slot : ℕ) (c : ℕ) (s : State) (h0 : Good p s) : Good p (freeChain slot c s) := by
  unfold freeChain
  dsimp only
  refine good_showPr _ _ (good_setChain _ _ _ _ (good_foldl ?_ fun u x hu => good_freePage _ _ _ _ hu))
  have hs : Good p ((getChain slot c s).pages.zipIdx.foldl
    (fun u p =>
      let u1 := unmapPage (getStream slot s).district
        (kvPageVpn (getStream slot s) (kvWord (getStream slot s).district s) c p.2) u
      let u2 := match p.1.back with
        | some b => freePage (getStream slot s).district b.1 b.2 u1
        | none => u1
      if p.1.shared || p.1.spilled.isSome then u2
      else freePage (getStream slot s).district p.1.vault p.1.page u2) (dropStaging slot c s)) := by
    refine good_foldl (good_dropStaging _ _ _ h0) fun u x hu => ?_
    have hu1 := good_unmapPage (getStream slot s).district
        (kvPageVpn (getStream slot s) (kvWord (getStream slot s).district s) c x.2) u hu
    dsimp only
    split
    · split
      · exact good_freePage _ _ _ _ hu1
      · exact hu1
    · split
      · exact good_freePage _ _ _ _ (good_freePage _ _ _ _ hu1)
      · exact good_freePage _ _ _ _ hu1
  split
  · exact good_foldl hs fun u i hu => good_freePage _ _ _ _ hu
  · exact hs

theorem good_freeChains (slot : ℕ) (s : State) (h0 : Good p s) : Good p (freeChains slot s) := by
  simp +contextual (maxDischargeDepth := 99) only [freeChains, good_freeChain, good_foldl, good_foldl_snd, *, implies_true, ite_self]

end Sys2Proof.Machine
end

