-- ==== Sys2Proof/Laws/Keeps/Streams.lean ====
section
/-!
SUPPORT. Every operation of Machine/Streams.lean keeps the invariant and the queue.
-/

namespace Sys2Proof.Machine

set_option linter.unusedSimpArgs false

variable {p : List Instr}

theorem good_showStream (slot : ℕ) (d : ℕ) (ring : ℕ) (s : State) (h0 : Good p s) : Good p (showStream slot d ring s) := by
  simp +contextual (maxDischargeDepth := 99) only [showStream, good_wr, *, implies_true, ite_self]

theorem good_setSt (slot : ℕ) (st : StreamSt) (s : State) (h0 : Good p s) : Good p (setSt slot st s) := by
  simp +contextual (maxDischargeDepth := 99) only [setSt, good_showStream, good_setStream, *, implies_true, ite_self]

theorem good_showDlq (s : State) (h0 : Good p s) : Good p (showDlq s) := by
  simp +contextual (maxDischargeDepth := 99) only [showDlq, good_wr, *, implies_true, ite_self]

theorem good_deadLetter (d : ℕ) (kind : ℕ) (stream : ℕ) (payload : List Byte) (s : State) (h0 : Good p s) : Good p (deadLetter d kind stream payload s) := by
  simp +contextual (maxDischargeDepth := 99) only [deadLetter, good_bump, good_setFaults, good_showDlq, good_events, good_ite, good_ite_snd, *, implies_true, ite_self]

theorem good_allocCtl (d : ℕ) (s : State) (h0 : Good p s) : Good p (allocCtl d s).2 := by
  simp only [allocCtl]
  repeat' split
  all_goals simp +contextual (maxDischargeDepth := 99) only [good_mapPage, good_takePage, good_ite, good_ite_snd, *, implies_true, ite_self]

theorem good_freeCtl (slot : ℕ) (s : State) (h0 : Good p s) : Good p (freeCtl slot s) := by
  simp +contextual (maxDischargeDepth := 99) only [freeCtl, good_freePage, good_unmapPage, good_ite, good_ite_snd, *, implies_true, ite_self]

theorem good_cbRead (slot : ℕ) (off : ℕ) (n : ℕ) (s : State) (h0 : Good p s) : Good p (cbRead slot off n s).2 := by
  simp +contextual (maxDischargeDepth := 99) only [cbRead, good_vreadBytes, good_ite, good_ite_snd, *, implies_true, ite_self]

theorem good_cbWrite (slot : ℕ) (off : ℕ) (bs : List Byte) (s : State) (h0 : Good p s) : Good p (cbWrite slot off bs s) := by
  simp +contextual (maxDischargeDepth := 99) only [cbWrite, good_vwrite, *, implies_true, ite_self]

theorem good_cbCheck (slot : ℕ) (s : State) (h0 : Good p s) : Good p (cbCheck slot s).2 := by
  simp +contextual (maxDischargeDepth := 99) only [cbCheck, good_cbRead, *, implies_true, ite_self]

theorem good_cbAdd (slot : ℕ) (off : ℕ) (n : ℕ) (k : ℕ) (s : State) (h0 : Good p s) : Good p (cbAdd slot off n k s) := by
  simp only [cbAdd]
  repeat' split
  all_goals simp +contextual (maxDischargeDepth := 99) only [good_cbRead, good_cbWrite, *, implies_true, ite_self]

theorem good_cbFlag (slot : ℕ) (bit_ : ℕ) (s : State) (h0 : Good p s) : Good p (cbFlag slot bit_ s) := by
  simp only [cbFlag]
  repeat' split
  all_goals simp +contextual (maxDischargeDepth := 99) only [good_cbRead, good_cbWrite, *, implies_true, ite_self]

theorem good_pushHistory (slot : ℕ) (ts : List ℕ) (s : State) (h0 : Good p s) : Good p (pushHistory slot ts s) := by
  simp only [pushHistory]
  repeat' first
    | (simp +contextual (maxDischargeDepth := 99) only [good_cbRead, good_cbWrite, good_foldl, good_foldl_snd, *, implies_true, ite_self]; done)
    | (refine good_foldl ?_ fun u x hu => ?_)
    | (refine good_foldl_snd ?_ fun u x hu => ?_)
    | (refine good_foldl_fst ?_ fun u x hu => ?_)
    | split

theorem good_postRecord (slot : ℕ) (kind : ℕ) (token : ℕ) (index : ℕ) (logp : ℕ) (code : ℕ) (alts : List (ℕ × ℕ)) (s : State) (h0 : Good p s) : Good p (postRecord slot kind token index logp code alts s) := by
  simp +contextual (maxDischargeDepth := 99) only [postRecord, good_deadLetter, good_emit, good_wr, good_ite, good_ite_snd, *, implies_true, ite_self]

theorem good_ringIrq (r : ℕ) (s : State) (h0 : Good p s) : Good p (ringIrq r s) := by
  simp +contextual (maxDischargeDepth := 99) only [ringIrq, good_emit, good_ite, good_ite_snd, *, implies_true, ite_self]

theorem good_holdReceipt (ring : ℕ) (seq : ℕ) (bs : List Byte) (opened : Option ℕ) (s : State) (h0 : Good p s) : Good p (holdReceipt ring seq bs opened s) := by
  simp +contextual (maxDischargeDepth := 99) only [holdReceipt, good_bump, good_addLog, good_setSort, good_ite, good_ite_snd, *, implies_true, ite_self]

theorem good_showHeld (ring : ℕ) (s : State) (h0 : Good p s) : Good p (showHeld ring s) := by
  simp +contextual (maxDischargeDepth := 99) only [showHeld, good_wr, *, implies_true, ite_self]

theorem good_countReceipt (seq : ℕ) (attributed : ℕ) (s : State) (h0 : Good p s) : Good p (countReceipt seq attributed s) := by
  simp +contextual (maxDischargeDepth := 99) only [countReceipt, good_upd_power, good_ite, good_ite_snd, *, implies_true, ite_self]

theorem good_issueReceipt (x : Stream) (code : ℕ) (acc : Option (List Byte)) (s : State) (h0 : Good p s) : Good p (issueReceipt x code acc s) := by
  simp +contextual (maxDischargeDepth := 99) only [issueReceipt, good_wr, good_holdReceipt, good_countReceipt, good_showHeld, good_upd_boot, good_ite, good_ite_snd, *, implies_true, ite_self]

theorem good_accumulators (slot : ℕ) (s : State) (h0 : Good p s) : Good p (accumulators slot s).2 := by
  simp +contextual (maxDischargeDepth := 99) only [accumulators, good_cbRead, good_ite, good_ite_snd, *, implies_true, ite_self]

theorem good_notePosting (seq : ℕ) (s : State) (h0 : Good p s) : Good p (notePosting seq s) := by
  exact h0.sort (x := { s.sort with posts := s.sort.posts + 1 }) h0.hpr

theorem good_ringReceipt (ring : ℕ) (s : State) (h0 : Good p s) : Good p (ringReceipt ring s) := by
  simp +contextual (maxDischargeDepth := 99) only [ringReceipt, good_emit, good_setSort, good_ite, good_ite_snd, *, implies_true, ite_self]

theorem good_postReceipt (ring : ℕ) (s : State) (h0 : Good p s) : Good p (postReceipt ring s) := by
  unfold postReceipt
  dsimp only
  split
  · exact h0
  · next h hh =>
    split
    · exact h0
    · refine good_showHeld _ _ (good_ringReceipt _ _ ?_)
      refine good_wr _ _ _ _ ?_
      split
      · exact good_setSort _ _ (good_emit _ _ h0) rfl
      · exact good_notePosting _ _ (good_setSort _ _ (good_emit _ _ h0) rfl)

theorem good_setHandle (y0 : ℕ) (x : Handle) (s : State) (h0 : Good p s) : Good p (setHandle y0 x s) := by
  simp +contextual (maxDischargeDepth := 99) only [setHandle, good_setSort, *, implies_true, ite_self]

theorem good_forgetHandle (y0 : ℕ) (d : ℕ) (s : State) (h0 : Good p s) : Good p (forgetHandle y0 d s) := by
  simp +contextual (maxDischargeDepth := 99) only [forgetHandle, good_updDistrict, good_setHandle, *, implies_true, ite_self]

theorem good_dropHandle (y0 : ℕ) (s : State) (h0 : Good p s) : Good p (dropHandle y0 s) := by
  simp +contextual (maxDischargeDepth := 99) only [dropHandle, good_forgetHandle, good_freePage, good_foldl, good_foldl_snd, good_ite, good_ite_snd, *, implies_true, ite_self]

theorem good_unref (y0 : ℕ) (s : State) (h0 : Good p s) : Good p (unref y0 s) := by
  simp +contextual (maxDischargeDepth := 99) only [unref, good_dropHandle, good_setHandle, *, implies_true, ite_self]

theorem good_releaseHandle (y0 : ℕ) (s : State) (h0 : Good p s) : Good p (releaseHandle y0 s) := by
  simp +contextual (maxDischargeDepth := 99) only [releaseHandle, good_dropHandle, good_setHandle, *, implies_true, ite_self]

theorem good_showPreempt (s : State) (h0 : Good p s) : Good p (showPreempt s) := by
  simp +contextual (maxDischargeDepth := 99) only [showPreempt, good_wr, good_foldl, good_foldl_snd, *, implies_true, ite_self]

theorem good_leavePreempt (slot : ℕ) (s : State) (h0 : Good p s) : Good p (leavePreempt slot s) := by
  simp +contextual (maxDischargeDepth := 99) only [leavePreempt, good_setSt, good_updDistrict, good_ite, good_ite_snd, *, implies_true, ite_self]

theorem good_beginEnd (slot : ℕ) (code : ℕ) (s : State) (h0 : Good p s) : Good p (beginEnd slot code s) := by
  simp only [beginEnd]
  repeat' split
  all_goals simp +contextual (maxDischargeDepth := 99) only [good_updStream, good_leavePreempt, good_reply, good_setSt, good_showPreempt, good_ite, good_ite_snd, *, implies_true, ite_self]

theorem good_showLapsed (s : State) (h0 : Good p s) : Good p (showLapsed s) := by
  simp +contextual (maxDischargeDepth := 99) only [showLapsed, good_wr, *, implies_true, ite_self]

theorem good_lapse (slot : ℕ) (s : State) (h0 : Good p s) : Good p (lapse slot s) := by
  simp +contextual (maxDischargeDepth := 99) only [lapse, good_showLapsed, good_setStream, good_ite, good_ite_snd, *, implies_true, ite_self]

theorem good_lapseIfCut (slot : ℕ) (s : State) (h0 : Good p s) : Good p (lapseIfCut slot s) := by
  simp +contextual (maxDischargeDepth := 99) only [lapseIfCut, good_lapse, good_ite, good_ite_snd, *, implies_true, ite_self]

theorem good_freeStream (slot : ℕ) (s : State) (h0 : Good p s) : Good p (freeStream slot s) := by
  simp +contextual (maxDischargeDepth := 99) only [freeStream, good_freeCtl, good_freeChains, good_unref, good_showLapsed, good_setStream, good_showStream, good_foldl, good_foldl_snd, *, implies_true, ite_self]

theorem good_imagePages (slot w : ℕ) (l : List (ChainPage × ℕ)) (s : State) (h0 : Good p s) : Good p (imagePages slot w l s).2 := by
  induction l generalizing s with
  | nil => exact h0
  | cons x l ih =>
    obtain ⟨q, j⟩ := x
    unfold imagePages
    dsimp only
    refine ih _ (good_kvReadOr _ _ _ _ _ ?_)
    split
    · exact h0
    · exact good_kvReadOr _ _ _ _ _ h0

theorem good_imageChains (slot w : ℕ) (l : List (ℕ × Chain)) (s : State) (h0 : Good p s) : Good p (imageChains slot w l s).2 := by
  induction l generalizing s with
  | nil => exact h0
  | cons y l ih =>
    unfold imageChains
    dsimp only
    refine ih _ ?_
    split
    · exact good_kvReadOr _ _ _ _ _ (good_imagePages _ _ _ _ h0)
    · exact good_imagePages _ _ _ _ h0

theorem good_imageOf (slot : ℕ) (s : State) (h0 : Good p s) : Good p (imageOf slot s).2 := by
  simp +contextual (maxDischargeDepth := 99) only [imageOf, good_imageChains, good_cbRead, *, implies_true, ite_self]

theorem good_abortPreempt (slot : ℕ) (s : State) (h0 : Good p s) : Good p (abortPreempt slot s) := by
  simp +contextual (maxDischargeDepth := 99) only [abortPreempt, good_bump, good_addLog, good_showPreempt, good_updStream, good_leavePreempt, good_foldl, good_foldl_snd, *, implies_true, ite_self]

theorem good_writeImage (slot : ℕ) (ok : Bool) (s : State) (h0 : Good p s) : Good p (writeImage slot ok s) := by
  simp only [writeImage]
  repeat' split
  all_goals simp +contextual (maxDischargeDepth := 99) only [good_abortPreempt, good_imageOf, good_beginEnd, good_updDistrict, good_emit, good_setStream, good_ite, good_ite_snd, *, implies_true, ite_self]

theorem good_tagImage (slot : ℕ) (s : State) (h0 : Good p s) : Good p (tagImage slot s) := by
  simp only [tagImage]
  repeat' split
  all_goals simp +contextual (maxDischargeDepth := 99) only [good_abortPreempt, good_updDistrict, good_emit, good_bump, good_freeStream, good_updStream, good_showPreempt, good_reply, good_foldl, good_foldl_snd, good_ite, good_ite_snd, *, implies_true, ite_self]

theorem good_restorePage (slot : ℕ) (c : ℕ) (home : ℕ) (img : ImgChain) (j : ℕ) (y5 : ChainPage) (s : State) (h0 : Good p s) : ∀ t, restorePage slot c home img j y5 s = some t → Good p t := by
  intro t ht
  unfold restorePage at ht
  dsimp only at ht
  split at ht
  · split at ht
    · cases ht
    · have ht := Option.some.inj ht
      subst ht
      exact good_updChain _ _ _ _ (good_mapPage _ _ _ _ _ _ _ h0)
  · split at ht
    · cases ht
    · have hr := good_makeRoom (getStream slot s).district home 1 s h0
      revert hr ht
      generalize makeRoom (getStream slot s).district home 1 s = s0
      intro ht hr
      split at ht
      · cases ht
      · next v q hq =>
        split at ht
        · cases ht
        · obtain ⟨x, hx, rfl⟩ := Option.map_eq_some_iff.1 ht
          have hx := good_growSection _ _ _ _ (good_mapPage _ _ _ _ _ _ _ (good_markChain _ _ _ (good_takePage _ _ _ _ _ hr))) _ hx
          refine good_writeHeader _ _ _ _ (good_updChain _ _ _ _ ?_)
          refine good_pcWrite _ _ _ _ ?_
          refine good_kvWrite _ _ _ _ _ ?_
          exact good_zeroPage _ _ _ hx

theorem good_restorePages (slot c home : ℕ) (img : ImgChain) (j : ℕ) (l : List ChainPage) (s : State) (h0 : Good p s) :
    ∀ t, restorePages slot c home img j l s = some t → Good p t := by
  induction l generalizing s j with
  | nil => intro t ht; cases ht; exact h0
  | cons x l ih =>
    intro t ht
    unfold restorePages at ht
    split at ht
    · next s1 h1 => exact ih _ _ (good_restorePage _ _ _ _ _ _ _ h0 _ h1) _ ht
    · cases ht

theorem good_restoreChain (slot : ℕ) (img : ImgChain) (s : State) (h0 : Good p s) : ∀ t, restoreChain slot img s = some t → Good p t := by
  intro t ht
  unfold restoreChain at ht
  dsimp only at ht
  split at ht
  · cases ht
  · next s2 h2 =>
    have h3 := good_openHead _ _ _ (good_setChain _ _ _ _ h0) _ h2
    refine good_restorePages _ _ _ _ _ _ _ ?_ _ ht
    split
    · split
      · exact h3
      · exact good_kvWrite _ _ _ _ _ h3
    · exact h3

theorem good_restoreChains (slot : ℕ) (l : List ImgChain) (s : State) (h0 : Good p s) :
    ∀ t, restoreChains slot l s = some t → Good p t := by
  induction l generalizing s with
  | nil => intro t ht; cases ht; exact h0
  | cons x l ih =>
    intro t ht
    unfold restoreChains at ht
    split at ht
    · next s1 h1 => exact ih _ (good_restoreChain _ _ _ h0 _ h1) _ ht
    · cases ht

theorem good_restoreStream (d : ℕ) (i : Image) (s : State) (h0 : Good p s) : ∀ t, restoreStream d i s = some t → Good p t.2 := by
  intro t ht
  unfold restoreStream at ht
  dsimp only at ht
  split at ht
  · cases ht
  · split at ht
    · split at ht
      · cases ht
      · obtain ⟨x, hx, rfl⟩ := Option.map_eq_some_iff.1 ht
        refine good_lapseIfCut _ _ (good_showLapsed _ (good_showStream _ _ _ _ ?_))
        refine (good_updDistrict _ _ _ (good_restoreChains _ _ _ ?_ _ hx))
        refine good_foldl ?_ fun u i hu => good_setHandle _ _ _ hu
        exact good_cbAdd _ _ _ _ _ (good_cbFlag _ _ _ (good_cbWrite _ _ _ _ (good_setStream _ _ _ (good_allocCtl _ _ h0))))
    · cases ht

theorem good_endResume (r : Env × Option ℕ) (a : Ans) (s : State) (h0 : Good p s) : Good p (endResume r a s) := by
  simp +contextual (maxDischargeDepth := 99) only [endResume, good_reply, good_setSort, *, implies_true, ite_self]

theorem good_tryResume (r : Env × Option ℕ) (s : State) (h0 : Good p s) : Good p (tryResume r s) := by
  unfold tryResume
  dsimp only
  split
  · exact good_endResume _ _ _ h0
  · split
    · exact h0
    · split
      · exact good_endResume _ _ _ h0
      · split
        · exact good_endResume _ _ _ h0
        · split
          · next slot u1 h1 => exact good_setSort _ _ (good_restoreStream _ _ _ h0 _ h1) rfl
          · exact h0

theorem good_tryResumes (s : State) (h0 : Good p s) : Good p (tryResumes s) := by
  unfold tryResumes
  refine good_foldl h0 fun u r hu => ?_
  split
  · split
    · exact good_endResume _ _ _ hu
    · split
      · exact good_endResume _ _ _ hu
      · exact hu
  · exact good_tryResume _ _ hu

theorem good_recallPage (slot : ℕ) (c : ℕ) (j : ℕ) (s : State) (h0 : Good p s) : ∀ t, recallPage slot c j s = some t → Good p t := by
  intro t ht
  simp only [recallPage] at ht
  repeat' split at ht
  all_goals (cases ht <;> simp +contextual (maxDischargeDepth := 99) only [good_pageReturned, good_startReturn, good_ite, good_ite_snd, *])

theorem good_trimRows (slot : ℕ) (w : ℕ) (v : ℕ) (page : ℕ) (r : ℕ) (s : State) (h0 : Good p s) : Good p (trimRows slot w v page r s) := by
  simp +contextual (maxDischargeDepth := 99) only [trimRows, good_kvWrite, good_foldl, good_foldl_snd, good_ite, good_ite_snd, *, implies_true, ite_self]

theorem good_trimCopy (slot : ℕ) (c : ℕ) (j : ℕ) (t : ℕ) (was : ℕ) (s : State) (h0 : Good p s) : Good p (trimCopy slot c j t was s) := by
  simp +contextual (maxDischargeDepth := 99) only [trimCopy, good_reopenRows, good_kvWrite, good_writeHeader, good_trimRows, good_ite, good_ite_snd, *, implies_true, ite_self]

theorem good_shareChain (slot c n : ℕ) (s : State) (h0 : Good p s) :
    ∀ t, shareChain slot c n s = some t → Good p t.2 := by
  intro t ht
  unfold shareChain at ht
  dsimp only at ht
  have hrec : ∀ (l : List ℕ) (o : Option State), (∀ u, o = some u → Good p u) →
      ∀ u, l.foldl (fun o j => o.bind fun u => recallPage slot c j u) o = some u → Good p u := by
    intro l
    induction l with
    | nil => intro o ho u hu; exact ho u hu
    | cons x l ih =>
      intro o ho u hu
      refine ih _ ?_ u hu
      intro v hv
      obtain ⟨w, hw, hv⟩ := Option.bind_eq_some_iff.1 hv
      exact good_recallPage _ _ _ _ (ho w hw) _ hv
  split at ht
  · cases ht
  · next s1 h1 =>
    have g1 := hrec _ _ (fun u hu => by cases hu; exact h0) _ h1
    have g2 : Good p ((List.range (n / max 1 (kTpp (kvWord (getStream slot s).district s)))).foldl
      (fun u j => writeHeader slot c j (updPage slot c j (fun p => { p with shared := true, spilling := none }) u)) s1) :=
      good_foldl g1 fun u j hu => good_writeHeader _ _ _ _ (good_updPage _ _ _ _ _ hu)
    have g2 := good_showPr (siteOf (getChain slot c s1).home) _ g2
    revert g2 ht
    generalize showPr (siteOf (getChain slot c s1).home) ((List.range (n / max 1 (kTpp (kvWord (getStream slot s).district s)))).foldl
      (fun u j => writeHeader slot c j (updPage slot c j (fun p => { p with shared := true, spilling := none }) u)) s1) = s2
    intro ht g2
    split at ht
    · cases ht; exact g2
    · split at ht
      · cases ht
      · next np s3 h3 =>
        split at ht
        · cases ht
        · obtain ⟨x, hx, rfl⟩ := Option.map_eq_some_iff.1 ht
          have g3 := good_takeChainPage _ _ _ (good_makeRoom _ _ _ _ g2) _ h3
          have g4 := good_takePage (getStream slot s).district x.1 x.2 (.district (getStream slot s).district) _ g3
          refine good_setChain _ _ _ _ (good_trimCopy _ _ _ _ _ _ (good_setChain _ _ _ _ ?_))
          exact good_pcWrite _ _ _ _ (good_kvWrite _ _ _ _ _ (good_zeroPage _ _ _ (good_kvReadOr _ _ _ _ _ (good_kvReadOr _ _ _ _ _ g4))))

theorem good_shareChains (slot n : ℕ) (l : List ℕ) (s : State) (h0 : Good p s) :
    ∀ t, shareChains slot n l s = some t → Good p t.2 := by
  induction l generalizing s with
  | nil => intro t ht; cases ht; exact h0
  | cons x l ih =>
    intro t ht
    unfold shareChains at ht
    split at ht
    · cases ht
    · next y s1 h1 =>
      obtain ⟨x, hx, rfl⟩ := Option.map_eq_some_iff.1 ht
      exact ih _ (good_shareChain _ _ _ _ h0 _ h1) x hx

theorem good_createHandle (slot : ℕ) (s : State) (h0 : Good p s) : Good p (createHandle slot s) := by
  unfold createHandle
  dsimp only
  split
  · exact h0
  · split
    · exact h0
    · next h n rest hf hst =>
      have g0 : Good p (setStream slot { getStream slot s with freezes := rest } s) := good_setStream _ _ _ h0
      revert g0
      generalize setStream slot { getStream slot s with freezes := rest } s = s0
      intro g0
      split
      · exact good_setHandle _ _ _ (good_addLog _ _ g0)
      · next vp cs s1 h1 =>
        have g1 : Good p s1 := by
          split at h1
          · cases h1
          · split at h1
            · cases h1
            · obtain ⟨x, hx, hh⟩ := Option.map_eq_some_iff.1 h1
              cases hh
              exact good_shareChains _ _ _ _ (good_takePage _ _ _ _ _ g0) _ hx
        have g2 := good_setStream slot { getStream slot s1 with refs := (getStream slot s1).refs ++ [h] } _ (good_setHandle h
          ⟨true, true, (getHandle h s1).released, (getStream slot s).district, n,
            (getParcel (rd .distCfgParcel (getStream slot s).district s1) s1).measure, 1, cs, vp⟩ _ g1)
        split
        · exact good_sendTwin _ _ _ _ g2
        · exact g2

theorem good_startPreempt (slot : ℕ) (e : Option Env) (s : State) (h0 : Good p s) : Good p (startPreempt slot e s) := by
  simp +contextual (maxDischargeDepth := 99) only [startPreempt, good_createHandle, good_showPreempt, good_setSt, good_updStream, good_setStream, good_foldl, good_foldl_snd, good_ite, good_ite_snd, *, implies_true, ite_self]

theorem good_retryPreempt (slot : ℕ) (s : State) (h0 : Good p s) : Good p (retryPreempt slot s) := by
  simp +contextual (maxDischargeDepth := 99) only [retryPreempt, good_startPreempt, good_ite, good_ite_snd, *, implies_true, ite_self]

theorem good_finishEnd (slot : ℕ) (s : State) (h0 : Good p s) : Good p (finishEnd slot s) := by
  simp +contextual (maxDischargeDepth := 99) only [finishEnd, good_createHandle, good_setHandle, good_ringIrq, good_postRecord, good_accumulators, good_issueReceipt, good_sendTwin, good_bump, good_freeStream, good_foldl, good_foldl_snd, good_ite, good_ite_snd, *, implies_true, ite_self]

end Sys2Proof.Machine
end

