-- ==== Sys2Proof/Laws/Keeps/Sampling.lean ====
section
/-!
SUPPORT. Every operation of Machine/Sampling.lean keeps the invariant and the queue.
-/

namespace Sys2Proof.Machine

set_option linter.unusedSimpArgs false

variable {p : List Instr}

theorem good_dvaBytes (d : ℕ) (src : ℕ) (y2 : ℕ) (y3 : ℕ) (y4 : ℕ) (y5 : State) (h0 : Good p y5) : Good p (dvaBytes d src y2 y3 y4 y5).2 := by
  fun_induction dvaBytes d src y2 y3 y4 y5 <;> simp_all +contextual +zetaDelta (maxDischargeDepth := 99) only [good_dvaRead, good_ite, good_ite_snd, implies_true, ite_self]

theorem good_dvaReadN (d : ℕ) (va : ℕ) (n : ℕ) (src : ℕ) (s : State) (h0 : Good p s) : Good p (dvaReadN d va n src s).2 := by
  simp +contextual (maxDischargeDepth := 99) only [dvaReadN, good_dvaBytes, *, implies_true, ite_self]

theorem good_cbWhole (slot : ℕ) (s : State) (h0 : Good p s) : Good p (cbWhole slot s).2 := by
  simp +contextual (maxDischargeDepth := 99) only [cbWhole, good_cbRead, *, implies_true, ite_self]

theorem good_gramRead (g : Gram) (off : ℕ) (n : ℕ) (s : State) (h0 : Good p s) : Good p (gramRead g off n s).2 := by
  simp only [gramRead]
  repeat' split
  all_goals simp +contextual (maxDischargeDepth := 99) only [good_vreadBytes, good_ite, good_ite_snd, *, implies_true, ite_self]

theorem good_gramEdges (g : Gram) (nst : ℕ) (y2 : ℕ) (y3 : ℕ) (y4 : State) (h0 : Good p y4) : Good p (gramEdges g nst y2 y3 y4).2 := by
  fun_induction gramEdges g nst y2 y3 y4 <;> simp_all +contextual +zetaDelta (maxDischargeDepth := 99) only [good_gramRead, implies_true, ite_self]

theorem good_gramState (g : Gram) (st : ℕ) (s : State) (h0 : Good p s) : Good p (gramState g st s).2 := by
  simp only [gramState]
  repeat' split
  all_goals simp +contextual (maxDischargeDepth := 99) only [good_gramRead, good_gramEdges, *, implies_true, ite_self]

theorem good_gramOf (x : Stream) (cb : List Byte) (s : State) (h0 : Good p s) : Good p (gramOf x cb s).2 := by
  simp only [gramOf]
  repeat' split
  all_goals simp +contextual (maxDischargeDepth := 99) only [good_gramState, *, implies_true, ite_self]

theorem good_shardLogits (d : ℕ) (slot : ℕ) (sh : Shard) (s : State) (h0 : Good p s) : Good p (shardLogits d slot sh s).2 := by
  simp only [shardLogits]
  repeat' split
  all_goals simp +contextual (maxDischargeDepth := 99) only [good_dvaReadN, good_cbWhole, good_gramOf, good_flag, good_updStream, good_ite, good_ite_snd, *, implies_true, ite_self]

theorem good_readShard (d : ℕ) (sh : Shard) (y2 : List ℕ) (y3 : State) (h0 : Good p y3) : Good p (readShard d sh y2 y3).2 := by
  fun_induction readShard d sh y2 y3 <;> simp_all +contextual +zetaDelta (maxDischargeDepth := 99) only [good_shardLogits, implies_true, ite_self]

theorem good_samplingTrigger (d : ℕ) (i : ℕ) (s : State) (h0 : Good p s) : Good p (samplingTrigger d i s) := by
  simp only [samplingTrigger]
  repeat' split
  all_goals simp +contextual (maxDischargeDepth := 99) only [good_wr, good_updDistrict, good_readShard, good_addDue, good_ite, good_ite_snd, *, implies_true, ite_self]

theorem good_ringDone (d : ℕ) (ring : ℕ) (s : State) (h0 : Good p s) : Good p (ringDone d ring s) := by
  simp +contextual (maxDischargeDepth := 99) only [ringDone, good_ringIrq, good_updDistrict, good_ite, good_ite_snd, *, implies_true, ite_self]

theorem good_postDraw (slot : ℕ) (r : DrawRec) (s : State) (h0 : Good p s) : Good p (postDraw slot r s) := by
  simp +contextual (maxDischargeDepth := 99) only [postDraw, good_postRecord, good_setStream, good_ringDone, good_updDistrict, good_ite, good_ite_snd, *, implies_true, ite_self]

theorem good_applyDraw (slot : ℕ) (cb : List Byte) (r : DrawRec) (post : Bool) (s : State) (h0 : Good p s) : Good p (applyDraw slot cb r post s) := by
  simp only [applyDraw]
  repeat' split
  all_goals simp +contextual (maxDischargeDepth := 99) only [good_gramOf, good_cbWrite, good_pushHistory, good_setStream, good_ringDone, good_sendTwin, good_postDraw, good_ite, good_ite_snd, *, implies_true, ite_self]

theorem good_noDraw (slot : ℕ) (code : ℕ) (fault : ℕ) (s : State) (h0 : Good p s) : Good p (noDraw slot code fault s) := by
  simp +contextual (maxDischargeDepth := 99) only [noDraw, good_setStream, good_ringDone, good_ite, good_ite_snd, *, implies_true, ite_self]

theorem good_tokenDraw (slot : ℕ) (s : State) (h0 : Good p s) : Good p (tokenDraw slot s) := by
  simp only [tokenDraw]
  repeat' split
  all_goals simp +contextual (maxDischargeDepth := 99) only [good_cbWhole, good_noDraw, good_applyDraw, good_setStream, good_ite, good_ite_snd, *, implies_true, ite_self]

theorem good_drawReleased (slot : ℕ) (acked : Bool) (s : State) (h0 : Good p s) : Good p (drawReleased slot acked s) := by
  simp only [drawReleased]
  repeat' split
  all_goals simp +contextual (maxDischargeDepth := 99) only [good_postDraw, good_lapse, good_ite, good_ite_snd, *, implies_true, ite_self]

theorem good_endWaits (s : State) (h0 : Good p s) : Good p (endWaits s) := by
  simp +contextual (maxDischargeDepth := 99) only [endWaits, good_drawReleased, good_foldl, good_foldl_snd, *, implies_true, ite_self]

end Sys2Proof.Machine
end

