-- ==== Sys2Proof/Laws/Keeps/Fabric.lean ====
section
/-!
SUPPORT. Every operation of Machine/Fabric.lean keeps the invariant and the queue.
-/

namespace Sys2Proof.Machine

set_option linter.unusedSimpArgs false

variable {p : List Instr}

theorem good_setFab (x : FabSide) (s : State) (h0 : Good p s) : Good p (setFab x s) := by
  simp +contextual (maxDischargeDepth := 99) only [setFab, good_upd_fab, *, implies_true, ite_self]

theorem good_send (j : ℕ) (dst : ℕ) (k : FabKind) (body : List Byte) (s : State) (h0 : Good p s) : Good p (send j dst k body s) := by
  simp +contextual (maxDischargeDepth := 99) only [send, good_bump, good_offer, good_ite, good_ite_snd, *, implies_true, ite_self]

theorem good_setJob (j : ℕ) (x : JobX) (s : State) (h0 : Good p s) : Good p (setJob j x s) := by
  simp +contextual (maxDischargeDepth := 99) only [setJob, good_setFab, *, implies_true, ite_self]

theorem good_updJob (j : ℕ) (f : JobX → JobX) (s : State) (h0 : Good p s) : Good p (updJob j f s) := by
  simp +contextual (maxDischargeDepth := 99) only [updJob, good_setJob, *, implies_true, ite_self]

theorem good_meetPosition (j : ℕ) (id : ℕ) (pos : ℕ) (s : State) (h0 : Good p s) : Good p (meetPosition j id pos s) := by
  simp +contextual (maxDischargeDepth := 99) only [meetPosition, good_updJob, *, implies_true, ite_self]

theorem good_takeRequest (j : ℕ) (fid : ℕ) (cause : ℕ) (mhz : ℕ) (s : State) (h0 : Good p s) : Good p (takeRequest j fid cause mhz s) := by
  simp +contextual (maxDischargeDepth := 99) only [takeRequest, good_updJob, good_ite, good_ite_snd, *, implies_true, ite_self]

theorem good_sendRequest (j : ℕ) (cause : ℕ) (mhz : ℕ) (s : State) (h0 : Good p s) : Good p (sendRequest j cause mhz s) := by
  simp +contextual (maxDischargeDepth := 99) only [sendRequest, good_send, *, implies_true, ite_self]

theorem good_ownRequest (j : ℕ) (cause : ℕ) (mhz : ℕ) (s : State) (h0 : Good p s) : Good p (ownRequest j cause mhz s) := by
  simp +contextual (maxDischargeDepth := 99) only [ownRequest, good_takeRequest, good_setJob, good_sendRequest, good_ite, good_ite_snd, *, implies_true, ite_self]

theorem good_clockCluster (k : ℕ) (s : State) (h0 : Good p s) : Good p (clockCluster k s) := by
  simp only [clockCluster]
  repeat' split
  all_goals simp +contextual (maxDischargeDepth := 99) only [good_wr, good_ite, good_ite_snd, *, implies_true, ite_self]

theorem good_clockJob (j : ℕ) (s : State) (h0 : Good p s) : Good p (clockJob j s) := by
  simp +contextual (maxDischargeDepth := 99) only [clockJob, good_clockCluster, good_foldl, good_foldl_snd, *, implies_true, ite_self]

theorem good_applySetp (j : ℕ) (mhz0 : ℕ) (s : State) (h0 : Good p s) : Good p (applySetp j mhz0 s) := by
  simp +contextual (maxDischargeDepth := 99) only [applySetp, good_fresh, good_clockJob, good_wr, good_wrIf, good_ite, good_ite_snd, *, implies_true, ite_self]

theorem good_dissolveJob (j : ℕ) (s : State) (h0 : Good p s) : Good p (dissolveJob j s) := by
  simp +contextual (maxDischargeDepth := 99) only [dissolveJob, good_clockCluster, good_setJob, good_clearBlock, good_foldl, good_foldl_snd, *, implies_true, ite_self]

theorem good_takeConfigs (d : ℕ) (s : State) (h0 : Good p s) : Good p (takeConfigs d s) := by
  simp only [takeConfigs]
  repeat' split
  all_goals simp +contextual (maxDischargeDepth := 99) only [good_dissolveJob, good_setJob, good_ite, good_ite_snd, *, implies_true, ite_self]

theorem good_takeDone (j : ℕ) (fid : ℕ) (s : State) (h0 : Good p s) : Good p (takeDone j fid s) := by
  simp +contextual (maxDischargeDepth := 99) only [takeDone, good_updJob, good_wr, good_flag, *, implies_true, ite_self]

theorem good_takeBeat (j : ℕ) (fid : ℕ) (s : State) (h0 : Good p s) : Good p (takeBeat j fid s) := by
  simp +contextual (maxDischargeDepth := 99) only [takeBeat, good_updJob, *, implies_true, ite_self]

theorem good_reportDone (d : ℕ) (s : State) (h0 : Good p s) : Good p (reportDone d s) := by
  simp only [reportDone]
  repeat' split
  all_goals simp +contextual (maxDischargeDepth := 99) only [good_takeDone, good_updJob, good_send, good_foldl, good_foldl_snd, *, implies_true, ite_self]

theorem good_beat (j : ℕ) (s : State) (h0 : Good p s) : Good p (beat j s) := by
  simp +contextual (maxDischargeDepth := 99) only [beat, good_send, good_updJob, good_foldl, good_foldl_snd, good_ite, good_ite_snd, *, implies_true, ite_self]

theorem good_announceJob (r : ℕ) (j : ℕ) (s : State) (h0 : Good p s) : Good p (announceJob r j s) := by
  simp +contextual (maxDischargeDepth := 99) only [announceJob, good_setJob, good_ite, good_ite_snd, *, implies_true, ite_self]

theorem good_takePeriod (r : ℕ) (s : State) (h0 : Good p s) : Good p (takePeriod r s) := by
  simp only [takePeriod]
  repeat' split
  all_goals simp +contextual (maxDischargeDepth := 99) only [good_setFab, good_ite, good_ite_snd, *, implies_true, ite_self]

theorem good_sendMarker (src : Option ℕ) (m : Marker) (s : State) (h0 : Good p s) : Good p (sendMarker src m s) := by
  simp +contextual (maxDischargeDepth := 99) only [sendMarker, good_launch, good_foldl, good_foldl_snd, *, implies_true, ite_self]

theorem good_issueMarker (r : ℕ) (s : State) (h0 : Good p s) : Good p (issueMarker r s).2 := by
  simp +contextual (maxDischargeDepth := 99) only [issueMarker, good_announceJob, good_takePeriod, good_updJob, good_sendMarker, good_foldl, good_foldl_snd, good_ite, good_ite_snd, *, implies_true, ite_self]

theorem good_clampOffsets (s : State) (h0 : Good p s) : Good p (clampOffsets s) := by
  simp +contextual (maxDischargeDepth := 99) only [clampOffsets, good_wr, good_foldl, good_foldl_snd, good_ite, good_ite_snd, *, implies_true, ite_self]

theorem good_jobBoundary (r : ℕ) (j : ℕ) (s : State) (h0 : Good p s) : Good p (jobBoundary r j s) := by
  simp +contextual (maxDischargeDepth := 99) only [jobBoundary, good_flag, good_wr, good_setJob, good_applySetp, good_sendRequest, good_updJob, good_beat, good_foldl, good_foldl_snd, good_ite, good_ite_snd, *, implies_true, ite_self]

theorem good_rejoin (r : ℕ) (s : State) (h0 : Good p s) : Good p (rejoin r s) := by
  unfold rejoin
  split
  · exact h0
  · exact h0

theorem good_openRound (r : ℕ) (m : Option Marker) (s : State) (h0 : Good p s) : Good p (openRound r m s) := by
  simp only [openRound]
  repeat' split
  all_goals simp +contextual (maxDischargeDepth := 99) only [good_takePeriod, good_wr, good_rejoin, good_setFab, good_jobBoundary, good_clampOffsets, good_foldl, good_foldl_snd, *, implies_true, ite_self]

theorem good_roundBoundary (s : State) (h0 : Good p s) : Good p (roundBoundary s) := by
  simp only [roundBoundary]
  repeat' split
  all_goals simp +contextual (maxDischargeDepth := 99) only [good_issueMarker, good_openRound, good_ite, good_ite_snd, *, implies_true, ite_self]

theorem good_unecho (s : State) (h0 : Good p s) : Good p (unecho s) := by
  simp +contextual (maxDischargeDepth := 99) only [unecho, good_updJob, good_foldl, good_foldl_snd, *, implies_true, ite_self]

theorem good_markerReceived (port : ℕ) (m : Marker) (fwd : ℕ) (s : State) (h0 : Good p s) : Good p (markerReceived port m fwd s) := by
  simp +contextual (maxDischargeDepth := 99) only [markerReceived, good_wr, good_setFab, good_flagIf, good_updJob, good_unecho, good_sendMarker, good_foldl, good_foldl_snd, good_ite, good_ite_snd, *, implies_true, ite_self]

theorem good_flywheelOpen (s : State) (h0 : Good p s) : Good p (flywheelOpen s) := by
  simp +contextual (maxDischargeDepth := 99) only [flywheelOpen, good_openRound, good_ite, good_ite_snd, *, implies_true, ite_self]

theorem good_standbyTakeover (s : State) (h0 : Good p s) : Good p (standbyTakeover s) := by
  simp +contextual (maxDischargeDepth := 99) only [standbyTakeover, good_setFab, good_updJob, good_issueMarker, good_foldl, good_foldl_snd, good_ite, good_ite_snd, *, implies_true, ite_self]

theorem good_beatLoss (s : State) (h0 : Good p s) : Good p (beatLoss s) := by
  simp +contextual (maxDischargeDepth := 99) only [beatLoss, good_updJob, good_foldl, good_foldl_snd, good_ite, good_ite_snd, *, implies_true, ite_self]

theorem good_sendStep (slot : ℕ) (n : ℕ) (hist : List ℕ) (s : State) (h0 : Good p s) : Good p (sendStep slot n hist s) := by
  simp +contextual (maxDischargeDepth := 99) only [sendStep, good_showLapsed, good_setStream, good_sendTwin, good_updStream, good_bump, good_ite, good_ite_snd, *, implies_true, ite_self]

theorem good_resyncStream (slot : ℕ) (s : State) (h0 : Good p s) : Good p (resyncStream slot s) := by
  simp +contextual (maxDischargeDepth := 99) only [resyncStream, good_imageOf, good_updStream, good_sendTwin, good_ite, good_ite_snd, *, implies_true, ite_self]

end Sys2Proof.Machine
end

