-- ==== Sys2Proof/Laws/Keeps/Steps.lean ====
section
/-!
SUPPORT. Every operation of Machine/Steps.lean keeps the invariant and the queue.
-/

namespace Sys2Proof.Machine

set_option linter.unusedSimpArgs false

variable {p : List Instr}

theorem good_headerBytes (d : ℕ) (off : ℕ) (n : ℕ) (s : State) (h0 : Good p s) : Good p (headerBytes d off n s).2 := by
  simp +contextual (maxDischargeDepth := 99) only [headerBytes, good_dvaReadN, *, implies_true, ite_self]

theorem good_placeLine (d : ℕ) (g : ℕ) (j : ℕ) (l : ℕ) (s : State) (h0 : Good p s) : Good p (placeLine d g j l s) := by
  simp only [placeLine]
  repeat' split
  all_goals simp +contextual (maxDischargeDepth := 99) only [good_headerBytes, good_spWrite, good_setTag, good_setPoison, *, implies_true, ite_self]

theorem good_placeLetter (d : ℕ) (g : ℕ) (j : ℕ) (s0 : State) (h0 : Good p s0) : Good p (placeLetter d g j s0) := by
  simp +contextual (maxDischargeDepth := 99) only [placeLetter, good_stopCore, good_wr, good_placeLine, good_foldl, good_foldl_snd, *, implies_true, ite_self]

theorem good_recopyLetter (d : ℕ) (g : ℕ) (j : ℕ) (s : State) (h0 : Good p s) : Good p (recopyLetter d g j s) := by
  simp +contextual (maxDischargeDepth := 99) only [recopyLetter, good_placeLine, good_foldl, good_foldl_snd, good_ite, good_ite_snd, *, implies_true, ite_self]

theorem good_setBook (b : ℕ) (x : BookX) (s : State) (h0 : Good p s) : Good p (setBook b x s) := by
  simp +contextual (maxDischargeDepth := 99) only [setBook, good_setSort, *, implies_true, ite_self]

theorem good_credit (slot : ℕ) (s : State) (h0 : Good p s) : Good p (credit slot s) := by
  simp +contextual (maxDischargeDepth := 99) only [credit, good_wr, good_setStream, *, implies_true, ite_self]

theorem good_bookTakes (b : ℕ) (s : State) (h0 : Good p s) : Good p (bookTakes b s) := by
  simp only [bookTakes]
  repeat' split
  all_goals simp +contextual (maxDischargeDepth := 99) only [good_wr, good_setBook, good_ite, good_ite_snd, *, implies_true, ite_self]

theorem good_bookRefill (b : ℕ) (s0 : State) (h0 : Good p s0) : Good p (bookRefill b s0) := by
  simp +contextual (maxDischargeDepth := 99) only [bookRefill, good_bookTakes, good_wr, good_setBook, good_ite, good_ite_snd, *, implies_true, ite_self]

theorem good_deferStream (slot : ℕ) (cause : ℕ) (s : State) (h0 : Good p s) : Good p (deferStream slot cause s) := by
  simp only [deferStream]
  repeat' split
  all_goals simp +contextual (maxDischargeDepth := 99) only [good_setStream, good_bump, good_flag, *, implies_true, ite_self]

theorem good_kvRoom (slot nin : ℕ) (l : List (ℕ × Chain)) (s : State) (h0 : Good p s) :
    ∀ t, kvRoom slot nin l s = .ok t → Good p t := by
  induction l generalizing s with
  | nil => intro t ht; cases ht; exact h0
  | cons x l ih =>
    intro t ht
    unfold kvRoom at ht
    dsimp only at ht
    split at ht
    · cases ht
    · split at ht
      · cases ht
      · next s1 h1 => exact ih _ (good_attendNew _ _ _ _ (good_openTo _ _ _ _ _ h0 _ h1)) _ ht

theorem good_promptTokens (slot : ℕ) (n : ℕ) (s : State) (h0 : Good p s) : Good p (promptTokens slot n s).2 := by
  simp +contextual (maxDischargeDepth := 99) only [promptTokens, good_cbRead, good_dvaReadN, good_ite, good_ite_snd, *, implies_true, ite_self]

theorem good_chunkOk (slot : ℕ) (nin : ℕ) (s : State) (h0 : Good p s) : Good p (chunkOk slot nin s).2 := by
  simp only [chunkOk]
  repeat' split
  all_goals simp +contextual (maxDischargeDepth := 99) only [good_promptTokens, good_ite, good_ite_snd, *, implies_true, ite_self]

theorem good_admitStream (slot : ℕ) (nin : ℕ) (nout : ℕ) (cost : ℕ) (batch : ℕ) (s : State) (h0 : Good p s) : Good p (admitStream slot nin nout cost batch s) := by
  simp +contextual (maxDischargeDepth := 99) only [admitStream, good_wr, good_setSt, good_setStream, good_upd_mark, *, implies_true, ite_self]

theorem good_considerStream (maxbatch : ℕ) (pchunk : ℕ) (slot : ℕ) (y3 : Pass) (s : State) (h0 : Good p s) : Good p (considerStream maxbatch pchunk slot y3 s).2 := by
  unfold considerStream
  extract_lets x win wout level want q
  clear_value q want
  split
  · exact good_deferStream _ _ _ h0
  · split
    · exact good_deferStream _ _ _ h0
    · split
      · exact good_deferStream _ _ _ h0
      · split
        · exact good_deferStream _ _ _ h0
        · split
          · exact good_deferStream _ _ _ h0
          · split
            · exact good_bump _ _ _ (good_updStream _ _ _ (good_deferStream _ _ _ h0))
            · next s1 h1 =>
              have g1 := good_kvRoom _ _ _ _ h0 _ h1
              have g2 := good_cbCheck slot s1 g1
              have g3 := good_chunkOk slot q.1 _ g2
              dsimp only
              split
              · exact good_beginEnd _ _ _ g2
              · split
                · exact good_beginEnd _ _ _ g3
                · exact good_admitStream _ _ _ _ _ _ g3

theorem good_endWaiting (d : ℕ) (s : State) (h0 : Good p s) : Good p (endWaiting d s) := by
  simp +contextual (maxDischargeDepth := 99) only [endWaiting, good_beginEnd, good_foldl, good_foldl_snd, good_ite, good_ite_snd, *, implies_true, ite_self]

theorem good_admission (d : ℕ) (s : State) (h0 : Good p s) : Good p (admission d s).2 := by
  simp +contextual (maxDischargeDepth := 99) only [admission, good_endWaiting, good_bookRefill, good_considerStream, good_foldl, good_foldl_snd, *, implies_true, ite_self]

theorem good_writePages (bs : List Byte) (ps : List (ℕ × ℕ)) (s : State) (h0 : Good p s) : Good p (writePages bs ps s).2 := by
  simp +contextual (maxDischargeDepth := 99) only [writePages, good_vwrite, good_foldl, good_foldl_snd, good_ite, good_ite_snd, *, implies_true, ite_self]

theorem good_writeTables (d : ℕ) (m : Micro) (s : State) (h0 : Good p s) : Good p (writeTables d m s) := by
  simp +contextual (maxDischargeDepth := 99) only [writeTables, good_writePages, good_addDue, good_foldl, good_foldl_snd, good_ite, good_ite_snd, *, implies_true, ite_self]

theorem good_startCores (d : ℕ) (s : State) (h0 : Good p s) : Good p (startCores d s) := by
  simp +contextual (maxDischargeDepth := 99) only [startCores, good_recopyLetter, good_goCore, good_foldl, good_foldl_snd, *, implies_true, ite_self]

theorem good_readyCore (d : ℕ) (stage : ℕ) (idx : ℕ) (n : ℕ) (m : Micro) (g0 : ℕ) (s : State) (h0 : Good p s) : Good p (readyCore d stage idx n m g0 s) := by
  simp +contextual (maxDischargeDepth := 99) only [readyCore, good_addDue, good_flag, good_updCore, good_spWrite, good_ite, good_ite_snd, *, implies_true, ite_self]

theorem good_readyStage (d : ℕ) (stage : ℕ) (m : Micro) (s : State) (h0 : Good p s) : Good p (readyStage d stage m s) := by
  simp +contextual (maxDischargeDepth := 99) only [readyStage, good_readyCore, good_foldl, good_foldl_snd, *, implies_true, ite_self]

theorem good_startNotices (d : ℕ) (s : State) (h0 : Good p s) : Good p (startNotices d s) := by
  simp +contextual (maxDischargeDepth := 99) only [startNotices, good_fresh, good_upd_notices, *, implies_true, ite_self]

theorem good_enterMicro (d : ℕ) (slots : List ℕ) (s : State) (h0 : Good p s) : Good p (enterMicro d slots s) := by
  simp +contextual (maxDischargeDepth := 99) only [enterMicro, good_setDistrict, good_writeTables, good_foldl, good_foldl_snd, good_ite, good_ite_snd, *, implies_true, ite_self]

theorem good_arm (d : ℕ) (s : State) (h0 : Good p s) : Good p (arm d s) := by
  simp +contextual (maxDischargeDepth := 99) only [arm, good_setDistrict, *, implies_true, ite_self]

theorem good_markThrottled (d : ℕ) (s : State) (h0 : Good p s) : Good p (markThrottled d s) := by
  simp +contextual (maxDischargeDepth := 99) only [markThrottled, good_cbFlag, good_foldl, good_foldl_snd, *, implies_true, ite_self]

theorem good_countRounds (d : ℕ) (s : State) (h0 : Good p s) : Good p (countRounds d s) := by
  simp only [countRounds]
  have h1 : Good p (if throttled d s = true then markThrottled d s else s) := by
    split
    · exact good_markThrottled _ _ h0
    · exact h0
  refine good_updDistrict _ _ _ (good_foldl h1 fun u x hu => ?_)
  exact good_cbAdd _ _ _ _ _ hu

theorem good_sendQueries (d : ℕ) (slots : List ℕ) (s : State) (h0 : Good p s) : Good p (sendQueries d slots s) := by
  simp only [sendQueries]
  repeat' split
  all_goals simp +contextual (maxDischargeDepth := 99) only [good_send, good_foldl, good_foldl_snd, *, implies_true, ite_self]

theorem good_startStep (d : ℕ) (s : State) (h0 : Good p s) : Good p (startStep d s) := by
  simp +contextual (maxDischargeDepth := 99) only [startStep, good_updDistrict, good_admission, good_enterMicro, good_readyStage, good_startCores, good_arm, good_sendQueries, good_startNotices, good_countRounds, good_foldl, good_foldl_snd, *, implies_true, ite_self]

theorem good_stepPoint (d : ℕ) (s : State) (h0 : Good p s) : Good p (stepPoint d s) := by
  simp +contextual (maxDischargeDepth := 99) only [stepPoint, good_setDistrict, good_bump, good_takeConfigs, good_startStep, good_ite, good_ite_snd, *, implies_true, ite_self]

theorem good_afterStep (slot : ℕ) (code : ℕ) (s : State) (h0 : Good p s) : Good p (afterStep slot code s) := by
  simp +contextual (maxDischargeDepth := 99) only [afterStep, good_setStream, good_beginEnd, good_setSt, good_startPreempt, good_ite, good_ite_snd, *, implies_true, ite_self]

theorem good_refusedStep (slot : ℕ) (s : State) (h0 : Good p s) : Good p (refusedStep slot s) := by
  simp +contextual (maxDischargeDepth := 99) only [refusedStep, good_afterStep, good_uncommitKv, good_credit, *, implies_true, ite_self]

theorem good_passPosition (slot : ℕ) (s : State) (h0 : Good p s) : Good p (passPosition slot s) := by
  simp only [passPosition]
  repeat' split
  all_goals simp +contextual (maxDischargeDepth := 99) only [good_meetPosition, good_ite, good_ite_snd, *, implies_true, ite_self]

theorem good_commitStream (slot : ℕ) (s : State) (h0 : Good p s) : Good p (commitStream slot s) := by
  simp +contextual (maxDischargeDepth := 99) only [commitStream, good_refusedStep, good_promptTokens, good_passPosition, good_pushHistory, good_commitKv, good_cbAdd, good_addSat, good_updChain, good_setStream, good_updDistrict, good_afterStep, good_sendStep, good_foldl, good_foldl_snd, good_ite, good_ite_snd, *, implies_true, ite_self]

theorem good_endRefused (d : ℕ) (s : State) (h0 : Good p s) : Good p (endRefused d s) := by
  simp +contextual (maxDischargeDepth := 99) only [endRefused, good_beginEnd, good_foldl, good_foldl_snd, *, implies_true, ite_self]

theorem good_endNotices (d : ℕ) (s : State) (h0 : Good p s) : Good p (endNotices d s) := by
  exact h0

theorem good_failStream (slot : ℕ) (s : State) (h0 : Good p s) : Good p (failStream slot s) := by
  simp +contextual (maxDischargeDepth := 99) only [failStream, good_cbAdd, good_cbWrite, good_uncommitKv, good_credit, good_updStream, good_updChain, good_updDistrict, good_afterStep, good_upd_power, good_foldl, good_foldl_snd, good_ite, good_ite_snd, *, implies_true, ite_self]

theorem good_stopDistrict (d : ℕ) (s : State) (h0 : Good p s) : Good p (stopDistrict d s) := by
  simp +contextual (maxDischargeDepth := 99) only [stopDistrict, good_stopCore, good_foldl, good_foldl_snd, *, implies_true, ite_self]

theorem good_failStep (d : ℕ) (stop : Bool) (s : State) (h0 : Good p s) : Good p (failStep d stop s) := by
  simp +contextual (maxDischargeDepth := 99) only [failStep, good_stopDistrict, good_setDistrict, good_failStream, good_ringIrq, good_updDistrict, good_reportDone, good_endNotices, good_bump, good_endRefused, good_foldl, good_foldl_snd, good_ite, good_ite_snd, *, implies_true, ite_self]

theorem good_commitStep (d : ℕ) (s : State) (h0 : Good p s) : Good p (commitStep d s) := by
  simp +contextual (maxDischargeDepth := 99) only [commitStep, good_setDistrict, good_reportDone, good_endNotices, good_bump, good_endRefused, good_commitStream, good_foldl, good_foldl_snd, good_ite, good_ite_snd, *, implies_true, ite_self]

theorem good_completeStep (d : ℕ) (s : State) (h0 : Good p s) : Good p (completeStep d s) := by
  simp +contextual (maxDischargeDepth := 99) only [completeStep, good_failStep, good_commitStep, good_ite, good_ite_snd, *, implies_true, ite_self]

theorem good_templateTrigger (d : ℕ) (j : ℕ) (i : ℕ) (s : State) (h0 : Good p s) : Good p (templateTrigger d j i s) := by
  simp only [templateTrigger]
  repeat' split
  all_goals simp +contextual (maxDischargeDepth := 99) only [good_wr, good_setDistrict, good_nmSubmit, good_ite, good_ite_snd, *, implies_true, ite_self]

theorem good_lookPass (d : ℕ) (s : State) (h0 : Good p s) : Good p (lookPass d s) := by
  simp +contextual (maxDischargeDepth := 99) only [lookPass, good_lookStream, good_updDistrict, good_foldl, good_foldl_snd, good_ite, good_ite_snd, *, implies_true, ite_self]

theorem good_stagingPreempt (slot : ℕ) (s : State) (h0 : Good p s) : Good p (stagingPreempt slot s) := by
  simp +contextual (maxDischargeDepth := 99) only [stagingPreempt, good_startPreempt, good_updStream, good_ite, good_ite_snd, *, implies_true, ite_self]

end Sys2Proof.Machine
end

