-- ==== Sys2Proof/Laws/Keeps/Settle.lean ====
section
/-!
SUPPORT. Every operation of Machine/Settle.lean keeps the invariant and the queue.
-/

namespace Sys2Proof.Machine

set_option linter.unusedSimpArgs false

variable {p : List Instr}

theorem good_setBoot (x : BootSide) (s : State) (h0 : Good p s) : Good p (setBoot x s) := by
  simp +contextual (maxDischargeDepth := 99) only [setBoot, good_upd_boot, *, implies_true, ite_self]

theorem good_addFrm (kind : ℕ) (site : ℕ) (unit : ℕ) (detail : ℕ) (s : State) (h0 : Good p s) : Good p (addFrm kind site unit detail s) := by
  simp +contextual (maxDischargeDepth := 99) only [addFrm, good_flag, good_addSat, good_setBoot, good_ite, good_ite_snd, *, implies_true, ite_self]

theorem good_impairParcel (y0 : ℕ) (site : ℕ) (s : State) (h0 : Good p s) : Good p (impairParcel y0 site s) := by
  simp +contextual (maxDischargeDepth := 99) only [impairParcel, good_events, good_setParcel, good_ite, good_ite_snd, *, implies_true, ite_self]

theorem good_handOver (slot : ℕ) (s : State) (h0 : Good p s) : Good p (handOver slot s) := by
  simp only [handOver]
  repeat' split
  all_goals simp +contextual (maxDischargeDepth := 99) only [good_accumulators, good_setHandle, good_credit, good_reply, good_showPreempt, good_freeStream, good_setSt, good_leavePreempt, good_upd_power, good_foldl, good_foldl_snd, *, implies_true, ite_self]

theorem good_activateShadow (slot : ℕ) (s : State) (h0 : Good p s) : Good p (activateShadow slot s) := by
  simp only [activateShadow]
  repeat' split
  all_goals simp +contextual (maxDischargeDepth := 99) only [good_freeStream, good_updChain, good_setLen, good_setStream, good_cbWrite, good_uncommitKv, good_cbFlag, good_cbAdd, good_showStream, good_updDistrict, good_foldl, good_foldl_snd, *, implies_true, ite_self]

theorem good_endStreams (d : ℕ) (code : ℕ) (s0 : State) (h0 : Good p s0) : Good p (endStreams d code s0) := by
  simp +contextual (maxDischargeDepth := 99) only [endStreams, good_activateShadow, good_handOver, good_updStream, good_beginEnd, good_failStep, good_freeStream, good_foldl, good_foldl_snd, good_ite, good_ite_snd, *, implies_true, ite_self]

theorem good_failDistrict (d : ℕ) (code : ℕ) (quarantine : Bool) (s : State) (h0 : Good p s) : Good p (failDistrict d code quarantine s) := by
  simp +contextual (maxDischargeDepth := 99) only [failDistrict, good_endStreams, good_wr, good_sendTwin, good_setFab, good_bump, good_noteFailed, good_events, good_ite, good_ite_snd, *, implies_true, ite_self]

theorem good_retirePage (v : ℕ) (page : ℕ) (s : State) (h0 : Good p s) : Good p (retirePage v page s) := by
  simp only [retirePage]
  repeat' split
  all_goals simp +contextual (maxDischargeDepth := 99) only [good_logEvent, good_addFrm, good_bump, good_setPage, good_impairParcel, good_failDistrict, good_ite, good_ite_snd, *, implies_true, ite_self]

theorem good_lossStep (d : ℕ) (s : State) (h0 : Good p s) : Good p (lossStep d s) := by
  simp +contextual (maxDischargeDepth := 99) only [lossStep, good_failDistrict, good_failStep, good_ite, good_ite_snd, *, implies_true, ite_self]

theorem good_handleDue (x : Due) (s : State) (h0 : Good p s) : Good p (handleDue x s) := by
  simp only [handleDue]
  repeat' split
  all_goals simp +contextual (maxDischargeDepth := 99) only [good_sendEvent, good_retirePage, good_failDistrict, good_lossStep, good_stagedDone, *, implies_true, ite_self]

theorem good_drain (y0 : ℕ) (y1 : State) (h0 : Good p y1) : Good p (drain y0 y1) := by
  fun_induction drain y0 y1 <;> simp_all +contextual +zetaDelta (maxDischargeDepth := 99) only [good_handleDue, good_upd_due, implies_true, ite_self]

theorem good_endFaulty (s : State) (h0 : Good p s) : Good p (endFaulty s) := by
  simp +contextual (maxDischargeDepth := 99) only [endFaulty, good_beginEnd, good_foldl, good_foldl_snd, *, implies_true, ite_self]

theorem good_settle (s : State) (h0 : Good p s) : Good p (settle s) := by
  simp +contextual (maxDischargeDepth := 99) only [settle, good_drain, good_endFaulty, good_tryResumes, good_ite, good_ite_snd, *, implies_true, ite_self]

theorem good_trapReport (g : ℕ) (s : State) (h0 : Good p s) : Good p (trapReport g s) := by
  simp only [trapReport]
  repeat' split
  all_goals simp +contextual (maxDischargeDepth := 99) only [good_updCore, good_logEvent, good_deadLetter, good_failDistrict, good_failStep, good_upd_districts, good_ite, good_ite_snd, *, implies_true, ite_self]

end Sys2Proof.Machine
end

