-- ==== Sys2Proof/Laws/Keeps/Power.lean ====
section
/-!
SUPPORT. Every operation of Machine/Power.lean keeps the invariant and the queue.
-/

namespace Sys2Proof.Machine

set_option linter.unusedSimpArgs false

variable {p : List Instr}

theorem good_setPower (x : PowerSide) (s : State) (h0 : Good p s) : Good p (setPower x s) := by
  simp +contextual (maxDischargeDepth := 99) only [setPower, good_upd_power, *, implies_true, ite_self]

theorem good_rescale (s : State) (h0 : Good p s) : Good p (rescale s) := by
  simp +contextual (maxDischargeDepth := 99) only [rescale, good_wr, good_foldl, good_foldl_snd, good_ite, good_ite_snd, *, implies_true, ite_self]

theorem good_applyCap (s : State) (h0 : Good p s) : Good p (applyCap s) := by
  simp +contextual (maxDischargeDepth := 99) only [applyCap, good_wr, good_rescale, good_setPower, good_ite, good_ite_snd, *, implies_true, ite_self]

theorem good_requestAllotments (ws : List ℕ) (s : State) (h0 : Good p s) : Good p (requestAllotments ws s) := by
  simp +contextual (maxDischargeDepth := 99) only [requestAllotments, good_note, good_wr, good_foldl, good_foldl_snd, good_ite, good_ite_snd, *, implies_true, ite_self]

theorem good_divideCap (s : State) (h0 : Good p s) : Good p (divideCap s) := by
  simp +contextual (maxDischargeDepth := 99) only [divideCap, good_requestAllotments, good_ite, good_ite_snd, *, implies_true, ite_self]

theorem good_siteWindow (k : ℕ) (s : State) (h0 : Good p s) : Good p (siteWindow k s) := by
  unfold siteWindow
  extract_lets w a order under gate setUnder s1 low s2 means i
  have hU : ∀ n u, Good p u → Good p (setUnder n u) := fun n u hu => good_setPower _ _ hu
  clear_value setUnder
  have h1 : Good p s1 := by
    simp only [s1]
    repeat' first
      | exact h0
      | (refine hU _ _ ?_)
      | exact good_wr _ _ _ _ h0
      | split
  clear_value s1
  have h2 : Good p s2 := by
    simp only [s2]
    refine good_wr _ _ _ _ ?_
    split
    · exact good_bump _ _ _ h1
    · exact h1
  clear_value s2
  split
  · exact good_setPower _ _ h2
  · exact good_foldl (good_setPower _ _ h2) fun u j hu => good_clockCluster _ _ hu

theorem good_powerRequest (j : ℕ) (s : State) (h0 : Good p s) : Good p (powerRequest j s) := by
  simp +contextual (maxDischargeDepth := 99) only [powerRequest, good_ownRequest, good_foldl, good_foldl_snd, good_ite, good_ite_snd, *, implies_true, ite_self]

theorem good_inputWindow (s : State) (h0 : Good p s) : Good p (inputWindow s) := by
  simp +contextual (maxDischargeDepth := 99) only [inputWindow, good_setPower, good_wr, good_ite, good_ite_snd, *, implies_true, ite_self]

theorem good_gateSlice (k : ℕ) (on : Bool) (s : State) (h0 : Good p s) : Good p (gateSlice k on s) := by
  simp +contextual (maxDischargeDepth := 99) only [gateSlice, good_setPower, good_wake, good_foldl, good_foldl_snd, good_ite, good_ite_snd, *, implies_true, ite_self]

theorem good_noticeArrives (k : ℕ) (s : State) (h0 : Good p s) : Good p (noticeArrives k s) := by
  simp only [noticeArrives]
  repeat' split
  all_goals simp +contextual (maxDischargeDepth := 99) only [good_setPower, good_bump, good_upd_notices, good_ite, good_ite_snd, *, implies_true, ite_self]

theorem good_phaseEnds (k : ℕ) (s : State) (h0 : Good p s) : Good p (phaseEnds k s) := by
  simp only [phaseEnds]
  repeat' split
  all_goals simp +contextual (maxDischargeDepth := 99) only [good_setPower, *, implies_true, ite_self]

theorem good_restartVmin (k : ℕ) (s : State) (h0 : Good p s) : Good p (restartVmin k s) := by
  simp +contextual (maxDischargeDepth := 99) only [restartVmin, good_wr, *, implies_true, ite_self]

theorem good_voltageSensed (k : ℕ) (mv : ℕ) (s : State) (h0 : Good p s) : Good p (voltageSensed k mv s) := by
  simp +contextual (maxDischargeDepth := 99) only [voltageSensed, good_setPower, good_wr, good_bump, good_note, good_ite, good_ite_snd, *, implies_true, ite_self]

theorem good_showEdev (s : State) (h0 : Good p s) : Good p (showEdev s) := by
  simp +contextual (maxDischargeDepth := 99) only [showEdev, good_wr, *, implies_true, ite_self]

theorem good_addWrap (f : Reg) (i : ℕ) (n : ℕ) (s : State) (h0 : Good p s) : Good p (addWrap f i n s) := by
  simp +contextual (maxDischargeDepth := 99) only [addWrap, good_wr, *, implies_true, ite_self]

theorem good_meterSample (m : Meter) (mv : ℕ) (ma : ℕ) (s : State) (h0 : Good p s) : Good p (meterSample m mv ma s) := by
  simp only [meterSample]
  repeat' split
  all_goals simp +contextual (maxDischargeDepth := 99) only [good_showEdev, good_addWrap, good_setPower, *, implies_true, ite_self]

theorem good_chargeStream (d : ℕ) (r : Ran) (direct : ℕ) (ovh : ℕ) (s : State) (h0 : Good p s) : Good p (chargeStream d r direct ovh s) := by
  simp only [chargeStream]
  repeat' split
  all_goals simp +contextual (maxDischargeDepth := 99) only [good_setPower, good_setStream, good_cbRead, good_cbWrite, good_updDistrict, good_setSort, good_ite, good_ite_snd, *, implies_true, ite_self]

theorem good_attributeRound (ein : ℕ) (shares : List (ℕ × Ran × ℕ)) (s : State) (h0 : Good p s) : Good p (attributeRound ein shares s) := by
  simp +contextual (maxDischargeDepth := 99) only [attributeRound, good_setPower, good_chargeStream, good_foldl, good_foldl_snd, good_ite, good_ite_snd, *, implies_true, ite_self]

theorem good_signOpen (s : State) (h0 : Good p s) : Good p (signOpen s) := by
  simp +contextual (maxDischargeDepth := 99) only [signOpen, good_countReceipt, good_setSort, good_foldl, good_foldl_snd, good_ite, good_ite_snd, *, implies_true, ite_self]

theorem good_closeRound (s : State) (h0 : Good p s) : Good p (closeRound s) := by
  unfold closeRound
  extract_lets ein sites ds pools shares sums src s0 s1 s2 i i1 done next
  have g0 : Good p s0 := h0
  have h1 : Good p s1 := good_signOpen _ (good_attributeRound _ _ _ g0)
  have h2 : Good p s2 := good_foldl h1 fun u d hu => good_updDistrict _ _ _ hu
  exact good_setPower _ _ h2

theorem good_issueStatement (s : State) (h0 : Good p s) : Good p (issueStatement s) := by
  simp only [issueStatement]
  repeat' split
  all_goals simp +contextual (maxDischargeDepth := 99) only [good_wr, good_setPower, good_showHeld, good_holdReceipt, *, implies_true, ite_self]

theorem good_sendDying (s : State) (h0 : Good p s) : Good p (sendDying s) := by
  simp +contextual (maxDischargeDepth := 99) only [sendDying, good_sendPiece, good_foldl, good_foldl_snd, good_ite, good_ite_snd, *, implies_true, ite_self]

theorem good_startStop (cause : ℕ) (site : ℕ) (sensor : ℕ) (trip : ℕ) (s : State) (h0 : Good p s) : Good p (startStop cause site sensor trip s) := by
  simp only [startStop]
  repeat' split
  all_goals simp +contextual (maxDischargeDepth := 99) only [good_setBoot, good_sendDying, *, implies_true, ite_self]

theorem good_inputFault (high : Bool) (s : State) (h0 : Good p s) : Good p (inputFault high s) := by
  simp +contextual (maxDischargeDepth := 99) only [inputFault, good_startStop, good_ite, good_ite_snd, *, implies_true, ite_self]

end Sys2Proof.Machine
end

