-- ==== Sys2Proof/Laws/Keeps/Heat.lean ====
section
/-!
SUPPORT. Every operation of Machine/Heat.lean keeps the invariant and the queue.
-/

namespace Sys2Proof.Machine

set_option linter.unusedSimpArgs false

variable {p : List Instr}

theorem good_setHeat (x : HeatSide) (s : State) (h0 : Good p s) : Good p (setHeat x s) := by
  simp +contextual (maxDischargeDepth := 99) only [setHeat, good_upd_heat, *, implies_true, ite_self]

theorem good_showCluster (cl : ℕ) (s : State) (h0 : Good p s) : Good p (showCluster cl s) := by
  simp +contextual (maxDischargeDepth := 99) only [showCluster, good_wr, *, implies_true, ite_self]

theorem good_showSite (k : ℕ) (s : State) (h0 : Good p s) : Good p (showSite k s) := by
  simp +contextual (maxDischargeDepth := 99) only [showSite, good_showCluster, good_foldl, good_foldl_snd, *, implies_true, ite_self]

theorem good_refreshRate (k : ℕ) (j : ℕ) (s : State) (h0 : Good p s) : Good p (refreshRate k j s) := by
  simp +contextual (maxDischargeDepth := 99) only [refreshRate, good_wr, good_ite, good_ite_snd, *, implies_true, ite_self]

theorem good_diodeConverted (k : ℕ) (n : ℕ) (x : Option ℤ) (s : State) (h0 : Good p s) : Good p (diodeConverted k n x s) := by
  simp +contextual (maxDischargeDepth := 99) only [diodeConverted, good_note, good_wr, good_setHeat, good_showSite, good_refreshRate, good_upd_bad, good_ite, good_ite_snd, *, implies_true, ite_self]

theorem good_dieTrip (k : ℕ) (n : ℕ) (s : State) (h0 : Good p s) : Good p (dieTrip k n s) := by
  simp +contextual (maxDischargeDepth := 99) only [dieTrip, good_startStop, good_ite, good_ite_snd, *, implies_true, ite_self]

theorem good_modelUpdate (cl : ℕ) (words : ℕ) (activity : ℕ) (s : State) (h0 : Good p s) : Good p (modelUpdate cl words activity s) := by
  simp +contextual (maxDischargeDepth := 99) only [modelUpdate, good_showCluster, good_setHeat, good_upd_est, good_foldl, good_foldl_snd, *, implies_true, ite_self]

theorem good_calibrateDie (k : ℕ) (die : ℕ) (s : State) (h0 : Good p s) : Good p (calibrateDie k die s) := by
  simp +contextual (maxDischargeDepth := 99) only [calibrateDie, good_setHeat, good_upd_bad, good_ite, good_ite_snd, *, implies_true, ite_self]

theorem good_calibrate (s : State) (h0 : Good p s) : Good p (calibrate s) := by
  simp +contextual (maxDischargeDepth := 99) only [calibrate, good_showSite, good_calibrateDie, good_foldl, good_foldl_snd, *, implies_true, ite_self]

theorem good_showDark (k : ℕ) (s : State) (h0 : Good p s) : Good p (showDark k s) := by
  simp +contextual (maxDischargeDepth := 99) only [showDark, good_wr, *, implies_true, ite_self]

theorem good_darken (cl : ℕ) (s : State) (h0 : Good p s) : Good p (darken cl s) := by
  simp +contextual (maxDischargeDepth := 99) only [darken, good_showDark, good_bump, good_flag, good_wr, good_ite, good_ite_snd, *, implies_true, ite_self]

theorem good_relight (cl : ℕ) (s : State) (h0 : Good p s) : Good p (relight cl s) := by
  simp +contextual (maxDischargeDepth := 99) only [relight, good_clockCluster, good_showDark, good_wr, good_wake, good_foldl, good_foldl_snd, *, implies_true, ite_self]

theorem good_heatWindow (cl : ℕ) (s : State) (h0 : Good p s) : Good p (heatWindow cl s) := by
  simp +contextual (maxDischargeDepth := 99) only [heatWindow, good_setHeat, good_clockCluster, good_wr, good_relight, good_darken, good_ite, good_ite_snd, *, implies_true, ite_self]

theorem good_heatRequest (j : ℕ) (s : State) (h0 : Good p s) : Good p (heatRequest j s) := by
  simp +contextual (maxDischargeDepth := 99) only [heatRequest, good_ownRequest, good_foldl, good_foldl_snd, good_ite, good_ite_snd, *, implies_true, ite_self]

theorem good_windowEnd (s : State) (h0 : Good p s) : Good p (windowEnd s) := by
  simp +contextual (maxDischargeDepth := 99) only [windowEnd, good_applyCap, good_inputWindow, good_heatWindow, good_siteWindow, good_markThrottled, good_heatRequest, good_powerRequest, good_foldl, good_foldl_snd, *, implies_true, ite_self]

theorem good_colourFlip (s : State) (h0 : Good p s) : Good p (colourFlip s) := by
  simp +contextual (maxDischargeDepth := 99) only [colourFlip, good_wr, good_ite, good_ite_snd, *, implies_true, ite_self]

theorem good_coolantState (c : Coolant) (s : State) (h0 : Good p s) : Good p (coolantState c s) := by
  simp only [coolantState]
  repeat' split
  all_goals simp +contextual (maxDischargeDepth := 99) only [good_wr, good_flagIf, good_note, good_setHeat, good_upd_due, good_ite, good_ite_snd, *, implies_true, ite_self]

theorem good_coolantStops (c : Coolant) (s : State) (h0 : Good p s) : Good p (coolantStops c s) := by
  simp +contextual (maxDischargeDepth := 99) only [coolantStops, good_setHeat, good_startStop, good_foldl, good_foldl_snd, good_ite, good_ite_snd, *, implies_true, ite_self]

theorem good_goodSample (c : Coolant) (s : State) (h0 : Good p s) : Good p (goodSample c s) := by
  simp +contextual (maxDischargeDepth := 99) only [goodSample, good_coolantStops, good_setHeat, good_wr, good_coolantState, good_applyCap, good_upd_bad, good_ite, good_ite_snd, *, implies_true, ite_self]

theorem good_coolantRead (again : Bool) (x : Option Coolant) (s : State) (h0 : Good p s) : Good p (coolantRead again x s) := by
  simp only [coolantRead]
  repeat' split
  all_goals simp +contextual (maxDischargeDepth := 99) only [good_setHeat, good_goodSample, good_bump, good_upd_bad, good_ite, good_ite_snd, *, implies_true, ite_self]

theorem good_sensorLost (s : State) (h0 : Good p s) : Good p (sensorLost s) := by
  simp +contextual (maxDischargeDepth := 99) only [sensorLost, good_applyCap, good_wr, good_flag, good_ite, good_ite_snd, *, implies_true, ite_self]

end Sys2Proof.Machine
end

