-- ==== Sys2Proof/Laws/Keeps/Rounds.lean ====
section
/-!
SUPPORT. Every operation of Machine/Rounds.lean keeps the invariant and the queue.
-/

namespace Sys2Proof.Machine

set_option linter.unusedSimpArgs false

variable {p : List Instr}

theorem good_atBoundary (opening : State → State) (s : State) (hf : ∀ u, Good p u → Good p (opening u)) (h1 : Good p s) : Good p (atBoundary opening s) := by
  simp +contextual (maxDischargeDepth := 99) only [atBoundary, good_calibrate, good_closeRound, good_endWaits, good_countRounds, good_foldl, good_foldl_snd, *, implies_true, ite_self]

theorem good_boundary (s : State) (h0 : Good p s) : Good p (boundary s) := by
  simp +contextual (maxDischargeDepth := 99) only [boundary, good_atBoundary, good_roundBoundary, good_ite, good_ite_snd, *, implies_true, ite_self]

theorem good_flywheel (s : State) (h0 : Good p s) : Good p (flywheel s) := by
  simp +contextual (maxDischargeDepth := 99) only [flywheel, good_atBoundary, good_flywheelOpen, good_ite, good_ite_snd, *, implies_true, ite_self]

theorem good_arriveMarker (port : ℕ) (m : Marker) (fwd : ℕ) (s : State) (h0 : Good p s) : Good p (arriveMarker port m fwd s) := by
  simp +contextual (maxDischargeDepth := 99) only [arriveMarker, good_markerReceived, good_boundary, good_ite, good_ite_snd, *, implies_true, ite_self]

end Sys2Proof.Machine
end

