-- ==== Sys2Proof/Laws/Keeps/Spill.lean ====
section
/-!
SUPPORT. Every operation of Machine/Spill.lean keeps the invariant and the queue.
-/

namespace Sys2Proof.Machine

set_option linter.unusedSimpArgs false

variable {p : List Instr}

theorem good_setSpilling (site : ℕ) (b : Bool) (s : State) (h0 : Good p s) : Good p (setSpilling site b s) := by
  simp +contextual (maxDischargeDepth := 99) only [setSpilling, good_wr, *, implies_true, ite_self]

theorem good_spillOne (site : ℕ) (s : State) (h0 : Good p s) : Good p (spillOne site s) := by
  unfold spillOne
  have hf := good_firstSpill site s h0
  split
  · exact h0
  · split
    · next h _ => rw [h] at hf; exact good_showPr _ _ (good_updPage _ _ _ _ _ hf)
    · next h => rw [h] at hf; exact hf
    · exact h0

theorem good_spillStart (site : ℕ) (s : State) (h0 : Good p s) : Good p (spillStart site s) := by
  simp only [spillStart]
  repeat' split
  all_goals simp +contextual (maxDischargeDepth := 99) only [good_setSpilling, good_spillOne, good_startPreempt, good_foldl, good_foldl_snd, good_ite, good_ite_snd, *, implies_true, ite_self]

theorem good_spillWritten (slot : ℕ) (c : ℕ) (j : ℕ) (ok : Bool) (s : State) (h0 : Good p s) : Good p (spillWritten slot c j ok s) := by
  simp +contextual (maxDischargeDepth := 99) only [spillWritten, good_spillDone, good_setSpilling, good_ite, good_ite_snd, *, implies_true, ite_self]

end Sys2Proof.Machine
end

