-- ==== Sys2Proof/Laws/Keeps/Parcels.lean ====
section
/-!
SUPPORT. Every operation of Machine/Parcels.lean keeps the invariant and the queue.
-/

namespace Sys2Proof.Machine

set_option linter.unusedSimpArgs false

variable {p : List Instr}

theorem good_reserveParcel (y0 : ℕ) (x : Parcel) (s : State) (h0 : Good p s) : Good p (reserveParcel y0 x s) := by
  simp +contextual (maxDischargeDepth := 99) only [reserveParcel, good_setParcel, good_zeroPage, good_setPage, good_foldl, good_foldl_snd, good_ite, good_ite_snd, *, implies_true, ite_self]

theorem good_pagesRead (ps : List (ℕ × ℕ)) (off : ℕ) (n : ℕ) (y3 : ℕ) (y4 : State) (h0 : Good p y4) : Good p (pagesRead ps off n y3 y4).2 := by
  fun_induction pagesRead ps off n y3 y4 <;> simp_all +contextual +zetaDelta (maxDischargeDepth := 99) only [good_vreadBytes, good_ite, good_ite_snd, implies_true, ite_self]

theorem good_readPages (ps : List (ℕ × ℕ)) (off : ℕ) (n : ℕ) (s : State) (h0 : Good p s) : Good p (readPages ps off n s).2 := by
  simp +contextual (maxDischargeDepth := 99) only [readPages, good_pagesRead, *, implies_true, ite_self]

theorem good_readStages (ps : List (ℕ × ℕ)) (b : List Byte) (t : List (ℕ × ℕ × ℕ)) (y3 : List ℕ) (y4 : State) (h0 : Good p y4) : Good p (readStages ps b t y3 y4).2 := by
  fun_induction readStages ps b t y3 y4 <;> simp_all +contextual +zetaDelta (maxDischargeDepth := 99) only [good_readPages, good_ite, good_ite_snd, implies_true, ite_self]

theorem good_pageWords (v : ℕ) (page : ℕ) (y2 : ℕ) (y3 : ℕ) (y4 : State) (h0 : Good p y4) : Good p (pageWords v page y2 y3 y4).2 := by
  induction y2 generalizing y3 y4 with
  | zero => exact h0
  | succ n ih =>
    unfold pageWords
    extract_lets r f b t
    have hr : Good p r.2 := good_vread _ _ _ _ h0
    have hb : Good p b.2 := by
      simp only [b]
      split
      · exact hr
      · exact good_fresh _ hr
    clear_value b
    exact ih _ _ hb

theorem good_allBytes (y0 : List (ℕ × ℕ)) (y1 : State) (h0 : Good p y1) : Good p (allBytes y0 y1).2 := by
  fun_induction allBytes y0 y1 <;> simp_all +contextual +zetaDelta (maxDischargeDepth := 99) only [good_pageWords, implies_true, ite_self]

theorem good_sealParcel (y0 : ℕ) (x : Parcel) (s : State) (h0 : Good p s) : Good p (sealParcel y0 x s) := by
  simp +contextual (maxDischargeDepth := 99) only [sealParcel, good_zeroPage, good_allBytes, good_setParcel, good_foldl, good_foldl_snd, *, implies_true, ite_self]

theorem good_trySeal (y0 : ℕ) (s : State) (h0 : Good p s) : Good p (trySeal y0 s).2 := by
  simp only [trySeal]
  repeat' split
  all_goals simp +contextual (maxDischargeDepth := 99) only [good_readPages, good_readStages, good_sealParcel, good_ite, good_ite_snd, *, implies_true, ite_self]

theorem good_releaseParcelPage (q : ℕ × ℕ) (s : State) (h0 : Good p s) : Good p (releaseParcelPage q s) := by
  simp +contextual (maxDischargeDepth := 99) only [releaseParcelPage, good_setPage, *, implies_true, ite_self]

theorem good_unmapParcel (d : ℕ) (x : Parcel) (s : State) (h0 : Good p s) : Good p (unmapParcel d x s) := by
  simp +contextual (maxDischargeDepth := 99) only [unmapParcel, good_unmapPage, good_foldl, good_foldl_snd, *, implies_true, ite_self]

theorem good_discardParcel (y0 : ℕ) (s : State) (h0 : Good p s) : Good p (discardParcel y0 s) := by
  simp only [discardParcel]
  repeat' split
  all_goals simp +contextual (maxDischargeDepth := 99) only [good_unmapParcel, good_releaseParcelPage, good_zeroPage, good_setParcel, good_foldl, good_foldl_snd, good_ite, good_ite_snd, *, implies_true, ite_self]

end Sys2Proof.Machine
end

