-- ==== Sys2Proof/Laws/Keeps/Recovery.lean ====
section
/-!
SUPPORT. Every operation of Machine/Recovery.lean keeps the invariant and the queue.
-/

namespace Sys2Proof.Machine

set_option linter.unusedSimpArgs false

variable {p : List Instr}

theorem good_clearRegs (f : Reg → ℕ → Bool) (s : State) (h0 : Good p s) : Good p (clearRegs f s) :=
  h0.regs (RegsWf.filter h0.1.1 _)

theorem good_rebaseSite (k : ℕ) (s : State) (h0 : Good p s) : Good p (rebaseSite k s) := by
  simp +contextual (maxDischargeDepth := 99) only [rebaseSite, good_setPower, good_setHeat, good_foldl, good_foldl_snd, *, implies_true, ite_self]

theorem good_clearSite (k : ℕ) (s0 : State) (h0 : Good p s0) : Good p (clearSite k s0) := by
  simp +contextual (maxDischargeDepth := 99) only [clearSite, good_rebaseSite, good_wr, good_clearRegs, good_setNet, good_upd_posted, *, implies_true, ite_self]

theorem good_showSiteCores (k : ℕ) (s : State) (h0 : Good p s) : Good p (showSiteCores k s) := by
  simp +contextual (maxDischargeDepth := 99) only [showSiteCores, good_wr, good_ite, good_ite_snd, *, implies_true, ite_self]

theorem good_showUsable (s : State) (h0 : Good p s) : Good p (showUsable s) := by
  simp +contextual (maxDischargeDepth := 99) only [showUsable, good_wr, *, implies_true, ite_self]

theorem good_showCores (k : ℕ) (s : State) (h0 : Good p s) : Good p (showCores k s) := by
  simp +contextual (maxDischargeDepth := 99) only [showCores, good_showUsable, good_showSiteCores, *, implies_true, ite_self]

theorem good_haltInto (g : ℕ) (s : State) (h0 : Good p s) : Good p (haltInto g s) := by
  simp +contextual (maxDischargeDepth := 99) only [haltInto, good_endDma, good_foldl, good_foldl_snd, good_ite, good_ite_snd, *, implies_true, ite_self]

theorem good_coreReset (g : ℕ) (s : State) (h0 : Good p s) : Good p (coreReset g s) := by
  unfold coreReset
  dsimp only
  have h2 := good_clearRegs (fun f i => (regInfo f).blk == .core && i == g && !coreKeeps f) _ (good_haltInto g _ h0)
  revert h2
  generalize clearRegs (fun f i => (regInfo f).blk == .core && i == g && !coreKeeps f) (haltInto g s) = s2
  intro h2
  exact good_setCore _ _ _ h2

theorem good_coreResets (gs : List ℕ) (s : State) (h0 : Good p s) : Good p (coreResets gs s) := by
  simp +contextual (maxDischargeDepth := 99) only [coreResets, good_coreReset, good_foldl, good_foldl_snd, *, implies_true, ite_self]

theorem good_resetDone (k : ℕ) (dom : ℕ) (s : State) (h0 : Good p s) : Good p (resetDone k dom s) := by
  simp +contextual (maxDischargeDepth := 99) only [resetDone, good_wr, good_bump, *, implies_true, ite_self]

theorem good_cdReset (k : ℕ) (s : State) (h0 : Good p s) : Good p (cdReset k s) := by
  simp +contextual (maxDischargeDepth := 99) only [cdReset, good_dropSignals, good_loseTransfers, good_dropReleases, good_resetDone, good_coreResets, *, implies_true, ite_self]

theorem good_dlReset (k : ℕ) (j : ℕ) (s : State) (h0 : Good p s) : Good p (dlReset k j s) := by
  simp +contextual (maxDischargeDepth := 99) only [dlReset, good_resetDone, good_upd_openRow, *, implies_true, ite_self]

theorem good_cutVertical (g : ℕ) (ch : ℕ) (s : State) (h0 : Good p s) : Good p (cutVertical g ch s) := by
  simp +contextual (maxDischargeDepth := 99) only [cutVertical, good_fresh, good_endDma, good_cutMove, good_ite, good_ite_snd, *, implies_true, ite_self]

theorem good_cutCore (g : ℕ) (s : State) (h0 : Good p s) : Good p (cutCore g s) := by
  simp +contextual (maxDischargeDepth := 99) only [cutCore, good_cutVertical, good_foldl, good_foldl_snd, *, implies_true, ite_self]

theorem good_loseRecords (k : ℕ) (control : Bool) (s : State) (h0 : Good p s) : Good p (loseRecords k control s) := by
  simp +contextual (maxDischargeDepth := 99) only [loseRecords, good_updStream, good_foldl, good_foldl_snd, *, implies_true, ite_self]

theorem good_loseSums (k : ℕ) (s : State) (h0 : Good p s) : Good p (loseSums k s) := by
  simp +contextual (maxDischargeDepth := 99) only [loseSums, good_setPower, *, implies_true, ite_self]

theorem good_emptyBase (k : ℕ) (s0 : State) (h0 : Good p s0) : Good p (emptyBase k s0) := by
  unfold emptyBase
  extract_lets s s1 s2
  have h1 : Good p s := good_loseSums _ _ h0
  clear_value s
  have h2 : Good p s2 := good_clearRegs _ _ (good_foldl (l := List.range 32) h1 fun u j hu => good_nmAbort _ _ _ _ hu)
  clear_value s2
  exact good_clearRegs _ _ (good_showQocc _ _ h2)

theorem good_bdAssert (k : ℕ) (s : State) (h0 : Good p s) : Good p (bdAssert k s) := by
  simp +contextual (maxDischargeDepth := 99) only [bdAssert, good_flag, good_wr, good_cutCore, good_emptyBase, good_loseRecords, good_stopCore, good_foldl, good_foldl_snd, *, implies_true, ite_self]

theorem good_resetBitsOff (k : ℕ) (s : State) (h0 : Good p s) : Good p (resetBitsOff k s) := by
  simp +contextual (maxDischargeDepth := 99) only [resetBitsOff, good_wr, *, implies_true, ite_self]

theorem good_bdRestarted (k : ℕ) (watchdog : Bool) (s : State) (h0 : Good p s) : Good p (bdRestarted k watchdog s) := by
  simp +contextual (maxDischargeDepth := 99) only [bdRestarted, good_wr, good_resetDone, good_resetBitsOff, *, implies_true, ite_self]

theorem good_bdReset (k : ℕ) (s : State) (h0 : Good p s) : Good p (bdReset k s) := by
  simp +contextual (maxDischargeDepth := 99) only [bdReset, good_events, good_bdRestarted, good_bdAssert, *, implies_true, ite_self]

theorem good_wipeWhere (gone : ℕ → Bool) (s : State) (h0 : Good p s) : Good p (wipeWhere gone s) := by
  exact h0.vaults (Memory.wf_filter _ _ h0.hdram)

theorem good_wipeVaults (k : ℕ) (s0 : State) (h0 : Good p s0) : Good p (wipeVaults k s0) := by
  have h := good_wipeWhere (fun v => v / 2048 == k) s0 h0
  exact h.vaults h.hdram

theorem good_wipeCores (k : ℕ) (s : State) (h0 : Good p s) : Good p (wipeCores k s) := by
  exact h0.cores (twf_filter _ _ _ h0.hcores) (Memory.wf_filter _ _ h0.hspad) (Memory.wf_filter _ _ h0.hpig)

theorem good_invalidateEntries (k : ℕ) (s : State) (h0 : Good p s) : Good p (invalidateEntries k s) := by
  simp +contextual (maxDischargeDepth := 99) only [invalidateEntries, good_vwrite, good_readTable, good_foldl, good_foldl_snd, good_ite, good_ite_snd, *, implies_true, ite_self]

theorem good_endAtOnce (slot : ℕ) (code : ℕ) (s : State) (h0 : Good p s) : Good p (endAtOnce slot code s) := by
  simp +contextual (maxDischargeDepth := 99) only [endAtOnce, good_beginEnd, good_finishEnd, good_deadLetter, good_updStream, good_ite, good_ite_snd, *, implies_true, ite_self]

theorem good_dropHandlesOn (k : ℕ) (s : State) (h0 : Good p s) : Good p (dropHandlesOn k s) := by
  simp +contextual (maxDischargeDepth := 99) only [dropHandlesOn, good_releaseHandle, good_foldl, good_foldl_snd, *, implies_true, ite_self]

theorem good_freeSitePages (k : ℕ) (s : State) (h0 : Good p s) : Good p (freeSitePages k s) := by
  unfold freeSitePages
  dsimp only
  have h1 : Good p ((s.pages.filter fun x => x.1 / 768 / 2048 == k).foldl (fun u x =>
      match x.2.owner with
      | .district d => wr .distUsePages d (rd .distUsePages d u - 1) u
      | .tables d => wr .distUsePages d (rd .distUsePages d u - 1) u
      | _ => u) s) := by
    refine good_foldl h0 fun u x hu => ?_
    split
    · exact good_wr _ _ _ _ hu
    · exact good_wr _ _ _ _ hu
    · exact hu
  refine good_upd_pages.2 (good_foldl h1 fun u d hu => ?_)
  split
  · exact good_wr _ _ _ _ hu
  · exact hu

theorem good_isolateSite (k : ℕ) (s : State) (h0 : Good p s) : Good p (isolateSite k s) := by
  simp +contextual (maxDischargeDepth := 99) only [isolateSite, good_loseRecords, good_flag, good_wr, good_emptyBase, good_showCores, good_wipeCores, good_wipeVaults, good_ite, good_ite_snd, *, implies_true, ite_self]

theorem good_startSiteLoss (k : ℕ) (s : State) (h0 : Good p s) : Good p (startSiteLoss k s) := by
  simp +contextual (maxDischargeDepth := 99) only [startSiteLoss, good_failDistrict, good_startRoute, good_foldl, good_foldl_snd, *, implies_true, ite_self]

theorem good_endSiteLoss (k : ℕ) (s : State) (h0 : Good p s) : Good p (endSiteLoss k s) := by
  simp +contextual (maxDischargeDepth := 99) only [endSiteLoss, good_discardParcel, good_dropHandlesOn, good_wr, good_wipeVaults, good_invalidateEntries, good_endRecovery, good_showPr, good_addFrm, good_foldl, good_foldl_snd, *, implies_true, ite_self]

theorem good_siteLoss (k : ℕ) (s : State) (h0 : Good p s) : Good p (siteLoss k s) := by
  simp +contextual (maxDischargeDepth := 99) only [siteLoss, good_detect, good_isolateSite, good_startSiteLoss, good_ite, good_ite_snd, *, implies_true, ite_self]

theorem good_endBd (k : ℕ) (s : State) (h0 : Good p s) : Good p (endBd k s) := by
  simp +contextual (maxDischargeDepth := 99) only [endBd, good_endRecovery, good_bdRestarted, *, implies_true, ite_self]

theorem good_startBd (k : ℕ) (restarts : Bool) (s : State) (h0 : Good p s) : Good p (startBd k restarts s) := by
  simp +contextual (maxDischargeDepth := 99) only [startBd, good_failDistrict, good_endBd, good_foldl, good_foldl_snd, good_ite, good_ite_snd, *, implies_true, ite_self]

theorem good_bdWatchdog (k : ℕ) (restarts : Bool) (s : State) (h0 : Good p s) : Good p (bdWatchdog k restarts s) := by
  simp +contextual (maxDischargeDepth := 99) only [bdWatchdog, good_detect, good_bdAssert, good_startBd, good_ite, good_ite_snd, *, implies_true, ite_self]

theorem good_bdTimeout (k : ℕ) (restarts : Bool) (s : State) (h0 : Good p s) : Good p (bdTimeout k restarts s) := by
  simp only [bdTimeout]
  repeat' split
  all_goals simp +contextual (maxDischargeDepth := 99) only [good_bump, good_endBd, good_resetBitsOff, good_isolateSite, good_wr, good_startSiteLoss, good_showRecovery, good_setFaults, good_ite, good_ite_snd, *, implies_true, ite_self]

theorem good_showSpares (g : ℕ) (n : ℕ) (s : State) (h0 : Good p s) : Good p (showSpares g n s) := by
  simp +contextual (maxDischargeDepth := 99) only [showSpares, good_wr, *, implies_true, ite_self]

theorem good_holdCore (g : ℕ) (on : Bool) (s : State) (h0 : Good p s) : Good p (holdCore g on s) := by
  simp +contextual (maxDischargeDepth := 99) only [holdCore, good_updCore, *, implies_true, ite_self]

theorem good_showStandIns (k : ℕ) (s : State) (h0 : Good p s) : Good p (showStandIns k s) := by
  simp +contextual (maxDischargeDepth := 99) only [showStandIns, good_wr, *, implies_true, ite_self]

theorem good_dropStandIns (d : ℕ) (s : State) (h0 : Good p s) : Good p (dropStandIns d s) := by
  simp +contextual (maxDischargeDepth := 99) only [dropStandIns, good_showStandIns, good_upd_standIns, good_foldl, good_foldl_snd, *, implies_true, ite_self]

theorem good_replaceCore (d : ℕ) (g : ℕ) (s : State) (h0 : Good p s) : Good p (replaceCore d g s).2 := by
  simp only [replaceCore]
  repeat' split
  all_goals simp +contextual (maxDischargeDepth := 99) only [good_failDistrict, good_showStandIns, good_bump, good_events, good_placeLetter, good_upd_standIns, good_ite, good_ite_snd, *, implies_true, ite_self]

theorem good_channelLost (g : ℕ) (s : State) (h0 : Good p s) : Good p (channelLost g s) := by
  unfold channelLost
  dsimp only
  have h3 : ∀ s1, Good p s1 → Good p ((parcelsWith g (bump .fltsiteChanLost (siteOf g) (showCores (siteOf g) s1))).foldl
      (fun u q => impairParcel q (siteOf g) u) (bump .fltsiteChanLost (siteOf g) (showCores (siteOf g) s1))) :=
    fun s1 h1 => good_foldl (good_bump _ _ _ (good_showCores _ _ h1)) fun u q hu => good_impairParcel _ _ _ hu
  have h3 := h3 _ (good_stopCore g _ (good_holdCore g false _ (good_cutCore g _ (good_wr .vaultStatusChan g 2 _ h0))))
  revert h3
  generalize List.foldl (fun u q => impairParcel q (siteOf g) u) (bump .fltsiteChanLost (siteOf g) (showCores (siteOf g)
    (stopCore g (holdCore g false (cutCore g (wr .vaultStatusChan g 2 s)))))) (parcelsWith g (bump .fltsiteChanLost (siteOf g)
      (showCores (siteOf g) (stopCore g (holdCore g false (cutCore g (wr .vaultStatusChan g 2 s))))))) = s3
  intro h3
  have h4 : ∀ d, Good p (replaceCore d g (reshape d (failStep d true s3))).2 :=
    fun d => good_replaceCore d g _ (good_reshape d _ (good_failStep d true _ h3))
  cases coreDistrict g s3 with
  | none =>
    dsimp only
    split
    · exact good_endRecovery _ _ _ _ (good_showRecovery _ (good_setFaults _ _ h3))
    · exact h3
  | some d =>
    dsimp only
    split
    · exact good_endRecovery _ _ _ _ (good_showRecovery _ (good_setFaults _ _ (h4 d)))
    · exact h4 d

theorem good_remapVias (g : ℕ) (found : List ℕ) (s : State) (h0 : Good p s) : Good p (remapVias g found s) := by
  simp +contextual (maxDischargeDepth := 99) only [remapVias, good_addFrm, good_channelLost, good_wr, good_showSpares, good_endRecovery, good_bump, good_holdCore, good_foldl, good_foldl_snd, good_ite, good_ite_snd, *, implies_true, ite_self]

theorem good_viaRemap (g : ℕ) (found : List ℕ) (s : State) (h0 : Good p s) : Good p (viaRemap g found s) := by
  simp +contextual (maxDischargeDepth := 99) only [viaRemap, good_detect, good_holdCore, good_wr, good_remapVias, good_ite, good_ite_snd, *, implies_true, ite_self]

theorem good_deferredRepair (found : List ℕ) (restarts : Bool) (s : State) (h0 : Good p s) : Good p (deferredRepair found restarts s) := by
  simp only [deferredRepair]
  repeat' split
  all_goals simp +contextual (maxDischargeDepth := 99) only [good_startRecovery, good_setFaults, good_remapVias, good_startDeferredLane, good_startEdge, good_startSiteLoss, good_startBd, good_flag, *, implies_true, ite_self]

theorem good_barriersAgain (s : State) (h0 : Good p s) : Good p (barriersAgain s) := by
  simp +contextual (maxDischargeDepth := 99) only [barriersAgain, good_barrierCheck, good_foldl, good_foldl_snd, *, implies_true, ite_self]

theorem good_routeDone (s : State) (h0 : Good p s) : Good p (routeDone s) := by
  simp only [routeDone]
  repeat' split
  all_goals simp +contextual (maxDischargeDepth := 99) only [good_barriersAgain, good_releaseHeld, good_routesLoaded, good_finishRecovery, good_endSiteLoss, good_ite, good_ite_snd, *, implies_true, ite_self]

end Sys2Proof.Machine
end

