-- ==== Sys2Proof/Laws/Keeps/Rebind.lean ====
section
/-!
SUPPORT. Every operation of Machine/Rebind.lean keeps the invariant and the queue.
-/

namespace Sys2Proof.Machine

set_option linter.unusedSimpArgs false

variable {p : List Instr}

theorem good_releaseChange (c : Change) (s : State) (h0 : Good p s) : Good p (releaseChange c s).2 := by
  simp only [releaseChange]
  repeat' split
  all_goals simp +contextual (maxDischargeDepth := 99) only [good_dropStandIns, good_unmapParcel, good_setParcel, good_releaseHandle, good_readTable, good_unmapPage, good_freePage, good_wr, good_updDistrict, good_upd_pages, good_foldl, good_foldl_snd, good_ite, good_ite_snd, *, implies_true, ite_self]

theorem good_cleanCluster (k : ℕ) (s : State) (h0 : Good p s) : Good p (cleanCluster k s) := by
  unfold cleanCluster
  dsimp only
  have h1 := good_coreResets (coresOf k) _ h0
  revert h1
  generalize coreResets (coresOf k) s = s1
  intro h1
  exact good_flag _ _ _ (h1.cores h1.hcores (Memory.wf_filter _ _ h1.hspad) (Memory.wf_filter _ _ h1.hpig))

theorem good_bindCluster (k : ℕ) (o : Option ℕ) (s : State) (h0 : Good p s) : Good p (bindCluster k o s) := by
  simp only [bindCluster]
  repeat' split
  all_goals simp +contextual (maxDischargeDepth := 99) only [good_wr, good_flag, *, implies_true, ite_self]

theorem good_moveClusters (cs : List Change) (s : State) (h0 : Good p s) : Good p (moveClusters cs s) := by
  simp +contextual (maxDischargeDepth := 99) only [moveClusters, good_bindCluster, good_cleanCluster, good_clockCluster, good_foldl, good_foldl_snd, *, implies_true, ite_self]

theorem good_doAll {α : Type} (f : α → State → ℕ × State) (l : List α) (s : State) (h0 : Good p s)
    (hf : ∀ x u, Good p u → Good p (f x u).2) : Good p (doAll f l s).2 := by
  induction l generalizing s with
  | nil => exact h0
  | cons x l ih =>
    unfold doAll
    dsimp only
    split
    · exact ih _ (hf _ _ h0)
    · exact hf _ _ h0

theorem good_stepPagesOn (d : ℕ) (site : ℕ) (sets : ℕ) (s : State) (h0 : Good p s) : Good p (stepPagesOn d site sets s).2 := by
  unfold stepPagesOn
  refine good_doAll _ _ _ h0 fun i u hu => ?_
  dsimp only
  have hr := good_allocMapped d (stepVpn site 0 0 + i) (vaultsOn d site u) _ hu
  revert hr
  generalize allocMapped d (stepVpn site 0 0 + i) (vaultsOn d site u) u = r
  intro hr
  split
  · exact good_updDistrict _ _ _ (good_zeroPage _ _ _ hr)
  · exact hr

theorem good_bindParcel (d x : ℕ) (s : State) (h0 : Good p s) : Good p (bindParcel d x s).2 := by
  unfold bindParcel
  extract_lets y r s1 t
  have hr : Good p r.2 := good_doAll _ _ _ h0 fun q u hu => good_mapPage _ _ _ _ _ _ _ hu
  have hs : Good p s1 := good_wr _ _ _ _ (good_flag _ _ _ hr)
  have ht : Good p t.2 := good_doAll _ _ _ hs fun q u hu => good_stepPagesOn _ _ _ _ hu
  clear_value r s1 t
  split
  · exact h0
  · split
    · exact hr
    · split
      · exact ht
      · exact good_foldl ht fun u g hu => good_placeLetter _ _ _ _ hu

theorem good_settleChange (c : Change) (entries : List (ℕ × ℕ)) (binds : Bool) (s : State) (h0 : Good p s) : Good p (settleChange c entries binds s).2 := by
  have hmk : ∀ (b : Bool) u, Good p u → Good p (if b then makeRoot c.district u else (0, u)).2 := fun b u hu => by
    have hr := good_makeRoot c.district _ hu
    revert hr
    generalize makeRoot c.district u = r
    intro hr
    cases b
    · exact hu
    · exact hr
  have hall : ∀ l u, Good p u → Good p (doAll (fun (y : ℕ × ℕ) u =>
        let l := makeLeaf c.district y.1 u
        if l.1 ≠ 0 then l else (0, writeEntry c.district y.1 y.2 l.2)) l u).2 := fun l u hu =>
    good_doAll _ _ _ hu fun y u hu => by
      dsimp only
      have hl := good_makeLeaf c.district y.1 _ hu
      revert hl
      generalize makeLeaf c.district y.1 u = l
      intro hl
      have hw := good_writeEntry c.district y.1 y.2 l.2 hl
      revert hw
      generalize writeEntry c.district y.1 y.2 l.2 = w
      intro hw
      split
      · exact hl
      · exact hw
  unfold settleChange
  extract_lets d s1 s2 fresh r keep t
  have h1 : Good p s1 := good_wr _ _ _ _ (good_wr _ _ _ _ (good_wr _ _ _ _ h0))
  have h2 : Good p s2 := by
    refine good_reshape _ _ ?_
    split
    · exact good_wr _ _ _ _ h1
    · exact h1
  clear_value s1
  clear_value s2
  have hr : Good p r.2 := hmk _ _ h2
  have ht : Good p t.2 := hall _ _ hr
  clear_value t
  clear_value r
  split
  · exact h2
  · split
    · exact hr
    · split
      · exact ht
      · split
        · exact good_bindParcel _ _ _ ht
        · exact ht

theorem good_dissolve (d : ℕ) (s : State) (h0 : Good p s) : Good p (dissolve d s) := by
  simp +contextual (maxDischargeDepth := 99) only [dissolve, good_wr, good_setEng, good_setDistrict, good_clearRegs, good_foldl, good_foldl_snd, *, implies_true, ite_self]

theorem good_releaseAll (y0 : List Change) (y1 : State) (h0 : Good p y1) : Good p (releaseAll y0 y1).2 := by
  fun_induction releaseAll y0 y1 <;> simp_all +contextual +zetaDelta (maxDischargeDepth := 99) only [good_releaseChange, good_upd_pages, implies_true, ite_self]

theorem good_settleAll (l : List Released) (s : State) (h0 : Good p s) : Good p (settleAll l s).2 := by
  induction l generalizing s with
  | nil => exact h0
  | cons r l ih =>
    unfold settleAll
    refine ih _ ?_
    split
    · exact good_dissolve _ _ h0
    · exact good_settleChange _ _ _ _ h0

theorem good_carryOut (cs : List Change) (s : State) (h0 : Good p s) : Good p (carryOut cs s).2 := by
  simp +contextual (maxDischargeDepth := 99) only [carryOut, good_releaseAll, good_settleAll, good_moveClusters, *, implies_true, ite_self]

theorem good_withoutStreams (cs : List Change) (s : State) (h0 : Good p s) : Good p (withoutStreams cs s) := by
  simp +contextual (maxDischargeDepth := 99) only [withoutStreams, good_freeStream, good_foldl, good_foldl_snd, good_ite, good_ite_snd, *, implies_true, ite_self]

theorem good_tryOut (cs : List Change) (s : State) (h0 : Good p s) : Good p (tryOut cs s).2 := by
  simp +contextual (maxDischargeDepth := 99) only [tryOut, good_carryOut, good_withoutStreams, *, implies_true, ite_self]

theorem good_setReserved (on : Bool) (ps : List (ℕ × ℕ)) (s : State) (h0 : Good p s) : Good p (setReserved on ps s) := by
  simp +contextual (maxDischargeDepth := 99) only [setReserved, good_setPage, good_foldl, good_foldl_snd, *, implies_true, ite_self]

theorem good_rebind (e : Env) (s : State) (h0 : Good p s) : Good p (rebind e s).2 := by
  simp only [rebind]
  repeat' split
  all_goals simp +contextual (maxDischargeDepth := 99) only [good_tryOut, good_setReserved, good_setBoot, good_wr, good_foldl, good_foldl_snd, good_ite, good_ite_snd, *, implies_true, ite_self]

theorem good_quiesce (d : ℕ) (s : State) (h0 : Good p s) : Good p (quiesce d s) := by
  simp only [quiesce]
  repeat' first
    | (simp +contextual (maxDischargeDepth := 99) only [good_nmAbort, good_headAppend, good_failAppend, good_foldl, good_foldl_snd, good_ite, good_ite_snd, *, implies_true, ite_self]; done)
    | (refine good_foldl ?_ fun u x hu => ?_)
    | (refine good_foldl_snd ?_ fun u x hu => ?_)
    | (refine good_foldl_fst ?_ fun u x hu => ?_)
    | split

theorem good_handleStreams (c : Change) (s : State) (h0 : Good p s) : Good p (handleStreams c s) := by
  simp +contextual (maxDischargeDepth := 99) only [handleStreams, good_endAtOnce, good_startPreempt, good_foldl, good_foldl_snd, good_ite, good_ite_snd, *, implies_true, ite_self]

theorem good_dropShadows (c : Change) (s : State) (h0 : Good p s) : Good p (dropShadows c s) := by
  simp +contextual (maxDischargeDepth := 99) only [dropShadows, good_freeStream, good_foldl, good_foldl_snd, good_ite, good_ite_snd, *, implies_true, ite_self]

theorem good_zeroReleased (r : Released) (s : State) (h0 : Good p s) : Good p (zeroReleased r s) := by
  simp +contextual (maxDischargeDepth := 99) only [zeroReleased, good_setPage, good_zeroPage, good_foldl, good_foldl_snd, good_ite, good_ite_snd, *, implies_true, ite_self]

theorem good_giveBack (c : Change) (s : State) (h0 : Good p s) : Good p (giveBack c s) := by
  simp +contextual (maxDischargeDepth := 99) only [giveBack, good_wr, good_ite, good_ite_snd, *, implies_true, ite_self]

theorem good_finishRebind (submit : Env → State → State) (r : Rebinding) (live : List Change) (s : State)
    (hf : ∀ e u, Good p u → Good p (submit e u)) (h0 : Good p s) : Good p (finishRebind submit r live s) := by
  unfold finishRebind
  extract_lets b1 s1 t s2 s3 status s4 held s5
  have g1 : Good p s1 := good_setReserved _ _ _ (good_setBoot _ _ h0)
  have gt : Good p t.2 := good_carryOut _ _ (good_foldl g1 fun u c hu => good_dropShadows _ _ hu)
  have g2 : Good p s2 := good_foldl gt fun u c hu => good_wr _ _ _ _ hu
  have g3 : Good p s3 := good_foldl (good_foldl g2 fun u c hu => good_giveBack _ _ hu) fun u c hu => good_zeroReleased _ _ hu
  have g4 : Good p s4 := good_reply _ _ _ _ g3
  have g5 : Good p s5 := good_foldl g4 fun u c hu => good_updDistrict _ _ _ hu
  exact good_foldl g5 fun u e hu => hf _ _ hu

theorem good_runOne (submit : Env → State → State) (r : Rebinding) (s : State)
    (hf : ∀ e u, Good p u → Good p (submit e u)) (h0 : Good p s) : Good p (runOne submit r s) := by
  unfold runOne
  split
  · exact h0
  · extract_lets live s1
    have g1 : Good p s1 := good_foldl h0 fun u c hu => good_handleStreams _ _ (good_quiesce _ _ hu)
    clear_value s1
    split
    · exact good_finishRebind _ _ _ _ hf g1
    · exact g1

theorem good_rebindRun (submit : Env → State → State) (s : State) (hf : ∀ e u, Good p u → Good p (submit e u)) (h1 : Good p s) :
    Good p (rebindRun submit s) := by
  unfold rebindRun
  split
  · exact h1
  · exact good_foldl h1 fun u r hu => good_runOne _ _ _ hf hu

end Sys2Proof.Machine
end

