-- ==== Sys2Proof/Laws/Keeps/Boot.lean ====
section
/-!
SUPPORT. Every operation of Machine/Boot.lean keeps the invariant and the queue.
-/

namespace Sys2Proof.Machine

set_option linter.unusedSimpArgs false

variable {p : List Instr}

theorem good_setFlash (f : Flash) (s : State) (h0 : Good p s) : Good p (setFlash f s) := by
  simp +contextual (maxDischargeDepth := 99) only [setFlash, good_setBoot, *, implies_true, ite_self]

theorem good_recordFault (u : BadUnit) (s : State) (h0 : Good p s) : Good p (recordFault u s) := by
  simp +contextual (maxDischargeDepth := 99) only [recordFault, good_note, good_addFrm, good_ite, good_ite_snd, *, implies_true, ite_self]

theorem good_newFault (u : BadUnit) (s : State) (h0 : Good p s) : Good p (newFault u s) := by
  simp +contextual (maxDischargeDepth := 99) only [newFault, good_note, good_wr, good_setNet, good_recordFault, good_ite, good_ite_snd, *, implies_true, ite_self]

theorem good_startFaults (found : List BadUnit) (s : State) (h0 : Good p s) : Good p (startFaults found s) := by
  simp +contextual (maxDischargeDepth := 99) only [startFaults, good_newFault, good_bump, good_foldl, good_foldl_snd, *, implies_true, ite_self]

theorem good_setColumns (g : ℕ) (cols : List ℕ) (field : Bool) (s : State) (h0 : Good p s) : Good p (setColumns g cols field s) := by
  simp only [setColumns]
  repeat' split
  all_goals simp +contextual (maxDischargeDepth := 99) only [good_wr, good_flag, good_setCore, good_ite, good_ite_snd, *, implies_true, ite_self]

theorem good_setVias (g : ℕ) (vias : List ℕ) (s : State) (h0 : Good p s) : Good p (setVias g vias s) := by
  simp +contextual (maxDischargeDepth := 99) only [setVias, good_wr, good_showSpares, good_ite, good_ite_snd, *, implies_true, ite_self]

theorem good_withhold (v : ℕ) (page : ℕ) (s : State) (h0 : Good p s) : Good p (withhold v page s) := by
  simp +contextual (maxDischargeDepth := 99) only [withhold, good_setPage, *, implies_true, ite_self]

theorem good_setLanes (e : ℕ) (lanes : List ℕ) (s : State) (h0 : Good p s) : Good p (setLanes e lanes s) := by
  simp +contextual (maxDischargeDepth := 99) only [setLanes, good_setNet, good_wr, good_upd_bad, good_ite, good_ite_snd, *, implies_true, ite_self]

theorem good_powerCluster (c : ℕ) (s : State) (h0 : Good p s) : Good p (powerCluster c s) := by
  unfold powerCluster
  extract_lets old ps s1 s2
  have h1 : Good p s1 := h0
  exact good_wr _ _ _ _ (good_clockCluster _ _ h1)

theorem good_bringUpSite (k : ℕ) (found : List BadUnit) (us : List BadUnit) (s : State) (h0 : Good p s) : Good p (bringUpSite k found us s) := by
  simp +contextual (maxDischargeDepth := 99) only [bringUpSite, good_wr, good_flag, good_setColumns, good_setVias, good_withhold, good_powerCluster, good_showSiteCores, good_showSite, good_upd_patrolFrom, good_upd_bad, good_foldl, good_foldl_snd, good_ite, good_ite_snd, *, implies_true, ite_self]

theorem good_lostSite (k : ℕ) (s : State) (h0 : Good p s) : Good p (lostSite k s) := by
  simp +contextual (maxDischargeDepth := 99) only [lostSite, good_wr, good_flag, *, implies_true, ite_self]

theorem good_deviceReset (s : State) (h0 : Good p s) : Good p (deviceReset s) := by
  unfold deviceReset
  refine (?_ : ∀ t : State, Good p t → Good p ((((wr .energyRseqNext 0 (nextBlock (rd .energyRseqNext 0 s))
    (wr .energySseqNext 0 (nextBlock (rd .energySseqNext 0 s)) t)).sort.held.map (·.ring)).dedup).foldl (fun u n => showHeld n u)
      (wr .energyRseqNext 0 (nextBlock (rd .energyRseqNext 0 s)) (wr .energySseqNext 0 (nextBlock (rd .energySseqNext 0 s)) t)))) _ ?_
  · intro t ht
    exact good_foldl (good_wr _ _ _ _ (good_wr _ _ _ _ ht)) fun u n hu => good_showHeld _ _ hu
  exact ⟨⟨⟨rfl, fun _ h => nomatch h⟩, rfl, rfl, rfl, rfl, rfl, rfl, rfl⟩, h0.2⟩

theorem good_loadFlash (s : State) (h0 : Good p s) : Good p (loadFlash s) := by
  simp +contextual (maxDischargeDepth := 99) only [loadFlash, good_wr, good_setBoot, good_foldl, good_foldl_snd, *, implies_true, ite_self]

theorem good_countReset (cause : ℕ) (s : State) (h0 : Good p s) : Good p (countReset cause s) := by
  simp +contextual (maxDischargeDepth := 99) only [countReset, good_wr, good_setFlash, *, implies_true, ite_self]

theorem good_showShutdown (s : State) (h0 : Good p s) : Good p (showShutdown s) := by
  simp only [showShutdown]
  repeat' split
  all_goals simp +contextual (maxDischargeDepth := 99) only [good_wr, good_flag, good_events, good_setFlash, *, implies_true, ite_self]

theorem good_startPatch (ok : ℕ) (s : State) (h0 : Good p s) : Good p (startPatch ok s) := by
  simp +contextual (maxDischargeDepth := 99) only [startPatch, good_setEng, good_ite, good_ite_snd, *, implies_true, ite_self]

theorem good_ready_ (ms : ℕ) (exps : List Expander) (s : State) (h0 : Good p s) : Good p (ready_ ms exps s) := by
  simp +contextual (maxDischargeDepth := 99) only [ready_, good_wr, good_showUsable, good_setSort, good_showPr, good_applyCap, good_setPower, good_showShutdown, good_setNet, good_note, good_foldl, good_foldl_snd, *, implies_true, ite_self]

theorem good_bringUp (cause : ℕ) (clerkOk : ℕ) (patchOk : ℕ) (units : List BadUnit) (exps : List Expander) (ms : ℕ) (s : State) (h0 : Good p s) : Good p (bringUp cause clerkOk patchOk units exps ms s) := by
  simp +contextual (maxDischargeDepth := 99) only [bringUp, good_startPatch, good_loadFlash, good_countReset, good_startFaults, good_wr, good_lostSite, good_setLanes, good_setEng, good_ready_, good_bringUpSite, good_foldl, good_foldl_snd, good_ite, good_ite_snd, *, implies_true, ite_self]

theorem good_loseHeld (s : State) (h0 : Good p s) : Good p (loseHeld s) := by
  simp +contextual (maxDischargeDepth := 99) only [loseHeld, good_showHeld, good_setSort, good_addLog, good_setFlash, good_foldl, good_foldl_snd, good_ite, good_ite_snd, *, implies_true, ite_self]

theorem good_powerOn (edge : Bool) (clerkOk : ℕ) (patchOk : ℕ) (found : List BadUnit) (exps : List Expander) (ms : ℕ) (s : State) (h0 : Good p s) : Good p (powerOn edge clerkOk patchOk found exps ms s) := by
  simp +contextual (maxDischargeDepth := 99) only [powerOn, good_deviceReset, good_loseHeld, good_bringUp, good_setBoot, good_ite, good_ite_snd, *, implies_true, ite_self]

theorem good_modReset (clerkOk : ℕ) (patchOk : ℕ) (found : List BadUnit) (exps : List Expander) (ms : ℕ) (s : State) (h0 : Good p s) : Good p (modReset clerkOk patchOk found exps ms s) := by
  simp +contextual (maxDischargeDepth := 99) only [modReset, good_bringUp, good_deviceReset, good_ite, good_ite_snd, *, implies_true, ite_self]

theorem good_endSiteStreams (k : ℕ) (s : State) (h0 : Good p s) : Good p (endSiteStreams k s) := by
  simp +contextual (maxDischargeDepth := 99) only [endSiteStreams, good_endAtOnce, good_loseRecords, good_foldl, good_foldl_snd, *, implies_true, ite_self]

theorem good_unbindSite (k : ℕ) (s : State) (h0 : Good p s) : Good p (unbindSite k s) := by
  simp +contextual (maxDischargeDepth := 99) only [unbindSite, good_flag, good_bindCluster, good_reshape, good_foldl, good_foldl_snd, *, implies_true, ite_self]

theorem good_wipeSignals (k : ℕ) (s : State) (h0 : Good p s) : Good p (wipeSignals k s) := by
  simp +contextual (maxDischargeDepth := 99) only [wipeSignals, good_upd_signals, *, implies_true, ite_self]

theorem good_siteReset (k : ℕ) (units : List BadUnit) (s : State) (h0 : Good p s) : Good p (siteReset k units s) := by
  simp +contextual (maxDischargeDepth := 99) only [siteReset, good_unbindSite, good_dropHandlesOn, good_endSiteStreams, good_loseSums, good_discardParcel, good_emptyBase, good_freeSitePages, good_invalidateEntries, good_clearSite, good_wipeSignals, good_wipeCores, good_wipeVaults, good_startFaults, good_bringUpSite, good_setLanes, good_events, good_resetDone, good_showPr, good_showUsable, good_upd_standIns, good_foldl, good_foldl_snd, *, implies_true, ite_self]

theorem good_stopSequence (s : State) (h0 : Good p s) : Good p (stopSequence s) := by
  simp only [stopSequence]
  repeat' split
  all_goals simp +contextual (maxDischargeDepth := 99) only [good_darken, good_addLog, good_setFlash, good_deviceReset, good_foldl, good_foldl_snd, good_ite, good_ite_snd, *, implies_true, ite_self]

theorem good_pwrEnFall (s : State) (h0 : Good p s) : Good p (pwrEnFall s) := by
  simp +contextual (maxDischargeDepth := 99) only [pwrEnFall, good_setBoot, good_startStop, good_ite, good_ite_snd, *, implies_true, ite_self]

theorem good_coolantTimeout (s : State) (h0 : Good p s) : Good p (coolantTimeout s) := by
  simp +contextual (maxDischargeDepth := 99) only [coolantTimeout, good_note, good_ite, good_ite_snd, *, implies_true, ite_self]

theorem good_ringsLost (port : ℕ) (s : State) (h0 : Good p s) : Good p (ringsLost port s) := by
  simp +contextual (maxDischargeDepth := 99) only [ringsLost, good_wr, good_updStream, good_beginEnd, good_foldl, good_foldl_snd, good_ite, good_ite_snd, *, implies_true, ite_self]

theorem good_functionReset (port : ℕ) (func : ℕ) (s : State) (h0 : Good p s) : Good p (functionReset port func s) := by
  unfold functionReset
  extract_lets rings s1 e2 s2 boxes e3 s3
  have h1 : Good p s1 := by
    refine good_foldl h0 fun u n hu => ?_
    exact good_wr _ _ _ _ (good_wr _ _ _ _ (good_clearRegs _ _ hu))
  have h2 : Good p s2 := good_setEng _ _ h1 rfl rfl
  clear_value s2
  have h3 : Good p s3 := h2.eng (Memory.wf_filter _ _ h2.hstaging) h2.hslots
  clear_value s3
  split
  · exact good_ringsLost _ _ h3
  · exact h3

theorem good_perst (port : ℕ) (s : State) (h0 : Good p s) : Good p (perst port s) := by
  simp +contextual (maxDischargeDepth := 99) only [perst, good_functionReset, good_foldl, good_foldl_snd, good_ite, good_ite_snd, *, implies_true, ite_self]

theorem good_refclkLoss (both : Bool) (s : State) (h0 : Good p s) : Good p (refclkLoss both s) := by
  simp +contextual (maxDischargeDepth := 99) only [refclkLoss, good_note, good_setBoot, good_ite, good_ite_snd, *, implies_true, ite_self]

theorem good_clerkRequest (inEnvelope : Bool) (f : Reg) (i : ℕ) (v : ℕ) (s : State) (h0 : Good p s) : Good p (clerkRequest inEnvelope f i v s) := by
  simp +contextual (maxDischargeDepth := 99) only [clerkRequest, good_note, good_wr, good_ite, good_ite_snd, *, implies_true, ite_self]

theorem good_clerkWatchdog (s : State) (h0 : Good p s) : Good p (clerkWatchdog s) := by
  simp +contextual (maxDischargeDepth := 99) only [clerkWatchdog, good_wr, good_setEng, good_reply, good_foldl, good_foldl_snd, good_ite, good_ite_snd, *, implies_true, ite_self]

theorem good_clerkTimeout (s : State) (h0 : Good p s) : Good p (clerkTimeout s) := by
  simp +contextual (maxDischargeDepth := 99) only [clerkTimeout, good_note, good_setEng, good_ite, good_ite_snd, *, implies_true, ite_self]

theorem good_rollbackRaise (image : ℕ) (s : State) (h0 : Good p s) : Good p (rollbackRaise image s) := by
  simp +contextual (maxDischargeDepth := 99) only [rollbackRaise, good_setEng, good_ite, good_ite_snd, *, implies_true, ite_self]

end Sys2Proof.Machine
end

