-- ==== Sys2Proof/Laws/Keeps/MemoryEnv.lean ====
section
/-!
SUPPORT. Every operation of Machine/MemoryEnv.lean keeps the invariant and the queue.
-/

namespace Sys2Proof.Machine

set_option linter.unusedSimpArgs false

variable {p : List Instr}

theorem good_doParcelReserve (e : Env) (s : State) (h0 : Good p s) : Good p (doParcelReserve e s).2 := by
  simp +contextual (maxDischargeDepth := 99) only [doParcelReserve, good_reserveParcel, good_ite, good_ite_snd, *, implies_true, ite_self]

theorem good_doParcelSeal (e : Env) (s : State) (h0 : Good p s) : Good p (doParcelSeal e s).2 := by
  simp +contextual (maxDischargeDepth := 99) only [doParcelSeal, good_trySeal, good_ite, good_ite_snd, *, implies_true, ite_self]

theorem good_doParcelDiscard (e : Env) (s : State) (h0 : Good p s) : Good p (doParcelDiscard e s).2 := by
  simp +contextual (maxDischargeDepth := 99) only [doParcelDiscard, good_discardParcel, good_ite, good_ite_snd, *, implies_true, ite_self]

theorem good_doGrant (e : Env) (s : State) (h0 : Good p s) : Good p (doGrant e s).2 := by
  simp +contextual (maxDischargeDepth := 99) only [doGrant, good_setEng, good_ite, good_ite_snd, *, implies_true, ite_self]

theorem good_doFill (e : Env) (s : State) (h0 : Good p s) : Good p (doFill e s).2 := by
  simp only [doFill]
  repeat' split
  all_goals simp +contextual (maxDischargeDepth := 99) only [good_fillPieces, good_ite, good_ite_snd, *, implies_true, ite_self]

theorem good_doFence (e : Env) (s : State) (h0 : Good p s) : Good p (doFence e s).2 := by
  simp +contextual (maxDischargeDepth := 99) only [doFence, good_setEng, good_ite, good_ite_snd, *, implies_true, ite_self]

theorem good_doCopy (e : Env) (s : State) (h0 : Good p s) : Good p (doCopy e s).2 := by
  simp only [doCopy]
  repeat' split
  all_goals simp +contextual (maxDischargeDepth := 99) only [good_vreadBytes, good_flag, good_vwrite, good_ite, good_ite_snd, *, implies_true, ite_self]

theorem good_doAtomic (e : Env) (s : State) (h0 : Good p s) : Good p (doAtomic e s).2 := by
  simp only [doAtomic]
  repeat' split
  all_goals simp +contextual (maxDischargeDepth := 99) only [good_counterBytes, good_grantSlots, good_vwrite, good_ite, good_ite_snd, *, implies_true, ite_self]

theorem good_doSwappoolAdd (e : Env) (s : State) (h0 : Good p s) : Good p (doSwappoolAdd e s).2 := by
  simp only [doSwappoolAdd]
  repeat' split
  all_goals simp +contextual (maxDischargeDepth := 99) only [good_setSort, good_ite, good_ite_snd, *, implies_true, ite_self]

theorem good_doSwappoolRemove (e : Env) (s : State) (h0 : Good p s) : Good p (doSwappoolRemove e s).2 := by
  simp only [doSwappoolRemove]
  repeat' split
  all_goals simp +contextual (maxDischargeDepth := 99) only [good_setSort, good_ite, good_ite_snd, *, implies_true, ite_self]

theorem good_doNmSubmit (e : Env) (s : State) (h0 : Good p s) : Good p (doNmSubmit e s).2 := by
  simp only [doNmSubmit]
  repeat' split
  all_goals simp +contextual (maxDischargeDepth := 99) only [good_nmSubmit, good_ite, good_ite_snd, *, implies_true, ite_self]

end Sys2Proof.Machine
end

