-- ==== Sys2Proof/Laws/Keeps/StreamEnv.lean ====
section
/-!
SUPPORT. Every operation of Machine/StreamEnv.lean keeps the invariant and the queue.
-/

namespace Sys2Proof.Machine

set_option linter.unusedSimpArgs false

variable {p : List Instr}

theorem good_adoptPages (slot c j : ℕ) (l : List ChainPage) (s : State) (h0 : Good p s) : Good p (adoptPages slot c j l s).2 := by
  induction l generalizing j s with
  | nil => exact h0
  | cons x l ih =>
    unfold adoptPages
    extract_lets y r
    have hr : Good p r.2 := good_mapPage _ _ _ _ _ _ _ h0
    clear_value r
    split
    · exact h0
    · exact ih _ _ (good_updChain _ _ _ _ hr)

theorem good_adoptChain (slot : ℕ) (y : ℕ × Chain) (s : State) (h0 : Good p s) : Good p (adoptChain slot y s).2 := by
  unfold adoptChain
  extract_lets x c1 s1
  have h1 : Good p s1 := good_setChain _ _ _ _ h0
  clear_value s1
  split
  · exact h0
  · split
    · exact h0
    · next s2 h2 =>
      have hr := good_adoptPages slot y.1 0 y.2.pages s2 (good_openHead _ _ _ h1 _ h2)
      revert hr
      generalize adoptPages slot y.1 0 y.2.pages s2 = r
      intro hr
      extract_lets
      split
      · exact h0
      · exact hr

theorem good_adoptAll (slot h : ℕ) (s : State) (h0 : Good p s) : Good p (adoptAll slot h s).2 := by
  unfold adoptAll
  have hr := good_doAll (adoptChain slot) (getHandle h s).chains _ h0 fun y u hu => good_adoptChain _ _ _ hu
  revert hr
  generalize doAll (adoptChain slot) (getHandle h s).chains s = r
  intro hr
  dsimp only
  split
  · exact hr
  · exact good_setHandle _ _ _ hr

theorem good_placeStream (d : ℕ) (id : ℕ) (sp : List Byte) (shadow : Bool) (s : State) (h0 : Good p s) : Good p (placeStream d id sp shadow s).2 := by
  simp only [placeStream]
  repeat' split
  all_goals simp +contextual (maxDischargeDepth := 99) only [good_allocCtl, good_cbWrite, good_setStream, good_adoptAll, good_updDistrict, good_showStream, good_ite, good_ite_snd, *, implies_true, ite_self]

theorem good_takeStream (e : Env) (s : State) (h0 : Good p s) : Good p (takeStream e s).2 := by
  simp +contextual (maxDischargeDepth := 99) only [takeStream, good_placeStream, good_setSort, good_lapse, good_sendTwin, good_ite, good_ite_snd, *, implies_true, ite_self]

theorem good_doSubmit (e : Env) (s : State) (h0 : Good p s) : Good p (doSubmit e s).2 := by
  simp only [doSubmit]
  repeat' split
  all_goals simp +contextual (maxDischargeDepth := 99) only [good_updDistrict, good_takeStream, good_ite, good_ite_snd, *, implies_true, ite_self]

theorem good_submitHeld (e : Env) (s : State) (h0 : Good p s) : Good p (submitHeld e s) := by
  simp +contextual (maxDischargeDepth := 99) only [submitHeld, good_handle, good_doSubmit, *, implies_true, ite_self]

theorem good_doCancel (e : Env) (s : State) (h0 : Good p s) : Good p (doCancel e s).2 := by
  simp only [doCancel]
  repeat' split
  all_goals simp +contextual (maxDischargeDepth := 99) only [good_updStream, *, implies_true, ite_self]

theorem good_doPreempt (e : Env) (s : State) (h0 : Good p s) : Good p (doPreempt e s).2 := by
  simp only [doPreempt]
  repeat' split
  all_goals simp +contextual (maxDischargeDepth := 99) only [good_startPreempt, good_ite, good_ite_snd, *, implies_true, ite_self]

theorem good_doResume (e : Env) (s : State) (h0 : Good p s) : Good p (doResume e s).2 := by
  simp only [doResume]
  repeat' split
  all_goals simp +contextual (maxDischargeDepth := 99) only [good_setSort, good_ite, good_ite_snd, *, implies_true, ite_self]

theorem good_doQuery (e : Env) (s : State) (h0 : Good p s) : Good p (doQuery e s).2 := by
  simp only [doQuery]
  repeat' split
  all_goals simp +contextual (maxDischargeDepth := 99) only [*, implies_true, ite_self]

theorem good_doDiscard (e : Env) (s : State) (h0 : Good p s) : Good p (doDiscard e s).2 := by
  simp only [doDiscard]
  repeat' split
  all_goals simp +contextual (maxDischargeDepth := 99) only [good_updDistrict, good_issueReceipt, good_ite, good_ite_snd, *, implies_true, ite_self]

theorem good_doFreeze (e : Env) (s : State) (h0 : Good p s) : Good p (doFreeze e s).2 := by
  simp only [doFreeze]
  repeat' split
  all_goals simp +contextual (maxDischargeDepth := 99) only [good_updStream, good_setHandle, good_ite, good_ite_snd, *, implies_true, ite_self]

theorem good_doRelease (e : Env) (s : State) (h0 : Good p s) : Good p (doRelease e s).2 := by
  simp only [doRelease]
  repeat' split
  all_goals simp +contextual (maxDischargeDepth := 99) only [good_releaseHandle, good_ite, good_ite_snd, *, implies_true, ite_self]

theorem good_doBookSet (e : Env) (s : State) (h0 : Good p s) : Good p (doBookSet e s).2 := by
  simp +contextual (maxDischargeDepth := 99) only [doBookSet, good_setBook, good_ite, good_ite_snd, *, implies_true, ite_self]

theorem good_doBookBind (e : Env) (s : State) (h0 : Good p s) : Good p (doBookBind e s).2 := by
  simp only [doBookBind]
  repeat' split
  all_goals simp +contextual (maxDischargeDepth := 99) only [good_wr, good_flag, good_ite, good_ite_snd, *, implies_true, ite_self]

theorem good_doBookUnbind (e : Env) (s : State) (h0 : Good p s) : Good p (doBookUnbind e s).2 := by
  simp +contextual (maxDischargeDepth := 99) only [doBookUnbind, good_wr, good_ite, good_ite_snd, *, implies_true, ite_self]

theorem good_doSampleCfg (e : Env) (s : State) (h0 : Good p s) : Good p (doSampleCfg e s).2 := by
  simp only [doSampleCfg]
  repeat' split
  all_goals simp +contextual (maxDischargeDepth := 99) only [good_updDistrict, good_ite, good_ite_snd, *, implies_true, ite_self]

theorem good_unloadGrammar (d : ℕ) (g : ℕ) (s : State) (h0 : Good p s) : Good p (unloadGrammar d g s) := by
  simp only [unloadGrammar]
  repeat' split
  all_goals simp +contextual (maxDischargeDepth := 99) only [good_updDistrict, good_freePage, good_foldl, good_foldl_snd, *, implies_true, ite_self]

theorem good_takeOne (d : ℕ) (s : State) (h0 : Good p s) : Good p (takeOne d s).2 := by
  unfold takeOne
  split
  · exact h0
  · split
    · exact h0
    · exact good_takePage _ _ _ _ _ h0

theorem good_takePages (d n : ℕ) (s : State) (h0 : Good p s) : Good p (takePages d n s).2 := by
  induction n generalizing s with
  | zero => exact h0
  | succ n ih =>
    have h := good_takeOne d _ h0
    unfold takePages
    revert h
    generalize takeOne d s = r
    intro h
    dsimp only
    split
    · exact h
    · exact ih _ h

theorem good_doGrammarLoad (e : Env) (s : State) (h0 : Good p s) : Good p (doGrammarLoad e s).2 := by
  unfold doGrammarLoad
  extract_lets d g va n r t w
  have hr : Good p r.2 := good_dvaReadN _ _ _ _ _ h0
  have ht : Good p t.2 := good_takePages _ _ _ (good_unloadGrammar _ _ _ hr)
  clear_value r t
  repeat' split
  all_goals first
    | exact h0
    | exact hr
    | skip
  all_goals dsimp only
  all_goals split
  all_goals first
    | exact hr
    | exact good_foldl (good_writePages _ _ _ ht) fun u q hu => good_freePage _ _ _ _ hu
    | exact good_updDistrict _ _ _ (good_writePages _ _ _ ht)

theorem good_doGrammarUnload (e : Env) (s : State) (h0 : Good p s) : Good p (doGrammarUnload e s).2 := by
  simp only [doGrammarUnload]
  repeat' split
  all_goals simp +contextual (maxDischargeDepth := 99) only [good_unloadGrammar, good_ite, good_ite_snd, *, implies_true, ite_self]

theorem good_doRingEnable (e : Env) (s : State) (h0 : Good p s) : Good p (doRingEnable e s).2 := by
  simp only [doRingEnable]
  repeat' split
  all_goals simp +contextual (maxDischargeDepth := 99) only [good_clearRegs, good_flag, good_wr, good_ite, good_ite_snd, *, implies_true, ite_self]

theorem good_doRingDisable (e : Env) (s : State) (h0 : Good p s) : Good p (doRingDisable e s).2 := by
  simp +contextual (maxDischargeDepth := 99) only [doRingDisable, good_wr, good_ite, good_ite_snd, *, implies_true, ite_self]

theorem good_doReceiptsEnable (e : Env) (s : State) (h0 : Good p s) : Good p (doReceiptsEnable e s).2 := by
  simp +contextual (maxDischargeDepth := 99) only [doReceiptsEnable, good_clearRegs, good_showHeld, good_flag, good_wr, good_ite, good_ite_snd, *, implies_true, ite_self]

theorem good_doReceiptsDisable (e : Env) (s : State) (h0 : Good p s) : Good p (doReceiptsDisable e s).2 := by
  simp +contextual (maxDischargeDepth := 99) only [doReceiptsDisable, good_wr, good_ite, good_ite_snd, *, implies_true, ite_self]

end Sys2Proof.Machine
end

