-- ==== Sys2Proof/Laws/Keeps/DeviceEnv.lean ====
section
/-!
SUPPORT. Every operation of Machine/DeviceEnv.lean keeps the invariant and the queue.
-/

namespace Sys2Proof.Machine

set_option linter.unusedSimpArgs false

variable {p : List Instr}

theorem good_doNop (y0 : Env) (s : State) (h0 : Good p s) : Good p (doNop y0 s).2 := by
  simp +contextual (maxDischargeDepth := 99) only [doNop, *, implies_true, ite_self]

theorem good_doDevQuery (y0 : Env) (s : State) (h0 : Good p s) : Good p (doDevQuery y0 s).2 := by
  simp +contextual (maxDischargeDepth := 99) only [doDevQuery, *, implies_true, ite_self]

theorem good_doConfig (e : Env) (s : State) (h0 : Good p s) : Good p (doConfig e s).2 := by
  simp +contextual (maxDischargeDepth := 99) only [doConfig, good_setFlash, good_ite, good_ite_snd, *, implies_true, ite_self]

theorem good_doLock (e : Env) (s : State) (h0 : Good p s) : Good p (doLock e s).2 := by
  simp +contextual (maxDischargeDepth := 99) only [doLock, good_flagIf, good_flag, good_foldl, good_foldl_snd, good_ite, good_ite_snd, *, implies_true, ite_self]

theorem good_runReset (e : Env) (s : State) (h0 : Good p s) : Good p (runReset e s) := by
  simp only [runReset]
  repeat' split
  all_goals simp +contextual (maxDischargeDepth := 99) only [good_siteReset, good_bdReset, good_cdReset, good_dlReset, good_resetDone, good_coreReset, *, implies_true, ite_self]

theorem good_doReset (e : Env) (s : State) (h0 : Good p s) : Good p (doReset e s).2 := by
  simp +contextual (maxDischargeDepth := 99) only [doReset, good_setBoot, good_runReset, good_ite, good_ite_snd, *, implies_true, ite_self]

theorem good_startWaiting (s : State) (h0 : Good p s) : Good p (startWaiting s) := by
  simp +contextual (maxDischargeDepth := 99) only [startWaiting, good_reply, good_runReset, good_setBoot, good_foldl, good_foldl_snd, good_ite, good_ite_snd, *, implies_true, ite_self]

theorem good_testFaults (mine : List BadUnit) (s : State) (h0 : Good p s) : Good p (testFaults mine s).2 := by
  simp +contextual (maxDischargeDepth := 99) only [testFaults, good_recordFault, good_foldl, good_foldl_snd, *, implies_true, ite_self]

theorem good_doTest (kind : ℕ) (e : Env) (s : State) (h0 : Good p s) : Good p (doTest kind e s).2 := by
  simp only [doTest]
  repeat' split
  all_goals simp +contextual (maxDischargeDepth := 99) only [good_testFaults, good_wipeWhere, good_ite, good_ite_snd, *, implies_true, ite_self]

theorem good_doPowerCap (e : Env) (s : State) (h0 : Good p s) : Good p (doPowerCap e s).2 := by
  simp +contextual (maxDischargeDepth := 99) only [doPowerCap, good_wr, good_applyCap, good_foldl, good_foldl_snd, good_ite, good_ite_snd, *, implies_true, ite_self]

theorem good_doPowerLimit (e : Env) (s : State) (h0 : Good p s) : Good p (doPowerLimit e s).2 := by
  simp +contextual (maxDischargeDepth := 99) only [doPowerLimit, good_applyCap, good_wr, good_ite, good_ite_snd, *, implies_true, ite_self]

theorem good_doThermal (e : Env) (s : State) (h0 : Good p s) : Good p (doThermal e s).2 := by
  simp +contextual (maxDischargeDepth := 99) only [doThermal, good_clerkRequest, good_ite, good_ite_snd, *, implies_true, ite_self]

theorem good_doLogRead (e : Env) (s : State) (h0 : Good p s) : Good p (doLogRead e s).2 := by
  simp +contextual (maxDischargeDepth := 99) only [doLogRead, good_ite, good_ite_snd, *, implies_true, ite_self]

theorem good_setFw (image : ℕ) (f : Firmware) (s : State) (h0 : Good p s) : Good p (setFw image f s) := by
  simp only [setFw]
  repeat' split
  all_goals simp +contextual (maxDischargeDepth := 99) only [good_setEng, good_ite, good_ite_snd, *, implies_true, ite_self]

theorem good_doFwStage (e : Env) (s : State) (h0 : Good p s) : Good p (doFwStage e s).2 := by
  simp +contextual (maxDischargeDepth := 99) only [doFwStage, good_setFw, good_ite, good_ite_snd, *, implies_true, ite_self]

theorem good_doFwActivate (e : Env) (s : State) (h0 : Good p s) : Good p (doFwActivate e s).2 := by
  simp +contextual (maxDischargeDepth := 99) only [doFwActivate, good_setFw, good_wr, good_ite, good_ite_snd, *, implies_true, ite_self]

theorem good_setSpdm (x : Spdm) (s : State) (h0 : Good p s) : Good p (setSpdm x s) := by
  simp +contextual (maxDischargeDepth := 99) only [setSpdm, good_setEng, *, implies_true, ite_self]

theorem good_spdmAnswer (t : ℕ) (code : ℕ) (req : List Byte) (s : State) (h0 : Good p s) : Good p (spdmAnswer t code req s) := by
  simp +contextual (maxDischargeDepth := 99) only [spdmAnswer, good_emit, *, implies_true, ite_self]

theorem good_spdmError (t : ℕ) (s : State) (h0 : Good p s) : Good p (spdmError t s) := by
  simp +contextual (maxDischargeDepth := 99) only [spdmError, good_emit, *, implies_true, ite_self]

theorem good_spdmIf (t : ℕ) (ok : Bool) (answer : State → State) (s : State) (hf : ∀ u, Good p u → Good p (answer u)) (h1 : Good p s) : Good p (spdmIf t ok answer s) := by
  simp +contextual (maxDischargeDepth := 99) only [spdmIf, good_spdmAnswer, good_spdmError, good_ite, good_ite_snd, *, implies_true, ite_self]

end Sys2Proof.Machine
end

