-- ==== Sys2Proof/Laws/Keeps/FabricEnv.lean ====
section
/-!
SUPPORT. Every operation of Machine/FabricEnv.lean keeps the invariant and the queue.
-/

namespace Sys2Proof.Machine

set_option linter.unusedSimpArgs false

variable {p : List Instr}

theorem good_takeFid (fid : ℕ) (s : State) (h0 : Good p s) : Good p (takeFid fid s) := by
  simp +contextual (maxDischargeDepth := 99) only [takeFid, good_wr, good_wrIf, *, implies_true, ite_self]

theorem good_doFabric (e : Env) (s : State) (h0 : Good p s) : Good p (doFabric e s).2 := by
  simp only [doFabric]
  repeat' split
  all_goals simp +contextual (maxDischargeDepth := 99) only [good_takeFid, good_setFab, good_foldl, good_foldl_snd, good_ite, good_ite_snd, *, implies_true, ite_self]

theorem good_announcePeriod (y0 : ℕ) (s : State) (h0 : Good p s) : Good p (announcePeriod y0 s) := by
  simp +contextual (maxDischargeDepth := 99) only [announcePeriod, good_setFab, good_ite, good_ite_snd, *, implies_true, ite_self]

theorem good_doRoundCfg (e : Env) (s : State) (h0 : Good p s) : Good p (doRoundCfg e s).2 := by
  simp +contextual (maxDischargeDepth := 99) only [doRoundCfg, good_setFab, good_wr, good_announcePeriod, good_ite, good_ite_snd, *, implies_true, ite_self]

theorem good_doJobForm (e : Env) (s : State) (h0 : Good p s) : Good p (doJobForm e s).2 := by
  simp only [doJobForm]
  repeat' split
  all_goals simp +contextual (maxDischargeDepth := 99) only [good_wr, good_flag, good_clearBlock, good_clockJob, good_setJob, good_ite, good_ite_snd, *, implies_true, ite_self]

theorem good_doJobDissolve (e : Env) (s : State) (h0 : Good p s) : Good p (doJobDissolve e s).2 := by
  simp +contextual (maxDischargeDepth := 99) only [doJobDissolve, good_updJob, good_dissolveJob, good_ite, good_ite_snd, *, implies_true, ite_self]

theorem good_doCirc (e : Env) (s : State) (h0 : Good p s) : Good p (doCirc e s).2 := by
  simp +contextual (maxDischargeDepth := 99) only [doCirc, good_updJob, good_ite, good_ite_snd, *, implies_true, ite_self]

theorem good_showTwinPorts (s : State) (h0 : Good p s) : Good p (showTwinPorts s) := by
  simp +contextual (maxDischargeDepth := 99) only [showTwinPorts, good_wr, *, implies_true, ite_self]

theorem good_pairDomain (ps : List ℕ) (peer : ℕ) (s : State) (h0 : Good p s) : Good p (pairDomain ps peer s) := by
  simp +contextual (maxDischargeDepth := 99) only [pairDomain, good_wr, good_ite, good_ite_snd, *, implies_true, ite_self]

theorem good_lapseAll (s : State) (h0 : Good p s) : Good p (lapseAll s) := by
  simp +contextual (maxDischargeDepth := 99) only [lapseAll, good_lapse, good_foldl, good_foldl_snd, *, implies_true, ite_self]

theorem good_formPair (peerReady : Bool) (s : State) (h0 : Good p s) : Good p (formPair peerReady s) := by
  simp +contextual (maxDischargeDepth := 99) only [formPair, good_lapseAll, good_pairDomain, good_wr, good_flag, good_ite, good_ite_snd, *, implies_true, ite_self]

theorem good_doTwinPair (e : Env) (s : State) (h0 : Good p s) : Good p (doTwinPair e s).2 := by
  simp +contextual (maxDischargeDepth := 99) only [doTwinPair, good_setFab, good_wr, good_formPair, good_ite, good_ite_snd, *, implies_true, ite_self]

theorem good_doTwinUnpair (y0 : Env) (s : State) (h0 : Good p s) : Good p (doTwinUnpair y0 s).2 := by
  simp +contextual (maxDischargeDepth := 99) only [doTwinUnpair, good_freeStream, good_updStream, good_wr, good_showLapsed, good_setFab, good_foldl, good_foldl_snd, good_ite, good_ite_snd, *, implies_true, ite_self]

theorem good_triggerFailover (ds : List ℕ) (s : State) (h0 : Good p s) : Good p (triggerFailover ds s) := by
  simp +contextual (maxDischargeDepth := 99) only [triggerFailover, good_setFab, good_serialise, good_flag, good_ite, good_ite_snd, *, implies_true, ite_self]

theorem good_doTwinMsg (e : Env) (s : State) (h0 : Good p s) : Good p (doTwinMsg e s).2 := by
  simp +contextual (maxDischargeDepth := 99) only [doTwinMsg, good_triggerFailover, good_ite, good_ite_snd, *, implies_true, ite_self]

theorem good_doLeaseKey (e : Env) (key : List Byte) (s : State) (h0 : Good p s) : Good p (doLeaseKey e key s).2 := by
  simp +contextual (maxDischargeDepth := 99) only [doLeaseKey, good_setEng, good_ite, good_ite_snd, *, implies_true, ite_self]

theorem good_doLeaseKeyEnrol (e : Env) (s : State) (h0 : Good p s) : Good p (doLeaseKeyEnrol e s).2 := by
  simp +contextual (maxDischargeDepth := 99) only [doLeaseKeyEnrol, good_doLeaseKey, *, implies_true, ite_self]

theorem good_doLeaseKeyClear (e : Env) (s : State) (h0 : Good p s) : Good p (doLeaseKeyClear e s).2 := by
  simp +contextual (maxDischargeDepth := 99) only [doLeaseKeyClear, good_doLeaseKey, *, implies_true, ite_self]

theorem good_relayGrant (j : ℕ) (g : List Byte) (s : State) (h0 : Good p s) : Good p (relayGrant j g s) := by
  simp +contextual (maxDischargeDepth := 99) only [relayGrant, good_send, good_foldl, good_foldl_snd, good_ite, good_ite_snd, *, implies_true, ite_self]

theorem good_takeGrant (g : List Byte) (s : State) (h0 : Good p s) : Good p (takeGrant g s) := by
  simp +contextual (maxDischargeDepth := 99) only [takeGrant, good_setFab, good_addDue, good_wr, good_flag, good_setJob, good_ite, good_ite_snd, *, implies_true, ite_self]

theorem good_doLeaseGrant (e : Env) (s : State) (h0 : Good p s) : Good p (doLeaseGrant e s).2 := by
  simp +contextual (maxDischargeDepth := 99) only [doLeaseGrant, good_takeGrant, good_relayGrant, good_ite, good_ite_snd, *, implies_true, ite_self]

end Sys2Proof.Machine
end

