-- ==== Sys2Proof/Laws/Keeps/Handlers.lean ====
section
/-!
SUPPORT. Every operation of Machine/Handlers.lean keeps the invariant and the queue.
-/

namespace Sys2Proof.Machine

set_option linter.unusedSimpArgs false

variable {p : List Instr}

theorem good_handlers0 (key : ℕ) (e : Env) : ∀ h, handlers0 key e = some h → ∀ u, Good p u → Good p (h.2 u).2 := by
  intro h hh u hu
  unfold handlers0 at hh
  split at hh <;> cases hh
  · exact good_atOnce _ _ (fun v hv => good_doNop _ _ hv) hu
  · exact good_atOnce _ _ (fun v hv => good_doDevQuery _ _ hv) hu
  · exact good_atOnce _ _ (fun v hv => good_doConfig _ _ hv) hu
  · exact good_atOnce _ _ (fun v hv => good_doLock _ _ hv) hu
  · exact good_doReset _ _ hu
  · exact good_doReset _ _ hu
  · exact good_doReset _ _ hu
  · exact good_atOnce _ _ (fun v hv => good_doTest _ _ _ hv) hu
  · exact good_atOnce _ _ (fun v hv => good_doTest _ _ _ hv) hu
  · exact good_atOnce _ _ (fun v hv => good_doTest _ _ _ hv) hu

theorem good_handlers1 (key : ℕ) (e : Env) : ∀ h, handlers1 key e = some h → ∀ u, Good p u → Good p (h.2 u).2 := by
  intro h hh u hu
  unfold handlers1 at hh
  split at hh <;> cases hh
  · exact good_rebind _ _ hu
  · exact good_atOnce _ _ (fun v hv => good_doParcelReserve _ _ hv) hu
  · exact good_atOnce _ _ (fun v hv => good_doParcelSeal _ _ hv) hu
  · exact good_atOnce _ _ (fun v hv => good_doParcelDiscard _ _ hv) hu
  · exact good_atOnce _ _ (fun v hv => good_doGrant _ _ hv) hu

theorem good_handlers2 (key : ℕ) (e : Env) : ∀ h, handlers2 key e = some h → ∀ u, Good p u → Good p (h.2 u).2 := by
  intro h hh u hu
  unfold handlers2 at hh
  split at hh <;> cases hh
  · exact good_atOnce _ _ (fun v hv => good_doFill _ _ hv) hu
  · exact good_doFence _ _ hu
  · exact good_atOnce _ _ (fun v hv => good_doCopy _ _ hv) hu
  · exact good_atOnce _ _ (fun v hv => good_doAtomic _ _ hv) hu
  · exact good_atOnce _ _ (fun v hv => good_doSwappoolAdd _ _ hv) hu
  · exact good_atOnce _ _ (fun v hv => good_doSwappoolRemove _ _ hv) hu

theorem good_handlers3 (key : ℕ) (e : Env) : ∀ h, handlers3 key e = some h → ∀ u, Good p u → Good p (h.2 u).2 := by
  intro h hh u hu
  unfold handlers3 at hh
  split at hh <;> cases hh
  · exact good_doNmSubmit _ _ hu

theorem good_handlers4 (key : ℕ) (e : Env) : ∀ h, handlers4 key e = some h → ∀ u, Good p u → Good p (h.2 u).2 := by
  intro h hh u hu
  unfold handlers4 at hh
  split at hh <;> cases hh
  · exact good_doSubmit _ _ hu
  · exact good_atOnce _ _ (fun v hv => good_doCancel _ _ hv) hu
  · exact good_doPreempt _ _ hu
  · exact good_doResume _ _ hu
  · exact good_atOnce _ _ (fun v hv => good_doFreeze _ _ hv) hu
  · exact good_atOnce _ _ (fun v hv => good_doRelease _ _ hv) hu
  · exact good_atOnce _ _ (fun v hv => good_doQuery _ _ hv) hu
  · exact good_atOnce _ _ (fun v hv => good_doDiscard _ _ hv) hu

theorem good_handlers5 (key : ℕ) (e : Env) : ∀ h, handlers5 key e = some h → ∀ u, Good p u → Good p (h.2 u).2 := by
  intro h hh u hu
  unfold handlers5 at hh
  split at hh <;> cases hh
  · exact good_atOnce _ _ (fun v hv => good_doBookSet _ _ hv) hu
  · exact good_atOnce _ _ (fun v hv => good_doBookBind _ _ hv) hu
  · exact good_atOnce _ _ (fun v hv => good_doBookUnbind _ _ hv) hu
  · exact good_atOnce _ _ (fun v hv => good_doSampleCfg _ _ hv) hu
  · exact good_atOnce _ _ (fun v hv => good_doGrammarLoad _ _ hv) hu
  · exact good_atOnce _ _ (fun v hv => good_doGrammarUnload _ _ hv) hu
  · exact good_atOnce _ _ (fun v hv => good_doRingEnable _ _ hv) hu
  · exact good_atOnce _ _ (fun v hv => good_doRingDisable _ _ hv) hu
  · exact good_atOnce _ _ (fun v hv => good_doReceiptsEnable _ _ hv) hu
  · exact good_atOnce _ _ (fun v hv => good_doReceiptsDisable _ _ hv) hu

theorem good_handlers6 (key : ℕ) (e : Env) : ∀ h, handlers6 key e = some h → ∀ u, Good p u → Good p (h.2 u).2 := by
  intro h hh u hu
  unfold handlers6 at hh
  split at hh <;> cases hh
  · exact good_atOnce _ _ (fun v hv => good_doPowerCap _ _ hv) hu
  · exact good_atOnce _ _ (fun v hv => good_doPowerLimit _ _ hv) hu
  · exact good_atOnce _ _ (fun v hv => good_doThermal _ _ hv) hu

theorem good_handlers7 (key : ℕ) (e : Env) : ∀ h, handlers7 key e = some h → ∀ u, Good p u → Good p (h.2 u).2 := by
  intro h hh u hu
  unfold handlers7 at hh
  split at hh <;> cases hh
  · exact good_atOnce _ _ (fun v hv => good_doFabric _ _ hv) hu
  · exact good_atOnce _ _ (fun v hv => good_doRoundCfg _ _ hv) hu
  · exact good_atOnce _ _ (fun v hv => good_doJobForm _ _ hv) hu
  · exact good_atOnce _ _ (fun v hv => good_doJobDissolve _ _ hv) hu
  · exact good_atOnce _ _ (fun v hv => good_doCirc _ _ hv) hu
  · exact good_atOnce _ _ (fun v hv => good_doTwinPair _ _ hv) hu
  · exact good_atOnce _ _ (fun v hv => good_doTwinUnpair _ _ hv) hu
  · exact good_atOnce _ _ (fun v hv => good_doTwinMsg _ _ hv) hu
  · exact good_atOnce _ _ (fun v hv => good_doTwinMsg _ _ hv) hu
  · exact good_atOnce _ _ (fun v hv => good_doLeaseKeyEnrol _ _ hv) hu
  · exact good_atOnce _ _ (fun v hv => good_doLeaseKeyClear _ _ hv) hu
  · exact good_atOnce _ _ (fun v hv => good_doLeaseGrant _ _ hv) hu

theorem good_handlers8 (key : ℕ) (e : Env) : ∀ h, handlers8 key e = some h → ∀ u, Good p u → Good p (h.2 u).2 := by
  intro h hh u hu
  unfold handlers8 at hh
  split at hh <;> cases hh
  · exact good_atOnce _ _ (fun v hv => good_doLogRead _ _ hv) hu

theorem good_handlers9 (key : ℕ) (e : Env) : ∀ h, handlers9 key e = some h → ∀ u, Good p u → Good p (h.2 u).2 := by
  intro h hh u hu
  unfold handlers9 at hh
  split at hh <;> cases hh
  · exact good_atOnce _ _ (fun v hv => good_doFwStage _ _ hv) hu
  · exact good_atOnce _ _ (fun v hv => good_doFwActivate _ _ hv) hu

theorem good_handlerOf (key : ℕ) (e : Env) : ∀ h, handlerOf key e = some h → ∀ u, Good p u → Good p (h.2 u).2 := by
  intro h hh
  unfold handlerOf at hh
  split at hh
  · exact good_handlers0 key e h hh
  · exact good_handlers1 key e h hh
  · exact good_handlers2 key e h hh
  · exact good_handlers3 key e h hh
  · exact good_handlers4 key e h hh
  · exact good_handlers5 key e h hh
  · exact good_handlers6 key e h hh
  · exact good_handlers7 key e h hh
  · exact good_handlers8 key e h hh
  · exact good_handlers9 key e h hh
  · cases hh

theorem good_badOperation (e : Env) (s : State) (h0 : Good p s) : Good p (badOperation e s) := by
  simp only [badOperation]
  repeat' split
  all_goals simp +contextual (maxDischargeDepth := 99) only [good_countAuthority, good_reply, good_ite, good_ite_snd, *, implies_true, ite_self]

theorem good_unlisted (e : Env) (s : State) (h0 : Good p s) : Good p (unlisted e s) := by
  simp +contextual (maxDischargeDepth := 99) only [unlisted, good_reply, good_ite, good_ite_snd, *, implies_true, ite_self]

theorem good_refuseOutside (e : Env) (s : State) (h0 : Good p s) : Good p (refuseOutside e s) := by
  simp +contextual (maxDischargeDepth := 99) only [refuseOutside, good_badOperation, good_unlisted, good_ite, good_ite_snd, *, implies_true, ite_self]

theorem good_anyEnvelope (e : Env) (s : State) (h0 : Good p s) : Good p (anyEnvelope e s) := by
  unfold anyEnvelope
  split
  · next h hh => exact good_envelope _ _ _ _ (good_handlerOf _ _ _ hh) h0
  · exact good_refuseOutside _ _ h0

theorem good_fromStore (key : ℕ) (e : Env) (s : State) (h0 : Good p s) : Good p (fromStore key e s) := by
  unfold fromStore
  split
  · next h hh => exact good_handle _ _ _ _ (good_handlerOf _ _ _ hh) h0
  · exact h0

theorem good_clerkUpNow (s : State) (h0 : Good p s) : Good p (clerkUpNow s) := by
  simp +contextual (maxDischargeDepth := 99) only [clerkUpNow, good_flag, good_setEng, good_fromStore, good_foldl, good_foldl_snd, good_ite, good_ite_snd, *, implies_true, ite_self]

end Sys2Proof.Machine
end

