-- ==== Sys2Proof/Laws/Keeps/Access.lean ====
section
/-!
SUPPORT. Every operation of Machine/Access.lean keeps the invariant and the queue.
-/

namespace Sys2Proof.Machine

set_option linter.unusedSimpArgs false

variable {p : List Instr}

theorem good_denied (write : Bool) (port : ℕ) (func : ℕ) (off : ℕ) (s : State) (h0 : Good p s) : Good p (denied write port func off s) := by
  simp +contextual (maxDischargeDepth := 99) only [denied, good_wr, good_flag, good_bump, good_note, good_setEng, good_ite, good_ite_snd, *, implies_true, ite_self]

theorem good_doorbell (n : ℕ) (v : ℕ) (s : State) (h0 : Good p s) : Good p (doorbell n v s) := by
  simp +contextual (maxDischargeDepth := 99) only [doorbell, good_wr, good_flag, good_ite, good_ite_snd, *, implies_true, ite_self]

theorem good_consume (cons : Reg) (prod : Reg) (err : Reg) (bits_ : ℕ) (i : ℕ) (v : ℕ) (s : State) (h0 : Good p s) : Good p (consume cons prod err bits_ i v s) := by
  simp +contextual (maxDischargeDepth := 99) only [consume, good_wr, good_flag, good_ite, good_ite_snd, *, implies_true, ite_self]

theorem good_eringCons (n : ℕ) (v : ℕ) (s : State) (h0 : Good p s) : Good p (eringCons n v s) := by
  simp +contextual (maxDischargeDepth := 99) only [eringCons, good_consume, *, implies_true, ite_self]

theorem good_dringCons (r : ℕ) (v : ℕ) (s : State) (h0 : Good p s) : Good p (dringCons r v s) := by
  simp +contextual (maxDischargeDepth := 99) only [dringCons, good_consume, *, implies_true, ite_self]

theorem good_rringCons (r : ℕ) (v : ℕ) (s : State) (h0 : Good p s) : Good p (rringCons r v s) := by
  simp +contextual (maxDischargeDepth := 99) only [rringCons, good_consume, *, implies_true, ite_self]

theorem good_ringEnable (n : ℕ) (en : Bool) (s : State) (h0 : Good p s) : Good p (ringEnable n en s) := by
  simp +contextual (maxDischargeDepth := 99) only [ringEnable, good_ringIdle, good_wr, good_ite, good_ite_snd, *, implies_true, ite_self]

theorem good_fetchEvent (n : ℕ) (s : State) (h0 : Good p s) : Good p (fetchEvent n s) := by
  simp +contextual (maxDischargeDepth := 99) only [fetchEvent, good_fresh, good_fwSend, good_emit, good_foldl, good_foldl_snd, *, implies_true, ite_self]

theorem good_readSlot (n : ℕ) (pos : ℕ) (len : ℕ) (s : State) (h0 : Good p s) : Good p (readSlot n pos len s) := by
  simp +contextual (maxDischargeDepth := 99) only [readSlot, good_emit, *, implies_true, ite_self]

theorem good_fetchSlot (n : ℕ) (raw : List Byte) (bad : Bool) (s : State) (h0 : Good p s) : Good p (fetchSlot n raw bad s) := by
  simp +contextual (maxDischargeDepth := 99) only [fetchSlot, good_fetchEvent, good_ringIdle, good_flag, good_wr, good_readSlot, good_setEng, good_refuseOutside, good_ite, good_ite_snd, *, implies_true, ite_self]

theorem good_mboxCommit (m : ℕ) (s : State) (h0 : Good p s) : Good p (mboxCommit m s) := by
  simp +contextual (maxDischargeDepth := 99) only [mboxCommit, good_emit, good_flag, good_mboxFill, good_ite, good_ite_snd, *, implies_true, ite_self]

theorem good_mboxAck (m : ℕ) (seq : ℕ) (s : State) (h0 : Good p s) : Good p (mboxAck m seq s) := by
  simp +contextual (maxDischargeDepth := 99) only [mboxAck, good_fwNext, good_wr, good_ite, good_ite_snd, *, implies_true, ite_self]

theorem good_mboxWithdraw (m : ℕ) (s : State) (h0 : Good p s) : Good p (mboxWithdraw m s) := by
  simp +contextual (maxDischargeDepth := 99) only [mboxWithdraw, good_fwNext, good_flag, good_wr, good_ite, good_ite_snd, *, implies_true, ite_self]

theorem good_mboxTimeout (m : ℕ) (s : State) (h0 : Good p s) : Good p (mboxTimeout m s) := by
  simp +contextual (maxDischargeDepth := 99) only [mboxTimeout, good_flag, good_emit, good_ite, good_ite_snd, *, implies_true, ite_self]

theorem good_mboxTake (m : ℕ) (input : List Byte) (outFault : Bool) (found : List BadUnit) (extOk : Bool) (s : State) (h0 : Good p s) : Good p (mboxTake m input outFault found extOk s) := by
  simp +contextual (maxDischargeDepth := 99) only [mboxTake, good_mboxAck, good_reply, good_anyEnvelope, good_ite, good_ite_snd, *, implies_true, ite_self]

theorem good_dlqPop (s : State) (h0 : Good p s) : Good p (dlqPop s) := by
  simp +contextual (maxDischargeDepth := 99) only [dlqPop, good_showDlq, good_setFaults, *, implies_true, ite_self]

theorem good_writeField (func : ℕ) (f : Reg) (i : ℕ) (v : ℕ) (s : State) (h0 : Good p s) : Good p (writeField func f i v s) := by
  simp only [writeField]
  repeat' split
  all_goals simp +contextual (maxDischargeDepth := 99) only [good_goCore, good_stopCore, good_holdSr, good_wr, good_nmAbort, good_wrIf, good_flagIf, good_ringEnable, good_doorbell, good_eringCons, good_dringCons, good_rringCons, good_mboxAck, good_mboxWithdraw, good_restartVmin, good_showDlq, good_dlqPop, good_ite, good_ite_snd, *, implies_true, ite_self]

theorem good_postedEffect (b : Block) (i : ℕ) (s : State) (h0 : Good p s) : Good p (postedEffect b i s) := by
  simp only [postedEffect]
  repeat' split
  all_goals simp +contextual (maxDischargeDepth := 99) only [good_wr, good_writeField, good_upd_posted, good_foldl, good_foldl_snd, good_ite, good_ite_snd, *, implies_true, ite_self]

theorem good_writeRegister (port : ℕ) (func : ℕ) (b : Block) (i : ℕ) (o : ℕ) (barOff : ℕ) (data : List Byte) (s : State) (h0 : Good p s) : Good p (writeRegister port func b i o barOff data s) := by
  simp only [writeRegister]
  repeat' split
  all_goals simp +contextual (maxDischargeDepth := 99) only [good_denied, good_flag, good_post, good_writeField, good_foldl, good_foldl_snd, good_ite, good_ite_snd, *, implies_true, ite_self]

theorem good_registerWrite (port : ℕ) (func : ℕ) (off : ℕ) (data : List Byte) (s : State) (h0 : Good p s) : Good p (registerWrite port func off data s) := by
  unfold registerWrite
  dsimp only
  split
  · exact h0
  · split
    · exact good_flag _ _ _ h0
    · split
      · exact good_bump _ _ _ h0
      · split
        · exact h0
        · split
          · exact h0
          · split
            · exact good_denied _ _ _ _ _ h0
            · split
              · split
                · exact h0.eng (Memory.wf_mwrite _ _ _ h0.hstaging) h0.hslots
                · exact h0
              · exact good_writeRegister _ _ _ _ _ _ _ _ h0

theorem good_lockSite (k : ℕ) (s : State) (h0 : Good p s) : Good p (lockSite k s) := by
  simp +contextual (maxDischargeDepth := 99) only [lockSite, good_fresh, good_denied, good_flag, good_ite, good_ite_snd, *, implies_true, ite_self]

theorem good_tvCorrect (off : ℕ) (copy : ℕ) (s : State) (h0 : Good p s) : Good p (tvCorrect off copy s) := by
  simp +contextual (maxDischargeDepth := 99) only [tvCorrect, good_note, good_wr, good_bump, *, implies_true, ite_self]

theorem good_tvLost (off : ℕ) (s : State) (h0 : Good p s) : Good p (tvLost off s) := by
  simp +contextual (maxDischargeDepth := 99) only [tvLost, good_note, good_flag, good_wr, good_bump, good_setEng, good_ite, good_ite_snd, *, implies_true, ite_self]

theorem good_tvScan (upset : List (ℕ × ℕ)) (s : State) (h0 : Good p s) : Good p (tvScan upset s) := by
  simp only [tvScan]
  repeat' first
    | (simp +contextual (maxDischargeDepth := 99) only [good_tvCorrect, good_tvLost, good_foldl, good_foldl_snd, *, implies_true, ite_self]; done)
    | (refine good_foldl ?_ fun u x hu => ?_)
    | (refine good_foldl_snd ?_ fun u x hu => ?_)
    | (refine good_foldl_fst ?_ fun u x hu => ?_)
    | split

theorem good_tvRestore (off : ℕ) (s : State) (h0 : Good p s) : Good p (tvRestore off s) := by
  simp +contextual (maxDischargeDepth := 99) only [tvRestore, good_tvLost, good_wr, good_setEng, *, implies_true, ite_self]

end Sys2Proof.Machine
end

