-- ==== Sys2Proof/Laws/Keeps/Links.lean ====
section
/-!
SUPPORT. Every operation of Machine/Links.lean keeps the invariant and the queue.
-/

namespace Sys2Proof.Machine

set_option linter.unusedSimpArgs false

variable {p : List Instr}

theorem good_portLost (s : State) (h0 : Good p s) : Good p (portLost s) := by
  simp +contextual (maxDischargeDepth := 99) only [portLost, good_showTwinPorts, good_relaunch, good_lapseAll, good_ite, good_ite_snd, *, implies_true, ite_self]

theorem good_linkUp (y0 : ℕ) (fid : ℕ) (serial : ℕ) (delay : ℕ) (x4 : Bool) (peerReady : Bool) (s : State) (h0 : Good p s) : Good p (linkUp y0 fid serial delay x4 peerReady s) := by
  simp +contextual (maxDischargeDepth := 99) only [linkUp, good_note, good_portLost, good_wr, good_formPair, good_showTwinPorts, good_relaunch, good_setFab, good_ite, good_ite_snd, *, implies_true, ite_self]

theorem good_fabricLane (y0 : ℕ) (failed : ℕ) (s : State) (h0 : Good p s) : Good p (fabricLane y0 failed s) := by
  simp +contextual (maxDischargeDepth := 99) only [fabricLane, good_portLost, good_wr, good_ite, good_ite_snd, *, implies_true, ite_self]

theorem good_fabricReplay (y0 : ℕ) (s : State) (h0 : Good p s) : Good p (fabricReplay y0 s) := by
  simp +contextual (maxDischargeDepth := 99) only [fabricReplay, good_bump, *, implies_true, ite_self]

theorem good_copyAcked (id : ℕ) (status : ℕ) (s : State) (h0 : Good p s) : Good p (copyAcked id status s) := by
  simp only [copyAcked]
  repeat' split
  all_goals simp +contextual (maxDischargeDepth := 99) only [good_lapse, good_updStream, good_ite, good_ite_snd, *, implies_true, ite_self]

theorem good_packetIn (port : ℕ) (dst : ℕ) (src : ℕ) (body : List Byte) (s : State) (h0 : Good p s) : Good p (packetIn port dst src body s) := by
  simp only [packetIn]
  repeat' split
  all_goals simp +contextual (maxDischargeDepth := 99) only [good_copyAcked, good_bump, good_launch, good_ite, good_ite_snd, *, implies_true, ite_self]

theorem good_ackOverdue (x : AckFor) (s : State) (h0 : Good p s) : Good p (ackOverdue x s) := by
  simp only [ackOverdue]
  repeat' split
  all_goals simp +contextual (maxDischargeDepth := 99) only [good_endDma, good_lapse, good_addDue, good_ite, good_ite_snd, *, implies_true, ite_self]

theorem good_frameIn (port : ℕ) (len : ℕ) (over_ : Bool) (s : State) (h0 : Good p s) : Good p (frameIn port len over_ s) := by
  simp +contextual (maxDischargeDepth := 99) only [frameIn, good_bump, good_emit, good_ite, good_ite_snd, *, implies_true, ite_self]

theorem good_learnMember (j : ℕ) (fid : ℕ) (s : State) (h0 : Good p s) : Good p (learnMember j fid s) := by
  simp +contextual (maxDischargeDepth := 99) only [learnMember, good_updJob, good_ite, good_ite_snd, *, implies_true, ite_self]

theorem good_slowRequest (j : ℕ) (fid : ℕ) (cause : ℕ) (mhz : ℕ) (s : State) (h0 : Good p s) : Good p (slowRequest j fid cause mhz s) := by
  simp +contextual (maxDischargeDepth := 99) only [slowRequest, good_takeRequest, good_learnMember, good_ite, good_ite_snd, *, implies_true, ite_self]

theorem good_stepDone (j : ℕ) (fid : ℕ) (s : State) (h0 : Good p s) : Good p (stepDone j fid s) := by
  simp +contextual (maxDischargeDepth := 99) only [stepDone, good_takeDone, good_learnMember, good_ite, good_ite_snd, *, implies_true, ite_self]

theorem good_heartbeatIn (j : ℕ) (fid : ℕ) (s : State) (h0 : Good p s) : Good p (heartbeatIn j fid s) := by
  simp +contextual (maxDischargeDepth := 99) only [heartbeatIn, good_takeBeat, good_learnMember, good_ite, good_ite_snd, *, implies_true, ite_self]

theorem good_holdSoon (j : ℕ) (s : State) (h0 : Good p s) : Good p (holdSoon j s) := by
  simp +contextual (maxDischargeDepth := 99) only [holdSoon, good_updJob, *, implies_true, ite_self]

theorem good_askLease (j : ℕ) (s : State) (h0 : Good p s) : Good p (askLease j s) := by
  simp +contextual (maxDischargeDepth := 99) only [askLease, good_emit, *, implies_true, ite_self]

theorem good_splitDeclared (j : ℕ) (s : State) (h0 : Good p s) : Good p (splitDeclared j s) := by
  simp +contextual (maxDischargeDepth := 99) only [splitDeclared, good_holdSoon, good_addDue, good_askLease, good_ite, good_ite_snd, *, implies_true, ite_self]

theorem good_renewLease (j : ℕ) (s : State) (h0 : Good p s) : Good p (renewLease j s) := by
  simp only [renewLease]
  repeat' split
  all_goals simp +contextual (maxDischargeDepth := 99) only [good_askLease, good_relayGrant, good_ite, good_ite_snd, *, implies_true, ite_self]

theorem good_leaseRelayed (g : List Byte) (s : State) (h0 : Good p s) : Good p (leaseRelayed g s) := by
  simp +contextual (maxDischargeDepth := 99) only [leaseRelayed, good_takeGrant, good_ite, good_ite_snd, *, implies_true, ite_self]

theorem good_leaseExpired (j : ℕ) (s : State) (h0 : Good p s) : Good p (leaseExpired j s) := by
  simp +contextual (maxDischargeDepth := 99) only [leaseExpired, good_holdSoon, good_wr, good_askLease, good_ite, good_ite_snd, *, implies_true, ite_self]

theorem good_holdTimedOut (j : ℕ) (s : State) (h0 : Good p s) : Good p (holdTimedOut j s) := by
  simp +contextual (maxDischargeDepth := 99) only [holdTimedOut, good_failDistrict, good_ite, good_ite_snd, *, implies_true, ite_self]

theorem good_sendRing (j : ℕ) (f : List ℕ × ℕ) (k : FabKind) (body : List Byte) (s : State) (h0 : Good p s) : Good p (sendRing j f k body s) := by
  simp +contextual (maxDischargeDepth := 99) only [sendRing, good_offer, *, implies_true, ite_self]

theorem good_ackRing (j : ℕ) (idx : ℕ) (s : State) (h0 : Good p s) : Good p (ackRing j idx s) := by
  simp +contextual (maxDischargeDepth := 99) only [ackRing, good_send, *, implies_true, ite_self]

theorem good_takeConsumption (j : ℕ) (k : CircSem) (s : State) (h0 : Good p s) : Good p (takeConsumption j k s) := by
  simp only [takeConsumption]
  repeat' split
  all_goals simp +contextual (maxDischargeDepth := 99) only [good_setJob, good_wr, good_ite, good_ite_snd, *, implies_true, ite_self]

theorem good_forwardBlock (j : ℕ) (f : List ℕ × ℕ) (s : State) (h0 : Good p s) : Good p (forwardBlock j f s) := by
  simp only [forwardBlock]
  repeat' split
  all_goals simp +contextual (maxDischargeDepth := 99) only [good_sendRing, good_setJob, *, implies_true, ite_self]

theorem good_circSend (j : ℕ) (own : Option (ℕ × ℕ)) (con : Option CircSem) (s : State) (h0 : Good p s) : Good p (circSend j own con s) := by
  unfold circSend
  split
  · exact h0
  · dsimp only
    have h1 : Good p (con.elim s fun k => takeConsumption j k s) := by
      cases con
      · exact h0
      · exact good_takeConsumption _ _ _ h0
    revert h1
    generalize (con.elim s fun k => takeConsumption j k s) = s1
    intro h1
    split
    · exact h1
    · exact good_forwardBlock _ _ _ h1
    · split
      · exact good_sendRing _ _ _ _ _ h1
      · exact h1

theorem good_countAt (home : ℕ) (g : ℕ) (sem : ℕ) (n : ℕ) (s : State) (h0 : Good p s) : Good p (countAt home g sem n s) := by
  simp +contextual (maxDischargeDepth := 99) only [countAt, good_wake, good_addSem, good_upd_signals, good_ite, good_ite_snd, *, implies_true, ite_self]

theorem good_circReceived (j : ℕ) (b : CircBlock) (sig : CircSem) (s : State) (h0 : Good p s) : Good p (circReceived j b sig s) := by
  simp +contextual (maxDischargeDepth := 99) only [circReceived, good_meetPosition, good_setJob, good_countAt, good_ackRing, good_ite, good_ite_snd, *, implies_true, ite_self]

theorem good_queryReceived (j : ℕ) (stream : ℕ) (pos : ℕ) (q : List Byte) (own : Partial) (s : State) (h0 : Good p s) : Good p (queryReceived j stream pos q own s) := by
  simp only [queryReceived]
  repeat' split
  all_goals simp +contextual (maxDischargeDepth := 99) only [good_setJob, good_ackRing, good_meetPosition, good_sendRing, good_ite, good_ite_snd, *, implies_true, ite_self]

theorem good_partialReceived (j : ℕ) (y1 : Partial) (own : Partial) (s : State) (h0 : Good p s) : Good p (partialReceived j y1 own s) := by
  simp only [partialReceived]
  repeat' split
  all_goals simp +contextual (maxDischargeDepth := 99) only [good_ackRing, good_setJob, good_sendRing, good_ite, good_ite_snd, *, implies_true, ite_self]

end Sys2Proof.Machine
end

