-- ==== Sys2Proof/Laws/Keeps/Rows/Base.lean ====
section
/-!
SUPPORT. What it is for an answer to keep the invariant and the queue.
-/

namespace Sys2Proof.Machine

/-- An answer keeps the invariant and the queue p. -/
def Keeps (p : List Instr) (o : Host.Outcome State Fault Refusal) : Prop := ∀ t, o = .next t → Good p t

theorem keeps_next {p : List Instr} {t : State} (h : Good p t) : Keeps p (.next t) := by
  intro u hu
  cases hu
  exact h

end Sys2Proof.Machine
end

