-- ==== Sys2Proof/Laws/Keeps/Twins.lean ====
section
/-!
SUPPORT. Every operation of Machine/Twins.lean keeps the invariant and the queue.
-/

namespace Sys2Proof.Machine

set_option linter.unusedSimpArgs false

variable {p : List Instr}

theorem good_ackCopy (id : ℕ) (status : ℕ) (s : State) (h0 : Good p s) : Good p (ackCopy id status s) := by
  simp +contextual (maxDischargeDepth := 99) only [ackCopy, good_sendTwin, *, implies_true, ite_self]

theorem good_submitCopy (d : ℕ) (id : ℕ) (spec : List Byte) (ctl : List Byte) (s : State) (h0 : Good p s) : Good p (submitCopy d id spec ctl s) := by
  simp only [submitCopy]
  repeat' split
  all_goals simp +contextual (maxDischargeDepth := 99) only [good_freeStream, good_ackCopy, good_placeStream, good_cbWrite, good_updDistrict, good_setStream, good_ite, good_ite_snd, *, implies_true, ite_self]

theorem good_ackEnd (id : ℕ) (s : State) (h0 : Good p s) : Good p (ackEnd id s) := by
  simp +contextual (maxDischargeDepth := 99) only [ackEnd, good_sendTwin, *, implies_true, ite_self]

theorem good_withShadow (id : ℕ) (f : ℕ → State → State) (s : State) (hf : ∀ a u, Good p u → Good p (f a u)) (h1 : Good p s) : Good p (withShadow id f s) := by
  simp only [withShadow]
  repeat' split
  all_goals simp +contextual (maxDischargeDepth := 99) only [good_ite, good_ite_snd, *, implies_true, ite_self]

theorem good_drawCopied (id : ℕ) (m : DrawMsg) (s : State) (h0 : Good p s) : Good p (drawCopied id m s) := by
  simp +contextual (maxDischargeDepth := 99) only [drawCopied, good_withShadow, good_sendTwin, good_updStream, *, implies_true, ite_self]

theorem good_readyChain (slot home n c : ℕ) (touched : List ℕ) (s : State) (h0 : Good p s) :
    ∀ t, readyChain slot home n c touched s = some t → Good p t := by
  intro t ht
  unfold readyChain at ht
  obtain ⟨u, hu, hv⟩ := Option.bind_eq_some_iff.1 ht
  have g1 : Good p u := by
    split at hu
    · exact good_openTo _ _ _ _ _ h0 _ hu
    · exact good_openChain _ _ _ _ _ h0 _ hu
  have g2 : Good p ((List.range n).foldl (fun t j => finishOpen slot c j t) u) := good_foldl g1 fun v j hv => good_finishOpen _ _ _ _ hv
  dsimp only at hv
  revert g2 hv
  generalize (List.range n).foldl (fun t j => finishOpen slot c j t) u = v
  intro hv g2
  have key : ∀ (l : List ℕ) (o : Option State), (∀ v, o = some v → Good p v) →
      ∀ t, l.foldl (fun o j => o.bind fun t => if ((getChain slot c t).pages.getD j {}).shared then copyShared slot c j t else some t) o
        = some t → Good p t := by
    intro l
    induction l with
    | nil => intro o ho t ht; exact ho t ht
    | cons x l ih =>
      intro o ho t ht
      refine ih _ ?_ t ht
      intro w hw
      obtain ⟨y, hy, hw⟩ := Option.bind_eq_some_iff.1 hw
      split at hw
      · exact good_copyShared _ _ _ _ (ho y hy) _ hw
      · exact Option.some.inj hw ▸ ho y hy
  exact key touched (some v) (fun w hw => Option.some.inj hw ▸ g2) t hv

theorem good_readyChains (slot : ℕ) (m : StepCopy) (l : List (ℕ × ℕ)) (s : State) (h0 : Good p s) :
    ∀ t, readyChains slot m l s = some t → Good p t := by
  induction l generalizing s with
  | nil => intro t ht; exact Option.some.inj ht ▸ h0
  | cons x l ih =>
    intro t ht
    unfold readyChains at ht
    dsimp only at ht
    split at ht
    · next s1 h1 => exact ih _ (good_readyChain _ _ _ _ _ _ h0 _ h1) _ ht
    · cases ht

theorem good_commitCopy (slot : ℕ) (n : ℕ) (c : ℕ) (s : State) (h0 : Good p s) : Good p (commitCopy slot n c s) := by
  simp +contextual (maxDischargeDepth := 99) only [commitCopy, good_setLen, good_updChain, good_ite, good_ite_snd, *, implies_true, ite_self]

theorem good_clearStaging (slot : ℕ) (m : StepCopy) (c : ℕ) (s : State) (h0 : Good p s) : Good p (clearStaging slot m c s) := by
  simp +contextual (maxDischargeDepth := 99) only [clearStaging, good_kvWrite, good_foldl, good_foldl_snd, good_ite, good_ite_snd, *, implies_true, ite_self]

theorem good_writeCopy (slot : ℕ) (m : StepCopy) (s : State) (h0 : Good p s) : Good p (writeCopy slot m s) := by
  simp +contextual (maxDischargeDepth := 99) only [writeCopy, good_kvWrite, good_pcWrite, good_foldl, good_foldl_snd, *, implies_true, ite_self]

theorem good_stepCopied (id : ℕ) (m : StepCopy) (s : State) (h0 : Good p s) : Good p (stepCopied id m s) := by
  unfold stepCopied
  refine good_withShadow _ _ _ (fun k t ht => ?_) h0
  dsimp only
  split
  · exact good_ackCopy _ _ _ ht
  · next t1 h1 =>
    have g1 := good_readyChains _ _ _ _ ht _ h1
    have g2 : Good p (m.homes.foldl (fun u h => commitCopy k m.nin h.1 (clearStaging k m h.1 u)) t1) :=
      good_foldl g1 fun u h hu => good_commitCopy _ _ _ _ (good_clearStaging _ _ _ _ hu)
    revert g2
    generalize m.homes.foldl (fun u h => commitCopy k m.nin h.1 (clearStaging k m h.1 u)) t1 = t2
    intro g2
    exact good_ackCopy _ _ _ (good_updStream _ _ _ (good_cbWrite _ _ _ _ (good_cbWrite _ _ _ _ (good_pushHistory _ _ _ (good_writeCopy _ _ _ g2)))))

theorem good_sealCopied (id : ℕ) (round : ℕ) (s : State) (h0 : Good p s) : Good p (sealCopied id round s) := by
  simp +contextual (maxDischargeDepth := 99) only [sealCopied, good_withShadow, good_ackCopy, good_setStream, *, implies_true, ite_self]

theorem good_freezeCopied (id : ℕ) (y1 : ℕ) (t : ℕ) (s : State) (h0 : Good p s) : Good p (freezeCopied id y1 t s) := by
  simp +contextual (maxDischargeDepth := 99) only [freezeCopied, good_withShadow, good_ackCopy, good_createHandle, good_updStream, good_setHandle, good_ite, good_ite_snd, *, implies_true, ite_self]

theorem good_endCopied (id : ℕ) (s : State) (h0 : Good p s) : Good p (endCopied id s) := by
  simp +contextual (maxDischargeDepth := 99) only [endCopied, good_withShadow, good_ackEnd, good_freeStream, *, implies_true, ite_self]

theorem good_deviceLeaseExpired (s : State) (h0 : Good p s) : Good p (deviceLeaseExpired s) := by
  simp +contextual (maxDischargeDepth := 99) only [deviceLeaseExpired, good_triggerFailover, good_ite, good_ite_snd, *, implies_true, ite_self]

theorem good_activateFailover (lapsed : List ℕ) (s : State) (h0 : Good p s) : Good p (activateFailover lapsed s) := by
  simp only [activateFailover]
  repeat' split
  all_goals simp +contextual (maxDischargeDepth := 99) only [good_freeStream, good_activateShadow, good_setFab, good_finishRecovery, good_wr, good_foldl, good_foldl_snd, good_ite, good_ite_snd, *, implies_true, ite_self]

end Sys2Proof.Machine
end

