-- ==== Sys2Proof/Laws/Keeps/Units.lean ====
section
/-!
SUPPORT. Every operation of Machine/Units.lean keeps the invariant and the queue.
-/

namespace Sys2Proof.Machine

set_option linter.unusedSimpArgs false

variable {p : List Instr}

theorem good_vaultAccess (v : ℕ) (off : ℕ) (f : State → State) (s : State) (hf : ∀ u, Good p u → Good p (f u)) (h1 : Good p s) : Good p (vaultAccess v off f s) := by
  simp +contextual (maxDischargeDepth := 99) only [vaultAccess, good_ite, good_ite_snd, *, implies_true, ite_self]

theorem good_wordRead (v : ℕ) (off : ℕ) (src : ℕ) (s : State) (h0 : Good p s) : Good p (wordRead v off src s) := by
  simp only [wordRead]
  repeat' split
  all_goals simp +contextual (maxDischargeDepth := 99) only [good_vread, good_emit, *, implies_true, ite_self]

theorem good_repairBlock (v : ℕ) (blk : ℕ) (s : State) (h0 : Good p s) : Good p (repairBlock v blk s) := by
  simp +contextual (maxDischargeDepth := 99) only [repairBlock, good_strongRepair, good_ite, good_ite_snd, *, implies_true, ite_self]

theorem good_patrolNext (v : ℕ) (s : State) (h0 : Good p s) : Good p (patrolNext v s) := by
  have hw := fun k => good_patrolWord v k s h0
  simp only [patrolNext]
  split
  · exact h0
  · refine good_wr _ _ _ _ (good_wr _ _ _ _ ?_)
    split
    · exact hw _
    · exact hw _

theorem good_scrubQueued (v : ℕ) (s : State) (h0 : Good p s) : Good p (scrubQueued v s) := by
  simp only [scrubQueued]
  repeat' split
  all_goals simp +contextual (maxDischargeDepth := 99) only [good_demandScrub, good_wr, good_upd_dsq, good_ite, good_ite_snd, *, implies_true, ite_self]

theorem good_refreshBank (v : ℕ) (layer : ℕ) (bank : ℕ) (s : State) (h0 : Good p s) : Good p (refreshBank v layer bank s) := by
  simp +contextual (maxDischargeDepth := 99) only [refreshBank, good_upd_openRow, *, implies_true, ite_self]

end Sys2Proof.Machine
end

