-- ==== Sys2Proof/Laws/Keeps/Rows/BootRows.lean ====
section
/-!
SUPPORT. Every row of Machine/BootRows.lean keeps the invariant and the queue.
-/

namespace Sys2Proof.Machine

set_option linter.unusedSimpArgs false

variable {p : List Instr}

theorem keeps_execPowerOn (edge : Bool) (clerkOk : Fin 3) (patchOk : Fin 3) (found : List BadUnit) (exps : List Expander) (ms : ℕ) (s : State) (h : Good p s) : Keeps p (execPowerOn edge clerkOk patchOk found exps ms s) :=
  keeps_next (by simp +contextual (maxDischargeDepth := 99) only [good_settle, good_powerOn, h, implies_true])

theorem keeps_execCoolantWaitTimeout (s : State) (h : Good p s) : Keeps p (execCoolantWaitTimeout s) :=
  keeps_next (by simp +contextual (maxDischargeDepth := 99) only [good_settle, good_coolantTimeout, h, implies_true])

theorem keeps_execModReset (clerkOk : Fin 3) (patchOk : Fin 3) (found : List BadUnit) (exps : List Expander) (ms : ℕ) (s : State) (h : Good p s) : Keeps p (execModReset clerkOk patchOk found exps ms s) :=
  keeps_next (by simp +contextual (maxDischargeDepth := 99) only [good_settle, good_modReset, h, implies_true])

theorem keeps_execPerst (port : HPortId) (s : State) (h : Good p s) : Keeps p (execPerst port s) :=
  keeps_next (by simp +contextual (maxDischargeDepth := 99) only [good_settle, good_perst, h, implies_true])

theorem keeps_execBdWatchdog (site : SiteId) (restarts : Bool) (s : State) (h : Good p s) : Keeps p (execBdWatchdog site restarts s) :=
  keeps_next (by simp +contextual (maxDischargeDepth := 99) only [good_settle, good_startWaiting, good_bdWatchdog, h, implies_true])

theorem keeps_execBdRestartTimeout (site : SiteId) (restarts : Bool) (s : State) (h : Good p s) : Keeps p (execBdRestartTimeout site restarts s) :=
  keeps_next (by simp +contextual (maxDischargeDepth := 99) only [good_settle, good_startWaiting, good_bdTimeout, h, implies_true])

theorem keeps_execSiteLoss (k : SiteId) (s : State) (h : Good p s) : Keeps p (execSiteLoss k s) :=
  keeps_next (by simp +contextual (maxDischargeDepth := 99) only [good_settle, good_siteLoss, h, implies_true])

theorem keeps_execViaRemap (g : CoreId) (found : List ℕ) (s : State) (h : Good p s) : Keeps p (execViaRemap g found s) :=
  keeps_next (by simp +contextual (maxDischargeDepth := 99) only [good_settle, good_startWaiting, good_viaRemap, h, implies_true])

theorem keeps_execDeferredRecovery (found : List ℕ) (restarts : Bool) (s : State) (h : Good p s) : Keeps p (execDeferredRecovery found restarts s) :=
  keeps_next (by simp +contextual (maxDischargeDepth := 99) only [good_settle, good_startWaiting, good_deferredRepair, h, implies_true])

theorem keeps_execRefclkLoss (both : Bool) (s : State) (h : Good p s) : Keeps p (execRefclkLoss both s) :=
  keeps_next (by simp +contextual (maxDischargeDepth := 99) only [good_settle, good_refclkLoss, h, implies_true])

theorem keeps_execClerkWatchdog (s : State) (h : Good p s) : Keeps p (execClerkWatchdog s) :=
  keeps_next (by simp +contextual (maxDischargeDepth := 99) only [good_settle, good_clerkWatchdog, h, implies_true])

theorem keeps_execClerkStartTimeout (s : State) (h : Good p s) : Keeps p (execClerkStartTimeout s) :=
  keeps_next (by simp +contextual (maxDischargeDepth := 99) only [good_settle, good_clerkTimeout, h, implies_true])

theorem keeps_execRollbackRaise (image : Fin 3) (s : State) (h : Good p s) : Keeps p (execRollbackRaise image s) :=
  keeps_next (by simp +contextual (maxDischargeDepth := 99) only [good_rollbackRaise, h, implies_true])

theorem keeps_execClerkUp (s : State) (h : Good p s) : Keeps p (execClerkUp s) :=
  keeps_next (by simp +contextual (maxDischargeDepth := 99) only [good_settle, good_clerkUpNow, h, implies_true])

end Sys2Proof.Machine
end

