-- ==== Sys2Proof/Laws/Keeps/Rows/Envelopes.lean ====
section
/-!
SUPPORT. Every row of Machine/Envelopes.lean keeps the invariant and the queue.
-/

namespace Sys2Proof.Machine

set_option linter.unusedSimpArgs false

variable {p : List Instr}

theorem keeps_execElermuxNop (e : Env) (s : State) (h : Good p s) : Keeps p (execElermuxNop e s) :=
  keeps_next (by simp +contextual (maxDischargeDepth := 99) only [good_settle, good_envelope, good_atOnce, good_doNop, h, implies_true])

theorem keeps_execDevQuery (e : Env) (s : State) (h : Good p s) : Keeps p (execDevQuery e s) :=
  keeps_next (by simp +contextual (maxDischargeDepth := 99) only [good_settle, good_envelope, good_atOnce, good_doDevQuery, h, implies_true])

theorem keeps_execConfig (e : Env) (s : State) (h : Good p s) : Keeps p (execConfig e s) :=
  keeps_next (by simp +contextual (maxDischargeDepth := 99) only [good_settle, good_envelope, good_atOnce, good_doConfig, h, implies_true])

theorem keeps_execLock (e : Env) (s : State) (h : Good p s) : Keeps p (execLock e s) :=
  keeps_next (by simp +contextual (maxDischargeDepth := 99) only [good_settle, good_envelope, good_atOnce, good_doLock, h, implies_true])

theorem keeps_execResetSite (e : Env) (s : State) (h : Good p s) : Keeps p (execResetSite e s) :=
  keeps_next (by simp +contextual (maxDischargeDepth := 99) only [good_settle, good_envelope, good_doReset, h, implies_true])

theorem keeps_execResetLayer (e : Env) (s : State) (h : Good p s) : Keeps p (execResetLayer e s) :=
  keeps_next (by simp +contextual (maxDischargeDepth := 99) only [good_settle, good_envelope, good_doReset, h, implies_true])

theorem keeps_execResetCore (e : Env) (s : State) (h : Good p s) : Keeps p (execResetCore e s) :=
  keeps_next (by simp +contextual (maxDischargeDepth := 99) only [good_settle, good_envelope, good_doReset, h, implies_true])

theorem keeps_execTestVaultMarch (e : Env) (s : State) (h : Good p s) : Keeps p (execTestVaultMarch e s) :=
  keeps_next (by simp +contextual (maxDischargeDepth := 99) only [good_settle, good_envelope, good_atOnce, good_doTest, h, implies_true])

theorem keeps_execTestArray (e : Env) (s : State) (h : Good p s) : Keeps p (execTestArray e s) :=
  keeps_next (by simp +contextual (maxDischargeDepth := 99) only [good_settle, good_envelope, good_atOnce, good_doTest, h, implies_true])

theorem keeps_execTestLoopback (e : Env) (s : State) (h : Good p s) : Keeps p (execTestLoopback e s) :=
  keeps_next (by simp +contextual (maxDischargeDepth := 99) only [good_settle, good_envelope, good_atOnce, good_doTest, h, implies_true])

theorem keeps_execRebind (e : Env) (s : State) (h : Good p s) : Keeps p (execRebind e s) :=
  keeps_next (by simp +contextual (maxDischargeDepth := 99) only [good_settle, good_envelope, good_rebind, h, implies_true])

theorem keeps_execRebindRun (s : State) (h : Good p s) : Keeps p (execRebindRun s) :=
  keeps_next (by simp +contextual (maxDischargeDepth := 99) only [good_settle, good_rebindRun, good_submitHeld, h, implies_true])

theorem keeps_execParcelReserve (e : Env) (s : State) (h : Good p s) : Keeps p (execParcelReserve e s) :=
  keeps_next (by simp +contextual (maxDischargeDepth := 99) only [good_settle, good_envelope, good_atOnce, good_doParcelReserve, h, implies_true])

theorem keeps_execParcelSeal (e : Env) (s : State) (h : Good p s) : Keeps p (execParcelSeal e s) :=
  keeps_next (by simp +contextual (maxDischargeDepth := 99) only [good_settle, good_envelope, good_atOnce, good_doParcelSeal, h, implies_true])

theorem keeps_execParcelDiscard (e : Env) (s : State) (h : Good p s) : Keeps p (execParcelDiscard e s) :=
  keeps_next (by simp +contextual (maxDischargeDepth := 99) only [good_settle, good_envelope, good_atOnce, good_doParcelDiscard, h, implies_true])

theorem keeps_execGrant (e : Env) (s : State) (h : Good p s) : Keeps p (execGrant e s) :=
  keeps_next (by simp +contextual (maxDischargeDepth := 99) only [good_settle, good_envelope, good_atOnce, good_doGrant, h, implies_true])

theorem keeps_execFill (e : Env) (s : State) (h : Good p s) : Keeps p (execFill e s) :=
  keeps_next (by simp +contextual (maxDischargeDepth := 99) only [good_settle, good_envelope, good_atOnce, good_doFill, h, implies_true])

theorem keeps_execFence (e : Env) (s : State) (h : Good p s) : Keeps p (execFence e s) :=
  keeps_next (by simp +contextual (maxDischargeDepth := 99) only [good_settle, good_envelope, good_doFence, h, implies_true])

theorem keeps_execCopy (e : Env) (s : State) (h : Good p s) : Keeps p (execCopy e s) :=
  keeps_next (by simp +contextual (maxDischargeDepth := 99) only [good_settle, good_envelope, good_atOnce, good_doCopy, h, implies_true])

theorem keeps_execAtomic (e : Env) (s : State) (h : Good p s) : Keeps p (execAtomic e s) :=
  keeps_next (by simp +contextual (maxDischargeDepth := 99) only [good_settle, good_envelope, good_atOnce, good_doAtomic, h, implies_true])

theorem keeps_execSwappoolAdd (e : Env) (s : State) (h : Good p s) : Keeps p (execSwappoolAdd e s) :=
  keeps_next (by simp +contextual (maxDischargeDepth := 99) only [good_settle, good_envelope, good_atOnce, good_doSwappoolAdd, h, implies_true])

theorem keeps_execSwappoolRemove (e : Env) (s : State) (h : Good p s) : Keeps p (execSwappoolRemove e s) :=
  keeps_next (by simp +contextual (maxDischargeDepth := 99) only [good_settle, good_envelope, good_atOnce, good_doSwappoolRemove, h, implies_true])

theorem keeps_execNmSubmit (e : Env) (s : State) (h : Good p s) : Keeps p (execNmSubmit e s) :=
  keeps_next (by simp +contextual (maxDischargeDepth := 99) only [good_settle, good_envelope, good_doNmSubmit, h, implies_true])

theorem keeps_execSubmit (e : Env) (s : State) (h : Good p s) : Keeps p (execSubmit e s) :=
  keeps_next (by simp +contextual (maxDischargeDepth := 99) only [good_settle, good_envelope, good_doSubmit, h, implies_true])

theorem keeps_execCancel (e : Env) (s : State) (h : Good p s) : Keeps p (execCancel e s) :=
  keeps_next (by simp +contextual (maxDischargeDepth := 99) only [good_settle, good_envelope, good_atOnce, good_doCancel, h, implies_true])

theorem keeps_execPreempt (e : Env) (s : State) (h : Good p s) : Keeps p (execPreempt e s) :=
  keeps_next (by simp +contextual (maxDischargeDepth := 99) only [good_settle, good_envelope, good_doPreempt, h, implies_true])

theorem keeps_execResume (e : Env) (s : State) (h : Good p s) : Keeps p (execResume e s) :=
  keeps_next (by simp +contextual (maxDischargeDepth := 99) only [good_settle, good_envelope, good_doResume, h, implies_true])

theorem keeps_execFreeze (e : Env) (s : State) (h : Good p s) : Keeps p (execFreeze e s) :=
  keeps_next (by simp +contextual (maxDischargeDepth := 99) only [good_settle, good_envelope, good_atOnce, good_doFreeze, h, implies_true])

theorem keeps_execPrefixHandleCreate (slot : SlotId) (s : State) (h : Good p s) : Keeps p (execPrefixHandleCreate slot s) :=
  keeps_next (by simp +contextual (maxDischargeDepth := 99) only [good_settle, good_createHandle, h, implies_true])

theorem keeps_execRelease (e : Env) (s : State) (h : Good p s) : Keeps p (execRelease e s) :=
  keeps_next (by simp +contextual (maxDischargeDepth := 99) only [good_settle, good_envelope, good_atOnce, good_doRelease, h, implies_true])

theorem keeps_execQuery (e : Env) (s : State) (h : Good p s) : Keeps p (execQuery e s) :=
  keeps_next (by simp +contextual (maxDischargeDepth := 99) only [good_settle, good_envelope, good_atOnce, good_doQuery, h, implies_true])

theorem keeps_execDiscard (e : Env) (s : State) (h : Good p s) : Keeps p (execDiscard e s) :=
  keeps_next (by simp +contextual (maxDischargeDepth := 99) only [good_settle, good_envelope, good_atOnce, good_doDiscard, h, implies_true])

theorem keeps_execBookSet (e : Env) (s : State) (h : Good p s) : Keeps p (execBookSet e s) :=
  keeps_next (by simp +contextual (maxDischargeDepth := 99) only [good_settle, good_envelope, good_atOnce, good_doBookSet, h, implies_true])

theorem keeps_execBookBind (e : Env) (s : State) (h : Good p s) : Keeps p (execBookBind e s) :=
  keeps_next (by simp +contextual (maxDischargeDepth := 99) only [good_settle, good_envelope, good_atOnce, good_doBookBind, h, implies_true])

theorem keeps_execBookUnbind (e : Env) (s : State) (h : Good p s) : Keeps p (execBookUnbind e s) :=
  keeps_next (by simp +contextual (maxDischargeDepth := 99) only [good_settle, good_envelope, good_atOnce, good_doBookUnbind, h, implies_true])

theorem keeps_execSampleCfg (e : Env) (s : State) (h : Good p s) : Keeps p (execSampleCfg e s) :=
  keeps_next (by simp +contextual (maxDischargeDepth := 99) only [good_settle, good_envelope, good_atOnce, good_doSampleCfg, h, implies_true])

theorem keeps_execGrammarLoad (e : Env) (s : State) (h : Good p s) : Keeps p (execGrammarLoad e s) :=
  keeps_next (by simp +contextual (maxDischargeDepth := 99) only [good_settle, good_envelope, good_atOnce, good_doGrammarLoad, h, implies_true])

theorem keeps_execGrammarUnload (e : Env) (s : State) (h : Good p s) : Keeps p (execGrammarUnload e s) :=
  keeps_next (by simp +contextual (maxDischargeDepth := 99) only [good_settle, good_envelope, good_atOnce, good_doGrammarUnload, h, implies_true])

theorem keeps_execRingEnable (e : Env) (s : State) (h : Good p s) : Keeps p (execRingEnable e s) :=
  keeps_next (by simp +contextual (maxDischargeDepth := 99) only [good_settle, good_envelope, good_atOnce, good_doRingEnable, h, implies_true])

theorem keeps_execRingDisable (e : Env) (s : State) (h : Good p s) : Keeps p (execRingDisable e s) :=
  keeps_next (by simp +contextual (maxDischargeDepth := 99) only [good_settle, good_envelope, good_atOnce, good_doRingDisable, h, implies_true])

theorem keeps_execReceiptsEnable (e : Env) (s : State) (h : Good p s) : Keeps p (execReceiptsEnable e s) :=
  keeps_next (by simp +contextual (maxDischargeDepth := 99) only [good_settle, good_envelope, good_atOnce, good_doReceiptsEnable, h, implies_true])

theorem keeps_execReceiptsDisable (e : Env) (s : State) (h : Good p s) : Keeps p (execReceiptsDisable e s) :=
  keeps_next (by simp +contextual (maxDischargeDepth := 99) only [good_settle, good_envelope, good_atOnce, good_doReceiptsDisable, h, implies_true])

theorem keeps_execPowerCap (e : Env) (s : State) (h : Good p s) : Keeps p (execPowerCap e s) :=
  keeps_next (by simp +contextual (maxDischargeDepth := 99) only [good_settle, good_envelope, good_atOnce, good_doPowerCap, h, implies_true])

theorem keeps_execPowerLimit (e : Env) (s : State) (h : Good p s) : Keeps p (execPowerLimit e s) :=
  keeps_next (by simp +contextual (maxDischargeDepth := 99) only [good_settle, good_envelope, good_atOnce, good_doPowerLimit, h, implies_true])

theorem keeps_execThermal (e : Env) (s : State) (h : Good p s) : Keeps p (execThermal e s) :=
  keeps_next (by simp +contextual (maxDischargeDepth := 99) only [good_settle, good_envelope, good_atOnce, good_doThermal, h, implies_true])

theorem keeps_execFabric (e : Env) (s : State) (h : Good p s) : Keeps p (execFabric e s) :=
  keeps_next (by simp +contextual (maxDischargeDepth := 99) only [good_settle, good_envelope, good_atOnce, good_doFabric, h, implies_true])

theorem keeps_execRoundCfg (e : Env) (s : State) (h : Good p s) : Keeps p (execRoundCfg e s) :=
  keeps_next (by simp +contextual (maxDischargeDepth := 99) only [good_settle, good_envelope, good_atOnce, good_doRoundCfg, h, implies_true])

theorem keeps_execJobForm (e : Env) (s : State) (h : Good p s) : Keeps p (execJobForm e s) :=
  keeps_next (by simp +contextual (maxDischargeDepth := 99) only [good_settle, good_envelope, good_atOnce, good_doJobForm, h, implies_true])

theorem keeps_execJobDissolve (e : Env) (s : State) (h : Good p s) : Keeps p (execJobDissolve e s) :=
  keeps_next (by simp +contextual (maxDischargeDepth := 99) only [good_settle, good_envelope, good_atOnce, good_doJobDissolve, h, implies_true])

theorem keeps_execCirc (e : Env) (s : State) (h : Good p s) : Keeps p (execCirc e s) :=
  keeps_next (by simp +contextual (maxDischargeDepth := 99) only [good_settle, good_envelope, good_atOnce, good_doCirc, h, implies_true])

theorem keeps_execTwinPair (e : Env) (s : State) (h : Good p s) : Keeps p (execTwinPair e s) :=
  keeps_next (by simp +contextual (maxDischargeDepth := 99) only [good_settle, good_envelope, good_atOnce, good_doTwinPair, h, implies_true])

theorem keeps_execTwinUnpair (e : Env) (s : State) (h : Good p s) : Keeps p (execTwinUnpair e s) :=
  keeps_next (by simp +contextual (maxDischargeDepth := 99) only [good_settle, good_envelope, good_atOnce, good_doTwinUnpair, h, implies_true])

theorem keeps_execHandover (e : Env) (s : State) (h : Good p s) : Keeps p (execHandover e s) :=
  keeps_next (by simp +contextual (maxDischargeDepth := 99) only [good_settle, good_envelope, good_atOnce, good_doTwinMsg, h, implies_true])

theorem keeps_execDying (e : Env) (s : State) (h : Good p s) : Keeps p (execDying e s) :=
  keeps_next (by simp +contextual (maxDischargeDepth := 99) only [good_settle, good_envelope, good_atOnce, good_doTwinMsg, h, implies_true])

theorem keeps_execLeaseKeyEnrol (e : Env) (s : State) (h : Good p s) : Keeps p (execLeaseKeyEnrol e s) :=
  keeps_next (by simp +contextual (maxDischargeDepth := 99) only [good_settle, good_envelope, good_atOnce, good_doLeaseKeyEnrol, h, implies_true])

theorem keeps_execLeaseKeyClear (e : Env) (s : State) (h : Good p s) : Keeps p (execLeaseKeyClear e s) :=
  keeps_next (by simp +contextual (maxDischargeDepth := 99) only [good_settle, good_envelope, good_atOnce, good_doLeaseKeyClear, h, implies_true])

theorem keeps_execLeaseGrant (e : Env) (s : State) (h : Good p s) : Keeps p (execLeaseGrant e s) :=
  keeps_next (by simp +contextual (maxDischargeDepth := 99) only [good_settle, good_envelope, good_atOnce, good_doLeaseGrant, h, implies_true])

theorem keeps_execLogRead (e : Env) (s : State) (h : Good p s) : Keeps p (execLogRead e s) :=
  keeps_next (by simp +contextual (maxDischargeDepth := 99) only [good_settle, good_envelope, good_atOnce, good_doLogRead, h, implies_true])

theorem keeps_execFwStage (e : Env) (s : State) (h : Good p s) : Keeps p (execFwStage e s) :=
  keeps_next (by simp +contextual (maxDischargeDepth := 99) only [good_settle, good_envelope, good_atOnce, good_doFwStage, h, implies_true])

theorem keeps_execFwActivate (e : Env) (s : State) (h : Good p s) : Keeps p (execFwActivate e s) :=
  keeps_next (by simp +contextual (maxDischargeDepth := 99) only [good_settle, good_envelope, good_atOnce, good_doFwActivate, h, implies_true])

theorem keeps_execGetVersion (req : List Byte) (s : State) (h : Good p s) : Keeps p (execGetVersion req s) :=
  keeps_next (by simp +contextual (maxDischargeDepth := 99) only [good_spdmIf, good_spdmAnswer, good_setSpdm, h, implies_true])

theorem keeps_execGetCapabilities (req : List Byte) (s : State) (h : Good p s) : Keeps p (execGetCapabilities req s) :=
  keeps_next (by simp +contextual (maxDischargeDepth := 99) only [good_spdmIf, good_spdmAnswer, h, implies_true])

theorem keeps_execNegotiateAlgorithms (req : List Byte) (s : State) (h : Good p s) : Keeps p (execNegotiateAlgorithms req s) :=
  keeps_next (by simp +contextual (maxDischargeDepth := 99) only [good_spdmIf, good_spdmAnswer, good_setSpdm, h, implies_true])

theorem keeps_execGetDigests (req : List Byte) (s : State) (h : Good p s) : Keeps p (execGetDigests req s) :=
  keeps_next (by simp +contextual (maxDischargeDepth := 99) only [good_spdmIf, good_spdmAnswer, h, implies_true])

theorem keeps_execGetCertificate (slot : ℕ) (req : List Byte) (s : State) (h : Good p s) : Keeps p (execGetCertificate slot req s) :=
  keeps_next (by simp +contextual (maxDischargeDepth := 99) only [good_spdmIf, good_spdmAnswer, h, implies_true])

theorem keeps_execChallenge (slot : ℕ) (req : List Byte) (s : State) (h : Good p s) : Keeps p (execChallenge slot req s) :=
  keeps_next (by simp +contextual (maxDischargeDepth := 99) only [good_spdmIf, good_spdmAnswer, h, implies_true])

theorem keeps_execGetMeasurements (index : ℕ) (s : State) (h : Good p s) : Keeps p (execGetMeasurements index s) :=
  keeps_next (by simp +contextual (maxDischargeDepth := 99) only [good_spdmIf, good_emit, h, implies_true])

theorem keeps_execKeyExchange (req : List Byte) (s : State) (h : Good p s) : Keeps p (execKeyExchange req s) :=
  keeps_next (by simp +contextual (maxDischargeDepth := 99) only [good_spdmIf, good_spdmAnswer, good_setSpdm, h, implies_true])

theorem keeps_execFinish (session : ℕ) (req : List Byte) (s : State) (h : Good p s) : Keeps p (execFinish session req s) :=
  keeps_next (by simp +contextual (maxDischargeDepth := 99) only [good_spdmIf, good_spdmAnswer, good_setSpdm, good_ite, good_ite_snd, h, implies_true])

theorem keeps_execHeartbeat (session : ℕ) (s : State) (h : Good p s) : Keeps p (execHeartbeat session s) :=
  by
  unfold execHeartbeat
  repeat' split
  all_goals exact keeps_next (by simp +contextual (maxDischargeDepth := 99) only [good_spdmIf, good_spdmAnswer, good_spdmError, h, implies_true])

theorem keeps_execEndSession (session : ℕ) (s : State) (h : Good p s) : Keeps p (execEndSession session s) :=
  by
  unfold execEndSession
  repeat' split
  all_goals exact keeps_next (by simp +contextual (maxDischargeDepth := 99) only [good_spdmIf, good_spdmAnswer, good_setSpdm, good_spdmError, h, implies_true])

end Sys2Proof.Machine
end

