-- ==== Sys2Proof/Laws/Keeps/Rows/FabricRows.lean ====
section
/-!
SUPPORT. Every row of Machine/FabricRows.lean keeps the invariant and the queue.
-/

namespace Sys2Proof.Machine

set_option linter.unusedSimpArgs false

variable {p : List Instr}

theorem keeps_execFabricLinkUp (port : FPortId) (fid : BitVec 10) (serial : BitVec 128) (delay : BitVec 17) (x4 : Bool) (peerReady : Bool) (s : State) (h : Good p s) : Keeps p (execFabricLinkUp port fid serial delay x4 peerReady s) :=
  keeps_next (by simp +contextual (maxDischargeDepth := 99) only [good_settle, good_linkUp, h, implies_true])

theorem keeps_execFabricLaneFail (port : FPortId) (failed : BitVec 8) (s : State) (h : Good p s) : Keeps p (execFabricLaneFail port failed s) :=
  keeps_next (by simp +contextual (maxDischargeDepth := 99) only [good_settle, good_fabricLane, h, implies_true])

theorem keeps_execFabricFlitReplay (port : FPortId) (s : State) (h : Good p s) : Keeps p (execFabricFlitReplay port s) :=
  keeps_next (by simp +contextual (maxDischargeDepth := 99) only [good_fabricReplay, h, implies_true])

theorem keeps_execTransportPacket (port : FPortId) (dst : BitVec 10) (src : BitVec 10) (body : List Byte) (s : State) (h : Good p s) : Keeps p (execTransportPacket port dst src body s) :=
  keeps_next (by simp +contextual (maxDischargeDepth := 99) only [good_packetIn, h, implies_true])

theorem keeps_execTransportAckTimeout (x : AckFor) (s : State) (h : Good p s) : Keeps p (execTransportAckTimeout x s) :=
  keeps_next (by simp +contextual (maxDischargeDepth := 99) only [good_settle, good_ackOverdue, h, implies_true])

theorem keeps_execEthernetFrame (port : FPortId) (len : ℕ) (over_ : Bool) (s : State) (h : Good p s) : Keeps p (execEthernetFrame port len over_ s) :=
  keeps_next (by simp +contextual (maxDischargeDepth := 99) only [good_frameIn, h, implies_true])

theorem keeps_execSlowRequest (j : JobId) (fid : BitVec 10) (cause : Fin 4) (mhz : BitVec 11) (s : State) (h : Good p s) : Keeps p (execSlowRequest j fid cause mhz s) :=
  keeps_next (by simp +contextual (maxDischargeDepth := 99) only [good_slowRequest, h, implies_true])

theorem keeps_execStepdone (j : JobId) (fid : BitVec 10) (s : State) (h : Good p s) : Keeps p (execStepdone j fid s) :=
  keeps_next (by simp +contextual (maxDischargeDepth := 99) only [good_stepDone, h, implies_true])

theorem keeps_execStepHeartbeat (j : JobId) (fid : BitVec 10) (s : State) (h : Good p s) : Keeps p (execStepHeartbeat j fid s) :=
  keeps_next (by simp +contextual (maxDischargeDepth := 99) only [good_heartbeatIn, h, implies_true])

theorem keeps_execSplitDeclare (j : JobId) (s : State) (h : Good p s) : Keeps p (execSplitDeclare j s) :=
  keeps_next (by simp +contextual (maxDischargeDepth := 99) only [good_settle, good_splitDeclared, h, implies_true])

theorem keeps_execLeaseRenewal (j : JobId) (s : State) (h : Good p s) : Keeps p (execLeaseRenewal j s) :=
  keeps_next (by simp +contextual (maxDischargeDepth := 99) only [good_renewLease, h, implies_true])

theorem keeps_execLeaseRelay (g : List Byte) (s : State) (h : Good p s) : Keeps p (execLeaseRelay g s) :=
  keeps_next (by simp +contextual (maxDischargeDepth := 99) only [good_settle, good_leaseRelayed, h, implies_true])

theorem keeps_execLeaseExpiry (j : JobId) (s : State) (h : Good p s) : Keeps p (execLeaseExpiry j s) :=
  keeps_next (by simp +contextual (maxDischargeDepth := 99) only [good_leaseExpired, h, implies_true])

theorem keeps_execSplitHoldTimeout (j : JobId) (s : State) (h : Good p s) : Keeps p (execSplitHoldTimeout j s) :=
  keeps_next (by simp +contextual (maxDischargeDepth := 99) only [good_settle, good_holdTimedOut, h, implies_true])

theorem keeps_execSubmitCopy (d : DistrictId) (id : Word64) (spec : List Byte) (ctl : List Byte) (s : State) (h : Good p s) : Keeps p (execSubmitCopy d id spec ctl s) :=
  keeps_next (by simp +contextual (maxDischargeDepth := 99) only [good_settle, good_submitCopy, h, implies_true])

theorem keeps_execDrawCopy (id : Word64) (m : DrawMsg) (s : State) (h : Good p s) : Keeps p (execDrawCopy id m s) :=
  keeps_next (by simp +contextual (maxDischargeDepth := 99) only [good_drawCopied, h, implies_true])

theorem keeps_execDrawCopyAck (slot : SlotId) (s : State) (h : Good p s) : Keeps p (execDrawCopyAck slot s) :=
  keeps_next (by simp +contextual (maxDischargeDepth := 99) only [good_settle, good_drawReleased, h, implies_true])

theorem keeps_execDrawWaitTimeout (slot : SlotId) (s : State) (h : Good p s) : Keeps p (execDrawWaitTimeout slot s) :=
  keeps_next (by simp +contextual (maxDischargeDepth := 99) only [good_settle, good_drawReleased, h, implies_true])

theorem keeps_execStepCopy (id : Word64) (m : StepCopy) (s : State) (h : Good p s) : Keeps p (execStepCopy id m s) :=
  keeps_next (by simp +contextual (maxDischargeDepth := 99) only [good_settle, good_stepCopied, h, implies_true])

theorem keeps_execSealCopy (id : Word64) (round : BitVec 48) (s : State) (h : Good p s) : Keeps p (execSealCopy id round s) :=
  keeps_next (by simp +contextual (maxDischargeDepth := 99) only [good_settle, good_sealCopied, h, implies_true])

theorem keeps_execFreezeCopy (id : Word64) (y1 : BitVec 12) (t : ℕ) (s : State) (h : Good p s) : Keeps p (execFreezeCopy id y1 t s) :=
  keeps_next (by simp +contextual (maxDischargeDepth := 99) only [good_settle, good_freezeCopied, h, implies_true])

theorem keeps_execEndCopy (id : Word64) (s : State) (h : Good p s) : Keeps p (execEndCopy id s) :=
  keeps_next (by simp +contextual (maxDischargeDepth := 99) only [good_settle, good_endCopied, h, implies_true])

theorem keeps_execTwinResync (slot : SlotId) (s : State) (h : Good p s) : Keeps p (execTwinResync slot s) :=
  keeps_next (by simp +contextual (maxDischargeDepth := 99) only [good_resyncStream, h, implies_true])

theorem keeps_execDeviceLeaseExpiry (s : State) (h : Good p s) : Keeps p (execDeviceLeaseExpiry s) :=
  keeps_next (by simp +contextual (maxDischargeDepth := 99) only [good_settle, good_deviceLeaseExpired, h, implies_true])

theorem keeps_execFailoverActivate (lapsed : List ℕ) (s : State) (h : Good p s) : Keeps p (execFailoverActivate lapsed s) :=
  keeps_next (by simp +contextual (maxDischargeDepth := 99) only [good_settle, good_startWaiting, good_activateFailover, h, implies_true])

theorem keeps_execCircBlockSend (j : JobId) (own : Option ChainId) (con : Option CircSem) (s : State) (h : Good p s) : Keeps p (execCircBlockSend j own con s) :=
  keeps_next (by simp +contextual (maxDischargeDepth := 99) only [good_circSend, h, implies_true])

theorem keeps_execCircBlockReceived (j : JobId) (b : CircBlock) (sig : CircSem) (s : State) (h : Good p s) : Keeps p (execCircBlockReceived j b sig s) :=
  keeps_next (by simp +contextual (maxDischargeDepth := 99) only [good_settle, good_circReceived, h, implies_true])

theorem keeps_execCircQueryReceived (j : JobId) (stream : Word64) (pos : ℕ) (q : List Byte) (own : Partial) (s : State) (h : Good p s) : Keeps p (execCircQueryReceived j stream pos q own s) :=
  keeps_next (by simp +contextual (maxDischargeDepth := 99) only [good_queryReceived, h, implies_true])

theorem keeps_execPartialStateReceived (j : JobId) (y1 : Partial) (own : Partial) (s : State) (h : Good p s) : Keeps p (execPartialStateReceived j y1 own s) :=
  keeps_next (by simp +contextual (maxDischargeDepth := 99) only [good_partialReceived, h, implies_true])

end Sys2Proof.Machine
end

