-- ==== Sys2Proof/Laws/Keeps/Rows/Letters.lean ====
section
/-!
SUPPORT. Every row of Machine/Letters.lean keeps the invariant and the queue.
-/

namespace Sys2Proof.Machine

set_option linter.unusedSimpArgs false

variable {p : List Instr}

theorem keeps_execNop (g : CoreId) (w : BitVec 56) (s : State) (h : Good p s) : Keeps p (execNop g w s) :=
  keeps_next (by simp +contextual (maxDischargeDepth := 99) only [good_issue, good_xNop, h, implies_true])

theorem keeps_execHalt (g : CoreId) (w : BitVec 56) (s : State) (h : Good p s) : Keeps p (execHalt g w s) :=
  keeps_next (by simp +contextual (maxDischargeDepth := 99) only [good_settle, good_issue, good_xHalt, h, implies_true])

theorem keeps_execDmax (g : CoreId) (w : BitVec 56) (s : State) (h : Good p s) : Keeps p (execDmax g w s) :=
  keeps_next (by simp +contextual (maxDischargeDepth := 99) only [good_issue, good_xDmax, h, implies_true])

theorem keeps_execDwait (g : CoreId) (w : BitVec 56) (s : State) (h : Good p s) : Keeps p (execDwait g w s) :=
  keeps_next (by simp +contextual (maxDischargeDepth := 99) only [good_issue, good_xDwait, h, implies_true])

theorem keeps_execSig (g : CoreId) (w : BitVec 56) (s : State) (h : Good p s) : Keeps p (execSig g w s) :=
  keeps_next (by simp +contextual (maxDischargeDepth := 99) only [good_settle, good_issue, good_xSig, h, implies_true])

theorem keeps_execSwait (g : CoreId) (w : BitVec 56) (s : State) (h : Good p s) : Keeps p (execSwait g w s) :=
  keeps_next (by simp +contextual (maxDischargeDepth := 99) only [good_issue, good_xSwait, h, implies_true])

theorem keeps_execBar (g : CoreId) (w : BitVec 56) (s : State) (h : Good p s) : Keeps p (execBar g w s) :=
  keeps_next (by simp +contextual (maxDischargeDepth := 99) only [good_settle, good_issue, good_xBar, h, implies_true])

theorem keeps_execLoop (g : CoreId) (w : BitVec 56) (s : State) (h : Good p s) : Keeps p (execLoop g w s) :=
  keeps_next (by simp +contextual (maxDischargeDepth := 99) only [good_issue, good_xLoop, h, implies_true])

theorem keeps_execLoopi (g : CoreId) (w : BitVec 56) (s : State) (h : Good p s) : Keeps p (execLoopi g w s) :=
  keeps_next (by simp +contextual (maxDischargeDepth := 99) only [good_issue, good_xLoopi, h, implies_true])

theorem keeps_execBr (g : CoreId) (w : BitVec 56) (s : State) (h : Good p s) : Keeps p (execBr g w s) :=
  keeps_next (by simp +contextual (maxDischargeDepth := 99) only [good_issue, good_xBr, h, implies_true])

theorem keeps_execNotice (g : CoreId) (w : BitVec 56) (s : State) (h : Good p s) : Keeps p (execNotice g w s) :=
  keeps_next (by simp +contextual (maxDischargeDepth := 99) only [good_issue, good_xNotice, h, implies_true])

theorem keeps_execRwait (g : CoreId) (w : BitVec 56) (s : State) (h : Good p s) : Keeps p (execRwait g w s) :=
  keeps_next (by simp +contextual (maxDischargeDepth := 99) only [good_issue, good_xRwait, h, implies_true])

theorem keeps_execMload (g : CoreId) (w : BitVec 56) (s : State) (h : Good p s) : Keeps p (execMload g w s) :=
  keeps_next (by simp +contextual (maxDischargeDepth := 99) only [good_issue, good_issueMatrix, h, implies_true])

theorem keeps_execMstream (g : CoreId) (w : BitVec 56) (s : State) (h : Good p s) : Keeps p (execMstream g w s) :=
  keeps_next (by simp +contextual (maxDischargeDepth := 99) only [good_issue, good_issueMatrix, h, implies_true])

theorem keeps_execMacc (g : CoreId) (w : BitVec 56) (s : State) (h : Good p s) : Keeps p (execMacc g w s) :=
  keeps_next (by simp +contextual (maxDischargeDepth := 99) only [good_issue, good_issueMatrix, h, implies_true])

theorem keeps_execMdrain (g : CoreId) (w : BitVec 56) (s : State) (h : Good p s) : Keeps p (execMdrain g w s) :=
  keeps_next (by simp +contextual (maxDischargeDepth := 99) only [good_issue, good_issueMatrix, h, implies_true])

theorem keeps_execMclear (g : CoreId) (w : BitVec 56) (s : State) (h : Good p s) : Keeps p (execMclear g w s) :=
  keeps_next (by simp +contextual (maxDischargeDepth := 99) only [good_issue, good_issueMatrix, h, implies_true])

theorem keeps_execVcfg (g : CoreId) (w : BitVec 56) (s : State) (h : Good p s) : Keeps p (execVcfg g w s) :=
  keeps_next (by simp +contextual (maxDischargeDepth := 99) only [good_issue, good_issueVcfg, h, implies_true])

theorem keeps_execVadd (g : CoreId) (w : BitVec 56) (s : State) (h : Good p s) : Keeps p (execVadd g w s) :=
  keeps_next (by simp +contextual (maxDischargeDepth := 99) only [good_issue, good_issueVector, h, implies_true])

theorem keeps_execVsub (g : CoreId) (w : BitVec 56) (s : State) (h : Good p s) : Keeps p (execVsub g w s) :=
  keeps_next (by simp +contextual (maxDischargeDepth := 99) only [good_issue, good_issueVector, h, implies_true])

theorem keeps_execVmul (g : CoreId) (w : BitVec 56) (s : State) (h : Good p s) : Keeps p (execVmul g w s) :=
  keeps_next (by simp +contextual (maxDischargeDepth := 99) only [good_issue, good_issueVector, h, implies_true])

theorem keeps_execVfma (g : CoreId) (w : BitVec 56) (s : State) (h : Good p s) : Keeps p (execVfma g w s) :=
  keeps_next (by simp +contextual (maxDischargeDepth := 99) only [good_issue, good_issueVector, h, implies_true])

theorem keeps_execVmax (g : CoreId) (w : BitVec 56) (s : State) (h : Good p s) : Keeps p (execVmax g w s) :=
  keeps_next (by simp +contextual (maxDischargeDepth := 99) only [good_issue, good_issueVector, h, implies_true])

theorem keeps_execVmin (g : CoreId) (w : BitVec 56) (s : State) (h : Good p s) : Keeps p (execVmin g w s) :=
  keeps_next (by simp +contextual (maxDischargeDepth := 99) only [good_issue, good_issueVector, h, implies_true])

theorem keeps_execVcvt (g : CoreId) (w : BitVec 56) (s : State) (h : Good p s) : Keeps p (execVcvt g w s) :=
  keeps_next (by simp +contextual (maxDischargeDepth := 99) only [good_issue, good_issueVector, h, implies_true])

theorem keeps_execVaddb (g : CoreId) (w : BitVec 56) (s : State) (h : Good p s) : Keeps p (execVaddb g w s) :=
  keeps_next (by simp +contextual (maxDischargeDepth := 99) only [good_issue, good_issueVector, h, implies_true])

theorem keeps_execVmulb (g : CoreId) (w : BitVec 56) (s : State) (h : Good p s) : Keeps p (execVmulb g w s) :=
  keeps_next (by simp +contextual (maxDischargeDepth := 99) only [good_issue, good_issueVector, h, implies_true])

theorem keeps_execVtrow (g : CoreId) (w : BitVec 56) (s : State) (h : Good p s) : Keeps p (execVtrow g w s) :=
  keeps_next (by simp +contextual (maxDischargeDepth := 99) only [good_issue, good_issueVector, h, implies_true])

theorem keeps_execVexp (g : CoreId) (w : BitVec 56) (s : State) (h : Good p s) : Keeps p (execVexp g w s) :=
  keeps_next (by simp +contextual (maxDischargeDepth := 99) only [good_issue, good_issueVector, h, implies_true])

theorem keeps_execVlog (g : CoreId) (w : BitVec 56) (s : State) (h : Good p s) : Keeps p (execVlog g w s) :=
  keeps_next (by simp +contextual (maxDischargeDepth := 99) only [good_issue, good_issueVector, h, implies_true])

theorem keeps_execVrcp (g : CoreId) (w : BitVec 56) (s : State) (h : Good p s) : Keeps p (execVrcp g w s) :=
  keeps_next (by simp +contextual (maxDischargeDepth := 99) only [good_issue, good_issueVector, h, implies_true])

theorem keeps_execVrsq (g : CoreId) (w : BitVec 56) (s : State) (h : Good p s) : Keeps p (execVrsq g w s) :=
  keeps_next (by simp +contextual (maxDischargeDepth := 99) only [good_issue, good_issueVector, h, implies_true])

theorem keeps_execVtanh (g : CoreId) (w : BitVec 56) (s : State) (h : Good p s) : Keeps p (execVtanh g w s) :=
  keeps_next (by simp +contextual (maxDischargeDepth := 99) only [good_issue, good_issueVector, h, implies_true])

theorem keeps_execVsigm (g : CoreId) (w : BitVec 56) (s : State) (h : Good p s) : Keeps p (execVsigm g w s) :=
  keeps_next (by simp +contextual (maxDischargeDepth := 99) only [good_issue, good_issueVector, h, implies_true])

theorem keeps_execVrsum (g : CoreId) (w : BitVec 56) (s : State) (h : Good p s) : Keeps p (execVrsum g w s) :=
  keeps_next (by simp +contextual (maxDischargeDepth := 99) only [good_issue, good_issueVector, h, implies_true])

theorem keeps_execVrmax (g : CoreId) (w : BitVec 56) (s : State) (h : Good p s) : Keeps p (execVrmax g w s) :=
  keeps_next (by simp +contextual (maxDischargeDepth := 99) only [good_issue, good_issueVector, h, implies_true])

theorem keeps_execVrmin (g : CoreId) (w : BitVec 56) (s : State) (h : Good p s) : Keeps p (execVrmin g w s) :=
  keeps_next (by simp +contextual (maxDischargeDepth := 99) only [good_issue, good_issueVector, h, implies_true])

theorem keeps_execVrssq (g : CoreId) (w : BitVec 56) (s : State) (h : Good p s) : Keeps p (execVrssq g w s) :=
  keeps_next (by simp +contextual (maxDischargeDepth := 99) only [good_issue, good_issueVector, h, implies_true])

theorem keeps_execVsmax (g : CoreId) (w : BitVec 56) (s : State) (h : Good p s) : Keeps p (execVsmax g w s) :=
  keeps_next (by simp +contextual (maxDischargeDepth := 99) only [good_issue, good_issueVector, h, implies_true])

theorem keeps_execVsexp (g : CoreId) (w : BitVec 56) (s : State) (h : Good p s) : Keeps p (execVsexp g w s) :=
  keeps_next (by simp +contextual (maxDischargeDepth := 99) only [good_issue, good_issueVector, h, implies_true])

theorem keeps_execVrope (g : CoreId) (w : BitVec 56) (s : State) (h : Good p s) : Keeps p (execVrope g w s) :=
  keeps_next (by simp +contextual (maxDischargeDepth := 99) only [good_issue, good_issueVector, h, implies_true])

theorem keeps_execVkvq (g : CoreId) (w : BitVec 56) (s : State) (h : Good p s) : Keeps p (execVkvq g w s) :=
  keeps_next (by simp +contextual (maxDischargeDepth := 99) only [good_issue, good_issueVector, h, implies_true])

theorem keeps_execVapnd (g : CoreId) (w : BitVec 56) (s : State) (h : Good p s) : Keeps p (execVapnd g w s) :=
  keeps_next (by simp +contextual (maxDischargeDepth := 99) only [good_issue, good_issueVector, h, implies_true])

theorem keeps_execTileDeadlock (g : CoreId) (s : State) (h : Good p s) : Keeps p (execTileDeadlock g s) :=
  keeps_next (by simp +contextual (maxDischargeDepth := 99) only [good_tileDeadlock, h, implies_true])

theorem keeps_execDmaComplete (g : CoreId) (ch : ChanId) (s : State) (h : Good p s) : Keeps p (execDmaComplete g ch s) :=
  keeps_next (by simp +contextual (maxDischargeDepth := 99) only [good_settle, good_completeDma, h, implies_true])

theorem keeps_execDmaHalt (g : CoreId) (ch : ChanId) (code : Fin 64) (n : ℕ) (s : State) (h : Good p s) : Keeps p (execDmaHalt g ch code n s) :=
  keeps_next (by simp +contextual (maxDischargeDepth := 99) only [good_settle, good_haltDma, h, implies_true])

theorem keeps_execSignalArrival (src : ℕ) (dst : CoreId) (s : State) (h : Good p s) : Keeps p (execSignalArrival src dst s) :=
  keeps_next (by simp +contextual (maxDischargeDepth := 99) only [good_deliverSignal, h, implies_true])

theorem keeps_execBarrierRelease (g : CoreId) (s : State) (h : Good p s) : Keeps p (execBarrierRelease g s) :=
  keeps_next (by simp +contextual (maxDischargeDepth := 99) only [good_releaseBarrier, h, implies_true])

theorem keeps_execStepRelease (g : CoreId) (s : State) (h : Good p s) : Keeps p (execStepRelease g s) :=
  keeps_next (by simp +contextual (maxDischargeDepth := 99) only [good_releaseStep, h, implies_true])

theorem keeps_execRoundWaitRelease (g : CoreId) (s : State) (h : Good p s) : Keeps p (execRoundWaitRelease g s) :=
  keeps_next (by simp +contextual (maxDischargeDepth := 99) only [good_releaseRound, h, implies_true])

theorem keeps_execCoreCtrlGo (g : CoreId) (s : State) (h : Good p s) : Keeps p (execCoreCtrlGo g s) :=
  keeps_next (by simp +contextual (maxDischargeDepth := 99) only [good_coreWrite, good_goCore, h, implies_true])

theorem keeps_execCoreCtrlStop (g : CoreId) (s : State) (h : Good p s) : Keeps p (execCoreCtrlStop g s) :=
  keeps_next (by simp +contextual (maxDischargeDepth := 99) only [good_settle, good_coreWrite, good_stopCore, h, implies_true])

theorem keeps_execSrSeedWrite (g : CoreId) (v : Word64) (s : State) (h : Good p s) : Keeps p (execSrSeedWrite g v s) :=
  keeps_next (by simp +contextual (maxDischargeDepth := 99) only [good_blockWrite, good_holdSr, h, implies_true])

theorem keeps_execSrCtrWrite (g : CoreId) (v : Word64) (s : State) (h : Good p s) : Keeps p (execSrCtrWrite g v s) :=
  keeps_next (by simp +contextual (maxDischargeDepth := 99) only [good_blockWrite, good_holdSr, h, implies_true])

theorem keeps_execSrWriteEffect (g : CoreId) (s : State) (h : Good p s) : Keeps p (execSrWriteEffect g s) :=
  keeps_next (by simp +contextual (maxDischargeDepth := 99) only [good_applySr, h, implies_true])

end Sys2Proof.Machine
end

