-- ==== Sys2Proof/Laws/Keeps/Rows/PowerRows.lean ====
section
/-!
SUPPORT. Every row of Machine/PowerRows.lean keeps the invariant and the queue.
-/

namespace Sys2Proof.Machine

set_option linter.unusedSimpArgs false

variable {p : List Instr}

theorem keeps_execInputFault (high : Bool) (s : State) (h : Good p s) : Keeps p (execInputFault high s) :=
  keeps_next (by simp +contextual (maxDischargeDepth := 99) only [good_settle, good_inputFault, h, implies_true])

theorem keeps_execCapDivision (s : State) (h : Good p s) : Keeps p (execCapDivision s) :=
  keeps_next (by simp +contextual (maxDischargeDepth := 99) only [good_settle, good_divideCap, h, implies_true])

theorem keeps_execAllotmentRequest (ws : List ℕ) (s : State) (h : Good p s) : Keeps p (execAllotmentRequest ws s) :=
  keeps_next (by simp +contextual (maxDischargeDepth := 99) only [good_settle, good_requestAllotments, h, implies_true])

theorem keeps_execControlWindowEnd (s : State) (h : Good p s) : Keeps p (execControlWindowEnd s) :=
  keeps_next (by simp +contextual (maxDischargeDepth := 99) only [good_settle, good_windowEnd, h, implies_true])

theorem keeps_execGatedSlice (k : SiteId) (on : Bool) (s : State) (h : Good p s) : Keeps p (execGatedSlice k on s) :=
  keeps_next (by simp +contextual (maxDischargeDepth := 99) only [good_settle, good_gateSlice, h, implies_true])

theorem keeps_execVoltageDroop (k : ClusterId) (mv : ℕ) (s : State) (h : Good p s) : Keeps p (execVoltageDroop k mv s) :=
  keeps_next (by simp +contextual (maxDischargeDepth := 99) only [good_settle, good_voltageSensed, h, implies_true])

theorem keeps_execRegulatorNotice (k : ClusterId) (s : State) (h : Good p s) : Keeps p (execRegulatorNotice k s) :=
  keeps_next (by simp +contextual (maxDischargeDepth := 99) only [good_noticeArrives, h, implies_true])

theorem keeps_execMeterSample (m : Meter) (mv : ℕ) (ma : ℕ) (s : State) (h : Good p s) : Keeps p (execMeterSample m mv ma s) :=
  keeps_next (by simp +contextual (maxDischargeDepth := 99) only [good_meterSample, h, implies_true])

theorem keeps_execDiodeConversion (k : SiteId) (n : Fin 15) (x : Option ℤ) (s : State) (h : Good p s) : Keeps p (execDiodeConversion k n x s) :=
  keeps_next (by simp +contextual (maxDischargeDepth := 99) only [good_settle, good_diodeConverted, h, implies_true])

theorem keeps_execThermalModelUpdate (cl : ClusterId) (words : ℕ) (activity : ℕ) (s : State) (h : Good p s) : Keeps p (execThermalModelUpdate cl words activity s) :=
  keeps_next (by simp +contextual (maxDischargeDepth := 99) only [good_modelUpdate, h, implies_true])

theorem keeps_execDieTrip (k : SiteId) (n : Fin 15) (s : State) (h : Good p s) : Keeps p (execDieTrip k n s) :=
  keeps_next (by simp +contextual (maxDischargeDepth := 99) only [good_settle, good_dieTrip, h, implies_true])

theorem keeps_execCoolantRead (x : Option Coolant) (s : State) (h : Good p s) : Keeps p (execCoolantRead x s) :=
  keeps_next (by simp +contextual (maxDischargeDepth := 99) only [good_settle, good_coolantRead, h, implies_true])

theorem keeps_execCoolantReadRetry (x : Option Coolant) (s : State) (h : Good p s) : Keeps p (execCoolantReadRetry x s) :=
  keeps_next (by simp +contextual (maxDischargeDepth := 99) only [good_settle, good_coolantRead, h, implies_true])

theorem keeps_execSensorLost (s : State) (h : Good p s) : Keeps p (execSensorLost s) :=
  keeps_next (by simp +contextual (maxDischargeDepth := 99) only [good_settle, good_sensorLost, h, implies_true])

theorem keeps_execStopSequence (s : State) (h : Good p s) : Keeps p (execStopSequence s) :=
  keeps_next (by simp +contextual (maxDischargeDepth := 99) only [good_settle, good_stopSequence, h, implies_true])

theorem keeps_execPwrEnFall (s : State) (h : Good p s) : Keeps p (execPwrEnFall s) :=
  keeps_next (by simp +contextual (maxDischargeDepth := 99) only [good_settle, good_pwrEnFall, h, implies_true])

theorem keeps_execHeavyPhaseEnd (k : ClusterId) (s : State) (h : Good p s) : Keeps p (execHeavyPhaseEnd k s) :=
  keeps_next (by simp +contextual (maxDischargeDepth := 99) only [good_phaseEnds, h, implies_true])

end Sys2Proof.Machine
end

