-- ==== Sys2Proof/Laws/Keeps/Rows/Registers.lean ====
section
/-!
SUPPORT. Every row of Machine/Registers.lean keeps the invariant and the queue.
-/

namespace Sys2Proof.Machine

set_option linter.unusedSimpArgs false

variable {p : List Instr}

theorem keeps_execNmeAbort (e : ClusterId) (s : State) (h : Good p s) : Keeps p (execNmeAbort e s) :=
  keeps_next (by simp +contextual (maxDischargeDepth := 99) only [good_settle, good_blockWrite, good_nmAbort, h, implies_true])

theorem keeps_execFlipArm (v : CoreId) (ctrl : BitVec 6) (s : State) (h : Good p s) : Keeps p (execFlipArm v ctrl s) :=
  keeps_next (by simp +contextual (maxDischargeDepth := 99) only [good_blockWrite, good_wr, good_flag, h, implies_true])

theorem keeps_execMboxSend (m : MBoxId) (s : State) (h : Good p s) : Keeps p (execMboxSend m s) :=
  keeps_next (by simp +contextual (maxDischargeDepth := 99) only [good_mboxCommit, h, implies_true])

theorem keeps_execMboxAck (m : MBoxId) (seq : BitVec 8) (s : State) (h : Good p s) : Keeps p (execMboxAck m seq s) :=
  keeps_next (by simp +contextual (maxDischargeDepth := 99) only [good_mboxAck, h, implies_true])

theorem keeps_execMboxWithdraw (m : MBoxId) (s : State) (h : Good p s) : Keeps p (execMboxWithdraw m s) :=
  keeps_next (by simp +contextual (maxDischargeDepth := 99) only [good_mboxWithdraw, h, implies_true])

theorem keeps_execMailboxTimeout (m : MBoxId) (s : State) (h : Good p s) : Keeps p (execMailboxTimeout m s) :=
  keeps_next (by simp +contextual (maxDischargeDepth := 99) only [good_mboxTimeout, h, implies_true])

theorem keeps_execMailboxMessage (m : MBoxId) (input : List Byte) (outFault : Bool) (found : List BadUnit) (extOk : Bool) (s : State) (h : Good p s) : Keeps p (execMailboxMessage m input outFault found extOk s) :=
  keeps_next (by simp +contextual (maxDischargeDepth := 99) only [good_settle, good_mboxTake, h, implies_true])

theorem keeps_execEringDoorbell (n : ERingId) (v : BitVec 17) (s : State) (h : Good p s) : Keeps p (execEringDoorbell n v s) :=
  keeps_next (by simp +contextual (maxDischargeDepth := 99) only [good_doorbell, h, implies_true])

theorem keeps_execEnvelopeFetch (n : ERingId) (raw : List Byte) (bad : Bool) (s : State) (h : Good p s) : Keeps p (execEnvelopeFetch n raw bad s) :=
  keeps_next (by simp +contextual (maxDischargeDepth := 99) only [good_fetchSlot, h, implies_true])

theorem keeps_execEringDisable (n : ERingId) (s : State) (h : Good p s) : Keeps p (execEringDisable n s) :=
  keeps_next (by simp +contextual (maxDischargeDepth := 99) only [good_ringEnable, h, implies_true])

theorem keeps_execFunctionReset (port : HPortId) (func : FuncId) (s : State) (h : Good p s) : Keeps p (execFunctionReset port func s) :=
  keeps_next (by simp +contextual (maxDischargeDepth := 99) only [good_settle, good_functionReset, h, implies_true])

theorem keeps_execDringCons (r : DRingId) (v : BitVec 21) (s : State) (h : Good p s) : Keeps p (execDringCons r v s) :=
  keeps_next (by simp +contextual (maxDischargeDepth := 99) only [good_dringCons, h, implies_true])

theorem keeps_execRringCons (r : RRingId) (v : BitVec 17) (s : State) (h : Good p s) : Keeps p (execRringCons r v s) :=
  keeps_next (by simp +contextual (maxDischargeDepth := 99) only [good_rringCons, h, implies_true])

theorem keeps_execEringRcons (n : ERingId) (v : BitVec 17) (s : State) (h : Good p s) : Keeps p (execEringRcons n v s) :=
  keeps_next (by simp +contextual (maxDischargeDepth := 99) only [good_eringCons, h, implies_true])

theorem keeps_execVminClr (k : ClusterId) (s : State) (h : Good p s) : Keeps p (execVminClr k s) :=
  keeps_next (by simp +contextual (maxDischargeDepth := 99) only [good_restartVmin, h, implies_true])

theorem keeps_execDlqPop (s : State) (h : Good p s) : Keeps p (execDlqPop s) :=
  keeps_next (by simp +contextual (maxDischargeDepth := 99) only [good_dlqPop, h, implies_true])

theorem keeps_execNmsiteLock (site : SiteId) (s : State) (h : Good p s) : Keeps p (execNmsiteLock site s) :=
  keeps_next (by simp +contextual (maxDischargeDepth := 99) only [good_lockSite, h, implies_true])

theorem keeps_execRegisterWrite (port : HPortId) (func : FuncId) (off : BitVec 28) (data : List Byte) (s : State) (h : Good p s) : Keeps p (execRegisterWrite port func off data s) :=
  keeps_next (by simp +contextual (maxDischargeDepth := 99) only [good_settle, good_registerWrite, h, implies_true])

theorem keeps_execPostedWriteEffect (off : BitVec 28) (s : State) (h : Good p s) : Keeps p (execPostedWriteEffect off s) :=
  by
  unfold execPostedWriteEffect
  repeat' split
  all_goals exact keeps_next (by simp +contextual (maxDischargeDepth := 99) only [good_settle, good_postedEffect, h, implies_true])

theorem keeps_execTvScanWindow (upset : List (ℕ × ℕ)) (s : State) (h : Good p s) : Keeps p (execTvScanWindow upset s) :=
  keeps_next (by simp +contextual (maxDischargeDepth := 99) only [good_tvScan, h, implies_true])

theorem keeps_execTvRestore (off : BitVec 28) (s : State) (h : Good p s) : Keeps p (execTvRestore off s) :=
  keeps_next (by simp +contextual (maxDischargeDepth := 99) only [good_settle, good_tvRestore, h, implies_true])

end Sys2Proof.Machine
end

