-- ==== Sys2Proof/Laws/Keeps/Rows/Service.lean ====
section
/-!
SUPPORT. Every row of Machine/Service.lean keeps the invariant and the queue.
-/

namespace Sys2Proof.Machine

set_option linter.unusedSimpArgs false

variable {p : List Instr}

theorem keeps_execRoundBoundary (s : State) (h : Good p s) : Keeps p (execRoundBoundary s) :=
  keeps_next (by simp +contextual (maxDischargeDepth := 99) only [good_settle, good_boundary, h, implies_true])

theorem keeps_execMarkerReceived (port : FPortId) (m : Marker) (fwd : ℕ) (s : State) (h : Good p s) : Keeps p (execMarkerReceived port m fwd s) :=
  keeps_next (by simp +contextual (maxDischargeDepth := 99) only [good_settle, good_arriveMarker, h, implies_true])

theorem keeps_execFlywheelOpen (s : State) (h : Good p s) : Keeps p (execFlywheelOpen s) :=
  keeps_next (by simp +contextual (maxDischargeDepth := 99) only [good_settle, good_flywheel, h, implies_true])

theorem keeps_execStandbyTakeover (s : State) (h : Good p s) : Keeps p (execStandbyTakeover s) :=
  keeps_next (by simp +contextual (maxDischargeDepth := 99) only [good_standbyTakeover, h, implies_true])

theorem keeps_execBeatLoss (s : State) (h : Good p s) : Keeps p (execBeatLoss s) :=
  keeps_next (by simp +contextual (maxDischargeDepth := 99) only [good_beatLoss, h, implies_true])

theorem keeps_execBookRefill (b : BookId) (s : State) (h : Good p s) : Keeps p (execBookRefill b s) :=
  keeps_next (by simp +contextual (maxDischargeDepth := 99) only [good_bookRefill, h, implies_true])

theorem keeps_execBookParamEffect (b : BookId) (s : State) (h : Good p s) : Keeps p (execBookParamEffect b s) :=
  keeps_next (by simp +contextual (maxDischargeDepth := 99) only [good_bookTakes, h, implies_true])

theorem keeps_execColourFlip (s : State) (h : Good p s) : Keeps p (execColourFlip s) :=
  keeps_next (by simp +contextual (maxDischargeDepth := 99) only [good_colourFlip, h, implies_true])

theorem keeps_execStepStartPoint (d : DistrictId) (s : State) (h : Good p s) : Keeps p (execStepStartPoint d s) :=
  keeps_next (by simp +contextual (maxDischargeDepth := 99) only [good_settle, good_stepPoint, h, implies_true])

theorem keeps_execStagingDeferPreempt (slot : SlotId) (s : State) (h : Good p s) : Keeps p (execStagingDeferPreempt slot s) :=
  keeps_next (by simp +contextual (maxDischargeDepth := 99) only [good_settle, good_stagingPreempt, h, implies_true])

theorem keeps_execStepComplete (d : DistrictId) (s : State) (h : Good p s) : Keeps p (execStepComplete d s) :=
  keeps_next (by simp +contextual (maxDischargeDepth := 99) only [good_settle, good_completeStep, h, implies_true])

theorem keeps_execSamplingTrigger (d : DistrictId) (shard : ℕ) (s : State) (h : Good p s) : Keeps p (execSamplingTrigger d shard s) :=
  keeps_next (by simp +contextual (maxDischargeDepth := 99) only [good_settle, good_samplingTrigger, h, implies_true])

theorem keeps_execTokenDraw (slot : SlotId) (s : State) (h : Good p s) : Keeps p (execTokenDraw slot s) :=
  keeps_next (by simp +contextual (maxDischargeDepth := 99) only [good_settle, good_tokenDraw, h, implies_true])

theorem keeps_execStreamEnd (slot : SlotId) (s : State) (h : Good p s) : Keeps p (execStreamEnd slot s) :=
  keeps_next (by simp +contextual (maxDischargeDepth := 99) only [good_settle, good_finishEnd, h, implies_true])

theorem keeps_execReceiptPost (r : RRingId) (s : State) (h : Good p s) : Keeps p (execReceiptPost r s) :=
  keeps_next (by simp +contextual (maxDischargeDepth := 99) only [good_postReceipt, h, implies_true])

theorem keeps_execStatementIssue (s : State) (h : Good p s) : Keeps p (execStatementIssue s) :=
  keeps_next (by simp +contextual (maxDischargeDepth := 99) only [good_issueStatement, h, implies_true])

theorem keeps_execKvAppend (site : SiteId) (s : State) (h : Good p s) : Keeps p (execKvAppend site s) :=
  keeps_next (by simp +contextual (maxDischargeDepth := 99) only [good_settle, good_wakeSite, good_headAppend, h, implies_true])

theorem keeps_execChainPageOpen (slot : SlotId) (chain : ℕ) (page : ℕ) (s : State) (h : Good p s) : Keeps p (execChainPageOpen slot chain page s) :=
  keeps_next (by simp +contextual (maxDischargeDepth := 99) only [good_settle, good_finishOpen, h, implies_true])

theorem keeps_execChainOpenFailure (site : SiteId) (s : State) (h : Good p s) : Keeps p (execChainOpenFailure site s) :=
  keeps_next (by simp +contextual (maxDischargeDepth := 99) only [good_settle, good_wakeSite, good_failAppend, h, implies_true])

theorem keeps_execLookaheadPass (d : DistrictId) (s : State) (h : Good p s) : Keeps p (execLookaheadPass d s) :=
  keeps_next (by simp +contextual (maxDischargeDepth := 99) only [good_settle, good_lookPass, h, implies_true])

theorem keeps_execSpillStart (site : SiteId) (s : State) (h : Good p s) : Keeps p (execSpillStart site s) :=
  keeps_next (by simp +contextual (maxDischargeDepth := 99) only [good_settle, good_spillStart, h, implies_true])

theorem keeps_execSpillWriteDone (slot : SlotId) (chain : ℕ) (page : ℕ) (ok : Bool) (s : State) (h : Good p s) : Keeps p (execSpillWriteDone slot chain page ok s) :=
  keeps_next (by simp +contextual (maxDischargeDepth := 99) only [good_settle, good_spillWritten, h, implies_true])

theorem keeps_execPageReturn (slot : SlotId) (chain : ℕ) (page : ℕ) (poison : Bool) (s : State) (h : Good p s) : Keeps p (execPageReturn slot chain page poison s) :=
  keeps_next (by simp +contextual (maxDischargeDepth := 99) only [good_settle, good_pageReturned, h, implies_true])

theorem keeps_execExpanderLost (port : HPortId) (exp : Option ℕ) (s : State) (h : Good p s) : Keeps p (execExpanderLost port exp s) :=
  keeps_next (by simp +contextual (maxDischargeDepth := 99) only [good_settle, good_expanderGone, h, implies_true])

theorem keeps_execPreemptionWriteout (slot : SlotId) (ok : Bool) (s : State) (h : Good p s) : Keeps p (execPreemptionWriteout slot ok s) :=
  keeps_next (by simp +contextual (maxDischargeDepth := 99) only [good_settle, good_writeImage, h, implies_true])

theorem keeps_execPreemptionTag (slot : SlotId) (s : State) (h : Good p s) : Keeps p (execPreemptionTag slot s) :=
  keeps_next (by simp +contextual (maxDischargeDepth := 99) only [good_settle, good_tagImage, h, implies_true])

theorem keeps_execPreemptionRetry (slot : SlotId) (s : State) (h : Good p s) : Keeps p (execPreemptionRetry slot s) :=
  keeps_next (by simp +contextual (maxDischargeDepth := 99) only [good_settle, good_retryPreempt, h, implies_true])

theorem keeps_execTemplateNmTrigger (d : DistrictId) (stage : StageId) (op : ℕ) (s : State) (h : Good p s) : Keeps p (execTemplateNmTrigger d stage op s) :=
  keeps_next (by simp +contextual (maxDischargeDepth := 99) only [good_settle, good_templateTrigger, h, implies_true])

end Sys2Proof.Machine
end

