-- ==== Sys2Proof/Laws/Keeps/Rows/Units.lean ====
section
/-!
SUPPORT. Every row of Machine/Units.lean keeps the invariant and the queue.
-/

namespace Sys2Proof.Machine

set_option linter.unusedSimpArgs false

variable {p : List Instr}

theorem keeps_execTrapReport (g : CoreId) (s : State) (h : Good p s) : Keeps p (execTrapReport g s) :=
  keeps_next (by simp +contextual (maxDischargeDepth := 99) only [good_settle, good_trapReport, h, implies_true])

theorem keeps_execNmOpStart (e : EngineId) (busy : Bool) (s : State) (h : Good p s) : Keeps p (execNmOpStart e busy s) :=
  keeps_next (by simp +contextual (maxDischargeDepth := 99) only [good_settle, good_nmStart, h, implies_true])

theorem keeps_execNmOpComplete (e : EngineId) (s : State) (h : Good p s) : Keeps p (execNmOpComplete e s) :=
  keeps_next (by simp +contextual (maxDischargeDepth := 99) only [good_settle, good_nmComplete, h, implies_true])

theorem keeps_execNmHoldExpiry (e : EngineId) (s : State) (h : Good p s) : Keeps p (execNmHoldExpiry e s) :=
  keeps_next (by simp +contextual (maxDischargeDepth := 99) only [good_settle, good_nmHoldExpired, h, implies_true])

theorem keeps_execVaultWordRead (v : VaultId) (off : BitVec 26) (src : Fin 7) (s : State) (h : Good p s) : Keeps p (execVaultWordRead v off src s) :=
  keeps_next (by simp +contextual (maxDischargeDepth := 99) only [good_settle, good_vaultAccess, good_wordRead, h, implies_true])

theorem keeps_execStrongRepair (v : VaultId) (blk : Fin 12032) (s : State) (h : Good p s) : Keeps p (execStrongRepair v blk s) :=
  keeps_next (by simp +contextual (maxDischargeDepth := 99) only [good_settle, good_vaultAccess, good_repairBlock, h, implies_true])

theorem keeps_execVaultFullWrite (v : VaultId) (off : BitVec 26) (data : BitVec 256) (src : Fin 7) (s : State) (h : Good p s) : Keeps p (execVaultFullWrite v off data src s) :=
  keeps_next (by simp +contextual (maxDischargeDepth := 99) only [good_settle, good_vaultAccess, good_vwrite, h, implies_true])

theorem keeps_execVaultNarrowWrite (v : VaultId) (off : BitVec 26) (bytes : List Byte) (src : Fin 7) (s : State) (h : Good p s) : Keeps p (execVaultNarrowWrite v off bytes src s) :=
  keeps_next (by simp +contextual (maxDischargeDepth := 99) only [good_settle, good_vaultAccess, good_vwrite, h, implies_true])

theorem keeps_execHostWindowRead (port : HPortId) (func : FuncId) (vlocal : Bool) (addr : BitVec 48) (s : State) (h : Good p s) : Keeps p (execHostWindowRead port func vlocal addr s) :=
  keeps_next (by simp +contextual (maxDischargeDepth := 99) only [good_settle, good_hostAccess, h, implies_true])

theorem keeps_execHostWindowWrite (port : HPortId) (func : FuncId) (vlocal : Bool) (addr : BitVec 48) (bytes : List Byte) (s : State) (h : Good p s) : Keeps p (execHostWindowWrite port func vlocal addr bytes s) :=
  keeps_next (by simp +contextual (maxDischargeDepth := 99) only [good_settle, good_hostAccess, h, implies_true])

theorem keeps_execPatrolScrub (v : VaultId) (s : State) (h : Good p s) : Keeps p (execPatrolScrub v s) :=
  keeps_next (by simp +contextual (maxDischargeDepth := 99) only [good_settle, good_patrolNext, h, implies_true])

theorem keeps_execDemandScrub (v : VaultId) (s : State) (h : Good p s) : Keeps p (execDemandScrub v s) :=
  keeps_next (by simp +contextual (maxDischargeDepth := 99) only [good_settle, good_scrubQueued, h, implies_true])

theorem keeps_execDramRefresh (v : VaultId) (layer : Fin 12) (bank : Fin 4) (s : State) (h : Good p s) : Keeps p (execDramRefresh v layer bank s) :=
  keeps_next (by simp +contextual (maxDischargeDepth := 99) only [good_refreshBank, h, implies_true])

theorem keeps_execChannelFlitReplay (v : VaultId) (s : State) (h : Good p s) : Keeps p (execChannelFlitReplay v s) :=
  keeps_next (by simp +contextual (maxDischargeDepth := 99) only [good_bump, h, implies_true])

theorem keeps_execIwFlitReplay (site : SiteId) (edge : Fin 4) (s : State) (h : Good p s) : Keeps p (execIwFlitReplay site edge s) :=
  keeps_next (by simp +contextual (maxDischargeDepth := 99) only [good_replayIw, h, implies_true])

theorem keeps_execLaneFailure (site : SiteId) (edge : Fin 4) (lane : Fin 34) (s : State) (h : Good p s) : Keeps p (execLaneFailure site edge lane s) :=
  keeps_next (by simp +contextual (maxDischargeDepth := 99) only [good_settle, good_laneFails, h, implies_true])

theorem keeps_execLaneSubstitutionDone (site : SiteId) (edge : Fin 4) (s : State) (h : Good p s) : Keeps p (execLaneSubstitutionDone site edge s) :=
  keeps_next (by simp +contextual (maxDischargeDepth := 99) only [good_settle, good_startWaiting, good_laneDone, h, implies_true])

theorem keeps_execRouteDrainExpiry (s : State) (h : Good p s) : Keeps p (execRouteDrainExpiry s) :=
  keeps_next (by simp +contextual (maxDischargeDepth := 99) only [good_settle, good_drainExpired, h, implies_true])

theorem keeps_execRouteLoadDone (s : State) (h : Good p s) : Keeps p (execRouteLoadDone s) :=
  keeps_next (by simp +contextual (maxDischargeDepth := 99) only [good_settle, good_startWaiting, good_routeDone, h, implies_true])

theorem keeps_execAckTimeout (g : CoreId) (ch : ChanId) (n : ℕ) (s : State) (h : Good p s) : Keeps p (execAckTimeout g ch n s) :=
  keeps_next (by simp +contextual (maxDischargeDepth := 99) only [good_settle, good_ackTimeout, h, implies_true])

theorem keeps_execSiteRouterFailure (site : SiteId) (s : State) (h : Good p s) : Keeps p (execSiteRouterFailure site s) :=
  keeps_next (by simp +contextual (maxDischargeDepth := 99) only [good_settle, good_routerFails, h, implies_true])

end Sys2Proof.Machine
end

