-- ==== Sys2Proof/Laws/State.lean ====
section
/-!
SUPPORT. Reading after writing: a register field, a core; and what each of these updates leaves alone.
-/

namespace Sys2Proof.Machine

/-! Registers. -/

theorem Reg.ctorIdx_lt (f : Reg) : f.ctorIdx < 512 := by cases f <;> decide

theorem regKey_inj {f g : Reg} {i j : Nat} : regKey f i = regKey g j ↔ f = g ∧ i = j := by
  constructor
  · intro h
    unfold regKey at h
    have hf := Reg.ctorIdx_lt f
    have hg := Reg.ctorIdx_lt g
    have h1 : f.ctorIdx = g.ctorIdx := by omega
    refine ⟨?_, by omega⟩
    rw [← Reg.ofNat_ctorIdx f, h1, Reg.ofNat_ctorIdx]
  · rintro ⟨rfl, rfl⟩
    rfl

/-- A register field after a write of a field. -/
theorem rd_wr (f g : Reg) (i j v : Nat) (s : State) :
    rd f i (wr g j v s) = if f = g ∧ i = j then v % 2 ^ (regInfo g).w else rd f i s := by
  unfold rd wr
  rw [tget_tset]
  simp only [regKey_inj]

theorem rd_wr_same (f : Reg) (i v : Nat) (s : State) : rd f i (wr f i v s) = v % 2 ^ (regInfo f).w := by
  rw [rd_wr, if_pos ⟨rfl, rfl⟩]

theorem rd_wr_field (f g : Reg) (i j v : Nat) (s : State) (h : f ≠ g) : rd f i (wr g j v s) = rd f i s := by
  rw [rd_wr, if_neg fun x => h x.1]

theorem rd_wr_index (f : Reg) (i j v : Nat) (s : State) (h : i ≠ j) : rd f i (wr f j v s) = rd f i s := by
  rw [rd_wr, if_neg fun x => h x.2]

/-! Cores. -/

theorem getCore_setCore (g h : Nat) (c : Core) (s : State) : getCore h (setCore g c s) = if h = g then c else getCore h s := by
  unfold getCore setCore
  exact tget_tset ..

@[simp] theorem getCore_setCore_same (g : Nat) (c : Core) (s : State) : getCore g (setCore g c s) = c := by
  rw [getCore_setCore, if_pos rfl]

@[simp] theorem getCore_updCore_same (g : Nat) (f : Core → Core) (s : State) : getCore g (updCore g f s) = f (getCore g s) :=
  getCore_setCore_same ..

theorem getCore_updCore (g h : Nat) (f : Core → Core) (s : State) :
    getCore h (updCore g f s) = if h = g then f (getCore g s) else getCore h s := getCore_setCore ..

@[simp] theorem getCore_wr (g : Nat) (f : Reg) (i v : Nat) (s : State) : getCore g (wr f i v s) = getCore g s := rfl
@[simp] theorem rd_setCore (f : Reg) (i g : Nat) (c : Core) (s : State) : rd f i (setCore g c s) = rd f i s := rfl
@[simp] theorem rd_updCore (f : Reg) (i g : Nat) (h : Core → Core) (s : State) : rd f i (updCore g h s) = rd f i s := rfl
@[simp] theorem setCore_spad (g : Nat) (c : Core) (s : State) : (setCore g c s).cores.spad = s.cores.spad := rfl
@[simp] theorem setCore_pig (g : Nat) (c : Core) (s : State) : (setCore g c s).cores.pig = s.cores.pig := rfl
@[simp] theorem setCore_lineTag (g : Nat) (c : Core) (s : State) : (setCore g c s).cores.lineTag = s.cores.lineTag := rfl
@[simp] theorem setCore_linePoison (g : Nat) (c : Core) (s : State) : (setCore g c s).cores.linePoison = s.cores.linePoison := rfl
@[simp] theorem setCore_regs (g : Nat) (c : Core) (s : State) : (setCore g c s).regs = s.regs := rfl

/-! What a write of a register field and of a core leave alone. -/

@[simp] theorem wr_posted (f : Reg) (i v : Nat) (s : State) : (wr f i v s).posted = s.posted := rfl
@[simp] theorem wr_cores (f : Reg) (i v : Nat) (s : State) : (wr f i v s).cores = s.cores := rfl
@[simp] theorem wr_vaults (f : Reg) (i v : Nat) (s : State) : (wr f i v s).vaults = s.vaults := rfl
@[simp] theorem wr_engines (f : Reg) (i v : Nat) (s : State) : (wr f i v s).engines = s.engines := rfl
@[simp] theorem wr_kvSites (f : Reg) (i v : Nat) (s : State) : (wr f i v s).kvSites = s.kvSites := rfl
@[simp] theorem wr_pages (f : Reg) (i v : Nat) (s : State) : (wr f i v s).pages = s.pages := rfl
@[simp] theorem wr_districts (f : Reg) (i v : Nat) (s : State) : (wr f i v s).districts = s.districts := rfl
@[simp] theorem wr_sort (f : Reg) (i v : Nat) (s : State) : (wr f i v s).sort = s.sort := rfl
@[simp] theorem wr_fab (f : Reg) (i v : Nat) (s : State) : (wr f i v s).fab = s.fab := rfl
@[simp] theorem wr_parcels (f : Reg) (i v : Nat) (s : State) : (wr f i v s).parcels = s.parcels := rfl
@[simp] theorem wr_standIns (f : Reg) (i v : Nat) (s : State) : (wr f i v s).standIns = s.standIns := rfl
@[simp] theorem wr_notices (f : Reg) (i v : Nat) (s : State) : (wr f i v s).notices = s.notices := rfl
@[simp] theorem wr_eng (f : Reg) (i v : Nat) (s : State) : (wr f i v s).eng = s.eng := rfl
@[simp] theorem wr_net (f : Reg) (i v : Nat) (s : State) : (wr f i v s).net = s.net := rfl
@[simp] theorem wr_faults (f : Reg) (i v : Nat) (s : State) : (wr f i v s).faults = s.faults := rfl
@[simp] theorem wr_boot (f : Reg) (i v : Nat) (s : State) : (wr f i v s).boot = s.boot := rfl
@[simp] theorem wr_power (f : Reg) (i v : Nat) (s : State) : (wr f i v s).power = s.power := rfl
@[simp] theorem wr_heat (f : Reg) (i v : Nat) (s : State) : (wr f i v s).heat = s.heat := rfl
@[simp] theorem wr_logbook (f : Reg) (i v : Nat) (s : State) : (wr f i v s).logbook = s.logbook := rfl
@[simp] theorem wr_logSeq (f : Reg) (i v : Nat) (s : State) : (wr f i v s).logSeq = s.logSeq := rfl
@[simp] theorem wr_due (f : Reg) (i v : Nat) (s : State) : (wr f i v s).due = s.due := rfl
@[simp] theorem wr_outbox (f : Reg) (i v : Nat) (s : State) : (wr f i v s).outbox = s.outbox := rfl
@[simp] theorem wr_now (f : Reg) (i v : Nat) (s : State) : (wr f i v s).now = s.now := rfl
@[simp] theorem wr_freeCtr (f : Reg) (i v : Nat) (s : State) : (wr f i v s).freeCtr = s.freeCtr := rfl
@[simp] theorem wr_pending (f : Reg) (i v : Nat) (s : State) : (wr f i v s).pending = s.pending := rfl

@[simp] theorem setCore_posted (g : Nat) (c : Core) (s : State) : (setCore g c s).posted = s.posted := rfl
@[simp] theorem updCore_posted (g : Nat) (h : Core → Core) (s : State) : (updCore g h s).posted = s.posted := rfl
@[simp] theorem setCore_vaults (g : Nat) (c : Core) (s : State) : (setCore g c s).vaults = s.vaults := rfl
@[simp] theorem updCore_vaults (g : Nat) (h : Core → Core) (s : State) : (updCore g h s).vaults = s.vaults := rfl
@[simp] theorem setCore_engines (g : Nat) (c : Core) (s : State) : (setCore g c s).engines = s.engines := rfl
@[simp] theorem updCore_engines (g : Nat) (h : Core → Core) (s : State) : (updCore g h s).engines = s.engines := rfl
@[simp] theorem setCore_kvSites (g : Nat) (c : Core) (s : State) : (setCore g c s).kvSites = s.kvSites := rfl
@[simp] theorem updCore_kvSites (g : Nat) (h : Core → Core) (s : State) : (updCore g h s).kvSites = s.kvSites := rfl
@[simp] theorem setCore_pages (g : Nat) (c : Core) (s : State) : (setCore g c s).pages = s.pages := rfl
@[simp] theorem updCore_pages (g : Nat) (h : Core → Core) (s : State) : (updCore g h s).pages = s.pages := rfl
@[simp] theorem setCore_districts (g : Nat) (c : Core) (s : State) : (setCore g c s).districts = s.districts := rfl
@[simp] theorem updCore_districts (g : Nat) (h : Core → Core) (s : State) : (updCore g h s).districts = s.districts := rfl
@[simp] theorem setCore_sort (g : Nat) (c : Core) (s : State) : (setCore g c s).sort = s.sort := rfl
@[simp] theorem updCore_sort (g : Nat) (h : Core → Core) (s : State) : (updCore g h s).sort = s.sort := rfl
@[simp] theorem setCore_fab (g : Nat) (c : Core) (s : State) : (setCore g c s).fab = s.fab := rfl
@[simp] theorem updCore_fab (g : Nat) (h : Core → Core) (s : State) : (updCore g h s).fab = s.fab := rfl
@[simp] theorem setCore_parcels (g : Nat) (c : Core) (s : State) : (setCore g c s).parcels = s.parcels := rfl
@[simp] theorem updCore_parcels (g : Nat) (h : Core → Core) (s : State) : (updCore g h s).parcels = s.parcels := rfl
@[simp] theorem setCore_standIns (g : Nat) (c : Core) (s : State) : (setCore g c s).standIns = s.standIns := rfl
@[simp] theorem updCore_standIns (g : Nat) (h : Core → Core) (s : State) : (updCore g h s).standIns = s.standIns := rfl
@[simp] theorem setCore_notices (g : Nat) (c : Core) (s : State) : (setCore g c s).notices = s.notices := rfl
@[simp] theorem updCore_notices (g : Nat) (h : Core → Core) (s : State) : (updCore g h s).notices = s.notices := rfl
@[simp] theorem setCore_eng (g : Nat) (c : Core) (s : State) : (setCore g c s).eng = s.eng := rfl
@[simp] theorem updCore_eng (g : Nat) (h : Core → Core) (s : State) : (updCore g h s).eng = s.eng := rfl
@[simp] theorem setCore_net (g : Nat) (c : Core) (s : State) : (setCore g c s).net = s.net := rfl
@[simp] theorem updCore_net (g : Nat) (h : Core → Core) (s : State) : (updCore g h s).net = s.net := rfl
@[simp] theorem setCore_faults (g : Nat) (c : Core) (s : State) : (setCore g c s).faults = s.faults := rfl
@[simp] theorem updCore_faults (g : Nat) (h : Core → Core) (s : State) : (updCore g h s).faults = s.faults := rfl
@[simp] theorem setCore_boot (g : Nat) (c : Core) (s : State) : (setCore g c s).boot = s.boot := rfl
@[simp] theorem updCore_boot (g : Nat) (h : Core → Core) (s : State) : (updCore g h s).boot = s.boot := rfl
@[simp] theorem setCore_power (g : Nat) (c : Core) (s : State) : (setCore g c s).power = s.power := rfl
@[simp] theorem updCore_power (g : Nat) (h : Core → Core) (s : State) : (updCore g h s).power = s.power := rfl
@[simp] theorem setCore_heat (g : Nat) (c : Core) (s : State) : (setCore g c s).heat = s.heat := rfl
@[simp] theorem updCore_heat (g : Nat) (h : Core → Core) (s : State) : (updCore g h s).heat = s.heat := rfl
@[simp] theorem setCore_logbook (g : Nat) (c : Core) (s : State) : (setCore g c s).logbook = s.logbook := rfl
@[simp] theorem updCore_logbook (g : Nat) (h : Core → Core) (s : State) : (updCore g h s).logbook = s.logbook := rfl
@[simp] theorem setCore_logSeq (g : Nat) (c : Core) (s : State) : (setCore g c s).logSeq = s.logSeq := rfl
@[simp] theorem updCore_logSeq (g : Nat) (h : Core → Core) (s : State) : (updCore g h s).logSeq = s.logSeq := rfl
@[simp] theorem setCore_due (g : Nat) (c : Core) (s : State) : (setCore g c s).due = s.due := rfl
@[simp] theorem updCore_due (g : Nat) (h : Core → Core) (s : State) : (updCore g h s).due = s.due := rfl
@[simp] theorem setCore_outbox (g : Nat) (c : Core) (s : State) : (setCore g c s).outbox = s.outbox := rfl
@[simp] theorem updCore_outbox (g : Nat) (h : Core → Core) (s : State) : (updCore g h s).outbox = s.outbox := rfl
@[simp] theorem setCore_now (g : Nat) (c : Core) (s : State) : (setCore g c s).now = s.now := rfl
@[simp] theorem updCore_now (g : Nat) (h : Core → Core) (s : State) : (updCore g h s).now = s.now := rfl
@[simp] theorem setCore_freeCtr (g : Nat) (c : Core) (s : State) : (setCore g c s).freeCtr = s.freeCtr := rfl
@[simp] theorem updCore_freeCtr (g : Nat) (h : Core → Core) (s : State) : (updCore g h s).freeCtr = s.freeCtr := rfl
@[simp] theorem setCore_pending (g : Nat) (c : Core) (s : State) : (setCore g c s).pending = s.pending := rfl
@[simp] theorem updCore_pending (g : Nat) (h : Core → Core) (s : State) : (updCore g h s).pending = s.pending := rfl

end Sys2Proof.Machine
end

