-- ==== Sys2Proof/Laws/Letters.lean ====
section
/-!
SUPPORT. What issue and the units do on a core that can issue, and what the barrier checks leave unchanged.
-/

namespace Sys2Proof.Machine

/-! Issue. -/

theorem issue_can (f : Nat → Nat → State → State) (g w : Nat) (s : State) (h : CanIssue g s) : issue f g w s = wake g (f g w s) := by
  obtain ⟨h1, h2, h3, h4, h5⟩ := h
  simp [issue, h1, h2, h3, h5, show ¬ 4 * rd .coreLetterLlen g s ≤ (getCore g s).pc by omega]

/-- With nothing in its queues and nothing waiting, a core does nothing of its own. -/
theorem wake_idle (g : Nat) (s : State) (h : UnitsIdle g s) (hw : (getCore g s).wait = none) : wake g s = s := by
  obtain ⟨h1, h2, h3⟩ := h
  have hm : moveMatrix vWrites vDraws g s = none := by simp [moveMatrix, h3, h1]
  have hv : moveVector g s = none := by simp [moveVector, h2]
  have hr : runUnits g unitFuel s = s := by simp [unitFuel, runUnits, hm, hv]
  have : retry g s = none := by simp [retry, hw]
  simp [wake, hr, this]

theorem haltedIn_none (m : Nat) (c : Core) (h : ∀ j ∈ chansIn m, (getChan j c).st = .idle) : haltedIn m c = none := by
  unfold haltedIn
  rw [List.find?_eq_none]
  intro j hj
  simp [h j hj]

theorem busyIn_false (m : Nat) (c : Core) (h : ∀ j ∈ chansIn m, (getChan j c).st = .idle) : busyIn m c = false := by
  unfold busyIn
  rw [List.any_eq_false]
  intro j hj
  simp [h j hj]

/-! The barrier checks: they change nothing but marks that a release is under way, UNREACH and the consequences due (R104, R216). -/

/-- Two states that differ only in the release marks of cores, in UNREACH, and in the consequences that are due. -/
def OnlyReleasing (s t : State) : Prop :=
  (∃ c r d, t = { s with cores := { s.cores with cores := c }, regs := r, due := d }) ∧
    (∀ f i, f ≠ .netStatusUnreach → rd f i t = rd f i s) ∧
    ∀ h, ∃ b v, getCore h t = { getCore h s with releasing := b, relSent := v }

theorem OnlyReleasing.refl (s : State) : OnlyReleasing s s := ⟨⟨_, _, _, rfl⟩, fun _ _ _ => rfl, fun _ => ⟨_, _, rfl⟩⟩

theorem OnlyReleasing.trans {s t u : State} (a : OnlyReleasing s t) (b : OnlyReleasing t u) : OnlyReleasing s u := by
  obtain ⟨⟨c, r, d, e⟩, ra, ha⟩ := a
  obtain ⟨⟨c', r', d', e'⟩, rb, hb⟩ := b
  refine ⟨⟨c', r', d', by rw [e', e]⟩, fun f i h => (rb f i h).trans (ra f i h), fun h => ?_⟩
  obtain ⟨x, v, hx⟩ := ha h
  obtain ⟨y, w, hy⟩ := hb h
  exact ⟨y, w, by rw [hy, hx]⟩

theorem onlyReleasing_updCore (g : Nat) (v : Bool) (s : State) :
    OnlyReleasing s (updCore g (fun c => { c with releasing := true, relSent := v }) s) := by
  refine ⟨⟨_, _, _, rfl⟩, fun _ _ _ => rfl, fun h => ?_⟩
  rw [getCore_updCore]
  split
  · next e => subst e; exact ⟨_, _, rfl⟩
  · exact ⟨_, _, rfl⟩

theorem onlyReleasing_barrierLoss (d k : Nat) (s : State) : OnlyReleasing s (barrierLoss d k s) :=
  ⟨⟨_, _, _, rfl⟩, fun _ _ h => rd_wr_field _ _ _ _ _ _ h, fun _ => ⟨_, _, rfl⟩⟩

theorem onlyReleasing_foldl {β : Type} (f : State → β → State) (hf : ∀ u x, OnlyReleasing u (f u x)) (l : List β) (s : State) :
    OnlyReleasing s (l.foldl f s) := by
  induction l generalizing s with
  | nil => exact .refl s
  | cons x l ih => exact (hf s x).trans (ih _)

theorem onlyReleasing_barrierCheck (d b : Nat) (s : State) : OnlyReleasing s (barrierCheck d b s) := by
  unfold barrierCheck
  dsimp only
  have hs : ∀ (u : State) (p : Bool) (g : Nat) (v : Bool),
      OnlyReleasing u (if p = true then u else updCore g (fun c => { c with releasing := true, relSent := v }) u) := by
    intro u p g v
    split
    · exact .refl u
    · exact onlyReleasing_updCore g v u
  split
  · exact onlyReleasing_foldl _ (fun u x => onlyReleasing_barrierLoss d x u) _ _
  · split
    · exact .refl s
    · split
      · exact (onlyReleasing_foldl _ (fun u x => hs u _ x _) _ _).trans (onlyReleasing_barrierLoss _ _ _)
      · exact onlyReleasing_foldl _ (fun u x => hs u _ x _) _ _

theorem onlyReleasing_barrierChecks (g : Nat) (s : State) : OnlyReleasing s (barrierChecks g s) := by
  unfold barrierChecks
  cases coreDistrict g s with
  | none => exact .refl s
  | some d => exact onlyReleasing_foldl _ (fun u x => onlyReleasing_barrierCheck d x u) _ _

end Sys2Proof.Machine
end

