-- ==== Sys2Proof/Machine/View.lean ====
section
/-!
DEFINITION. What a read of a register returns (R392): the fields that the register table holds, and those that show state kept
elsewhere (R74, R115, R136, R384, R493, R495).
-/

namespace Sys2Proof.Machine

/-- Bank state codes (R62). -/
def bankCode : BankSt → Nat
  | .empty => 0 | .fp32 => 1 | .int32 => 2 | .invalid => 3

/-- A tile-queue entry's descriptor (R67). -/
def tileDesc (t : Tile) : Nat :=
  natBool t.int32 + 2 * t.wcc + 8 * t.bank + 32 * natBool t.sat + 64 * natBool t.invalid + 128 * natBool t.nv + 256 * t.utag

/-- Channel state codes (R115). -/
def chanCode : ChanSt → Nat
  | .idle => 0 | .busy => 1 | .halted => 2

/-- The bytes of a dead letter (R492). -/
def deadLetterBytes (d : Nat) (x : DeadLetter) : List Byte :=
  natLe 1 x.kind ++ natLe 1 d ++ natLe 2 0 ++ natLe 4 x.owner ++ natLe 8 x.stream ++ ((x.payload ++ List.replicate 32 0).take 32) ++
    natLe 6 x.round ++ natLe 2 0 ++ natLe 8 x.ptp

/-- The head entry of the selected dead-letter queue (R493). -/
def dlqHead (s : State) : List Byte :=
  let d := rd .fltdevDlqSelDistrict 0 s
  match dlqOf d s with
  | x :: _ => deadLetterBytes d x
  | [] => natLe 64 0

/-- A field as it is read. -/
def viewField (f : Reg) (i : Nat) (s : State) : Nat :=
  let c := getCore i s
  let bank (n : Nat) : Nat := bankCode (c.banks.getD n {}).st
  let ch := getChan (i % 8) (getCore (i / 8) s)
  match f with
  | .coreStateState => coreStCode c.st
  | .coreStatePc => c.pc
  | .coreStateLoopd => c.loops.length
  | .coreDmaStatusState => chanCode ch.st
  | .coreDmaStatusCode => ch.code
  | .coreArrayStatusBank0 => bank 0
  | .coreArrayStatusBank1 => bank 1
  | .coreArrayStatusBank2 => bank 2
  | .coreArrayStatusBank3 => bank 3
  | .coreArrayStatusQocc => c.tiles.length
  | .coreArrayStatusStatValid => natBool c.stat.isSome
  | .coreArrayStatusDrainBlocked => natBool (c.drain.isSome && decide (8 ≤ c.tiles.length))
  | .coreArrayStatusMqocc => c.mq.length
  | .coreArrayStatusBankwc => (c.banks.zipIdx.map fun b => b.1.wcb * 4 ^ b.2).sum
  | .vaultStatusDsq => (tget dsqNone s.vaults.dsq i).length
  | .vsiteScrubBehind => natBool (patrolBehind i s)
  | .coreVecCfgFa => c.vcfg.fa
  | .coreVecCfgFb => c.vcfg.fb
  | .coreVecCfgFd => c.vcfg.fd
  | .coreVecCfgSf => c.vcfg.sf
  | .coreVecCfgRnd => c.vcfg.rnd
  | .coreVecCfgSat => natBool c.vcfg.sat
  | .coreVecCfgSea => natBool c.vcfg.sea
  | .coreVecCfgSed => natBool c.vcfg.sed
  | .coreVecCfgSabase => c.vcfg.sabase
  | .coreVecCfgSdbase => c.vcfg.sdbase
  | .coreVecStatusVqocc => c.vq.length
  | .coreVecStatusHeadValid => natBool (!c.tiles.isEmpty)
  | .coreVecStatusHeadDesc => ((c.tiles.head?).map tileDesc).getD 0
  | .mboxCfgFunc => if mboxSecure i then 0 else rd f i s
  | .mboxStatusRdown => natBool (mboxToFw i && !mboxSecure i && !clerkUp s)
  | .fltdevStatusQuar => ((List.range 256).filter fun d => rd .distCfgState d s == 4).length
  | f => rd f i s

/-- A register slot as an allowed 8-byte read of it returns it; DLQ_ENTRY0 to DLQ_ENTRY7 show the head entry. -/
def readRegister (b : Block) (i off : Nat) (s : State) : Nat :=
  if b = .fltdev ∧ 0x28 ≤ off ∧ off < 0x68 then leNat (((dlqHead s).drop (off - 0x28)).take 8)
  else (fieldsAt b off).foldl (fun a f => a + viewField f.1 (i * (regInfo f.1).sub + f.2.1) s * 2 ^ f.2.2) 0

/-- The bytes of a read that R396 allows: a mailbox array, or part of a register's slot. -/
def readBytes (b : Block) (i o n : Nat) (s : State) : List Byte :=
  if b = .mbox ∧ o < 256 then mread s.eng.staging (256 * i + o) n
  else if b = .mbox ∧ o < 512 then mread s.eng.slots (256 * i + (o - 256)) n
  else ((natLe 8 (readRegister b i (o / 8 * 8) s)).drop (o % 8)).take n

/-- A register read by a host function: the bytes it returns and what it changes. The table has no row for it; the read of MBOX.SEND is
MBOX_SEND (R375, R385, R390, R392, R396, R397; log 132). -/
def registerRead (port func off n : Nat) (s : State) : List Byte × State :=
  let zeros := List.replicate n (0 : Byte)
  if rootPort port s then (zeros, s)
  else if !widthOk off n then (zeros, flag .devAccessWidthErr 0 s)
  else if off < 0x8000000 ∧ siteUp (off / 0x200000) s = false then (zeros, bump .devAccessDropped 0 s)
  else
    match locate off with
    | none => (zeros, s)
    | some (b, i, o) =>
      if !barServes b s then (zeros, s)
      else if !mayRead port func b i o s then (zeros, denied false port func off s)
      else
        let s1 := if b = .mbox ∧ o / 8 * 8 = 0x218 then mboxCommit i s else s
        (readBytes b i o n s1, s1)

end Sys2Proof.Machine
end

