-- ==== Sys2Proof/WellFormed.lean ====
section
/-!
DEFINITION. The well-formed commands: operands that the unit which a command comes from can send. An envelope command carries an
envelope of its own row of the opcode table (R371); the others keep the ranges of what comes with them.
-/

namespace Sys2Proof

open Machine

/-- Where an envelope comes from agrees with its class (R356): rings and non-secure mailboxes belong to host ports, MGMT and PEER come over their
own paths, and only MGMT sessions are secured (R358). -/
def viaWf (e : Env) : Bool :=
  (match e.via, e.cls with
    | .ring n _, .host => n.val / 64 == e.port.val
    | .ring n _, .hosts => n.val / 64 == e.port.val
    | .mbox _, .hosts => true
    | .mbox _, .host => true
    | .mgmt, .mgmt => true
    | .peer _, .peer => true
    | .peer _, .mgmt => true
    | _, _ => false) && (!e.secured || e.cls == .mgmt) && (e.secured || e.session.isNone) &&
  (match e.via with
    | .mgmt => true
    | _ => e.session.isNone)

/-- An envelope of a row: the opcode and the operation code that the row's key names (R371), no longer than a slot (R357). -/
def envWf (key : Nat) (e : Env) : Bool := envKey e == key && decide (e.raw.length ≤ 4096) && viaWf e

/-- A faulty unit that a test may find (R459, R461). -/
def unitWf (u : BadUnit) : Bool := decide (1 ≤ u.kind) && decide (u.kind ≤ 7) && decide (u.site < 64) && decide (u.unit < 2048)

/-- An expander behind a root port (R272). -/
def expanderWf (x : Expander) : Bool := decide (x.1 < 4 ∧ x.2.1 < 4)

/-- Expanders of distinct places, up to 8 TiB in all (R272). -/
def expandersWf (xs : List Expander) : Bool :=
  xs.all expanderWf && decide ((xs.map fun x => (x.1, x.2.1)).Nodup) && decide ((xs.map (·.2.2)).sum ≤ 2 ^ 27)

/-- A marker's fields fit its payload (R329). -/
def markerWf (m : Marker) : Bool :=
  decide (m.round < 2 ^ 48) && decide (m.epoch < 2 ^ 16) && decide (m.master < 1024) && decide (20 ≤ m.period) && decide (m.period ≤ 10000) &&
    decide (m.delay < 2 ^ 20) && decide (m.admBits < 2 ^ 64) && decide (m.setps.length ≤ 4)

/-- A well-formed command. -/
def Instr.wf (i : Instr) : Bool :=
  match i with
  | .nop _ _ => true
  | .halt _ _ => true
  | .dmax _ _ => true
  | .dwait _ _ => true
  | .sig _ _ => true
  | .swait _ _ => true
  | .bar _ _ => true
  | .loop _ _ => true
  | .loopi _ _ => true
  | .br _ _ => true
  | .notice _ _ => true
  | .rwait _ _ => true
  | .mload _ _ => true
  | .mstream _ _ => true
  | .macc _ _ => true
  | .mdrain _ _ => true
  | .mclear _ _ => true
  | .tileDeadlock _ => true
  | .vcfg _ _ => true
  | .vadd _ _ => true
  | .vsub _ _ => true
  | .vmul _ _ => true
  | .vfma _ _ => true
  | .vmax _ _ => true
  | .vmin _ _ => true
  | .vcvt _ _ => true
  | .vaddb _ _ => true
  | .vmulb _ _ => true
  | .vtrow _ _ => true
  | .vexp _ _ => true
  | .vlog _ _ => true
  | .vrcp _ _ => true
  | .vrsq _ _ => true
  | .vtanh _ _ => true
  | .vsigm _ _ => true
  | .vrsum _ _ => true
  | .vrmax _ _ => true
  | .vrmin _ _ => true
  | .vrssq _ _ => true
  | .vsmax _ _ => true
  | .vsexp _ _ => true
  | .vrope _ _ => true
  | .vkvq _ _ => true
  | .vapnd _ _ => true
  | .dmaComplete _ _ => true
  | .dmaHalt _ _ _ _ => true
  | .signalArrival src _ => decide (src < 131072 + 2048)
  | .barrierRelease _ => true
  | .stepRelease _ => true
  | .roundWaitRelease _ => true
  | .trapReport _ => true
  | .coreCtrlGo _ => true
  | .coreCtrlStop _ => true
  | .srSeedWrite _ _ => true
  | .srCtrWrite _ _ => true
  | .srWriteEffect _ => true
  | .nmeAbort _ => true
  | .flipArm _ _ => true
  | .mboxSend _ => true
  | .mboxAck _ _ => true
  | .mboxWithdraw _ => true
  | .mailboxTimeout _ => true
  | .mailboxMessage _ input _ _ _ => decide (input.length ≤ 4096)
  | .eringDoorbell _ _ => true
  | .envelopeFetch _ raw bad => bad || (decide (64 ≤ raw.length) && decide (raw.length ≤ 4096))
  | .eringDisable _ => true
  | .functionReset _ _ => true
  | .dringCons _ _ => true
  | .rringCons _ _ => true
  | .eringRcons _ _ => true
  | .vminClr _ => true
  | .dlqPop => true
  | .nmsiteLock _ => true
  | .registerWrite _ _ _ data => data.length == 4 || data.length == 8
  | .postedWriteEffect _ => true
  | .tvScanWindow upset => upset.all fun u => decide (u.1 < 2 ^ 28) && decide (u.2 < 3)
  | .tvRestore _ => true
  | .elermuxNop e => envWf 0x00010 e
  | .devQuery e => envWf 0x00020 e
  | .config e => envWf 0x00030 e
  | .lock e => envWf 0x00040 e
  | .resetSite e => envWf 0x00051 e
  | .resetLayer e => envWf 0x00052 e
  | .resetCore e => envWf 0x00053 e
  | .testVaultMarch e => envWf 0x00061 e
  | .testArray e => envWf 0x00062 e
  | .testLoopback e => envWf 0x00063 e
  | .rebind e => envWf 0x01010 e
  | .rebindRun => true
  | .parcelReserve e => envWf 0x01100 e
  | .parcelSeal e => envWf 0x01110 e
  | .parcelDiscard e => envWf 0x01120 e
  | .grant e => envWf 0x01200 e
  | .fill e => envWf 0x02010 e
  | .fence e => envWf 0x02020 e
  | .copy e => envWf 0x02030 e
  | .atomic e => envWf 0x02040 e
  | .swappoolAdd e => envWf 0x02051 e
  | .swappoolRemove e => envWf 0x02052 e
  | .nmSubmit e => envWf 0x03010 e
  | .submit e => envWf 0x04010 e
  | .cancel e => envWf 0x04020 e
  | .preempt e => envWf 0x04030 e
  | .resume e => envWf 0x04040 e
  | .freeze e => envWf 0x04050 e
  | .prefixHandleCreate _ => true
  | .release e => envWf 0x04060 e
  | .query e => envWf 0x04070 e
  | .discard e => envWf 0x04080 e
  | .bookSet e => envWf 0x05011 e
  | .bookBind e => envWf 0x05012 e
  | .bookUnbind e => envWf 0x05013 e
  | .sampleCfg e => envWf 0x05020 e
  | .grammarLoad e => envWf 0x05031 e
  | .grammarUnload e => envWf 0x05032 e
  | .ringEnable e => envWf 0x05041 e
  | .ringDisable e => envWf 0x05042 e
  | .receiptsEnable e => envWf 0x05051 e
  | .receiptsDisable e => envWf 0x05052 e
  | .powerCap e => envWf 0x06011 e
  | .powerLimit e => envWf 0x06012 e
  | .thermal e => envWf 0x06020 e
  | .fabric e => envWf 0x07010 e
  | .roundCfg e => envWf 0x07020 e
  | .jobForm e => envWf 0x07031 e
  | .jobDissolve e => envWf 0x07032 e
  | .circ e => envWf 0x07040 e
  | .twinPair e => envWf 0x07051 e
  | .twinUnpair e => envWf 0x07052 e
  | .handover e => envWf 0x07061 e
  | .dying e => envWf 0x07062 e
  | .leaseKeyEnrol e => envWf 0x07071 e
  | .leaseKeyClear e => envWf 0x07072 e
  | .leaseGrant e => envWf 0x07080 e
  | .logRead e => envWf 0x08010 e
  | .fwStage e => envWf 0x09010 e
  | .fwActivate e => envWf 0x09020 e
  | .getVersion _ => true
  | .getCapabilities _ => true
  | .negotiateAlgorithms _ => true
  | .getDigests _ => true
  | .getCertificate slot _ => decide (slot < 2)
  | .challenge slot _ => decide (slot < 2)
  | .getMeasurements index => decide (index < 256)
  | .keyExchange _ => true
  | .finish _ _ => true
  | .heartbeat _ => true
  | .endSession _ => true
  | .roundBoundary => true
  | .markerReceived _ m _ => markerWf m
  | .flywheelOpen => true
  | .standbyTakeover => true
  | .beatLoss => true
  | .bookRefill _ => true
  | .bookParamEffect _ => true
  | .colourFlip => true
  | .stepStartPoint _ => true
  | .stagingDeferPreempt _ => true
  | .stepComplete _ => true
  | .samplingTrigger _ _ => true
  | .tokenDraw _ => true
  | .streamEnd _ => true
  | .receiptPost _ => true
  | .statementIssue => true
  | .kvAppend _ => true
  | .chainPageOpen _ _ _ => true
  | .lookaheadPass _ => true
  | .spillStart _ => true
  | .spillWriteDone _ _ _ _ => true
  | .pageReturn _ _ _ _ => true
  | .expanderLost _ _ => true
  | .preemptionWriteout _ _ => true
  | .preemptionTag _ => true
  | .preemptionRetry _ => true
  | .templateNmTrigger _ _ _ => true
  | .nmOpStart _ _ => true
  | .nmOpComplete _ => true
  | .nmHoldExpiry _ => true
  | .vaultWordRead _ _ _ => true
  | .strongRepair _ _ => true
  | .vaultFullWrite _ _ _ _ => true
  | .vaultNarrowWrite _ _ bytes _ => decide (1 ≤ bytes.length) && decide (bytes.length ≤ 32)
  | .hostWindowRead _ _ _ _ => true
  | .hostWindowWrite _ _ _ _ bytes => decide (bytes.length ≤ 64)
  | .patrolScrub _ => true
  | .demandScrub _ => true
  | .dramRefresh _ _ _ => true
  | .channelFlitReplay _ => true
  | .iwFlitReplay _ _ => true
  | .laneFailure _ _ _ => true
  | .laneSubstitutionDone _ _ => true
  | .routeDrainExpiry => true
  | .routeLoadDone => true
  | .ackTimeout _ _ _ => true
  | .fabricLinkUp _ _ _ _ _ _ => true
  | .fabricLaneFail _ _ => true
  | .fabricFlitReplay _ => true
  | .transportPacket _ _ _ body => decide (body.length ≤ 4096)
  | .transportAckTimeout _ => true
  | .ethernetFrame _ _ _ => true
  | .slowRequest _ _ _ _ => true
  | .stepdone _ _ => true
  | .stepHeartbeat _ _ => true
  | .splitDeclare _ => true
  | .leaseRenewal _ => true
  | .leaseRelay g => g.length == 160
  | .leaseExpiry _ => true
  | .splitHoldTimeout _ => true
  | .submitCopy _ _ spec ctl => decide (512 ≤ spec.length) && decide (spec.length ≤ 4032) && ctl.length == 16384
  | .drawCopy _ _ => true
  | .drawCopyAck _ => true
  | .drawWaitTimeout _ => true
  | .stepCopy _ m => m.acc.length == 56
  | .sealCopy _ _ => true
  | .freezeCopy _ _ t => decide (1 ≤ t)
  | .endCopy _ => true
  | .twinResync _ => true
  | .deviceLeaseExpiry => true
  | .failoverActivate _ => true
  | .circBlockSend _ _ _ => true
  | .circBlockReceived _ _ _ => true
  | .circQueryReceived _ _ _ _ _ => true
  | .partialStateReceived _ _ _ => true
  | .inputFault _ => true
  | .capDivision => true
  | .allotmentRequest ws => ws.length == 64
  | .controlWindowEnd => true
  | .gatedSlice _ _ => true
  | .voltageDroop _ _ => true
  | .regulatorNotice _ => true
  | .meterSample _ _ _ => true
  | .diodeConversion _ _ _ => true
  | .thermalModelUpdate _ _ _ => true
  | .dieTrip _ _ => true
  | .coolantRead _ => true
  | .coolantReadRetry _ => true
  | .sensorLost => true
  | .stopSequence => true
  | .pwrEnFall => true
  | .powerOn _ _ _ found exps _ => found.all unitWf && expandersWf exps
  | .coolantWaitTimeout => true
  | .modReset _ _ found exps _ => found.all unitWf && expandersWf exps
  | .perst _ => true
  | .bdWatchdog _ _ => true
  | .bdRestartTimeout _ _ => true
  | .siteLoss _ => true
  | .viaRemap _ found => found.all fun v => decide (v < 152)
  | .deferredRecovery _ _ => true
  | .refclkLoss _ => true
  | .clerkWatchdog => true
  | .clerkStartTimeout => true
  | .rollbackRaise _ => true
  | .siteRouterFailure _ => true
  | .clerkUp => true
  | .heavyPhaseEnd _ => true
  | .chainOpenFailure _ => true

end Sys2Proof
end

