-- ==== Sys2Proof/Tests/Slice0.lean ====
section
/-!
SUPPORT. Tests: states and operands that meet the hypotheses of each statement, checks of well-formed commands, and values worked out
from the spec by hand.
-/

namespace Sys2Proof.Tests

open Machine

/-! ### States and words for the tests -/

/-- A core 0 that runs a letter of one line (four instructions). -/
def running : State := wr .coreLetterLlen 0 1 (setCore 0 { ({} : Core) with st := .running } State.reset)

/-- The same core in district 5, whose step started at time 0. -/
def inDistrict : State := wr .clbindCBound 0 1 (wr .clbindCDistrict 0 5 running)

/-- The same core with more of its record set. -/
def coreWith (f : Core → Core) : State := updCore 0 f inDistrict

/-- The 56 bits below the opcode, from fields (value, lowest bit). -/
def word56 (fs : List (Nat × Nat)) : BitVec 56 := BitVec.ofNat 56 ((fs.map fun f => f.1 * 2 ^ f.2).sum)

/-! ### The queue and the invariant -/

/-- StepRunsFront, StepIdle, StepTakesOne, StepKeepsInv: a queue with a command, an empty one, and a step of a state that meets the invariant. -/
theorem test_wit_queue :
    ({ State.reset with pending := [.beatLoss] } : State).pending = .beatLoss :: [] ∧ State.reset.pending = [] ∧
    Inv { State.reset with pending := [.beatLoss] } ∧
    step { State.reset with pending := [.beatLoss] } = .next State.reset := by
  refine ⟨rfl, rfl, ⟨⟨by decide, ?_⟩, by unfold CoresWf; decide, by unfold MemoriesWf; decide⟩, rfl⟩
  intro p hp
  exact absurd hp (by simp [State.reset])

/-! ### Letters (chapters 02 and 04) -/

/-- IssueGuards: a core that is idle, one past its letter, one whose letter line is poisoned. -/
theorem test_wit_IssueGuards :
    (getCore 0 State.reset).st ≠ .running ∧
    (let s := wr .coreLetterLlen 0 0 running
     (getCore 0 s).st = .running ∧ (getCore 0 s).wait = none ∧ stalled 0 s = false ∧ 4 * rd .coreLetterLlen 0 s ≤ (getCore 0 s).pc) ∧
    (let s := setPoison 0 0 true running
     (getCore 0 s).st = .running ∧ (getCore 0 s).wait = none ∧ stalled 0 s = false ∧ (getCore 0 s).pc < 4 * rd .coreLetterLlen 0 s ∧
       linePoison 0 (rd .coreLetterLbase 0 s + (getCore 0 s).pc / 4) s = true) := by decide

theorem test_wit_CanIssue : CanIssue 0 running ∧ UnitsIdle 0 running ∧ CanIssue 0 inDistrict ∧ UnitsIdle 0 inDistrict ∧ CoresWf running := by
  unfold CanIssue UnitsIdle CoresWf
  decide

/-- LetterFlow: LOOP and LOOPI over the next instruction, NOTICE with LEAD 1, RWAIT with NEXT 0. -/
theorem test_wit_LetterFlow :
    (let w := word56 [(2, 41), (1, 28)]
     bits (wordOf 0x07 w) 0 28 = 0 ∧ badLoop 0 (bits (wordOf 0x07 w) 28 13) running = false) ∧
    (let w := word56 [(1, 27)]
     bits (wordOf 0x08 w) 0 27 = 0 ∧ badLoop 0 (bits (wordOf 0x08 w) 27 13) running = false ∧
       lineUnwritten (bits (wordOf 0x08 w) 43 13) (getCore 0 running) = false ∧ linePoison 0 (bits (wordOf 0x08 w) 43 13) running = false ∧
       spWord 0 (bits (wordOf 0x08 w) 43 13) (bits (wordOf 0x08 w) 40 3) running ≤ 32767) ∧
    (let w := word56 [(1, 36)]
     bits (wordOf 0x0a w) 0 15 = 0 ∧ 0 < bits (wordOf 0x0a w) 36 20) ∧
    bits (wordOf 0x0b 0) 0 32 = 0 := by decide

/-- LetterSync: DWAIT with an empty mask, BAR, HALT, and RWAIT with NEXT 1 on a core that holds a release. -/
theorem test_wit_LetterSync :
    bits (wordOf 0x03 0) 0 48 = 0 ∧ (∀ j ∈ chansIn 255, (getChan j (getCore 0 running)).st = .idle) ∧
    bits (wordOf 0x06 0) 0 54 = 0 ∧ (getCore 0 running).arrived = none ∧ apndOpen 0 running = false ∧
    bits (wordOf 0x01 (word56 [(7, 40)])) 0 40 = 0 ∧ busyIn 255 (getCore 0 running) = false ∧
    (let w := word56 [(1, 31)]
     let s := coreWith fun c => { c with held := true }
     bits (wordOf 0x0b w) 0 31 = 0 ∧ bits (wordOf 0x0b w) 31 1 = 1 ∧ (∀ j ∈ chansIn 255, (getChan j (getCore 0 s)).st = .idle) ∧
       apndOpen 0 s = false ∧ (getCore 0 s).took = false ∧ (getCore 0 s).held = true ∧
       offsetReached 0 (bits (wordOf 0x0b w) 32 24) s = true) := by decide

theorem test_wit_LetterSync_rwait :
    CanIssue 0 (coreWith fun c => { c with held := true }) ∧ UnitsIdle 0 (coreWith fun c => { c with held := true }) := by
  unfold CanIssue UnitsIdle
  decide

/-- SemaphoreRules: a signal under way to core 0, counts that do and do not saturate, SWAIT on an empty semaphore, and SIG to the core itself. -/
theorem test_wit_SemaphoreRules :
    (let s := { running with cores := { running.cores with signals := [⟨1, 0, 2, 3, false⟩] } }
     takeSignal 1 0 s.cores.signals = some (⟨1, 0, 2, 3, false⟩, []) ∧ stalled 0 s = false ∧ pathOpen (signalSite ⟨1, 0, 2, 3, false⟩) (siteOf 0) s = true) ∧
    65535 < rd .coreSemValue 3 (wr .coreSemValue 3 65535 running) + 1 ∧ rd .coreSemValue 3 running + 1 ≤ 65535 ∧
    bits (wordOf 0x05 0) 0 36 = 0 ∧ bits (wordOf 0x05 0) 36 16 ≤ rd .coreSemValue (16 * 0 + bits (wordOf 0x05 0) 52 4) running ∧
    (let w := word56 [(1, 36)]
     bits (wordOf 0x05 w) 0 36 = 0 ∧ rd .coreSemValue (16 * 0 + bits (wordOf 0x05 w) 52 4) running < bits (wordOf 0x05 w) 36 16) ∧
    (let w : BitVec 56 := 0
     bits (wordOf 0x04 w) 0 11 = 0 ∧ coreDistrict 0 inDistrict = some 5 ∧ coreDistrict (bits (wordOf 0x04 w) 39 17) inDistrict = some 5 ∧
       usable (bits (wordOf 0x04 w) 39 17) (wr .coreArrayIdWidth 0 32 inDistrict) = true ∧
       unreachable (siteOf 0) (siteOf (bits (wordOf 0x04 w) 39 17)) inDistrict = false) := by decide

/-- BranchRule: the reserved condition, a nonzero LINE, a target at the end of the letter, a branch always, and a word that is 0. -/
theorem test_wit_BranchRule :
    bits (wordOf 0x09 (word56 [(3, 54)])) 54 2 = 3 ∧ bits (wordOf 0x09 (word56 [(3, 54)])) 0 25 = 0 ∧
    (let w := word56 [(1, 41)]
     bits (wordOf 0x09 w) 0 25 = 0 ∧ bits (wordOf 0x09 w) 54 2 = 0 ∧ bits (wordOf 0x09 w) 41 13 ≠ 0) ∧
    (let w := word56 [(4, 25)]
     bits (wordOf 0x09 w) 0 25 = 0 ∧ bits (wordOf 0x09 w) 54 2 = 0 ∧ bits (wordOf 0x09 w) 41 13 = 0 ∧ bits (wordOf 0x09 w) 38 3 = 0 ∧
       4 * rd .coreLetterLlen 0 running ≤ bits (wordOf 0x09 w) 25 13) ∧
    (let w := word56 [(3, 25)]
     bits (wordOf 0x09 w) 0 25 = 0 ∧ bits (wordOf 0x09 w) 54 2 = 0 ∧ bits (wordOf 0x09 w) 25 13 < 4 * rd .coreLetterLlen 0 running) ∧
    (let w := word56 [(1, 54)]
     bits (wordOf 0x09 w) 0 25 = 0 ∧ bits (wordOf 0x09 w) 54 2 ≠ 0 ∧ bits (wordOf 0x09 w) 54 2 ≠ 3 ∧
       bits (wordOf 0x09 w) 25 13 < 4 * rd .coreLetterLlen 0 running ∧
       lineUnwritten (bits (wordOf 0x09 w) 41 13) (getCore 0 running) = false ∧ linePoison 0 (bits (wordOf 0x09 w) 41 13) running = false ∧
       ((spWord 0 (bits (wordOf 0x09 w) 41 13) (bits (wordOf 0x09 w) 38 3) running = 0) ↔ bits (wordOf 0x09 w) 54 2 = 1)) ∧
    (let w := word56 [(2, 54)]
     bits (wordOf 0x09 w) 54 2 ≠ 3 ∧
       ¬ ((spWord 0 (bits (wordOf 0x09 w) 41 13) (bits (wordOf 0x09 w) 38 3) running = 0) ↔ bits (wordOf 0x09 w) 54 2 = 1)) ∧
    (getCore 0 running).loops = [] := by decide

/-- ReservedBitsTrap, MatrixTraps, VectorRuns: words with a reserved bit, a matrix word and a vector word that fail a check at issue, an illegal VCFG. -/
theorem test_wit_ReservedBitsTrap :
    bits (wordOf 0x00 1) 0 56 ≠ 0 ∧ bits (wordOf 0x01 1) 0 40 ≠ 0 ∧ bits (wordOf 0x02 1) 0 40 ≠ 0 ∧ bits (wordOf 0x03 1) 0 48 ≠ 0 ∧
    bits (wordOf 0x04 1) 0 11 ≠ 0 ∧ bits (wordOf 0x05 1) 0 36 ≠ 0 ∧ bits (wordOf 0x06 1) 0 54 ≠ 0 ∧ bits (wordOf 0x07 1) 0 28 ≠ 0 ∧
    bits (wordOf 0x08 1) 0 27 ≠ 0 ∧ bits (wordOf 0x09 1) 0 25 ≠ 0 ∧ bits (wordOf 0x0a 0) 36 20 = 0 ∧ bits (wordOf 0x0b 1) 0 31 ≠ 0 ∧
    mCheck 0 (wordOf 0x40 1) running = some (1, 1, 0) ∧
    (vCheck 0 (wordOf 0x81 (word56 [(1, 0)])) (getCore 0 running).vcfg running).isSome = true ∧
    vcfgCause (wordOf 0x80 (word56 [(1, 28)])) ≠ 0 := by decide

/-- TrapEffect, TrapReported: the widths of a trap's fields at their largest values, and reports that are due outside and inside a district. -/
theorem test_wit_TrapEffect :
    (7 < 8 ∧ 255 < 256 ∧ 8191 < 2 ^ 13 ∧ 2 ^ 64 - 1 < 2 ^ 64) ∧ (getCore 0 running).trapDue = false ∧
    (let s := updCore 0 (fun c => { c with trapDue := true }) running
     (getCore 0 s).trapDue = true ∧ coreDistrict 0 s = none) ∧
    (let s := updDistrict 5 (fun d => { d with running := true }) (coreWith fun c => { c with trapDue := true })
     (getCore 0 s).trapDue = true ∧ coreDistrict 0 s = some 5 ∧ (getDistrict 5 s).running = true) := by decide

/-- FlowLettersFrame: NOP on the running core answers a next state. -/
theorem test_wit_FlowLettersFrame :
    UnitsIdle 0 running ∧ (getCore 0 running).wait = none ∧ ∃ t, exec (.nop 0 0) running = .next t :=
  ⟨by unfold UnitsIdle; decide, by decide, _, rfl⟩
/-! ### Arrays, vectors, movement (chapters 03 to 05) -/

/-- RepresentableUnchanged, TernaryPacking, ElementResults, SpecialResults, ScaleValues: a finite code, a NaN, a zero, a negative number, a zero and a negative scale, a NaN scale. -/
theorem test_wit_values :
    (0x3F80 < 2 ^ fmtBits .bf16 ∧ decodeElem .bf16 0x3F80 ≠ .nan) ∧ isNan (fp32Val 0x7FC00000) = true ∧ isZero (fp32Val 0x80000000) = true ∧
    (isNan (fp32Val 0xBF800000) = false ∧ isZero (fp32Val 0xBF800000) = false ∧ isNeg (fp32Val 0xBF800000) = true) ∧
    isZero (decodeScale .fine 0) = true ∧ (isNan (decodeScale .fine 0xB8) = false ∧ isNeg (decodeScale .fine 0xB8) = true) ∧
    isNan (decodeScale .fine 0x7F) = true := by decide

/-- The finite code of the test above, and T158 digits. -/
theorem test_wit_RepresentableUnchanged :
    (∃ n m e, decodeElem .bf16 0x3F80 = .fin n m e) ∧ (∃ n m e, decodeElem .t158 2 = .fin n m e) ∧ ∀ x ∈ [0, 1, 2, 2, 1, 0], x < 3 := by
  refine ⟨⟨false, 128, -7, by decide⟩, ⟨false, 1, 0, by decide⟩, by decide⟩

/-- DrainedTile, MatrixRuns: words that pass the checks at issue. -/
theorem test_wit_DrainedTile :
    (let s := wr .coreArrayIdWidth 0 32 running
     let stream := word56 [(1, 52), (1, 43), (1, 25), (1, 23)]
     mCheck 0 (wordOf 0x40 (word56 [(1, 52), (1, 34)])) s = none ∧ mCheck 0 (wordOf 0x41 stream) s = none ∧
       mCheck 0 (wordOf 0x42 stream) s = none ∧ mCheck 0 (wordOf 0x43 0) s = none ∧ (getCore 0 s).tiles.length < 8 ∧
       mCheck 0 (wordOf 0x44 0) s = none) ∧
    (mCvt (wordOf 0x43 0) = false ∧ mBank (wordOf 0x43 0) < (getCore 0 running).banks.length ∧ mClr (wordOf 0x43 0) = false ∧
      mClr (wordOf 0x43 (word56 [(1, 52)])) = true ∧ mCvt (wordOf 0x43 (word56 [(1, 52)])) = false) := by decide

/-- VectorRuns: a legal VCFG, a COUNT of 0, and a VADD of 8 elements with nothing to wait for. -/
theorem test_wit_VectorRuns :
    vcfgCause (wordOf 0x80 0) = 0 ∧ vCheck 0 (wordOf 0x81 0) (getCore 0 running).vcfg running = none ∧ vCount (wordOf 0x81 0) = 0 ∧
    (let w := wordOf 0x81 (word56 [(8, 41), (64, 28)])
     vCheck 0 w (getCore 0 running).vcfg running = none ∧ 0 < vCount w ∧ vBlocked 0 (entryOf 0 w running) running = false ∧
       tileCheck w (getCore 0 running) = none) := by decide

/-- GoRule: an idle core with a letter region, a channel BUSY, a GO that waits, and a core that runs. -/
theorem test_wit_GoRule :
    (let s := wr .coreLetterLlen 0 1 State.reset
     goState (getCore 0 s).st = true ∧ letterOk 0 s = true ∧ busyIn 255 (getCore 0 s) = false) ∧
    (let s := updCore 0 (fun c => { c with chans := c.chans.set 7 { st := .busy } }) (wr .coreLetterLlen 0 2048 State.reset)
     goState (getCore 0 s).st = true ∧ letterOk 0 s = true ∧ busyIn 255 (getCore 0 s) = true) ∧
    (getCore 0 (coreWith fun c => { c with goWait := true })).goWait = true ∧ goState (getCore 0 running).st = false := by decide

/-- A DMA descriptor: KIND, source, destination, bytes of a row, rows. -/
def descOf (kind src dst rbytes rows : Nat) : Nat := kind + src * 2 ^ 32 + dst * 2 ^ 80 + rbytes * 2 ^ 128 + rows * 2 ^ 152

/-- A core whose channel 0 is BUSY with a descriptor. -/
def busyWith (d : Nat) : State := coreWith fun c => { c with chans := c.chans.set 0 { st := .busy, desc := d } }

/-- The scratchpad of core 0 with a descriptor in line 256, its letter being line 0. -/
def lineHolds (d : Nat) : State := spWrite 0 8192 0 (natLe 32 d) running

/-- LetterMoves, DmaEvents, DmaCheckOrder: DMAX of the descriptor in line 256; each before-data check in turn; a transfer that completes, one that meets unwritten data. -/
theorem test_wit_Dma :
    (let s := lineHolds (descOf 1 0 4096 32 1)
     let w := word56 [(256, 40)]
     bits (wordOf 0x02 w) 0 40 = 0 ∧ (getChan (bits (wordOf 0x02 w) 53 3) (getCore 0 s)).st = .idle ∧
       lineUnwritten (bits (wordOf 0x02 w) 40 13) (getCore 0 s) = false ∧ linePoison 0 (bits (wordOf 0x02 w) 40 13) s = false ∧
       (dAdv (spLine 0 (bits (wordOf 0x02 w) 40 13) s) && lineUnread (bits (wordOf 0x02 w) 40 13) (getCore 0 s)) = false) ∧
    badDesc (descOf 8 0 0 32 1) = true ∧ dKind (descOf 8 0 0 32 1) = 8 ∧
    (badDesc (descOf 1 0 4096 0 1) = false ∧ isSkew 1 = false ∧ dRbytes (descOf 1 0 4096 0 1) = 0) ∧
    (let d := descOf 1 vaultEnd 4096 32 1
     badDesc d = false ∧ dRbytes d ≠ 0 ∧ dRows d ≠ 0 ∧ badAddr d = true) ∧
    (let d := descOf 4 0 4096 32 1
     badDesc d = false ∧ dRows d ≠ 0 ∧ badAddr d = false ∧ foreignTarget 0 d running = true) ∧
    (let d := descOf 1 (vaultEnd - 32) 4096 64 1
     badDesc d = false ∧ badAddr d = false ∧ foreignTarget 0 d running = false ∧ tooLong d = true) ∧
    (let d := descOf 1 0 0 32 1
     badDesc d = false ∧ badAddr d = false ∧ foreignTarget 0 d running = false ∧ tooLong d = false ∧ intoLetter 0 d running = true) ∧
    (let d := descOf 1 (vaultEnd - 32) 4096 32 1
     badDesc d = false ∧ badAddr d = false ∧ foreignTarget 0 d running = false ∧ tooLong d = false ∧ intoLetter 0 d running = false) := by decide

theorem test_wit_Dma_events :
    (let s := busyWith (descOf 3 4096 0 32 1)
     (getChan 0 (getCore 0 s)).st = .busy ∧ stalled 0 s = false ∧ dmaHeld 0 0 s = false ∧ dmaCut 0 (getChan 0 (getCore 0 s)) s = false) ∧
    (let s := busyWith (descOf 1 0 4096 32 1)
     (getChan 0 (getCore 0 s)).st = .busy ∧ dmaHeld 0 0 s = false ∧
       (moveDma 0 (getChan 0 (getCore 0 s)).desc 32 s).1 ≠ 0 ∧ (moveDma 0 (getChan 0 (getCore 0 s)).desc 32 s).1 ≠ 64) ∧
    (getChan 0 (getCore 0 running)).st ≠ .busy ∧ 0 < (getCore 0 running).chans.length := by decide

/-- Releases, GeneratorWrites: a barrier release under way, a step release under way to a stopped and to a running core, an RWAIT that waits, a drain
that has stalled, two held writes. -/
theorem test_wit_Releases :
    (let s := wr .distCfgHome 5 0 (coreWith fun c => { c with st := .barrierWait, releasing := true })
     stalled 0 s = false ∧ (getCore 0 s).releasing = true ∧ (getCore 0 s).st = .barrierWait ∧
       pathOpen (match coreDistrict 0 s with | some d => rd .distCfgHome d s | none => siteOf 0) (siteOf 0) s = true) ∧
    (let s := coreWith fun c => { c with rel := true }
     stalled 0 s = false ∧ (getCore 0 s).rel = true ∧ goState (getCore 0 s).st = false) ∧
    (let s := coreWith fun c => { c with rel := true, st := .stopped }
     (getCore 0 s).rel = true ∧ goState (getCore 0 s).st = true) ∧
    (let s := coreWith fun c => { c with st := .roundWait, wait := some (wordOf 0x0b 0) }
     (getCore 0 s).wait = some (wordOf 0x0b 0) ∧ (getCore 0 s).st = .roundWait ∧ stalled 0 s = false ∧ bits (wordOf 0x0b 0) 56 8 = 0x0B ∧
       bits (wordOf 0x0b 0) 31 1 = 0) ∧
    (let s := coreWith fun c => { c with drain := some ⟨0, 0, 0, {}⟩, tiles := List.replicate 8 ⟨false, 0, 0, false, false, false, 0, []⟩ }
     (getCore 0 s).drain = some ⟨0, 0, 0, {}⟩ ∧ 8 ≤ (getCore 0 s).tiles.length ∧ goState (getCore 0 s).st = false) ∧
    (getCore 0 (coreWith fun c => { c with srHeld := [(true, 7), (false, 9)] })).srHeld = [(true, 7), (false, 9)] := by decide
/-! ### Vaults, host window, engines, network (chapters 06 to 08) -/

/-- VaultReadAfterWrite: 32 bytes at word 0 and at the last word, the flip-mask not armed. -/
theorem test_wit_VaultReadAfterWrite :
    (List.replicate 32 (0x5A : Byte)).length = 32 ∧ 0 < 2 ^ 21 ∧ 2 ^ 21 - 1 < 2 ^ 21 ∧ rd .vaultFlipCtrlArmed 0 State.reset = 0 := by decide

/-- UnwrittenRead: the last coded word of a vault after reset, a poisoned word. -/
theorem test_wit_UnwrittenRead :
    32 * (counterBase / 32 - 1) < counterBase ∧ 6 < 8 ∧ badOf 7 (32 * (counterBase / 32 - 1)) State.reset = [] ∧
    getMark 7 (32 * (counterBase / 32 - 1)) State.reset = .unwritten ∧
    getMark 0 64 (setMark 0 64 .poison State.reset) = .poison ∧ badOf 0 64 (setMark 0 64 .poison State.reset) = [] := by decide

/-- VaultEvents, VaultUpkeep: the first offset past the vault, the last in it, an established block, a queued scrub, scrub on and off. -/
theorem test_wit_VaultUpkeep :
    vaultEnd ≤ (0x3000000 : BitVec 26).toNat ∧ (0x2FFFFFF : BitVec 26).toNat < vaultEnd ∧ vaultWorks 0 State.reset = true ∧
    (vread 0 ((0x2FFFFFF : BitVec 26).toNat / 32 * 32) 4 State.reset).1 = .ok (List.replicate 32 0) ∧
    (vread 0 0 4 State.reset).1 = .unwritten ∧
    isEst 0 (4096 * 5) (setEst 0 (4096 * 5) true State.reset) = true ∧
    (let s := { State.reset with vaults := { State.reset.vaults with dsq := tset dsqNone State.reset.vaults.dsq 3 [5, 6] } }
     tget dsqNone s.vaults.dsq 3 = [5, 6] ∧ vaultWorks 3 s = true) ∧
    rd .vsiteScrubEn 0 (wr .vsiteScrubEn 0 0 State.reset) = 0 ∧ bit .vsiteScrubEn 0 (wr .vsiteScrubEn 0 1 State.reset) = true := by decide

/-- A page of vault 0 that district 5 owns, with a READ_WRITE grant of port 0's function 1. -/
def granted : State :=
  setEng { State.reset.eng with grants := tset noGrant State.reset.eng.grants (grantKey 0 1 0) (.district 5 true) }
    (setPage 0 0 { owner := .district 5 } (wr .distCfgState 5 1 State.reset))

/-- HostWindowRule: a hole, a page outside the grants, and one that they admit. -/
theorem test_wit_HostWindowRule :
    (bit .brsiteStatusLost (hostSite true 0x3000000) State.reset = false ∧ hostTarget true 0x3000000 = none) ∧
    (bit .brsiteStatusLost (hostSite true 0) granted = false ∧ unreachable (hostPortSite 0 granted) (hostSite true 0) granted = false ∧
      pathHeld (hostPortSite 0 granted) (hostSite true 0) granted = false ∧ hostTarget true 0 = some (0, 0) ∧
      grantAllows 0 0 0 0 false granted = false ∧ grantAllows 0 1 0 0 true granted = true) ∧
    (vreadBytes 0 0 (64 - 0 % 64) srcHost (meetHost 0 granted)).1.2 ≠ none ∧
    (vreadBytes 0 0x2FFFFC0 (64 - 0x2FFFFC0 % 64) srcHost (meetHost 0 granted)).1.2 = none := by decide

/-- HostWindowForms: the first and the last offset of an interleaved page. -/
theorem test_wit_HostWindowForms : 0 < 0x2000000 ∧ 0x1FFFFFF < 0x2000000 := by decide

/-- An engine with one operation in its queue, one with it running, and one that holds it. -/
def opOne : NmOp := { desc := 1, district := some 5, who := .dispatcher 5 0 }
def engineWith (x : Engine) : State := setEngine 0 x State.reset

theorem test_wit_EngineEvents :
    (let s := engineWith { queue := [opOne] }
     (getEngine 0 s).running = none ∧ (getEngine 0 s).queue ≠ [] ∧ s.power.gated.contains 0 = false ∧ bit .brsiteStatusLost 0 s = false ∧
       bit .brsiteStatusResetting 0 s = false ∧ startHold 0 false s = 2) ∧
    (let s := wr .thdevCfgChecker 0 1 (engineWith { queue := [opOne] })
     startHold 0 true s ≠ 2 ∧ startHold 0 true s ≠ 0 ∧ (getEngine 0 s).held = false) ∧
    (getEngine 0 (engineWith { running := some opOne })).running = some opOne ∧
    (getEngine 0 (engineWith { queue := [opOne], held := true })).held = true := by decide

/-- The other clauses of EngineEvents, NetworkEvents: an edge with 32 lanes, a route change in each phase, a substitution that ends, a lost transfer. -/
theorem test_wit_NetworkEvents_net :
    edgeExists (edgeKey 0 0) = true ∧
    (let s := wr .netEdgeActive 0 32 State.reset
     rd .netEdgeState 0 s ≠ 3 ∧ bit .netStatusOut 0 s = false ∧ 16 < rd .netEdgeActive 0 s ∧
       (detect (mkRepair 3 0 0 33 (touchedByEdge 0 (otherEnd 0 / 4) s)) s).1 = true) ∧
    (setNet { State.reset.net with phase := 1 } State.reset).net.phase = 1 ∧
    (let s := setNet { State.reset.net with subs := [(0, 3, false)] } State.reset
     s.net.subs.find? (fun x => x.1 == edgeKey 0 0) = some (0, 3, false) ∧ s.faults.running = none) ∧
    (let d := descOf 6 0 (2 ^ 18) 32 1
     let s := coreWith fun c => { c with chans := c.chans.set 0 { st := .busy, desc := d, lost := true } }
     (getChan 0 (getCore 0 s)).st = .busy ∧ dKind (getChan 0 (getCore 0 s)).desc = 6 ∧ (getChan 0 (getCore 0 s)).lost = true) := by decide

/-- The end of a route change with nothing broken: no recovery runs once the routes are loaded. -/
theorem test_wit_NetworkEvents_phase2 :
    (setNet { State.reset.net with phase := 2 } State.reset).net.phase = 2 := by decide

/-! ### Rings, mailboxes, registers (chapters 13 and 14) -/

/-- A ring of 16 slots, enabled, one envelope waiting, on a READY device. -/
def ringOn : State := wr .eringDbIndex 0 1 (wr .eringCfgEn 0 1 (wr .eringCfgLog2size 0 4 (wr .brdevStatusPhase 0 6 State.reset)))

/-- RingIndexRules, RingFetch: doorbells at both ends of the span and past it, a consumer index within and past it, a slot to fetch, a ring that is off. -/
theorem test_wit_RingFetch :
    (let ahead (v : BitVec 17) : Nat := (v.toNat + 2 ^ 17 - rd .eringHeadIndex 0 ringOn) % 2 ^ 17
     1 ≤ ahead 1 ∧ ahead 1 ≤ 2 ^ rd .eringCfgLog2size 0 ringOn ∧ 1 ≤ ahead 16 ∧ ahead 16 ≤ 2 ^ rd .eringCfgLog2size 0 ringOn ∧
       ¬ (1 ≤ ahead 0) ∧ ¬ ahead 17 ≤ 2 ^ rd .eringCfgLog2size 0 ringOn) ∧
    (let cons (v : BitVec 17) : Nat := (v.toNat + 2 ^ 17 - rd .eringRconsIndex 0 ringOn) % 2 ^ 17
     let prod : Nat := (rd .eringRprodIndex 0 ringOn + 2 ^ 17 - rd .eringRconsIndex 0 ringOn) % 2 ^ 17
     cons 0 ≤ prod ∧ prod < cons 1) ∧
    (bit .eringCfgEn 0 ringOn = true ∧ rd .eringDbIndex 0 ringOn ≠ rd .eringHeadIndex 0 ringOn ∧
      (rd .eringHeadIndex 0 ringOn + 2 ^ 17 - rd .eringRconsIndex 0 ringOn) % 2 ^ 17 < 2 ^ rd .eringCfgLog2size 0 ringOn ∧
      (ringOn.eng.outst.filter fun o => o.ring == 0).length < 64 ∧ rd .brdevStatusPhase 0 ringOn = 6 ∧
      outsideTable (ringEnv 0 0 ([1, 0, 1, 0, 64, 0] ++ List.replicate 58 0) ringOn) = false) ∧
    bit .eringCfgEn 0 State.reset = false := by decide

set_option maxRecDepth 4000 in
/-- MailboxRules, MailboxEnvelope: a full mailbox of SEQ 1 with nothing kept, an empty one, and a message to firmware in a secure mailbox. -/
theorem test_wit_MailboxRules :
    (let s := wr .mboxStatusSeq 0 1 (flag .mboxStatusFull 0 State.reset)
     bit .mboxStatusFull 0 s = true ∧ tget noUnsent s.eng.unsent 0 = [] ∧ (1 : BitVec 8).toNat = rd .mboxStatusSeq 0 s ∧
       (0 : BitVec 8).toNat ≠ rd .mboxStatusSeq 0 s ∧ mboxToFw 0 = true ∧ mboxSecure 0 = true ∧
       envLen (mboxEnv 0 [] false [] true s) ≤ 256) ∧
    bit .mboxStatusFull 0 State.reset = false ∧ (List.replicate 256 (1 : Byte)).length = 256 ∧ rd .mboxCfgCopy 0 State.reset = 0 ∧
    (let s := flag .mboxStatusFull 16 (wr .brdevStatusClerkUp 0 1 State.reset)
     mboxToFw 16 = true ∧ bit .mboxStatusFull 16 s = true ∧ mboxSecure 16 = false ∧ clerkUp s = true) := by decide

/-- RegisterWriteRules, RegisterEvents: a width that fits and one that does not, a lost site, a hole of the map, a register that may not be written, one that may, and
both ends of the first staging buffer with the register after them. -/
theorem test_wit_RegisterWriteRules :
    widthOk 0x8200000 2 = false ∧ widthOk 0 4 = true ∧ widthOk 0x7FFFFF8 8 = true ∧ widthOk 0x80C0001 1 = true ∧ widthOk 0x80C0001 2 = false ∧
    bit .brsiteStatusLost (0 / 0x200000) (wr .brsiteStatusLost 0 1 State.reset) = true ∧
    (bit .brsiteStatusLost 0 State.reset = false ∧ bit .brsiteStatusResetting 0 State.reset = false) ∧
    locate 0x82FFFF8 = none ∧ locate 0x8200000 = some (.brdev, 0, 0) ∧ mayWrite 0 1 .brdev 0 State.reset = false ∧
    mayWrite 0 0 .brdev 0 State.reset = true ∧ locate 0x80C0000 = some (.mbox, 0, 0) ∧ locate 0x80C00F8 = some (.mbox, 0, 248) ∧
    mayWrite 0 0 .mbox 0 State.reset = true ∧ locate 0x80C0200 = some (.mbox, 0, 512) := by decide

/-- A write of CORE 0's block that is held until it takes effect. -/
theorem test_wit_RegisterWriteRules_posted :
    (let s := { State.reset with posted := [⟨.core, 0, []⟩] }
     s.posted.find? (fun p => p.blk == .core && p.inst == 0) = some ⟨.core, 0, []⟩ ∧ coreDark .core 0 s = false ∧
       locate 0 = some (.core, 0, 0) ∧ busyBits .core = some (.corePostBusy, .corePostOverrun)) := by decide

/-- FunctionResetRule, ClerkRules: a function's ring, a clerk that runs and one that starts, a port that is and one that is no Type-2 port. -/
theorem test_wit_FunctionResetRule :
    (1 : FuncId) ≠ 0 ∧ ringFunc 8 (wr .eringCfgFunc 8 1 State.reset) = 1 ∧ ringFunc 0 State.reset ≠ 1 ∧
    clerkUp State.reset = false ∧ clerkUp (wr .brdevStatusClerkUp 0 1 State.reset) = true ∧
    (wr .brdevStatusClerkUp 0 1 State.reset).eng.fences = [] ∧ State.reset.eng.clerk.starting = false ∧
    (let s := setEng { State.reset.eng with clerk := { starting := true } } State.reset
     s.eng.clerk.starting = true ∧ s.eng.store = []) ∧
    State.reset.boot.hostModes / 4 ^ 0 % 4 ≠ 1 ∧ (setBoot { State.reset.boot with hostModes := 0x55 } State.reset).boot.hostModes / 4 ^ 3 % 4 = 1 := by
  decide

theorem test_wit_FunctionResetRule_inv : Inv (wr .eringCfgFunc 8 1 State.reset) := by
  refine ⟨⟨by decide, ?_⟩, by unfold CoresWf; decide, by unfold MemoriesWf; decide⟩
  decide
/-! ### Envelopes (chapters 13 and 14) -/

/-- Parameter bytes: n bytes with each value at its offset, the rest zero. -/
def par (n : Nat) (fs : List (Nat × Nat)) : List Byte := natLe n ((fs.map fun f => f.2 <<< (8 * f.1)).sum)

/-- The 64 header bytes of R357 before a parameter area, no buffers, room for the largest output. -/
def headOf (code len : Nat) : List Byte :=
  natLe 2 code ++ [1, 0] ++ natLe 2 len ++ [0, 0] ++ natLe 8 7 ++ natLe 8 0 ++ natLe 4 4064 ++ natLe 8 0 ++ natLe 4 0 ++ natLe 24 0

def mkEnv (cls : PortClass) (secured : Bool) (via : Via) (code : Nat) (ps : List Byte) : Env :=
  { cls := cls, secured := secured, port := 0, func := 0, via := via, raw := headOf code (64 + ps.length) ++ ps, input := [], outFault := false }

/-- From the secured management path, from a host's secure function by its mailbox, and from the twin. -/
def envM (code n : Nat) (fs : List (Nat × Nat)) : Env := mkEnv .mgmt true .mgmt code (par n fs)
def envH (code n : Nat) (fs : List (Nat × Nat)) : Env := mkEnv .hosts false (.mbox 0) code (par n fs)
def envP (code n : Nat) (fs : List (Nat × Nat)) : Env := mkEnv .peer false (.peer 0) code (par n fs)

/-- After reset with the clerk up. -/
def clerkOn : State := wr .brdevStatusClerkUp 0 1 State.reset

set_option maxRecDepth 4000 in
/-- EnvelopeChecks: a ring's envelope that is not there, a header check of status 1 and one of status 4, the clerk down with room, its store
full, and a parameter area that is too short. -/
theorem test_wit_EnvelopeChecks :
    ready (mkEnv .hosts false (.ring 0 0) 1 []) State.reset = false ∧
    (let e := mkEnv .mgmt true .mgmt 1 []
     ready e State.reset = true ∧ headerCheck (opNop e) { e with raw := natLe 64 0 } = some (2, 4) ∧
       headerCheck (opSubmit (envP 0x0401 0 [])) (envP 0x0402 8 []) = none ∧ headerCheck (opCancel (envP 0x0402 8 [])) (envP 0x0402 8 []) = some (4, 0)) ∧
    (let e := envM 0x0602 5 [(2, 300)]
     headerCheck (opThermal e) e = none ∧ (opThermal e).clerk = true ∧ clerkUp (markPassed e State.reset) = false ∧
       (markPassed e State.reset).eng.store.length < 256 ∧
       256 ≤ (setEng { State.reset.eng with store := List.replicate 256 (0, e) } State.reset).eng.store.length ∧
       clerkUp (markPassed e clerkOn) = true ∧ paramCheck (opThermal e) { e with raw := headOf 0x0602 68 ++ natLe 4 0 } = some (1, 4)) := by
  decide

/-- HeaderOrder, DistrictGate: lengths 0, 63, 64, 4096 and 4097, each header check alone failing, and a district that is free, ACTIVE and re-binding. -/
theorem test_wit_HeaderOrder :
    (let len (n : Nat) : Env := { mkEnv .mgmt true .mgmt 1 [] with raw := headOf 1 n }
     envLen (len 0) = 0 ∧ envLen (len 63) = 63 ∧ envLen (len 64) = 64 ∧ envLen (len 4096) = 4096 ∧ 4096 < envLen (len 4097)) ∧
    (let e := mkEnv .mgmt true .mgmt 1 []
     hNat e 2 1 = 1 ∧ hNat e 3 1 < 4 ∧ hNat e 4 2 < 8192 ∧ hNat e 6 2 = 0 ∧ firstNonzero e 40 64 = none ∧ classAllowed (opNop e) e = true ∧
       hNat e 28 8 = 0 ∧ hNat e 16 8 = 0 ∧ hNat e 36 4 = 0 ∧ (opNop e).out ≤ hNat e 24 4 ∧ (opNop e).out ≤ 4064 ∧
       hNat { e with raw := e.raw.set 2 2 } 2 1 ≠ 1 ∧ 4 ≤ hNat { e with raw := e.raw.set 3 4 } 3 1 ∧
       hNat { e with raw := e.raw.set 6 1 } 6 2 ≠ 0 ∧ hNat { e with raw := e.raw.set 16 1 } 16 8 ≠ 0 ∧
       hNat { e with raw := e.raw.set 25 0 } 24 4 < (opDevQuery e).out ∧ classAllowed (opCancel e) e = false) ∧
    (let e := envH 0x0301 65 []
     (e.cls = .host → holdsGrant 0 0 5 true State.reset = true) ∧ rd .distCfgState 5 State.reset = 0 ∧
       rd .distCfgState 5 (wr .distCfgState 5 1 State.reset) = 1 ∧ rd .distCfgState 5 (wr .distCfgState 5 2 State.reset) = 2 ∧
       holdsGrant 0 0 5 true State.reset = false) := by
  decide

/-- RefusedUnchanged: refusals of opcodes of the three shapes. -/
theorem test_wit_RefusedUnchanged :
    (doLock (envM 0x0004 4 [(0, 32)]) State.reset).1.status ≠ 0 ∧ (doThermal (envM 0x0602 5 [(2, 299)]) State.reset).1.status ≠ 0 ∧
    ((doCancel (envH 0x0402 8 [(0, 1)]) State.reset).1).status = 50 ∧
    ((doReset (envM 0x0005 2 [(0, 1), (1, 64)]) State.reset).1.map (·.status)) = some 1 := by decide

/-- DeviceEnvelopes: NOP, DEV_QUERY, CONFIG and LOCK with the values at the ends of their ranges. -/
theorem test_wit_DeviceEnvelopes_a :
    Taken (opNop (envM 1 0 [])) (envM 1 0 []) State.reset ∧ Taken (opDevQuery (envM 2 0 [])) (envM 2 0 []) clerkOn ∧
    (let e := envM 3 12 [(0, 4), (4, 1022)]
     Taken (opConfig e) e State.reset ∧ configOk (pNat e 0 2) (pNat e 4 8) = true ∧ bit .devLockFlash 0 State.reset = false ∧ e.extOk = true) ∧
    (let e := envM 4 4 [(0, 31)]
     Taken (opLock e) e State.reset ∧ pNat e 0 4 < 32 ∧ bit .devLockSecurity 0 State.reset = false) := by
  unfold Taken; decide

/-- DeviceEnvelopes: the three RESET domains at their last site, layer and core, alone and during a recovery. -/
theorem test_wit_DeviceEnvelopes_b :
    (let e := envM 5 6 [(0, 1), (1, 63)]
     Taken (opReset 1 e) e clerkOn ∧ pNat e 1 1 < 64 ∧ ¬ (pNat e 0 1 = 2 ∧ 13 < pNat e 2 1) ∧ ¬ (pNat e 0 1 = 3 ∧ 2048 ≤ pNat e 4 2) ∧
       bit .brsiteStatusLost 63 clerkOn = false ∧ bit .brsiteStatusResetting 63 clerkOn = false ∧ clerkOn.boot.waiting = [] ∧
       busyClusters ((List.range 32).map (32 * 63 + ·)) clerkOn = false ∧ recovering clerkOn = false ∧
       recovering (setFaults { clerkOn.faults with running := some (mkRepair 7 0 0 0 [1]) } clerkOn) = true) ∧
    (let e := envM 5 6 [(0, 2), (1, 63), (2, 13)]
     Taken (opReset 2 e) e clerkOn ∧ ¬ (pNat e 0 1 = 2 ∧ 13 < pNat e 2 1)) ∧
    (let e := envM 5 6 [(0, 3), (1, 63), (4, 2047)]
     Taken (opReset 3 e) e clerkOn ∧ ¬ (pNat e 0 1 = 3 ∧ 2048 ≤ pNat e 4 2) ∧
       busyClusters (if pNat e 0 1 = 3 then [clusterOf (2048 * pNat e 1 1 + pNat e 4 2)] else (List.range 32).map (32 * pNat e 1 1 + ·)) clerkOn = false) := by
  unfold Taken; decide

/-- DeviceEnvelopes: the three TEST operations. -/
theorem test_wit_DeviceEnvelopes_c :
    (let e := envM 6 4 [(0, 1), (1, 63), (2, 31)]
     Taken (opTest 1 e) e clerkOn ∧ Taken (opTest 2 e) e clerkOn ∧ pNat e 1 1 < 64 ∧ pNat e 2 1 < 32 ∧
       bit .brsiteStatusLost (pNat e 1 1) clerkOn = false ∧ bit .brsiteStatusResetting (pNat e 1 1) clerkOn = false ∧
       busyClusters [32 * pNat e 1 1 + pNat e 2 1] clerkOn = false ∧
       (∀ x ∈ clerkOn.pages, clusterOf (x.1 / 768) = 32 * pNat e 1 1 + pNat e 2 1 → x.2.owner = .free)) ∧
    (let e := envM 6 4 [(0, 3), (3, 31)]
     Taken (opTest 3 e) e clerkOn ∧ pNat e 3 1 < 32 ∧ portBusy (pNat e 3 1) clerkOn = false) := by
  unfold Taken; decide

/-- DeviceEnvelopes: the cap at its least and its largest, thermal configuration, and the last record position of the logbook. -/
theorem test_wit_DeviceEnvelopes_d :
    (let e := envM 0x0601 72 [(0, 1), (2, 800), (4, 5)]
     Taken (opPower 1 e) e State.reset ∧ 800 ≤ pNat e 2 2 ∧ pNat e 2 2 ≤ 3200 ∧ pNat e 4 1 ≤ 5 ∧ pNat e 2 2 ≤ rd .pdevCapLimit 0 State.reset) ∧
    (let e := envM 0x0601 4 [(0, 2), (2, 3200)]
     Taken (opPower 2 e) e State.reset ∧ 800 ≤ pNat e 2 2 ∧ pNat e 2 2 ≤ 3200 ∧ bit .devLockCap 0 State.reset = false ∧
       bit .devLockSecurity 0 State.reset = false) ∧
    (let e := envM 0x0602 5 [(0, 1), (2, 1000), (4, 1)]
     Taken (opThermal e) e clerkOn ∧ 300 ≤ pNat e 2 2 ∧ pNat e 2 2 ≤ 1000 ∧ pNat e 4 1 ≤ 1) ∧
    (let e := envM 0x0801 4 [(0, 4095), (2, 15)]
     Taken (opLogRead e) e State.reset ∧ pNat e 0 2 < 4096) := by
  unfold Taken; decide

/-- FirmwareEnvelopes: a first chunk, one with a gap, and an activation with nothing staged and with an image that is not complete. -/
theorem test_wit_FirmwareEnvelopes :
    (let e := envM 0x0901 20 [(0, 1), (8, 4), (16, 9)]
     Taken (opFwStage e) e State.reset ∧ pNat e 0 1 = 1 ∧ pNat e 4 4 = stageNext (getFw 1 State.reset) ∧ pNat e 8 4 ≠ 0 ∧ hNat e 28 8 = 0 ∧
       (e.raw.take (envLen e)).drop 80 ≠ [] ∧ pNat e 4 4 + ((e.raw.take (envLen e)).drop 80).length ≤ pNat e 8 4 ∧ e.extOk = true) ∧
    (let e := envM 0x0901 20 [(0, 2), (4, 1), (8, 4)]
     Taken (opFwStage e) e State.reset ∧ pNat e 0 1 = 2 ∧ pNat e 4 4 ≠ stageNext (getFw 2 State.reset)) ∧
    (let e := envM 0x0902 1 [(0, 1)]
     Taken (opFwActivate e) e State.reset ∧ pNat e 0 1 = 1 ∧ (getFw 1 State.reset).count = 0) := by
  unfold Taken; decide

/-- FirmwareEnvelopes: an image of the rows that pass or fail the rollback check, for every signature and version that Config may give. -/
theorem test_wit_FirmwareEnvelopes_signed (h : Config.imageSigned [5] = true) :
    ∃ s : State, (getFw 2 s).count ≠ 0 ∧ (getFw 2 s).count = (getFw 2 s).total ∧ Config.imageSigned (getFw 2 s).other = true ∧
      (getFw 2 s).rollback ≤ Config.imageVersion (getFw 2 s).other :=
  ⟨setFw 2 { State.reset.eng.patch with other := [5], count := 1, total := 1, rollback := 0 } State.reset, by decide, by decide, h, Nat.zero_le _⟩
/-- Port 0 is a NOLUC port, over which a twin's envelopes come. -/
def peerOn : State := wr .nolucpPortMode 0 1 clerkOn
/-- With district 5 ACTIVE, or re-binding. -/
def actOn : State := wr .distCfgState 5 1 clerkOn
def bindOn : State := wr .distCfgState 5 2 clerkOn

set_option maxRecDepth 10000 in
/-- MemoryEnvelopes: PARCEL_RESERVE of the last page, PARCEL_SEAL, PARCEL_DISCARD, and the four kinds of GRANT. -/
theorem test_wit_MemoryEnvelopes_parcels :
    (let e := envM 0x0110 268 [(0, 63), (8, 1), (264, 751), (266, 1)]
     Taken (opParcelReserve e) e clerkOn ∧ pNat e 0 1 < 64 ∧ pNat e 266 2 ≠ 0 ∧ pNat e 264 2 + pNat e 266 2 ≤ 752 ∧ pNat e 8 256 = 1 ∧
       (getParcel 63 clerkOn).st = 0 ∧ bit .brsiteStatusLost 0 clerkOn = false ∧ pageIsFree 0 751 clerkOn = true) ∧
    (let e := envM 0x0111 1 [(0, 63)]
     Taken (opParcelSeal e) e clerkOn ∧ pNat e 0 1 < 64 ∧ (trySeal 63 clerkOn).1 ≠ 0 ∧ (trySeal 63 clerkOn).1 ≠ 4) ∧
    (let e := envM 0x0112 1 [(0, 63)]
     let s := setParcel 63 { st := 1 } clerkOn
     Taken (opParcelDiscard e) e s ∧ pNat e 0 1 < 64 ∧ boundTo 63 s = none ∧ (getParcel 63 s).st ≠ 0 ∧ (getParcel 63 s).st ≠ 4) := by
  unfold Taken; decide

/-- MemoryEnvelopes: GRANT of a district, of nothing and of a parcel. -/
theorem test_wit_MemoryEnvelopes_grants :
    (let e := envM 0x0120 5 [(0, 3), (1, 7), (2, 15), (3, 2), (4, 5)]
     Taken (opGrant e) e actOn ∧ pNat e 0 1 < 4 ∧ pNat e 1 1 < 8 ∧ pNat e 2 1 < 16 ∧ mayConfigure e (pNat e 0 1) = true ∧ pNat e 3 1 = 2 ∧
       rd .distCfgState (pNat e 4 1) actOn ≠ 2) ∧
    (let e := envM 0x0120 5 [(3, 0)]
     Taken (opGrant e) e actOn ∧ pNat e 3 1 = 0 ∧ pNat e 4 1 = 0) ∧
    (let e := envM 0x0120 5 [(3, 3), (4, 63)]
     Taken (opGrant e) e actOn ∧ pNat e 3 1 = 3 ∧ pNat e 4 1 < 64) := by
  unfold Taken; decide

/-- MemoryEnvelopes: FILL, FENCE with nothing under way, COPY of words that read well or poisoned, and ATOMIC at the counter area's ends. -/
theorem test_wit_MemoryEnvelopes_ranges :
    (let e := envM 0x0201 56 [(32, 1), (40, 0), (48, 4096)]
     Taken (opFill e) e clerkOn ∧ fillBad e = none ∧ (∀ r ∈ (fillRanges e).map (·.2), rangeForeign e r.1 r.2 true clerkOn = false ∧
       rangeSealed r.1 r.2 clerkOn = false ∧ rangeBusy r.1 r.2 clerkOn = false ∧ rangeLost r.1 clerkOn = false)) ∧
    (let e := envM 0x0202 16 [(0, 32), (8, 32)]
     Taken (opFence e) e clerkOn ∧ pNat e 8 8 ≠ 0 ∧ inVault (pNat e 0 8) (pNat e 8 8) = true ∧
       rangeForeign e (pNat e 0 8) (pNat e 8 8) false clerkOn = false ∧
       fenceOps (vaultLocal (pNat e 0 8)).1 (vaultLocal (pNat e 0 8)).2 (pNat e 8 8) clerkOn = []) ∧
    (let e := envM 0x0203 20 [(0, 0), (8, 64), (16, 32)]
     Taken (opCopy e) e clerkOn ∧ pNat e 16 4 ≠ 0 ∧ pNat e 16 4 % 32 = 0 ∧
       (∀ a ∈ [pNat e 0 8, pNat e 8 8], inVault a (pNat e 16 4) = true ∧ rangeSealed a (pNat e 16 4) clerkOn = false ∧
         rangeBusy a (pNat e 16 4) clerkOn = false ∧ rangeLost a clerkOn = false) ∧
       rangeForeign e (pNat e 0 8) (pNat e 16 4) false clerkOn = false ∧ rangeForeign e (pNat e 8 8) (pNat e 16 4) true clerkOn = false ∧
       (vreadBytes 0 0 32 srcSide clerkOn).1.2 ≠ none) ∧
    (let e := envM 0x0204 32 [(0, 4), (1, 8), (8, vaultEnd - 8)]
     Taken (opAtomic e) e clerkOn ∧ 1 ≤ pNat e 0 1 ∧ pNat e 0 1 ≤ 4 ∧ pNat e 1 1 = 8 ∧ pNat e 8 8 % pNat e 1 1 = 0 ∧
       inVault (pNat e 8 8) (pNat e 1 1) = true ∧ counterBase ≤ pNat e 8 8 % 2 ^ 26 ∧ rangeForeign e (pNat e 8 8) (pNat e 1 1) true clerkOn = false ∧
       rangeBusy (pNat e 8 8) (pNat e 1 1) clerkOn = false ∧ rangeLost (pNat e 8 8) clerkOn = false) := by
  unfold Taken; decide

set_option maxRecDepth 10000 in
/-- MemoryEnvelopes: a fence behind an engine's operation, SWAPPOOL both ways, and NM_SUBMIT. -/
theorem test_wit_MemoryEnvelopes_pool :
    (let e := envM 0x0205 24 [(0, 1), (1, 3), (8, 65536), (16, 65536)]
     Taken (opSwappool 1 e) e clerkOn ∧ swapBad e = none ∧ swapRange e = (3, 65536, 65536) ∧ clerkOn.sort.pool.length < 16 ∧ clerkOn.sort.pool = []) ∧
    (let e := envM 0x0205 24 [(0, 2), (1, 3), (8, 65536), (16, 65536)]
     let s := setSort { clerkOn.sort with pool := [(3, 65536, 65536)] } clerkOn
     Taken (opSwappool 2 e) e s ∧ swapBad e = none ∧ (3, 65536, 65536) ∈ s.sort.pool ∧ poolUsed s = []) ∧
    (let e := envM 0x0301 65 [(64, 5)]
     Taken (opNmSubmit e) e actOn ∧ districtGate e (pNat e 64 1) actOn = none ∧
       bit .brsiteStatusLost (nmSite (pNat e 0 64) (pNat e 64 1) actOn) actOn = false) := by
  unfold Taken; decide

/-- A stream of district 5 in slot 0 with STREAM_ID 9, and the same frozen in the pool of its district. -/
def streamOn : State := setStream 0 { st := .ready, id := 9, district := 5, pos := 4 } actOn
def imageOn : State := setDistrict 5 { preempted := [{ stream := getStream 0 streamOn, parcel := 0, measure := 0, ctl := [], chains := [], port := 0, addr := 0, len := 0, tag := some 0 }] } (wr .distCfgPv 5 1 actOn)

set_option maxRecDepth 10000 in
/-- StreamEnvelopes: a held submit, an unknown stream, and one that CANCEL, PREEMPT, FREEZE and QUERY find, at the ends of FREEZE's range. -/
theorem test_wit_StreamEnvelopes_resident :
    (let e := envH 0x0401 512 [(0, 5)]
     Taken (opSubmit e) e bindOn ∧ rd .distCfgState (pNat e 0 1) bindOn = 2 ∧ rd .distCfgState (pNat e 0 1) actOn ≠ 2 ∧
       (submitCheck e actOn).map (·.status) = some 1) ∧
    (let e := envH 0x0402 8 [(0, 9)]
     Taken (opCancel e) e streamOn ∧ Taken (opPreempt e) e streamOn ∧ Taken (opQuery e) e streamOn ∧ findStream (pNat e 0 8) clerkOn = none ∧
       findStream (pNat e 0 8) streamOn = some 0 ∧ (getStream 0 streamOn).cancel = false ∧ (getStream 0 streamOn).pre ∉ [1, 2, 3] ∧
       mayAct e 5 streamOn = true ∧ rd .distCfgState 5 streamOn ≠ 2 ∧ (getStream 0 streamOn).st = .ready) ∧
    (let e := envH 0x0405 12 [(0, 9), (8, 4)]
     Taken (opFreeze e) e streamOn ∧ pNat e 8 4 ≠ 0 ∧ pNat e 8 4 ≤ (getStream 0 streamOn).pos ∧ (getHandle 0 streamOn).used = false) := by
  unfold Taken; decide

/-- The gate of a stream's envelopes lets the stream in slot 0 through. -/
theorem test_wit_StreamEnvelopes_gate : ∀ q, (streamGate (envH 0x0402 8 [(0, 9)]) q streamOn).toOption = some 0 := by decide

/-- StreamEnvelopes: an image in the pool, its RESUME with a tag that verifies or not, its DISCARD, and RELEASE of a handle that is made or not. -/
theorem test_wit_StreamEnvelopes_image :
    (let e := envH 0x0404 8 [(0, 9)]
     Taken (opResume e) e imageOn ∧ Taken (opDiscard e) e imageOn ∧ ((findImage (pNat e 0 8) imageOn).map (·.1)) = some 5 ∧
       mayAct e 5 imageOn = true ∧ rd .distCfgState 5 imageOn = 1 ∧ bit .distCfgPv 5 imageOn = true ∧ rd .distCfgState 5 imageOn ≠ 2 ∧
       ((findImage (pNat e 0 8) imageOn).map fun x => decide (rd .distCfgParcel 5 imageOn = x.2.parcel ∧
         (getParcel x.2.parcel imageOn).measure = x.2.measure ∧ x.2.stream.refs = [])) = some true) ∧
    (let e := envH 0x0406 4 [(0, 5), (2, 4095)]
     let s := setHandle 4095 { used := true, made := true, district := 5 } actOn
     Taken (opRelease e) e s ∧ districtGate e (pNat e 0 1) s = none ∧ pNat e 2 2 < 4096 ∧ (getHandle (pNat e 2 2) s).district = pNat e 0 1 ∧
       (getHandle (pNat e 2 2) s).made = true ∧ (getHandle (pNat e 2 2) s).released = false ∧
       (getHandle (pNat e 2 2) (setHandle 4095 { used := true, district := 5 } actOn)).made = false) := by
  unfold Taken; decide

/-- A device on which a stream of district 5 with book 1 and ring 2 can be submitted: parcel 0 bound, sampling configured, one slot reserved. -/
def submitOn : State :=
  wr .distResSlots 5 1 (wr .dringCfgLog2size 2 4 (wr .dringCfgDistrict 2 5 (wr .dringCfgEn 2 1 (wr .bookBindDistrict 1 5 (wr .bookBindBound 1 1
    (setDistrict 5 { samp := some ⟨2, []⟩ } (wr .distCfgPv 5 1 actOn)))))))

set_option maxRecDepth 10000 in
/-- SubmitOrder: a specification whose fields are in range, and each of its checks failing alone; the boundary of CTXMAX is met. -/
theorem test_wit_SubmitOrder :
    (let e := envH 0x0401 512 [(0, 5), (4, 1), (6, 2), (16, 4), (20, 1), (24, 4), (36, 0x3F800000), (44, 0x3F800000)]
     let sp := e.raw.drop 64
     let n := fun (off k : Nat) => specNat sp off k
     e.cls = .hosts ∧ n 1 1 / 32 % 4 = 0 ∧ n 57 1 / 16 % 2 = 0 ∧ specReserved sp (512 + 8 * n 54 2) = none ∧ specRanges sp = none ∧ (∀ x ∈ specTokens sp 0, x < 2) ∧
       n 16 4 = 4 ∧ n 20 4 = 1 ∧ n 24 4 = 4 ∧ 512 + 8 * n 54 2 ≤ envLen e - 64 ∧ rd .distCfgState 5 submitOn = 1 ∧
       bit .distCfgPv 5 submitOn = true ∧ (sampOf 5 submitOn).isSome = true ∧ bit .bookBindBound (n 4 2) submitOn = true ∧
       rd .bookBindDistrict (n 4 2) submitOn = 5 ∧ bit .dringCfgEn (n 6 2) submitOn = true ∧ rd .dringCfgDistrict (n 6 2) submitOn = 5 ∧
       rd .dringStatusStreams (n 6 2) submitOn < 2 ^ (rd .dringCfgLog2size (n 6 2) submitOn - 1) ∧ n 1 1 / 8 % 2 = 0 ∧
       rd .distUseSlots 5 submitOn < rd .distResSlots 5 submitOn ∧ (freeSlot 5 submitOn).isSome = true) ∧
    ((envM 0x0401 512 []).cls = .mgmt ∧ mayAct { envH 0x0401 512 [] with cls := .host } 5 submitOn = false ∧
      rd .distCfgState 5 clerkOn ≠ 1 ∧ bit .distCfgPv 5 actOn = false ∧ bit .bookBindBound 1 actOn = false ∧ bit .dringCfgEn 2 actOn = false ∧
      2 ^ (rd .dringCfgLog2size 2 submitOn - 1) ≤ rd .dringStatusStreams 2 (wr .dringStatusStreams 2 8 submitOn) ∧
      bit .twinCfgPaired 0 submitOn = false ∧ rd .distResSlots 5 actOn ≤ rd .distUseSlots 5 actOn) := by
  decide
/-- BookEnvelopes: BOOK_SET at both ends of its intervals and past the depth, BIND of a free book, UNBIND of one bound or not. -/
theorem test_wit_BookEnvelopes :
    (let e := envM 0x0501 18 [(0, 4095), (2, 1), (8, 7), (12, 16384), (14, 3), (16, 4)]
     Taken (opBook 1 e) e clerkOn ∧ pNat e 0 2 < 4096 ∧ pNat e 8 4 ≠ 0 ∧ 1 ≤ pNat e 12 2 ∧ pNat e 12 2 ≤ 16384 ∧
       pNat e 14 2 + pNat e 16 2 ≤ pNat e 8 4 ∧ bit .bookBindBound 4095 clerkOn = false) ∧
    (let e := envM 0x0501 18 [(2, 1), (8, 6), (12, 1), (14, 3), (16, 4)]
     Taken (opBook 1 e) e clerkOn ∧ 1 ≤ pNat e 12 2 ∧ pNat e 8 4 < pNat e 14 2 + pNat e 16 2) ∧
    (let e := envM 0x0501 18 [(0, 1), (2, 2), (3, 5)]
     Taken (opBook 2 e) e actOn ∧ pNat e 0 2 < 4096 ∧ districtGate e (pNat e 3 1) actOn = none ∧ bookNamed 1 actOn = false ∧
       bookNamed 1 (setStream 0 { st := .ready, book := 1 } actOn) = true ∧
       rd .bookBindDistrict 1 (setStream 0 { st := .ready, book := 1 } actOn) ≠ pNat e 3 1) ∧
    (let e := envM 0x0501 4 [(0, 1), (2, 3)]
     Taken (opBook 3 e) e actOn ∧ Taken (opBook 3 e) e submitOn ∧ bit .bookBindBound 1 actOn = false ∧ bit .bookBindBound 1 submitOn = true ∧
       rd .distCfgState (rd .bookBindDistrict 1 submitOn) submitOn ≠ 2 ∧ bookNamed 1 submitOn = false ∧
       bookNamed 1 (setStream 0 { st := .ready, book := 1 } submitOn) = true) := by
  unfold Taken; decide

/-- BookEnvelopes, BookRules: shards that cover a vocabulary or leave it open, parameters that wait in their own round and in a later one, a refill. -/
theorem test_wit_BookRules :
    (let e := envM 0x0502 64 [(0, 5), (1, 1), (4, 2), (34, 1), (52, 2)]
     Taken (opSampleCfg e) e actOn ∧ 2 ≤ pNat e 4 4 ∧ pNat e 4 4 ≤ 2 ^ 20 ∧ shardBad e = none ∧ districtGate e (pNat e 0 1) actOn = none ∧
       shardsCover 2 0 none [parseShard e 0] = true ∧ shardsCover 3 0 none [parseShard e 0] = false) ∧
    (let s := setBook 1 { pend := some (⟨1, 2, 1, 1, 1⟩, 0) } State.reset
     (getBook 1 s).pend = some (⟨1, 2, 1, 1, 1⟩, 0) ∧ roundNow s ≤ 0 ∧ 0 < roundNow (wr .roundCountRound 0 1 s)) ∧
    (let s := wr .bookWInterval 1 1 submitOn
     (getBook 1 s).pend = none ∧ bit .bookBindBound 1 s = true ∧ rd .bookWInterval 1 s ≠ 0 ∧ roundNow s % rd .bookWInterval 1 s = 0 ∧
       (getBook 1 s).refilled ≤ roundNow s ∧ bit .bookBindBound 2 s = false) := by
  unfold Taken; decide

/-- Port 3 is a Type-2 device. -/
def portOn : State := setBoot { actOn.boot with hostModes := 64 } actOn

/-- RingEnvelopes: both RING operations, the size at both ends. -/
theorem test_wit_RingEnvelopes_rings :
    (let e := envM 0x0504 24 [(0, 4095), (2, 1), (3, 5), (4, 4), (5, 1), (6, 3), (8, 2047), (16, 64)]
     Taken (opRing 1 e) e portOn ∧ pNat e 0 2 < 4096 ∧ 4 ≤ pNat e 4 1 ∧ pNat e 4 1 ≤ 20 ∧ pNat e 5 1 < 2 ∧ pNat e 6 1 < 4 ∧
       type2 (pNat e 6 1) portOn = true ∧ pNat e 8 2 < 2048 ∧ pNat e 16 8 % 64 = 0 ∧ mayConfigure e (pNat e 6 1) = true ∧
       districtGate e (pNat e 3 1) portOn = none ∧ bit .dringCfgEn 4095 portOn = false ∧ bit .dringCfgEn 4095 (wr .dringCfgEn 4095 1 portOn) = true) ∧
    (let e := envM 0x0504 3 [(0, 2), (2, 2)]
     Taken (opRing 2 e) e clerkOn ∧ Taken (opRing 2 e) e submitOn ∧ bit .dringCfgEn 2 clerkOn = false ∧ bit .dringCfgEn 2 submitOn = true ∧
       mayConfigure e (rd .dringCfgPort 2 submitOn) = true ∧ rd .distCfgState (rd .dringCfgDistrict 2 submitOn) submitOn ≠ 2 ∧
       rd .dringStatusStreams 2 submitOn = 0 ∧ rd .dringStatusStreams 2 (wr .dringStatusStreams 2 1 submitOn) ≠ 0) := by
  unfold Taken; decide

/-- RingEnvelopes: a receipt ring for the statements, and the grammar operations on a slot that holds nothing or a grammar. -/
theorem test_wit_RingEnvelopes_rest :
    (let e := envM 0x0505 16 [(0, 256), (2, 1), (3, 3), (4, 16), (6, 2047), (8, 512)]
     Taken (opReceipts 1 e) e portOn ∧ pNat e 0 2 ≤ 256 ∧ pNat e 3 1 < 4 ∧ type2 (pNat e 3 1) portOn = true ∧ 4 ≤ pNat e 4 1 ∧ pNat e 4 1 ≤ 16 ∧
       pNat e 6 2 < 2048 ∧ pNat e 8 8 % 512 = 0 ∧ mayConfigure e (pNat e 3 1) = true ∧ bit .rringCfgEn 256 portOn = false) ∧
    (let e := envM 0x0505 3 [(0, 255), (2, 2)]
     let s := wr .rringCfgEn 255 1 portOn
     Taken (opReceipts 2 e) e s ∧ pNat e 0 2 ≤ 256 ∧ bit .rringCfgEn 255 s = true ∧ mayConfigure e (rd .rringCfgPort 255 s) = true ∧
       rd .distCfgState 255 s ≠ 2) ∧
    (let e := envM 0x0503 20 [(0, 5), (1, 15), (2, 1), (8, 2 ^ 43 - 1), (16, 1)]
     Taken (opGrammar 1 e) e actOn ∧ pNat e 1 1 < 16 ∧ pNat e 8 6 < 2 ^ 43 ∧ pNat e 16 4 ≠ 0 ∧ districtGate e (pNat e 0 1) actOn = none ∧
       gramNamed 5 15 actOn = false) ∧
    (let e := envM 0x0503 3 [(0, 5), (1, 15), (2, 2)]
     let s := setDistrict 5 { grammars := [(15, ⟨[], 1⟩)] } actOn
     Taken (opGrammar 2 e) e actOn ∧ Taken (opGrammar 2 e) e s ∧ (∀ x ∈ (getDistrict 5 actOn).grammars, x.1 ≠ 15) ∧
       (∃ x ∈ (getDistrict 5 s).grammars, x.1 = 15) ∧ gramNamed 5 15 s = false) := by
  unfold Taken; decide

/-- FabricEnvelopes: FABRIC with one route, and ROUND_CFG at the ends of its budget and period. -/
theorem test_wit_FabricEnvelopes_config :
    (let e := envM 0x0701 16 [(0, 1022), (2, 1), (8, 3), (10, 1), (12, 31)]
     Taken (opFabric e) e clerkOn ∧ pNat e 0 2 < 1023 ∧ pNat e 2 2 = 1 ∧ routeBad e 0 = none) ∧
    (let e := envM 0x0702 16 [(0, 1023), (2, 1023), (4, 31), (5, 31), (6, 50), (8, 100)]
     Taken (opRoundCfg e) e clerkOn ∧ pNat e 0 2 < 1024 ∧ pNat e 2 2 < 1024 ∧ pNat e 4 1 < 32 ∧ pNat e 5 1 < 32 ∧ 1 ≤ pNat e 6 1 ∧ pNat e 6 1 ≤ 50 ∧
       2 * pNat e 6 1 ≤ pNat e 8 2 ∧ 20 ≤ pNat e 8 2 ∧ pNat e 8 2 ≤ 10000) ∧
    (let e := envM 0x0702 16 [(6, 1), (8, 10000)]
     Taken (opRoundCfg e) e clerkOn ∧ 1 ≤ pNat e 6 1 ∧ pNat e 8 2 ≤ 10000) := by
  unfold Taken; decide

/-- A device of job 2 with two members, its district 5 bound to a parcel whose KV pages hold 32 tokens. -/
def jobOn : State :=
  setJob 2 { members := [0, 1] } (wr .jobCfgDistrict 2 5 (wr .jobCfgMember 2 1
    (setParcel 0 { kvfmt := 128 * 2 ^ 18 + 2 ^ 28 + 2 ^ 33 + 2 ^ 40 } (wr .distCfgPv 5 1 actOn))))
/-- District 5 bound to a sealed parcel that names member 1 of a job of two. -/
def pvOn : State := setParcel 0 { st := 2, jobdev := 2, jobidx := 1 } (wr .distCfgPv 5 1 actOn)

/-- FabricEnvelopes: JOB formed in an ACTIVE district or refused in one that re-binds, JOB dissolved, CIRC of a member. -/
theorem test_wit_FabricEnvelopes_jobs :
    (let e := envM 0x0703 20 [(0, 63), (1, 1), (2, 5), (3, 1), (4, 2), (10, 500), (18, 1)]
     Taken (opJob 1 e) e pvOn ∧ jobBad e = none ∧ bit .jobCfgMember 63 pvOn = false ∧ bit .distCfgPv (pNat e 2 1) pvOn = true ∧
       rd .distCfgState (pNat e 2 1) pvOn ≠ 0 ∧ rd .distCfgState (pNat e 2 1) pvOn ≠ 2 ∧
       (getParcel (rd .distCfgParcel (pNat e 2 1) pvOn) pvOn).jobdev = pNat e 4 1 ∧
       (getParcel (rd .distCfgParcel (pNat e 2 1) pvOn) pvOn).jobidx = pNat e 3 1 ∧ jobOf (pNat e 2 1) pvOn = none ∧ (memberJobs pvOn).length < 16 ∧
       rd .distCfgState 5 (wr .distCfgState 5 2 pvOn) = 2) ∧
    (let e := envM 0x0703 2 [(0, 2), (1, 2)]
     Taken (opJob 2 e) e jobOn ∧ pNat e 0 1 < 64 ∧ bit .jobCfgMember 2 clerkOn = false ∧ bit .jobCfgMember 2 jobOn = true) ∧
    (let e := envM 0x0704 32 [(0, 2), (4, 2 ^ 31), (8, 1024), (16, 1)]
     Taken (opCirc e) e jobOn ∧ pNat e 0 1 < 64 ∧ bit .jobCfgMember 2 jobOn = true ∧ (List.range 32).filter (pNat e 4 4).testBit = [31] ∧
       (getJob 2 jobOn).members.length = 2 ∧ (List.range 16).map (fun i => pNat e (16 + i) 1) = [1, 0, 0, 0, 0, 0, 0, 0, 0, 0, 0, 0, 0, 0, 0, 0] ∧
       1024 ≤ pNat e 8 4 ∧ pNat e 8 4 ≤ 2 ^ 20 ∧ pNat e 8 4 % kTpp (kvWord (rd .jobCfgDistrict 2 jobOn) jobOn) = 0 ∧
       [1, 0].insertionSort (· ≤ ·) = List.range 2) := by
  unfold Taken; decide

set_option maxRecDepth 10000 in
/-- FabricEnvelopes: the twin's and the lease's envelopes, with the locks open and shut. -/
theorem test_wit_FabricEnvelopes_twins :
    (let e := envM 0x0705 26 [(0, 1), (1, 1), (2, 1), (24, 5), (25, 6)]
     Taken (opTwin 1 e) e clerkOn ∧ pNat e 1 1 ≤ 1 ∧ bit .twinCfgPaired 0 clerkOn = false ∧ bit .twinStatusFailover 0 clerkOn = false ∧
       clerkOn.fab.handed = [] ∧ bit .twinCfgPaired 0 (wr .twinCfgPaired 0 1 clerkOn) = true) ∧
    (let e := envM 0x0705 1 [(0, 2)]
     Taken (opTwin 2 e) e clerkOn ∧ bit .twinStatusFailover 0 (wr .twinStatusFailover 0 1 clerkOn) = true) ∧
    (let e := envP 0x0706 9 [(0, 1), (2, 1), (8, 5)]
     Taken (opTwinMsg 1 e) e peerOn) ∧
    (let e := envP 0x0706 9 [(0, 2), (2, 1), (8, 5)]
     Taken (opTwinMsg 2 e) e (wr .twinCfgPaired 0 1 peerOn)) := by
  unfold Taken; decide

set_option maxRecDepth 10000 in
/-- FabricEnvelopes: LEASE_KEY and LEASE_GRANT. -/
theorem test_wit_FabricEnvelopes_lease :
    (let e := envM 0x0707 104 [(0, 3), (1, 1)]
     Taken (opLeaseKey 1 e) e State.reset ∧ pNat e 0 1 < 4 ∧ bit .devLockKeys 0 State.reset = false ∧ bit .devLockSecurity 0 State.reset = false ∧
       bit .devLockKeys 0 (wr .devLockKeys 0 1 State.reset) = true) ∧
    (let e := envM 0x0707 2 [(0, 0), (1, 2)]
     Taken (opLeaseKey 2 e) e State.reset ∧ pNat e 0 1 < 4) ∧
    (let e := envP 0x0708 160 [(0, 1), (1, 2)]
     Taken (opLeaseGrant e) e peerOn ∧ (grantCheck (pBytes e 0 160) State.reset).status ≠ 0) := by
  unfold Taken; decide

/-- A grant of kind 1 for job 2: epoch 1, expiry 10, members 0 and 1; and one that leaves this device out. -/
def grantOf (epoch expiry first : Nat) : List Byte := natLe 160 (1 + 2 * 2 ^ 8 + epoch * 2 ^ 16 + expiry * 2 ^ 64 + first * 2 ^ 192 + 2 ^ 208)

/-- LeaseGrantRule, JobRules: a grant in time and of a new epoch, one that has expired, one of an old epoch, one that leaves this device out; and each job
event heard or not. -/
theorem test_wit_LeaseGrantRule :
    (let g := grantOf 1 10 (ownFid jobOn)
     gNat g 0 1 = 1 ∧ gNat g 1 1 < 64 ∧ gNat g 8 8 ≤ gNat g 16 8 + 1500000000 ∧ bit .jobCfgMember (gNat g 1 1) jobOn = true ∧
       ¬ gNat g 8 8 ≤ jobOn.now ∧ ¬ gNat g 2 2 < rd .jobStatusEpoch 2 jobOn ∧ ownFid jobOn ∈ grantMembers g (getJob 2 jobOn).members.length ∧
       grantSigned g jobOn = false ∧ bit .jobCfgMember 2 clerkOn = false) ∧
    (let g := grantOf 0 0 5
     gNat g 8 8 ≤ jobOn.now ∧ ownFid jobOn ∉ grantMembers g (getJob 2 jobOn).members.length ∧ gNat g 2 2 ≤ rd .jobStatusEpoch 2 jobOn ∧
       gNat g 2 2 < rd .jobStatusEpoch 2 (wr .jobStatusEpoch 2 1 jobOn)) ∧
    (issues State.reset = true ∨ issues State.reset = false) ∧ hears 2 jobOn = true ∧
    (let s := wr .jobCfgLeasedev 2 9 (wr .roundCfgMaster 0 9 jobOn)
     issues s = false ∧ hears 3 s = false ∧ rd .jobCfgLeasedev 2 s ≠ ownFid s) ∧
    (let s := wr .jobStatusHold 2 1 (wr .jobStatusLeased 2 1 (wr .jobCfgLeasedev 2 (ownFid jobOn) jobOn))
     bit .jobStatusLeased 2 s = true ∧ bit .jobStatusHold 2 s = true ∧ rd .jobCfgLeasedev 2 s = ownFid s ∧ (getJob 2 s).lease = none ∧
       memberCut 2 s = true ∧ (getJob 2 (setJob 2 { lease := some ⟨1, 10, [], []⟩ } s)).lease = some ⟨1, 10, [], []⟩) ∧
    (memberCut 3 jobOn = false ∧ beatsMissed 3 jobOn = false) := by decide

/-- SpdmRules: a responder in each state, an open and a complete session. -/
theorem test_wit_SpdmRules :
    (spdmVia [0] = 0 ∧ spdmHears 0 State.reset = true ∧ spdmHears 0 (wr .brdevStatusPhase 0 0 State.reset) = true ∧ spdmHears 5 State.reset = false ∧
      State.reset.eng.spdm.version.contains 0 = false ∧ State.reset.eng.spdm.algorithms.contains 0 = false ∧ sessionOf 3 State.reset = none) ∧
    (let s := setSpdm { version := [0], algorithms := [0], sessions := [(1, 0, false), (2, 0, true)], nextSession := 3 } State.reset
     s.eng.spdm.version.contains 0 = true ∧ s.eng.spdm.algorithms.contains 0 = true ∧ sessionOf 1 s = some (0, false) ∧
       sessionOf 2 s = some (0, true)) ∧
    (measurement 0 State.reset = none ∧ measurement 7 State.reset = none ∧ measurement 15 State.reset = none ∧ measurement 80 State.reset = none ∧
      (getParcel (79 - 16) (setParcel 63 { st := 2 } State.reset)).st = 2) := by decide

/-- A REBIND that dissolves district 5, and the same as accepted. -/
def dissolve (cls : PortClass) (via : Via) : Env := mkEnv cls false via 0x0101 (par 328 [(0, 1), (264, 5), (265, 2)])
def rebindOn : State := setBoot { bindOn.boot with rebinds := [⟨dissolve .mgmt .mgmt, [parseChange (dissolve .mgmt .mgmt) 0], []⟩] } bindOn

set_option maxRecDepth 10000 in
/-- RebindRules: a REBIND refused with DISTRICT_STATE, one accepted from MGMT, one of a class that may not. -/
theorem test_wit_RebindRules_envelope :
    (let e := dissolve .mgmt .mgmt
     Taken (opRebind e) e clerkOn ∧ (rebindCheck e [parseChange e 0] clerkOn) = some (18, 0) ∧ Taken (opRebind e) e actOn ∧
       rebindCheck e [parseChange e 0] actOn = none ∧ (List.range (pNat e 0 1)) = [0]) ∧
    (let e := { dissolve .host (.mbox 16) with func := 1 }
     let s := wr .mboxCfgFunc 16 1 actOn
     Taken (opRebind e) e s ∧ rebindCheck e [parseChange e 0] s = none ∧ e.cls = .host) := by
  unfold Taken; decide

set_option maxRecDepth 10000 in
/-- RebindRules: a re-binding that can run, with its streams gone or not, and none. -/
theorem test_wit_RebindRules_run :
    ((clerkOn.boot.rebinds.find? fun r => rebindQuiet r.changes clerkOn) = none) ∧ recovering rebindOn = false ∧
    ((rebindOn.boot.rebinds.find? fun r => rebindQuiet r.changes rebindOn).isSome = true) ∧
    (let c := parseChange (dissolve .mgmt .mgmt) 0
     changeLost c rebindOn = 0 ∧ streamsGone [c] rebindOn = true ∧
       streamsGone [{ c with streams := 1 }] (setStream 0 { st := .ready, district := 5 } rebindOn) = false) := by decide
/-! ### Rounds, steps, streams, KV (chapters 09 to 11) -/

/-- A marker of a round, with an epoch. -/
def markOf (epoch : Nat) : Marker := ⟨1, epoch, 9, 250, 250, 2, 0, 0, []⟩

/-- A follower of master 9 whose upstream port is 3, the alternate 4. -/
def follower : State := wr .roundCfgUp 0 (3 + 32 * 4) (wr .roundCfgMaster 0 9 State.reset)

/-- RoundRules: who issues, a marker of its own, of an old and of a new epoch, the standby at three flywheel rounds, eight of them, ROTATE. -/
theorem test_wit_RoundRules :
    (issues follower = false ∧ follower.fab.marker = none ∧ issues (setFab { follower.fab with acting := true } follower) = true ∧
      (setFab { follower.fab with marker := some (markOf 1) } follower).fab.marker ≠ none) ∧
    ((3 : FPortId).val = rd .roundCfgUp 0 follower % 32 ∧ (4 : FPortId).val = rd .roundCfgUp 0 follower / 32 ∧
      rd .roundStatusEpoch 0 follower ≤ (markOf 0).epoch ∧ (markOf 65535).epoch < 2 ^ 16 ∧
      (markOf 0).epoch < rd .roundStatusEpoch 0 (wr .roundStatusEpoch 0 1 follower) ∧ rd .roundStatusEpoch 0 follower < (markOf 65535).epoch ∧
      (5 : FPortId).val ≠ rd .roundCfgUp 0 follower % 32 ∧ (5 : FPortId).val ≠ rd .roundCfgUp 0 follower / 32) ∧
    (let s := setFab { follower.fab with fly := 3 } (wr .roundCfgStandby 0 (ownFid follower) follower)
     rd .roundCfgStandby 0 s = ownFid s ∧ issues s = false ∧ s.fab.fly = 3 ∧ follower.fab.fly ≠ 3) ∧
    (setFab { follower.fab with fly := 7 } follower).fab.fly < 8 ∧ 8 ≤ (setFab { follower.fab with fly := 8 } follower).fab.fly ∧
    (let s := wr .thdevCfgRotate 0 4 State.reset
     rd .thdevCfgRotate 0 s ≠ 0 ∧ roundNow s % rd .thdevCfgRotate 0 s = 0 ∧ roundNow (wr .roundCountRound 0 3 s) % rd .thdevCfgRotate 0 s ≠ 0) := by
  decide

/-- A step of district 5 runs with the stream in slot 0, which draws; one shard at core 0, semaphore 2. -/
def shard0 : Shard := ⟨0, 2, 1, 0, 0, 0, 2, 4, false⟩
def stepOn (x : Stream) (y : District) : State :=
  setStream 0 { x with st := .running, id := 9, district := 5 } (setDistrict 5 { y with running := true } (wr .distCfgPv 5 1 actOn))

/-- StepRules: step start points, completions and triggers. -/
theorem test_wit_StepRules :
    (let s := wr .distCfgPv 5 1 actOn
     rd .distCfgState 5 s = 1 ∧ bit .distCfgPv 5 s = true ∧ (getDistrict 5 s).started ≤ roundNow s ∧ (getDistrict 5 s).running = false ∧
       jobHolds 5 s = false ∧ roundNow s < (getDistrict 5 (setDistrict 5 { started := 1 } s)).started ∧ rd .distCfgState 6 s ≠ 1) ∧
    (let s := stepOn {} {}
     (getDistrict 5 s).running = true ∧ partsDone 5 s = true ∧ (getDistrict 5 s).armed = [] ∧ drawsPosted 5 s = true ∧ jobHolds 5 s = false) ∧
    (let s := stepOn { nout := 1 } { pipe := [⟨0, 0, [0]⟩] }
     drawsPosted 5 s = false ∧ partsDone 5 s = true) ∧
    (let s := stepOn {} { armed := [0], samp := some ⟨2, [shard0]⟩ }
     (getDistrict 5 s).armed ≠ [] ∧ 0 ∈ (getDistrict 5 s).armed ∧ rd .coreSemValue (16 * shard0.tcore + shard0.sem) s < shard0.count ∧
       shard0.count ≤ rd .coreSemValue (16 * shard0.tcore + shard0.sem) (wr .coreSemValue 2 1 s)) ∧
    (let op : TmplOp := ⟨0, 0, 3, 1⟩
     let s := setParcel 0 { st := 2, entries := [⟨0, 0, 0, 0, 0, [], [op]⟩] } (setDistrict 5 { armedOps := [(0, 0)] } actOn)
     (stageE (parcelOf 5 s) 0).ops[0]? = some op ∧ (0, 0) ∈ (getDistrict 5 s).armedOps ∧
       rd .coreSemValue (16 * actor op.core s + op.sem) s < op.count ∧
       op.count ≤ rd .coreSemValue (16 * actor op.core s + op.sem) (wr .coreSemValue 3 1 s)) := by decide

/-- StepRules, DrawRules: 63 and 64 deferrals for staging; a draw that is due, one made already, one recorded before a failover, one that waits. -/
theorem test_wit_DrawRules_draws :
    (64 ≤ (getStream 0 (setStream 0 { st := .ready, stag := 64 } State.reset)).stag ∧
      (getStream 0 (setStream 0 { st := .ready, stag := 63 } State.reset)).stag < 64) ∧
    (let s := stepOn { nout := 1 } { pipe := [⟨0, 0, [0]⟩], samp := some ⟨2, [shard0]⟩ }
     0 ∈ drawers 5 s ∧ (getStream 0 s).drawn = false ∧ (getDistrict 5 s).armed = [] ∧ (getStream 0 s).kept = none ∧
       (getStream 0 s).recorded = [] ∧ (getDistrict 5 s).samp = some ⟨2, [shard0]⟩) ∧
    (let r : DrawRec := ⟨0, 1, 0, [], 0, 0⟩
     let s := stepOn { nout := 1, kept := some r, recorded := [r], wait := some r } { pipe := [⟨0, 0, [0]⟩], samp := some ⟨2, [shard0]⟩ }
     (getStream 0 s).kept = some r ∧ r.index = (getStream 0 s).out ∧ (getStream 0 s).recorded = [r] ∧ (getStream 0 s).wait = some r) ∧
    (drawFrom { district := 5 } (natLe 512 0) 2 [(shard0, [0xFF800000, 0xFF800000])] = none) := by decide

/-- Every logit 0: a draw of a token. -/
theorem test_wit_DrawRules_token :
    (drawFrom { district := 5 } (natLe 512 0) 2 [(shard0, [0, 0])]).isSome = true := by decide

/-- StreamLeaves: each stage of an end and of a pre-emption, a receipt that is held closed with room in its ring, a statement that is due. -/
theorem test_wit_StreamLeaves :
    (let s := setStream 0 { st := .ending, ring := 2 } submitOn
     (getStream 0 s).st = .ending ∧ (getStream 0 s).endRec = false ∧ bit .dringCfgEn 2 s = true ∧
       ringFree 2 (wr .dringProdIndex 2 16 s) = 0 ∧ (getStream 0 State.reset).st ≠ .ending) ∧
    (let s := setStream 0 { st := .preempting, pre := 2, district := 5 } actOn
     (getStream 0 s).st = .preempting ∧ (getStream 0 s).pre = 2 ∧ (getStream 0 s).preEnv = none ∧ s.sort.pool = [] ∧
       (getStream 0 (setStream 0 { st := .preempting, pre := 3 } actOn)).pre = 3 ∧ (getStream 0 (setStream 0 { st := .ready, pre := 4 } actOn)).pre = 4) ∧
    (let h : Held := ⟨5, 0, [], none⟩
     let s := setSort { actOn.sort with held := [h] } (wr .rringCfgLog2size 5 4 (wr .rringCfgEn 5 1 actOn))
     (s.sort.held.find? fun h => h.ring == 5) = some h ∧ bit .rringCfgEn 5 s = true ∧
       (rd .rringProdIndex 5 s + 2 ^ 17 - rd .rringConsIndex 5 s) % 2 ^ 17 < 2 ^ rd .rringCfgLog2size 5 s ∧ ∀ h ∈ s.sort.held, h.ring ≠ 6) ∧
    (State.reset.power.ended = [] ∧ (setPower { State.reset.power with ended := [({}, 0, 0)] } State.reset).power.ended = [({}, 0, 0)]) := by decide

/-- An append of token 0 of chain 0 of slot 0 by core 0, whose cluster is district 5's; 64 elements, one KV head. -/
def append0 : Append := ⟨0, 0, 0, 64, [], [], 0⟩
def kvOn (ch : Chain) : State :=
  setChain 0 0 ch (setStream 0 { st := .running, district := 5, nin := 1, ctxmax := 64 } (setParcel 0 { kvfmt := 64 * 2 ^ 18 + 2 ^ 28 + 2 ^ 33 + 2 ^ 40 }
    (wr .clbindCDistrict 0 5 (wr .clbindCBound 0 1 (setKv 0 { queue := [append0] } actOn)))))

/-- KvRules: an append refused, one without pages, one whose page opens or stands; a spill that is needed or not; a page on its way back; a lost expander. -/
theorem test_wit_KvRules :
    ((getKv 0 State.reset).queue = [] ∧ kvCheck 0 append0 (setKv 0 { queue := [append0] } actOn) = 1) ∧
    (kvCheck 0 append0 (kvOn {}) = 0 ∧ (appendRoom append0 0 0 (kvOn {})).isNone = true) ∧
    (let s := kvOn { opened := true, pages := [{ opening := true }] }
     kvCheck 0 append0 s = 0 ∧ ((appendRoom append0 0 0 s).map fun u => ((getChain 0 0 u).pages.getD 0 {}).opening) = some true ∧
       ((getChain 0 0 s).pages.getD 0 {}).opening = true ∧ apToken append0.desc / kTpp (kvWord 5 s) = 0) ∧
    (let s := kvOn { opened := true, pages := [{}] }
     kvCheck 0 append0 s = 0 ∧ ((appendRoom append0 0 0 s).map fun u => ((getChain 0 0 u).pages.getD 0 {}).opening) = some false ∧
       ((getChain 0 0 s).pages.getD 0 {}).spilling = none ∧ ((getChain 0 0 s).pages.getD 0 {}).back = none) ∧
    (spillNeeded 0 (wr .kvsiteWmarkLow 0 0 (wr .kvsiteStatusSpilling 0 0 State.reset)) = false ∧
      spillNeeded 0 (wr .kvsiteFreePages 0 0 (wr .kvsiteWmarkLow 0 1 State.reset)) = true) ∧
    (let s := kvOn { opened := true, pages := [{ back := some (0, 3), spilled := some (0, 0, 0) }] }
     ((getChain 0 0 s).pages.getD 0 {}).back = some (0, 3) ∧ ((getChain 0 0 s).pages.getD 0 {}).spilled = some (0, 0, 0)) ∧
    State.reset.sort.chains = [] := by decide

/-- The part of KvRules about the page that comes back: its own header is the one that matches. -/
theorem test_wit_KvRules_header : headerMatches 0 0 0 (kvHeader 0 0 0 (kvOn { opened := true })) (kvOn { opened := true }) = true := by decide

/-! ### Fabric, twins, circulation (chapters 12, 15 to 17) -/

/-- LinkRules: each port mode and state, lanes failed in one half and in both, a packet at its destination, unrouted and routed, frames at 9216
bytes and past it, a BUSY transfer. -/
theorem test_wit_LinkRules :
    (let s := wr .nolucpPortMode 4 0 (wr .nolucpPortState 3 2 (wr .nolucpPortMode 3 1 State.reset))
     rd .nolucpPortMode 3 s = 1 ∧ rd .nolucpPortMode 4 s ≠ 1 ∧ rd .nolucpPortState 3 s ≠ 0 ∧ portUp 3 s = true ∧ portUp 4 s = false ∧
       (1 : BitVec 10).toNat ≠ ownFid s ∧ (BitVec.ofNat 10 (ownFid s)).toNat = ownFid s ∧ bit .twinCfgPaired 0 s = false ∧
       bothHalves (0x11 : BitVec 8).toNat = true ∧ bothHalves (0x01 : BitVec 8).toNat = false ∧ egress 1 s = [] ∧
       egress 1 (setFab { s.fab with routes := tset (fun _ => []) s.fab.routes 1 [3] } s) = [3]) ∧
    (rd .nolucpPortMode 5 (wr .nolucpPortMode 5 2 State.reset) = 2) ∧
    (let s := coreWith fun c => { c with chans := c.chans.set 0 { st := .busy } }
     (getChan 0 (getCore 0 s)).st = .busy) ∧
    bit .jobCfgMember 2 jobOn = true := by decide

/-- A paired device whose district 5 holds the shadow of stream 9 in slot 0. -/
def shadowOn : State :=
  setStream 0 { st := .ready, id := 9, district := 5, shadow := true, pos := 4 } (wr .twinCfgPaired 0 1 submitOn)

set_option maxRecDepth 20000 in
/-- TwinRules, FailoverRules: a shadow that takes copies and one that does not, FREEZE copies at both ends of their range, a SUBMIT copy refused or
taken, a failover that runs, a lapsed stream of a mirrored district. -/
theorem test_wit_TwinRules :
    (shadowOf 9 shadowOn = some 0 ∧ acceptsCopies (getStream 0 shadowOn).district shadowOn = true ∧ shadowOf 8 shadowOn = none ∧
      acceptsCopies 5 submitOn = false ∧ (4 : Nat) ≤ (getStream 0 shadowOn).pos ∧ (getStream 0 shadowOn).pos < 5 ∧
      (getHandle 7 shadowOn).used = false ∧ (getHandle 7 (setHandle 7 { used := true } shadowOn)).used = true ∧
      readyChains 0 ⟨0, 0, 0, 0, 0, [], 0, [], [], [], []⟩ [] shadowOn = some shadowOn) ∧
    (shadowCheck 5 (natLe 512 0 ++ List.replicate 4032 0) shadowOn ≠ 0 ∧
      shadowCheck 5 (par 512 [(0, 5), (4, 1), (6, 2)]) shadowOn = 0 ∧ bit .twinCfgPaired 0 shadowOn = true) ∧
    (let s := setFaults { State.reset.faults with running := some (mkRepair 7 0 0 0 [5]) } State.reset
     s.faults.running = some (mkRepair 7 0 0 0 [5]) ∧ (mkRepair 7 0 0 0 [5]).kind = 7 ∧ State.reset.faults.running = none) ∧
    (let s := setStream 0 { st := .ready, district := 5, lapsed := true }
       (wr .twinStatusPorts 0 1 (setFab { shadowOn.fab with mirrors := [(5, 6)] } shadowOn))
     (getStream 0 s).lapsed = true ∧ (getStream 0 s).resync = false ∧ mirrored 5 s = true ∧ rd .twinStatusPorts 0 s ≠ 0) := by decide

/-- CirculationRules: a job that circulates with no block, one that waits and two; a last hop and one before it; the next device of the ring. -/
theorem test_wit_CirculationRules :
    (let blk : CircBlock := ⟨0, 9, 0, 0, 0, []⟩
     let x : JobX := { members := [0, 7, 8], circ := some ⟨[3], 1024, [0, 1, 2]⟩ }
     let s := setJob 2 x (wr .nolucpPortState 3 2 (wr .nolucpPortMode 3 1 jobOn))
     (getJob 2 s).circ ≠ none ∧ (getJob 2 s).blocks.length < 2 ∧ nextInRing 2 s = some ([3], 7) ∧ (getJob 2 s).members.length ≤ 1 + 2 ∧
       0 + 2 < (getJob 2 s).members.length ∧ (∀ y ∈ (getJob 2 s).blocks, y.forwarded = true) ∧
       2 ≤ (getJob 2 (setJob 2 { x with blocks := [{ block := blk }, { block := blk }] } s)).blocks.length ∧
       (getJob 2 (setJob 2 { x with blocks := [{ block := blk }] } s)).blocks = [{ block := blk }] ∧ (getJob 2 jobOn).circ = none ∧
       bit .jobCfgMember 2 s = true ∧ bit .jobCfgMember 2 State.reset = false ∧
       (let t := setChain 0 0 { opened := true } (setStream 0 { st := .running, district := 5 } s)
        (getStream 0 t).st = .running ∧ (getStream 0 t).district = rd .jobCfgDistrict 2 t ∧ (getChain 0 0 t).opened = true)) := by decide

/-! ### Power, heat, stops, recoveries (chapters 18 and 19) -/

/-- CapRules, MeterRules: an allotment at the cap and one past it, a gated and an open site, notices with leads of 1999 and 2000 ns, droops about the minimum. -/
theorem test_wit_CapRules :
    (clerkUp State.reset = false ∧ clerkUp clerkOn = true) ∧
    (let s := (List.range 64).foldl (fun u k => if k = 0 then u else wr .brsiteStatusLost k 1 u) (wr .pdevStatusCapeff 0 8 State.reset)
     sitesUp s = [0] ∧ ((sitesUp s).map fun j => [80].getD j 0).sum ≤ 10 * rd .pdevStatusCapeff 0 s ∧
       (∀ j ∈ sitesUp s, 80 ≤ [80].getD j 0 ∧ [80].getD j 0 ≤ 500) ∧
       10 * rd .pdevStatusCapeff 0 s < ((sitesUp s).map fun j => [81].getD j 0).sum ∧ ∃ j ∈ sitesUp s, [79].getD j 0 < 80) ∧
    (rd .psiteStatusGate 1 State.reset = 0 ∧ rd .psiteStatusGate 1 (wr .psiteStatusGate 1 1 State.reset) ≠ 0) ∧
    (let n : Notice := ⟨4, 1, 2000, 5, 0, false⟩
     ((State.reset.notices.find? fun n => n.cluster == 4) = none) ∧
       ({ State.reset with notices := [n] }.notices.find? fun n => n.cluster == 4) = some n ∧ 2000 ≤ n.lead ∧ ¬ 2000 ≤ 1999 ∧
       ((setPower { State.reset.power with boosts := [n] } State.reset).power.boosts.find? fun b => b.cluster == 4 && b.dur != 0) = some n) ∧
    (600 < rd .pwrclVminMv 4 (wr .pwrclVminMv 4 601 State.reset) ∧ rd .pwrclVminMv 4 (wr .pwrclVminMv 4 601 State.reset) ≤ 601) := by decide

/-- HeatRules: conversions at both ends of the diode's range, one and two hot readings, reads that are good, stale or absent, the third bad cycle. -/
theorem test_wit_HeatRules :
    (diodeFailed 1 14 State.reset = false ∧ (-320 : Int) ≤ -320 ∧ (1200 : Int) ≤ 1200) ∧
    (let s := setHeat { State.reset.heat with hot := tset noNat [] 29 2 } (wr .brdevStatusPhase 0 6 State.reset)
     2 ≤ tget noNat s.heat.hot (15 * 1 + 14) ∧ powered s = true ∧ tget noNat State.reset.heat.hot (15 * 1 + 14) < 2) ∧
    (let y : Coolant := ⟨2000, 3000, 4000, true, false, 7⟩
     goodRead none State.reset = none ∧ goodRead (some y) State.reset = some y ∧
       goodRead (some y) (setHeat { State.reset.heat with lastCount := some 7 } State.reset) = none ∧ State.reset.heat.retry = false ∧
       (setHeat { State.reset.heat with retry := true } State.reset).heat.retry = true) ∧
    ((setHeat { State.reset.heat with bad := 2 } State.reset).heat.bad < 3 ∧ 3 ≤ (setHeat { State.reset.heat with bad := 3 } State.reset).heat.bad) := by
  decide

/-- StopRules: standby, a powered device with a stop and without one, PWR_EN high and low, FAILED. -/
theorem test_wit_StopRules :
    (let s := wr .brdevStatusPhase 0 6 State.reset
     powered s = true ∧ s.boot.stop = none ∧ rd .brdevStatusPhase 0 s ≠ 0 ∧ rd .brdevStatusPhase 0 s ≠ 7) ∧
    (let s := setBoot { State.reset.boot with stop := some { cause := 9, t0 := 0, round := 0 } } (wr .brdevStatusPhase 0 6 State.reset)
     powered s = true ∧ s.boot.stop = some { cause := 9, t0 := 0, round := 0 }) ∧
    (let s := wr .brdevStatusPhase 0 0 State.reset
     powered s = false ∧ rd .brdevStatusPhase 0 s = 0 ∧ rd .brdevStatusPhase 0 (wr .brdevStatusPhase 0 7 s) = 7) ∧
    ((setBoot { State.reset.boot with pwrEn := true } State.reset).boot.pwrEn = true ∧
      (setBoot { State.reset.boot with pwrEn := false } State.reset).boot.pwrEn = false) := by decide

/-- RecoveryRules: no recovery, one that runs, one that is deferred, a lost site, a channel in service, remapping or lost. -/
theorem test_wit_RecoveryRules :
    (State.reset.faults.running = none ∧ State.reset.faults.deferred = [] ∧ bit .brsiteStatusLost 3 State.reset = false ∧
      bit .brsiteStatusResetting 3 State.reset = false ∧ rd .vaultStatusChan 7 State.reset = 0) ∧
    (bit .brsiteStatusLost 3 (wr .brsiteStatusLost 3 1 State.reset) = true ∧ 0 < rd .vaultStatusChan 7 (wr .vaultStatusChan 7 1 State.reset)) ∧
    (let q := mkRepair 6 3 0 0 []
     let s := setFaults { State.reset.faults with running := some q } State.reset
     runs 6 3 0 s = true ∧ runs 6 4 0 s = false ∧ s.faults.running = some q ∧
       (setFaults { State.reset.faults with deferred := [q] } State.reset).faults.deferred = [q] ∧ q.kind = 6) := by decide
/-! ### Counted parameters (R362) -/

set_option maxRecDepth 20000 in
/-- The entries of a count end at LEN at the latest: TWIN and TWIN_MSG with 64 entries, one byte short, and with 65. -/
theorem test_count_entries :
    (let e := envM 0x0705 152 [(0, 1), (2, 64)]
     paramCheck (opTwin 1 e) e = none ∧ paramCheck (opTwin 1 e) { e with raw := (headOf 0x0705 215 ++ e.raw.drop 64).take 215 } = some (3, 66)) ∧
    (let e := envP 0x0706 72 [(0, 1), (2, 64)]
     paramCheck (opTwinMsg 1 e) e = none) ∧
    (let e := envP 0x0706 73 [(0, 1), (2, 65)]
     paramCheck (opTwinMsg 1 e) e = some (3, 66)) ∧
    (let e := envP 0x0706 8 [(0, 1)]
     paramCheck (opTwinMsg 1 e) e = some (2, 66)) ∧
    (let e := envP 0x0706 9 [(0, 1), (1, 1), (2, 1)]
     paramCheck (opTwinMsg 1 e) e = some (1, 65)) := by decide

/-- FILL of 249 ranges ends at byte 4088, FABRIC of 503 routes at byte 4096, REBIND of 8 changes at byte 2632; LOG_READ's count is no entry list. -/
theorem test_count_maxima :
    (opFill (envM 0x0201 34 [(32, 249)])).counts = [(32, 249, 249, 4088)] ∧ (opFabric (envM 0x0701 8 [(2, 503)])).counts = [(2, 503, 503, 4096)] ∧
    (opRebind (envM 0x0101 8 [(0, 8)])).counts = [(0, 8, 8, 2632)] ∧ (opSampleCfg (envM 0x0502 8 [(1, 64)])).counts = [(1, 64, 64, 2144)] := by decide

/-! ### Well-formed commands -/

/-- Every class over its own path, and each path with a class that it does not carry; a secured session of a class without sessions. -/
theorem test_wf_via :
    (viaWf (envM 1 0 []) = true ∧ viaWf (envH 1 0 []) = true ∧ viaWf (envP 1 0 []) = true ∧
      viaWf (mkEnv .host false (.ring 63 0) 1 []) = true ∧ viaWf (mkEnv .mgmt false (.peer 0) 1 []) = true) ∧
    (viaWf (mkEnv .host false (.ring 64 0) 1 []) = false ∧ viaWf (mkEnv .mgmt false (.ring 0 0) 1 []) = false ∧
      viaWf (mkEnv .peer false (.mbox 0) 1 []) = false ∧ viaWf (mkEnv .hosts false .mgmt 1 []) = false ∧
      viaWf (mkEnv .mgmt true (.mbox 0) 1 []) = false ∧ viaWf (mkEnv .hosts true (.mbox 0) 1 []) = false) := by decide

set_option maxRecDepth 20000 in
/-- An envelope of its row, one of another opcode or operation, and one longer than a slot. -/
theorem test_wf_envelope :
    Instr.wf (.elermuxNop (envM 1 0 [])) = true ∧ Instr.wf (.devQuery (envM 1 0 [])) = false ∧
    Instr.wf (.ringEnable (envM 0x0504 24 [(2, 1)])) = true ∧ Instr.wf (.ringEnable (envM 0x0504 24 [(2, 2)])) = false ∧
    Instr.wf (.transportPacket 0 0 0 (List.replicate 4097 0)) = false ∧ Instr.wf (.mailboxMessage 0 (List.replicate 4097 0) false [] true) = false ∧
    Instr.wf (.elermuxNop { envM 1 0 [] with raw := headOf 1 64 ++ List.replicate 4033 0 }) = false := by decide

/-- Units, expanders and markers within and past each range. -/
theorem test_wf_records :
    (unitWf ⟨1, 63, 2047, 0⟩ = true ∧ unitWf ⟨0, 0, 0, 0⟩ = false ∧ unitWf ⟨7, 63, 15, 0⟩ = true ∧ unitWf ⟨8, 0, 0, 0⟩ = false ∧ unitWf ⟨1, 64, 0, 0⟩ = false ∧
      unitWf ⟨1, 0, 2048, 0⟩ = false) ∧
    (expanderWf (3, 0, 1) = true ∧ expanderWf (4, 0, 1) = false ∧ expandersWf [(0, 0, 2 ^ 27)] = true ∧
      expandersWf [(0, 0, 2 ^ 27), (0, 1, 1)] = false ∧ expandersWf [(0, 0, 1), (0, 0, 1)] = false) ∧
    (markerWf (markOf 65535) = true ∧ markerWf (markOf 65536) = false ∧ markerWf { markOf 0 with round := 2 ^ 48 } = false ∧
      markerWf { markOf 0 with master := 1024 } = false ∧ markerWf { markOf 0 with period := 19 } = false ∧
      markerWf { markOf 0 with period := 10001 } = false ∧ markerWf { markOf 0 with delay := 2 ^ 20 } = false ∧
      markerWf { markOf 0 with admBits := 2 ^ 64 } = false ∧ markerWf { markOf 0 with setps := List.replicate 5 (0, 0, 0) } = false) := by decide

set_option maxRecDepth 20000 in
/-- The commands' own ranges: an operand at the edge is well-formed and the next one is refused. -/
theorem test_wf_operands :
    (Instr.wf (.signalArrival 133119 0) = true ∧ Instr.wf (.signalArrival 133120 0) = false) ∧
    (Instr.wf (.getCertificate 1 []) = true ∧ Instr.wf (.getCertificate 2 []) = false ∧ Instr.wf (.challenge 2 []) = false) ∧
    (Instr.wf (.getMeasurements 255) = true ∧ Instr.wf (.getMeasurements 256) = false) ∧
    (Instr.wf (.allotmentRequest (List.replicate 64 80)) = true ∧ Instr.wf (.allotmentRequest []) = false) ∧
    (Instr.wf (.viaRemap 0 [151]) = true ∧ Instr.wf (.viaRemap 0 [152]) = false) ∧
    (Instr.wf (.freezeCopy 0 0 1) = true ∧ Instr.wf (.freezeCopy 0 0 0) = false) ∧
    (Instr.wf (.leaseRelay (natLe 160 0)) = true ∧ Instr.wf (.leaseRelay (natLe 159 0)) = false) ∧
    (Instr.wf (.envelopeFetch 0 (natLe 64 0) false) = true ∧ Instr.wf (.envelopeFetch 0 (natLe 63 0) false) = false) ∧
    (Instr.wf (.registerWrite 0 0 0 [0, 0, 0, 0]) = true ∧ Instr.wf (.registerWrite 0 0 0 [0]) = false) ∧
    (Instr.wf (.tvScanWindow [(2 ^ 28 - 1, 2)]) = true ∧ Instr.wf (.tvScanWindow [(2 ^ 28, 0)]) = false ∧ Instr.wf (.tvScanWindow [(0, 3)]) = false) ∧
    (Instr.wf (.vaultNarrowWrite 0 0 [1] 0) = true ∧ Instr.wf (.vaultNarrowWrite 0 0 [] 0) = false) ∧
    (Instr.wf (.hostWindowWrite 0 0 true 0 (natLe 64 0)) = true ∧ Instr.wf (.hostWindowWrite 0 0 true 0 (natLe 65 0)) = false) ∧
    Instr.wf (.markerReceived 0 (markOf 65536) 0) = false ∧ Instr.wf (.powerOn true 0 0 [⟨0, 0, 0, 0⟩] [] 0) = false ∧
    Instr.wf (.modReset 0 0 [] [(4, 0, 1)] 0) = false ∧ Instr.wf (.submitCopy 0 0 [] []) = false ∧
    Instr.wf (.stepCopy 0 ⟨0, 0, 0, 0, 0, [], 0, [], [], [], []⟩) = false := by decide

/-! ### Further conditions of the statements above -/

/-- The core of MatrixRuns: a width of 32, a stationary operand of one BF16 element a row, and the stream's lines with their tag. -/
def matrixOn : State :=
  (List.range 64).foldl (fun s l => setTag 0 l (streamTag .bf16 1 1) s) (updCore 0 (fun c => { c with stat := some ⟨.bf16, none, 1, [], []⟩ })
    (wr .coreArrayIdWidth 0 32 running))

/-- A stream of one BF16 element with one group. -/
def streamWord (op : Nat) : Nat := wordOf op (word56 [(1, 52), (1, 43), (1, 25), (1, 23)])

/-- DrainedTile, MatrixRuns: an MLOAD whose rows can be read. -/
theorem test_wit_MatrixRuns_mload :
    let w := wordOf 0x40 (word56 [(1, 52), (1, 34)])
    fmtOfCode (mSfmt w) = some .bf16 ∧ (mloadBad 0 w (rowLines .bf16 (mK w)) (scaleLines (scaleOf (mSsf w) (mSse w)) (mK w)) running).isNone = true := by decide

/-- The wavefronts of a stream word on `matrixOn` all read, its bank exists and is 0. -/
def streamOpen (op : Nat) : Bool :=
  match streamArgs (streamWord op) with
  | none => false
  | some x => (firstBadWave 0 x matrixOn).isNone && (streamConflict (entryOf 0 (streamWord op) matrixOn) x (getCore 0 matrixOn)).isNone && x.bank == 0

/-- DrainedTile, MatrixRuns: an MSTREAM and a MACC whose wavefronts can be read, and banks that exist. -/
theorem test_wit_MatrixRuns_streams :
    (mCheck 0 (streamWord 0x41) matrixOn).isNone = true ∧ streamOpen 0x41 = true ∧
    (mCheck 0 (streamWord 0x42) matrixOn).isNone = true ∧ streamOpen 0x42 = true ∧
    (getCore 0 matrixOn).stat.isSome = true ∧ 0 < (getCore 0 matrixOn).banks.length := by decide

/-- LetterMoves, DmaEvents, DmaCheckOrder: the descriptor in line 256 passes its checks; a transfer that completes with 0, and one that a remote error ends. -/
theorem test_wit_Dma_more :
    (let s := lineHolds (descOf 1 0 4096 32 1)
     dmaCheck 0 (spLine 0 256 s) s = 0 ∧ 0 < (getCore 0 s).chans.length) ∧
    (moveDma 0 (descOf 3 4096 0 32 1) (2 ^ 64) (busyWith (descOf 3 4096 0 32 1))).1 = 0 ∧
    (moveDma 0 (descOf 3 4096 0 32 1) 0 (busyWith (descOf 3 4096 0 32 1))).1 = 64 ∧ (12 : Fin 64).val = 12 ∧ (10 : Fin 64).val = 10 := by decide

/-- Releases, GeneratorWrites: the vector queue of a core that waits to drain holds nothing that reads the queue of tiles. -/
theorem test_wit_TileDeadlock_queue :
    let s := coreWith fun c => { c with drain := some ⟨0, 0, 0, {}⟩, vq := [⟨wordOf 0x81 0, 0, 0, {}⟩] }
    ((getCore 0 s).vq.any fun v => vQa v.word) = false := by decide

/-- A READY device whose site 0 is up. -/
def siteOn : State := wr .brsiteStatusReady 0 1 (wr .brdevStatusPhase 0 6 State.reset)

/-- HostWindowRule, EngineEvents, NetworkEvents, RingFetch, MailboxRules, RegisterWriteRules: sites, stops, ports and BAR0 as their conditions have them. -/
theorem test_wit_device :
    siteUp (hostSite true 0) (wr .brsiteStatusReady 0 1 granted) = true ∧ granted.net.out.contains (hostPortSite 0 granted) = false ∧
    stopping (engineWith { queue := [opOne] }) = false ∧ nextOp [opOne] = some opOne ∧ startHold 0 false (engineWith { queue := [opOne], held := true }) ≠ 0 ∧
    stopping ringOn = false ∧ barServes .mbox siteOn = true ∧ barServes .mbox (wr .brdevStatusPhase 0 7 siteOn) = false ∧
    rootPort 0 siteOn = false ∧ rootPort 0 (setBoot { siteOn.boot with hostModes := 2 } siteOn) = true ∧
    siteUp 0 siteOn = true ∧ siteUp 1 siteOn = false ∧ barServes .brdev (wr .brdevStatusPhase 0 7 siteOn) = true ∧
    (let s := wr .netEdgeActive 0 32 State.reset
     lastLane 0 s = false) ∧ (outNow State.reset).contains 0 = false := by decide

/-- DeviceEnvelopes, FirmwareEnvelopes: sites out of reset for each RESET domain; the offset that FW_STAGE expects; POWER's sum of allotments. -/
theorem test_wit_Envelopes_device :
    inReset 1 0 63 clerkOn = false ∧ inReset 2 13 63 clerkOn = false ∧ inReset 3 0 63 clerkOn = false ∧
    (let e := envM 0x0901 20 [(0, 1), (8, 4), (16, 9)]
     pNat e 4 4 = stageNext (getFw 1 State.reset) ∧ pNat e 8 4 ≠ 2 ^ 32 - 1) ∧
    (let e := envM 0x0901 20 [(0, 2), (4, 1), (8, 4)]
     pNat e 4 4 ≠ stageNext (getFw 2 State.reset)) := by decide

/-- A near-memory GATHER of one four-byte row, its list at byte 64 and its destination at byte 0 of vault 0. -/
def gatherOne : Nat := 1 + 64 * 2 ^ 128 + 2 ^ 256 + 4 * 2 ^ 144 * 2 ^ 144 + 2 ^ 156 * 2 ^ 156 + 2 ^ 168 * 2 ^ 168 + 4 * 2 ^ 176 * 2 ^ 176
def gatherOn : State := setPage 0 0 { owner := .district 5 } actOn

/-- MemoryEnvelopes: addresses below 2^43; a COPY whose write is made and one whose write is lost; a counter field that can be read and one that
cannot; an NM_SUBMIT that passes its engine's checks. -/
theorem test_wit_MemoryEnvelopes_more :
    (0 < 2 ^ 43 ∧ vaultEnd - 8 < 2 ^ 43) ∧
    ((vwrite 0 64 srcSide (List.replicate 32 1) clerkOn).1 = none ∧
      (vwrite 0 72 srcSide (List.replicate 32 1) (setMark 0 64 .poison clerkOn)).1 ≠ none) ∧
    (counterBytes 0 (vaultEnd - 8) srcHost 8 clerkOn).1.2 = false ∧
    (let op : NmOp := { desc := gatherOne, district := some 5, who := .envelope (envM 0x0301 65 [(64, 5)]) }
     districtGate (envM 0x0301 65 [(64, 5)]) 5 gatherOn = none ∧ nmCheck 0 op gatherOn = 0 ∧ (getEngine 0 gatherOn).queue.length < 16) := by decide

/-- MemoryEnvelopes: a counter field with a byte of two bad bits, where the byte's code finds it uncorrectable. -/
theorem test_wit_MemoryEnvelopes_counter (h : Config.counterCode 3 = 1) :
    (counterBytes 0 (vaultEnd - 8) srcHost 8 (setCntBad 0 (vaultEnd - 8) 3 clerkOn)).1.2 = true := by
  have hb : tget noBad (setCntBad 0 (vaultEnd - 8) 3 clerkOn).vaults.cntBad (0 * 2 ^ 26 + (vaultEnd - 8)) = 3 := by decide
  have hc : (counterAt 0 (vaultEnd - 8) (openRow 0 (vaultEnd - 8) (setCntBad 0 (vaultEnd - 8) 3 clerkOn))).2 = 2 := by
    have ho : (openRow 0 (vaultEnd - 8) (setCntBad 0 (vaultEnd - 8) 3 clerkOn)).vaults.cntBad =
        (setCntBad 0 (vaultEnd - 8) 3 clerkOn).vaults.cntBad := by decide
    unfold counterAt counterOut
    rw [ho, hb, h]
    rfl
  have hx : (counterByte 0 (vaultEnd - 8) srcHost (setCntBad 0 (vaultEnd - 8) 3 clerkOn)).1.2 = true := by
    unfold counterByte
    dsimp only
    rw [hc]
    rfl
  rw [counterBytes]
  dsimp only
  rw [hx, Bool.true_or]

/-- StreamEnvelopes: the gate's refusals, a stream with CANCEL, one that runs, resumes barred and not, a handle that streams refer to or not. -/
theorem test_wit_StreamEnvelopes_more :
    (streamGate (envH 0x0402 8 [(0, 9)]) false clerkOn).toOption = none ∧
    (getStream 0 (setStream 0 { st := .running, id := 9, district := 5, cancel := true } actOn)).cancel = true ∧
    (getStream 0 (setStream 0 { st := .running, id := 9, district := 5 } actOn)).st = .running ∧
    (let i : Image := { stream := { ring := 2 }, parcel := 0, measure := 0, ctl := [], chains := [], port := 0, addr := 0, len := 0, tag := some 0 }
     resumeBar 5 i submitOn = 0 ∧ resumeBar 5 i actOn = 51 ∧ resumeBar 5 { i with refLost := true } submitOn = 41) ∧
    (let s := setHandle 4095 { used := true, made := true, district := 5, refs := 1 } actOn
     (getHandle 4095 s).refs ≠ 0 ∧ (getHandle 4095 (setHandle 4095 { used := true, made := true, district := 5 } actOn)).refs = 0) := by decide

set_option maxRecDepth 10000 in
/-- StreamEnvelopes: a SUBMIT that is taken. -/
theorem test_wit_StreamEnvelopes_placed :
    let e := envH 0x0401 512 [(0, 5), (4, 1), (6, 2), (16, 4), (20, 1), (24, 4), (36, 0x3F800000), (44, 0x3F800000)]
    submitCheck e submitOn = none := by decide

/-- FabricEnvelopes: TWIN of districts that do not re-bind; a failover of a district that is not free. -/
theorem test_wit_FabricEnvelopes_more :
    (let e := envM 0x0705 26 [(0, 1), (1, 1), (2, 1), (24, 5), (25, 6)]
     ∀ i < pNat e 2 1, rd .distCfgState (pNat e (24 + 2 * i) 1) clerkOn ≠ 2) ∧
    ([5].filter (fun d => !actOn.fab.handed.contains d && rd .distCfgState d actOn != 0) ≠ [] ∧ actOn.faults.running = none) := by decide

set_option maxRecDepth 10000 in
/-- RebindRules: a re-binding that waits for a step, and one whose streams are gone; a change that a fault has ended; a handle that a FREEZE asks for. -/
theorem test_wit_RebindRules_more :
    (let c := parseChange (dissolve .mgmt .mgmt) 0
     rebindQuiet [c] (setDistrict 5 { running := true } rebindOn) = false ∧ rebindQuiet [c] rebindOn = true ∧
       changeLost c (wr .distCfgState 5 3 rebindOn) ≠ 0) ∧
    (let s := setStream 0 { st := .ready, id := 9, district := 5, pos := 4, freezes := [(7, 4)] } actOn
     (getStream 0 s).freezes = (7, 4) :: [] ∧ (getStream 0 s).st = .ready) := by decide

/-! Rounds, steps, streams, KV. -/

/-- RoundRules: nothing hangs on the boundary in each state, an equal epoch in each way, markers in time and late. -/
theorem test_wit_RoundRules_more :
    (∀ s ∈ [follower, setFab { follower.fab with acting := true } follower, setFab { follower.fab with marker := some (markOf 0) } follower],
      (∀ x ∈ s.districts, x.2.running = false ∧ x.2.ran = []) ∧ (∀ x ∈ s.sort.streams, x.2.wait = none) ∧ memberJobs s = []) ∧
    ((markOf 0).epoch = rd .roundStatusEpoch 0 follower ∧ (markOf 0).round ≠ roundNow follower ∧
      (markOf 0).round = roundNow (wr .roundCountRound 0 1 follower)) ∧
    (markerLate 3 (markOf 0) 0 (wr .roundCfgBudget 0 50 follower) = false ∧ markerLate 3 (markOf 0) 50001 (wr .roundCfgBudget 0 50 follower) = true) := by
  decide

/-- BookRules, StepRules: an unbound book that refills; a device that stops and one that does not; 64 deferrals without a FREEZE that waits. -/
theorem test_wit_StepRules_more :
    (let s := wr .bookWInterval 1 1 State.reset
     bit .bookBindBound 1 s = false ∧ (getBook 1 s).pend = none ∧ rd .bookWInterval 1 s ≠ 0 ∧ roundNow s % rd .bookWInterval 1 s = 0 ∧
       (getBook 1 s).refilled ≤ roundNow s) ∧
    (stopping (wr .distCfgPv 5 1 actOn) = false ∧
      stopping (setBoot { actOn.boot with stop := some { cause := 9, t0 := 0, round := 0 } } actOn) = true) ∧
    (let s := setStream 0 { st := .ready, stag := 64 } State.reset
     (getStream 0 s).freezes = [] ∧ (getStream 0 s).st = .ready) ∧
    (getDistrict 5 actOn).look = [] := by decide

/-- StreamLeaves: a stream that ends with its record made; an image whose pages can be read, with no place in the pool. -/
theorem test_wit_StreamLeaves_more :
    (getStream 0 (setStream 0 { st := .ending, endRec := true } actOn)).endRec = true ∧
    (let s := setStream 0 { st := .ready, pre := 4 } actOn
     (getStream 0 s).freezes = [] ∧ (getStream 0 s).pre = 4 ∧ (getStream 0 s).st = .ready) ∧
    (poolPlace 65536 clerkOn = none ∧ poolPlace 65536 (setSort { clerkOn.sort with pool := [(3, 65536, 65536)] } clerkOn) = some (3, 65536)) ∧
    (∀ h ∈ clerkOn.sort.held, h.ring ≠ 5) := by decide

set_option maxRecDepth 10000 in
/-- KvRules: a spill that is under way, a site that cannot spill and pre-empts nothing, a page that opens in the attention set. -/
theorem test_wit_KvRules_more :
    (let s := kvOn { opened := true, pages := [{ spilling := some (0, 0, 0) }], attend := [0] }
     ((getChain 0 0 s).pages.getD 0 {}).spilling = some (0, 0, 0) ∧ (getChain 0 0 s).attend.contains 0 = true) ∧
    (let s := wr .kvsiteFreePages 0 0 (wr .kvsiteWmarkHigh 0 1 (wr .kvsiteWmarkLow 0 1 State.reset))
     let s1 := (List.range 64).foldl (fun u _ => spillOne 0 u) (setSpilling 0 true s)
     spillNeeded 0 s = true ∧ spillStuck 0 s1 = true ∧ sitePreempting 0 s1 = false ∧ spillVictim 0 s1 = none) ∧
    (let s := setStream 0 { st := .preempting, pre := 2 } (kvOn { opened := true, pages := [{}] })
     spillVictim 0 (kvOn { opened := true, pages := [{}] }) = some 0 ∧ sitePreempting 0 s = (sitesOf 0 s).contains 0) := by decide

/-! Fabric, twins, circulation. -/

/-- LinkRules, CirculationRules: an egress port with a way to it, and one whose port nodes are out. -/
theorem test_wit_Ports :
    (portsFrom (fabricPortSite 3 State.reset) [3] State.reset = [3] ∧ portsFrom 0 [3] State.reset = [3]) ∧
    (let s := setNet { State.reset.net with out := List.range 64 } State.reset
     portsFrom (fabricPortSite 3 s) [3] s = [] ∧ portsFrom 0 [3] s = []) := by decide

/-- JobRules: a job that circulates and is cut off; a relayed grant, each signature that Config may give; a hold that fails a district without streams. -/
theorem test_wit_JobRules_more :
    (let s := setJob 2 { members := [0, 7], circ := some ⟨[3], 1024, [0, 1]⟩ } jobOn
     bit .jobCfgMember 2 s = true ∧ memberCut 2 s = true ∧ (getJob 2 s).circ.isSome = true ∧ (getJob 2 jobOn).circ.isSome = false) ∧
    (let s := wr .jobStatusHold 2 1 jobOn
     bit .jobStatusHold 2 s = true ∧ rd .jobCfgDistrict 2 s = 5 ∧ rd .distCfgState 5 s = 1 ∧ s.sort.streams = []) := by decide

theorem test_wit_JobRules_grant (h : grantSigned (grantOf 1 10 (ownFid jobOn)) jobOn = true) :
    (grantCheck (grantOf 1 10 (ownFid jobOn)) jobOn).status = 0 := by
  have h2 : gNat (grantOf 1 10 (ownFid jobOn)) 0 1 = 1 := by decide
  have h3 : gNat (grantOf 1 10 (ownFid jobOn)) 1 1 = 2 := by decide
  have h4 : gNat (grantOf 1 10 (ownFid jobOn)) 8 8 = 10 := by decide
  have h5 : gNat (grantOf 1 10 (ownFid jobOn)) 2 2 = 1 := by decide
  have h6 : bit .jobCfgMember 2 jobOn = true := by decide
  have h7 : jobOn.now = 0 := by decide
  have h8 : rd .jobStatusEpoch 2 jobOn = 0 := by decide
  have h9 : gNat (grantOf 1 10 (ownFid jobOn)) 16 8 = 0 := by decide
  simp [grantCheck, h, h9, h2, h3, h4, h5, h6, h7, h8, okAns]

/-- TwinRules: a SUBMIT copy that can be placed, a device lease that expires with a shadow and no recovery. -/
theorem test_wit_TwinRules_more :
    bit .twinCfgPaired 0 shadowOn = true ∧ shadowOn.faults.running = none ∧ acceptsCopies 5 shadowOn = true ∧
    (∃ x ∈ shadowOn.sort.streams, x.2.st ≠ .free ∧ x.2.shadow = true ∧ rd .distCfgState x.2.district shadowOn ≠ 0) := by decide

/-! Power, stops, recoveries. -/

/-- CapRules: the end of a window with input samples, no job and no step. -/
theorem test_wit_CapRules_window :
    let s := setPower { State.reset.power with vin := [54000, 54002] } State.reset
    memberJobs s = [] ∧ (∀ x ∈ s.districts, x.2.running = false) ∧ s.power.vin ≠ [] := by decide

/-- StopRules: no unit recorded as bad, and each choice of image. -/
theorem test_wit_StopRules_more :
    State.reset.boot.flash.fuses = [] ∧ State.reset.boot.flash.frm = [] ∧ (2 : Fin 3) = 2 ∧ (0 : Fin 3) ≠ 2 ∧
    (State.reset.boot.stop = none ∧ (setBoot { State.reset.boot with pwrEn := true } State.reset).boot.stop = none) := by decide

/-- RecoveryRules: a site without districts, no engine at work, a channel without a bad via, and a deferred recovery of each kind. -/
theorem test_wit_RecoveryRules_more :
    districtsOnSite 3 State.reset = [] ∧ State.reset.engines = [] ∧ (badVias 7 State.reset).length ≤ 8 ∧
    (∀ k ∈ [1, 3, 4, 5, 6], (setFaults { State.reset.faults with deferred := [mkRepair k 3 0 0 []] } State.reset).faults.deferred =
      mkRepair k 3 0 0 [] :: []) ∧
    (let s := setFaults { State.reset.faults with running := some (mkRepair 6 3 0 0 []) } State.reset
     runs 6 3 0 s = true ∧ bit .brsiteStatusLost 3 s = false ∧ districtsOnSite 3 s = [] ∧ s.engines = []) := by decide


/-! ### More of the hypotheses -/

/-- GoRule, GeneratorWrites: a core whose block is BUSY, one that is not, and each of the latter in a darkened and a lit cluster. -/
theorem test_wit_GoRule_more :
    bit .corePostBusy 0 (wr .corePostBusy 0 1 running) = true ∧ bit .corePostBusy 0 running = false ∧
    bit .thclCtrlDark (clusterOf 0) (wr .thclCtrlDark 0 1 running) = true ∧ bit .thclCtrlDark (clusterOf 0) running = false := by decide

/-- A transfer into the pigeonhole from line 128 of the scratchpad, and into the letter line of a core that runs. -/
def pigCopy : State := busyWith (descOf 3 4096 0 32 1)

/-- DmaEvents: a transfer that no data halt (codes 0, 10 and 12), one whose line's check bits fail (11), one into a letter region. -/
theorem test_wit_Dma_codes :
    (moveDma 0 (descOf 3 4096 0 32 1) (2 ^ 64) pigCopy).1 = 0 ∧
    (moveDma 0 (descOf 3 4096 0 32 1) (2 ^ 64) (spoilLine 0 (descOf 3 4096 0 32 1) 0 pigCopy)).1 ≠ 0 ∧
    intoLetter 0 (descOf 1 0 0 32 1) running = true := by decide

/-- Releases: a path that is open, and one that drains from before a route change; an RWAIT that took its release. -/
theorem test_wit_Releases_path :
    (let s := coreWith fun c => { c with rel := true, stepSent := true }
     pathOpen (match coreDistrict 0 s with | some d => rd .distCfgHome d s | none => siteOf 0) (siteOf 0) s = true) ∧
    (let s := coreWith fun c => { c with st := .roundWait, wait := some (wordOf 0x0b (word56 [(1, 31)])), took := true }
     (getCore 0 s).wait = some (wordOf 0x0b (word56 [(1, 31)])) ∧ bits (wordOf 0x0b (word56 [(1, 31)])) 31 1 = 1 ∧ (getCore 0 s).took = true) ∧
    (let s := coreWith fun c => { c with drain := some ⟨0, 0, 0, {}⟩ }
     ((getCore 0 s).vq.any fun v => vQa v.word) = false) := by decide

/-- VaultEvents, VaultUpkeep: a block that is not established, a site whose scrub is enabled and whose vault works. -/
theorem test_wit_VaultEvents_more :
    isEst 0 (4096 * 5) State.reset = false ∧ vaultWorks 0 State.reset = true ∧
    (let s := wr .vsiteScrubEn 0 1 State.reset
     bit .vsiteScrubEn (siteOf 0) s = true ∧ vaultWorks 0 s = true) := by decide

/-- EngineEvents: an engine that nothing stops, one whose checkerboard hold can expire, and an operation that runs to status 0. -/
theorem test_wit_EngineEvents_more :
    engineStopped 0 (engineWith { queue := [opOne] }) = false ∧ nextOp (getEngine 0 (engineWith { queue := [opOne] })).queue = some opOne ∧
    (let s := engineWith { queue := [opOne], held := true, checker := true }
     (getEngine 0 s).held = true ∧ (getEngine 0 s).checker = true ∧ startHold 0 false s ≠ 0 ∧ engineStopped 0 s = false) := by decide

/-- NetworkEvents: the last lane but 15, a recovery of each kind that a route load meets, a site in service and one that is out. -/
theorem test_wit_NetworkEvents_more :
    (let s := wr .netEdgeSpares 0 2 (wr .netEdgeActive 0 16 State.reset)
     edgeExists 0 = true ∧ rd .netEdgeState 0 s ≠ 3 ∧ lastLane 0 s = true) ∧
    (let s := wr .netEdgeActive 0 34 State.reset
     lastLane 0 s = false ∧ s.faults.running = none) ∧
    runs 3 0 0 (setFaults { State.reset.faults with running := some (mkRepair 3 0 0 3 []) } State.reset) = true ∧
    (∀ k ∈ [3, 4, 5],
      let s := setFaults { State.reset.faults with running := some (mkRepair k 3 0 0 []) } (setNet { State.reset.net with phase := 2 } State.reset)
      (barriersAgain (releaseHeld (routesLoaded s))).faults.running = some (mkRepair k 3 0 0 [])) ∧
    (outNow State.reset).contains 0 = false ∧ (outNow (setNet { State.reset.net with dead := [0] } State.reset)).contains 0 = true := by decide

/-- RingFetch: a device that does not stop; the bytes that a fetch keeps of a slot with LEN 64. -/
theorem test_wit_RingFetch_more :
    stopping ringOn = false ∧
    (let raw : List Byte := [1, 0, 1, 0, 64, 0] ++ List.replicate 100 0
     let e := ringEnv 0 (rd .eringHeadIndex 0 ringOn) raw ringOn
     (if 64 ≤ envLen e ∧ envLen e ≤ 4096 then envLen e else 64) = 64 ∧ outsideTable { e with raw := raw.take 64 } = false) := by decide

/-- RegisterEvents: blocks that are BUSY and idle, a site locked and not, a register that is PENDING and one that is not. -/
theorem test_wit_RegisterEvents :
    bit .vaultStatusBusy 0 State.reset = false ∧ bit .vaultStatusBusy 0 (wr .vaultStatusBusy 0 1 State.reset) = true ∧
    bit .nmeStatusBusy 0 State.reset = false ∧ bit .nmeStatusBusy 0 (wr .nmeStatusBusy 0 1 State.reset) = true ∧
    bit .nmsiteLockLock 0 State.reset = false ∧ bit .nmsiteLockLock 0 (wr .nmsiteLockLock 0 1 State.reset) = true ∧
    State.reset.eng.tvPending.contains 7 = false ∧
    (setEng { State.reset.eng with tvPending := [7] } State.reset).eng.tvPending.contains 7 = true := by decide

/-- FunctionResetRule: the two premises of a ring of another port. -/
theorem test_wit_FunctionResetRule_more : (64 : ERingId).val / 64 ≠ (0 : HPortId).val ∧ (0 : HPortId).val = (63 : ERingId).val / 64 := by decide

/-- EnvelopeChecks: a row whose own list begins with the class, from a source of another class. -/
theorem test_wit_EnvelopeChecks_first :
    let e : Env := envP 0x0401 0 []
    (opSubmit e).first = true ∧ classAllowed (opSubmit e) e = false ∧ ready e State.reset = true ∧ headerCheck (opSubmit e) e = none ∧
      ((opSubmit e).clerk = true → clerkUp (markPassed e State.reset) = true) := by decide

/-- MemoryEnvelopes: two sites that reach each other, and two that a lost site parts. -/
theorem test_wit_MemoryEnvelopes_copy :
    unreachable 0 1 State.reset = false ∧ unreachable 0 1 (setNet { State.reset.net with out := [1] } State.reset) = true := by decide

/-- StreamEnvelopes: a device whose twin ports are down, and one with a twin port up whose mirror district is paired. -/
theorem test_wit_StreamEnvelopes_twin :
    twinCut submitOn = true ∧ twinCut (wr .nolucpPortState (twinPorts.headD 0) 1 submitOn) = false ∧
    (let s := setFab { submitOn.fab with mirrors := [(5, 6)] } (wr .twinCfgPaired 0 1 submitOn)
     protects { district := 5, reg := true } s = true) := by decide

set_option maxRecDepth 20000 in
/-- StreamEnvelopes: what SUBMIT allocates for the specification of the test above, and what fails without a slot reserved for addresses. -/
theorem test_wit_StreamEnvelopes_place :
    let e := envH 0x0401 512 [(0, 5), (4, 1), (6, 2), (16, 4), (20, 1), (24, 4), (36, 0x3F800000), (44, 0x3F800000)]
    (placeStream 5 (nextId submitOn) (e.raw.drop 64 ++ List.replicate 4032 0) false submitOn).1.1 ≠ 4 := by decide

/-- LeaseGrantRule: a membership that covers every JOBIDX, and one that does not. -/
theorem test_wit_LeaseGrantRule_covers :
    grantCovers (grantOf 1 10 5) 2 = true ∧ grantCovers (natLe 160 (1 + 2 * 2 ^ 8 + 5 * 2 ^ 192 + 1023 * 2 ^ 208)) 2 = false := by decide

/-- FabricEnvelopes: a job's district that has admission passes and one that has none. -/
theorem test_wit_FabricEnvelopes_passes :
    passesCome (rd .jobCfgDistrict 2 jobOn) jobOn = true ∧ passesCome (rd .jobCfgDistrict 2 jobOn) (wr .distCfgState 5 3 jobOn) = false := by decide

/-- RebindRules: a stream whose FREEZE has its page. -/
def freezeOn : State :=
  setStream 0 { st := .ready, id := 9, district := 5, pos := 4, freezes := [(7, 4)] }
    (wr .distResPageLimit 5 8 (wr .clbindCDistrict 0 5 (wr .clbindCBound 0 1 actOn)))

set_option maxRecDepth 20000 in
theorem test_wit_RebindRules_freeze :
    let x := getStream 0 freezeOn
    let v0 := setStream 0 { x with freezes := [] } freezeOn
    x.freezes = [(7, 4)] ∧ x.st = .ready ∧ underLimit x.district 1 v0 = true ∧
      (findPage (vaultsOn x.district (rd .distCfgHome x.district v0) v0) false v0).isSome = true ∧
      ∀ s1, ((shareChains 0 4 ((chainsOf 0 v0).map (·.1)) s1).map (·.1)).isSome = true := by
  refine ⟨rfl, rfl, by decide, by decide, fun s1 => rfl⟩

/-- RoundRules: plain states of a master and a follower. -/
theorem test_wit_RoundRules_plain :
    issues (wr .roundCfgMaster 0 (ownFid State.reset) State.reset) = true ∧ epochNow follower = 0 ∧ follower.fab.marker = none := by decide

/-- StepRules: what a pass takes over leaves the job holding or not; a shard whose logits can be read and one whose cannot. -/
theorem test_wit_StepRules_pass :
    (let s := wr .distCfgPv 5 1 actOn
     jobHolds 5 (takeConfigs 5 (setDistrict 5 { getDistrict 5 s with stepStart := s.now, started := roundNow s + 1 } s)) = false) ∧
    (let s := wr .jobStatusHold 2 1 jobOn
     jobHolds 5 (takeConfigs 5 (setDistrict 5 { getDistrict 5 s with stepStart := s.now, started := roundNow s + 1 } s)) = true) ∧
    (readShard 5 shard0 [0] (stepOn { nout := 1 } { pipe := [⟨0, 0, [0]⟩], samp := some ⟨2, [shard0]⟩ })).1 = none ∧
    (readShard 5 shard0 [] (stepOn {} { samp := some ⟨2, [shard0]⟩ })).1 = some [] := by decide

/-- Where no bit of the counter area is bad, its bytes are delivered, and none turns bad. -/
theorem counterBytes_clean (v src n off : Nat) (s : State) (h : s.vaults.cntBad = []) :
    (counterBytes v off src n s).1.2 = false ∧ (counterBytes v off src n s).2.vaults.cntBad = [] := by
  have hb (off : Nat) (s : State) (h : s.vaults.cntBad = []) :
      (counterByte v off src s).1.2 = false ∧ (counterByte v off src s).2.vaults.cntBad = [] := by
    have hc : (counterAt v off (openRow v off s)).2 = 0 := by
      have hz : ((List.range 8).filter fun j => Nat.testBit 0 j).length = 0 := by decide
      have ht : tget noBad (openRow v off s).vaults.cntBad (v * 2 ^ 26 + off) = 0 := by simp only [openRow, h]; rfl
      unfold counterAt counterOut
      rw [ht]
      simp only [hz]
    unfold counterByte
    simp only [hc]
    exact ⟨trivial, h⟩
  induction n generalizing off s with
  | zero => exact ⟨rfl, h⟩
  | succ n ih =>
    have h1 := hb off s h
    have h2 := ih (off + 1) (counterByte v off src s).2 h1.2
    unfold counterBytes
    exact ⟨by simp [h1.1, h2.1], h2.2⟩

/-- Words of the counter area, none of whose bits is bad, are delivered. -/
theorem readWords_clean (v src k n off : Nat) (s : State) (h : s.vaults.cntBad = []) (ho : counterBase ≤ off) :
    (readWords v src k off n s).1.2 = none := by
  induction k generalizing off n s with
  | zero => rfl
  | succ k ih =>
    unfold readWords
    split
    · rfl
    · have hw : counterBase ≤ off / 32 * 32 := by
        have : counterBase % 32 = 0 := by decide
        omega
      have hc := counterBytes_clean v src 32 (off / 32 * 32) (openRow v (off / 32 * 32) (grantSlots (scrubs .requester) v 1 s)) h
      have hr : vread v (off / 32 * 32) src s = (.ok (counterBytes v (off / 32 * 32) src 32
          (openRow v (off / 32 * 32) (grantSlots (scrubs .requester) v 1 s))).1.1, (counterBytes v (off / 32 * 32) src 32
          (openRow v (off / 32 * 32) (grantSlots (scrubs .requester) v 1 s))).2) := by
        unfold vread vreadAs
        simp only [hw, if_true, hc.1]
        rfl
      simp only [hr]
      exact ih _ _ _ hc.2 (by omega)

/-- DrawRules: a control block that can be read, and one that cannot. -/
theorem test_wit_DrawRules_cb :
    (cbWhole 0 (stepOn { nout := 1, ctl := vaultEnd - 16384 } {})).1.isSome = true ∧ (cbWhole 0 (stepOn { nout := 1 } {})).1 = none := by
  constructor
  · have h := readWords_clean 0 srcDispatcher (10304 / 32 + 2) 10304 (vaultEnd - 16384)
      (stepOn { nout := 1, ctl := vaultEnd - 16384 } {}) (by decide) (by decide)
    have ha : (getStream 0 (stepOn { nout := 1, ctl := vaultEnd - 16384 } {})).ctl + 0 = vaultEnd - 16384 := by decide
    have hl : vaultLocal (vaultEnd - 16384) = (0, vaultEnd - 16384) := by decide
    unfold cbWhole cbRead
    simp only [ha, hl, vreadBytes, h]
    rfl
  · decide

/-- LinkRules: a copy's stream with its resynchronisation under way and without, a way that a route change holds, a port that retrains. -/
theorem test_wit_LinkRules_more :
    (let s := setStream 3 { st := .ready, id := 9, resync := true } State.reset
     (s.sort.streams.find? fun x => x.2.st != .free && !x.2.shadow && x.2.id == 9) = some (3, { st := .ready, id := 9, resync := true }) ∧
       (∀ x ∈ s.sort.streams, x.2.st = .free ∨ x.2.shadow = true ∨ x.2.id ≠ 8)) ∧
    ((setStream 3 { st := .ready, id := 9 } State.reset).sort.streams.find? fun x => x.2.st != .free && !x.2.shadow && x.2.id == 9) =
      some (3, { st := .ready, id := 9 }) ∧
    pathHeld 0 1 State.reset = false ∧ pathHeld 0 1 (setNet { State.reset.net with dead := [1] } State.reset) = true ∧
    rd .nolucpPortState 3 (wr .nolucpPortState 3 1 State.reset) = 1 ∧ State.reset.net.out.contains 1 = false ∧
    unreachable 0 1 State.reset = false := by decide

/-- TwinRules: a STEP copy whose chain cannot be made ready. -/
theorem test_wit_TwinRules_refused :
    (readyChains 0 ⟨0, 0, 0, 0, 0, [], 1, [], [], [], []⟩ [(0, 0)] shadowOn).isNone = true := by decide

/-- CapRules: a window above the allotment with every level at its floor, and one between 97 % and all of it. -/
theorem test_wit_CapRules_site :
    (let s := wr .psiteLevelCompute 1 40 (wr .psiteLevelMemory 1 40 (wr .psiteLevelLinks 1 40 (wr .psiteEDramCount 1 100000000 State.reset)))
     let t := wr .psiteAllotWatts 1 1 s
     rd .psiteAllotWatts 1 t * 1000000 < windowEnergy 1 t ∧ rd .psiteLevelCompute 1 t ≤ 40 ∧ rd .psiteLevelMemory 1 t ≤ 40 ∧
       rd .psiteLevelLinks 1 t ≤ 40) ∧
    (let s := wr .psiteAllotWatts 1 100 (wr .psiteEDramCount 1 100000000 State.reset)
     windowEnergy 1 s ≤ rd .psiteAllotWatts 1 s * 1000000 ∧ 97 * (rd .psiteAllotWatts 1 s * 1000000) < 100 * windowEnergy 1 s) := by decide

/-- MeterRules: two boosts of one cluster, the second ending first. -/
theorem test_wit_MeterRules :
    let s := setPower { State.reset.power with boosts := [⟨4, 1, 2000, 50, 0, false⟩, ⟨4, 1, 2000, 5, 0, false⟩] } State.reset
    (∃ b ∈ s.power.boosts, b.cluster = 4 ∧ b.dur ≠ 0) ∧ phaseEnd s ⟨4, 1, 2000, 5, 0, false⟩ < phaseEnd s ⟨4, 1, 2000, 50, 0, false⟩ := by decide

/-- HeatRules: a diode that has failed. -/
theorem test_wit_HeatRules_failed : diodeFailed 1 14 (wr .thsiteStatusDfail 1 (2 ^ 14) State.reset) = true := by decide

/-- RecoveryRules: deferred recoveries of the other kinds. -/
theorem test_wit_RecoveryRules_kinds :
    ∀ k ∈ [0, 2, 7], (setFaults { State.reset.faults with deferred := [mkRepair k 0 0 0 [5]] } State.reset).faults.deferred = [mkRepair k 0 0 0 [5]] ∧
      (k = 0 ∨ k = 2 ∨ 7 ≤ k) := by decide
end Sys2Proof.Tests
end

section
/-!
PROOFS. The scope of a step (chapter 00): whatever the command, a step answers a next state, takes the front command off the queue and
keeps the invariant. Laws/Keeps carries the invariant through each row of the table; here the rows are joined into `exec`, and `exec`
with the queue into `step`.
-/

namespace Sys2Proof.Machine

/-! The step, by the form of the queue. -/

theorem step_of_pending_cons {c : Instr} {rest : List Instr} {s : State} (h : s.pending = c :: rest) :
    step s = exec c { s with pending := rest } := by
  simp only [step, h]

theorem step_of_pending_nil {s : State} (h : s.pending = []) : step s = .next { s with now := s.now + 1 } := by
  simp only [step, h]

/-! The commands: one row of the table per arm, in the dispatcher's order. -/

/-- The meaning of every row is a `.next` by its definition: a command that is turned away has an effect of its own (R9, R10). -/
theorem exec_eq_next (c : Instr) (s : State) : ∃ t, exec c s = .next t := by
  cases c <;> exact ⟨_, rfl⟩

theorem keeps_exec {p : List Instr} {s : State} : ∀ c : Instr, Good p s → Keeps p (exec c s)
  | .nop g w, hs => keeps_execNop g w s hs
  | .halt g w, hs => keeps_execHalt g w s hs
  | .dmax g w, hs => keeps_execDmax g w s hs
  | .dwait g w, hs => keeps_execDwait g w s hs
  | .sig g w, hs => keeps_execSig g w s hs
  | .swait g w, hs => keeps_execSwait g w s hs
  | .bar g w, hs => keeps_execBar g w s hs
  | .loop g w, hs => keeps_execLoop g w s hs
  | .loopi g w, hs => keeps_execLoopi g w s hs
  | .br g w, hs => keeps_execBr g w s hs
  | .notice g w, hs => keeps_execNotice g w s hs
  | .rwait g w, hs => keeps_execRwait g w s hs
  | .mload g w, hs => keeps_execMload g w s hs
  | .mstream g w, hs => keeps_execMstream g w s hs
  | .macc g w, hs => keeps_execMacc g w s hs
  | .mdrain g w, hs => keeps_execMdrain g w s hs
  | .mclear g w, hs => keeps_execMclear g w s hs
  | .tileDeadlock g, hs => keeps_execTileDeadlock g s hs
  | .vcfg g w, hs => keeps_execVcfg g w s hs
  | .vadd g w, hs => keeps_execVadd g w s hs
  | .vsub g w, hs => keeps_execVsub g w s hs
  | .vmul g w, hs => keeps_execVmul g w s hs
  | .vfma g w, hs => keeps_execVfma g w s hs
  | .vmax g w, hs => keeps_execVmax g w s hs
  | .vmin g w, hs => keeps_execVmin g w s hs
  | .vcvt g w, hs => keeps_execVcvt g w s hs
  | .vaddb g w, hs => keeps_execVaddb g w s hs
  | .vmulb g w, hs => keeps_execVmulb g w s hs
  | .vtrow g w, hs => keeps_execVtrow g w s hs
  | .vexp g w, hs => keeps_execVexp g w s hs
  | .vlog g w, hs => keeps_execVlog g w s hs
  | .vrcp g w, hs => keeps_execVrcp g w s hs
  | .vrsq g w, hs => keeps_execVrsq g w s hs
  | .vtanh g w, hs => keeps_execVtanh g w s hs
  | .vsigm g w, hs => keeps_execVsigm g w s hs
  | .vrsum g w, hs => keeps_execVrsum g w s hs
  | .vrmax g w, hs => keeps_execVrmax g w s hs
  | .vrmin g w, hs => keeps_execVrmin g w s hs
  | .vrssq g w, hs => keeps_execVrssq g w s hs
  | .vsmax g w, hs => keeps_execVsmax g w s hs
  | .vsexp g w, hs => keeps_execVsexp g w s hs
  | .vrope g w, hs => keeps_execVrope g w s hs
  | .vkvq g w, hs => keeps_execVkvq g w s hs
  | .vapnd g w, hs => keeps_execVapnd g w s hs
  | .dmaComplete g ch, hs => keeps_execDmaComplete g ch s hs
  | .dmaHalt g ch code n, hs => keeps_execDmaHalt g ch code n s hs
  | .signalArrival src dst, hs => keeps_execSignalArrival src dst s hs
  | .barrierRelease g, hs => keeps_execBarrierRelease g s hs
  | .stepRelease g, hs => keeps_execStepRelease g s hs
  | .roundWaitRelease g, hs => keeps_execRoundWaitRelease g s hs
  | .trapReport g, hs => keeps_execTrapReport g s hs
  | .coreCtrlGo g, hs => keeps_execCoreCtrlGo g s hs
  | .coreCtrlStop g, hs => keeps_execCoreCtrlStop g s hs
  | .srSeedWrite g v, hs => keeps_execSrSeedWrite g v s hs
  | .srCtrWrite g v, hs => keeps_execSrCtrWrite g v s hs
  | .srWriteEffect g, hs => keeps_execSrWriteEffect g s hs
  | .nmeAbort e, hs => keeps_execNmeAbort e s hs
  | .flipArm v ctrl, hs => keeps_execFlipArm v ctrl s hs
  | .mboxSend m, hs => keeps_execMboxSend m s hs
  | .mboxAck m seq, hs => keeps_execMboxAck m seq s hs
  | .mboxWithdraw m, hs => keeps_execMboxWithdraw m s hs
  | .mailboxTimeout m, hs => keeps_execMailboxTimeout m s hs
  | .mailboxMessage m input outFault found extOk, hs => keeps_execMailboxMessage m input outFault found extOk s hs
  | .eringDoorbell n v, hs => keeps_execEringDoorbell n v s hs
  | .envelopeFetch n raw bad, hs => keeps_execEnvelopeFetch n raw bad s hs
  | .eringDisable n, hs => keeps_execEringDisable n s hs
  | .functionReset port func, hs => keeps_execFunctionReset port func s hs
  | .dringCons r v, hs => keeps_execDringCons r v s hs
  | .rringCons r v, hs => keeps_execRringCons r v s hs
  | .eringRcons n v, hs => keeps_execEringRcons n v s hs
  | .vminClr k, hs => keeps_execVminClr k s hs
  | .dlqPop, hs => keeps_execDlqPop s hs
  | .nmsiteLock site, hs => keeps_execNmsiteLock site s hs
  | .registerWrite port func off data, hs => keeps_execRegisterWrite port func off data s hs
  | .postedWriteEffect off, hs => keeps_execPostedWriteEffect off s hs
  | .tvScanWindow upset, hs => keeps_execTvScanWindow upset s hs
  | .tvRestore off, hs => keeps_execTvRestore off s hs
  | .elermuxNop e, hs => keeps_execElermuxNop e s hs
  | .devQuery e, hs => keeps_execDevQuery e s hs
  | .config e, hs => keeps_execConfig e s hs
  | .lock e, hs => keeps_execLock e s hs
  | .resetSite e, hs => keeps_execResetSite e s hs
  | .resetLayer e, hs => keeps_execResetLayer e s hs
  | .resetCore e, hs => keeps_execResetCore e s hs
  | .testVaultMarch e, hs => keeps_execTestVaultMarch e s hs
  | .testArray e, hs => keeps_execTestArray e s hs
  | .testLoopback e, hs => keeps_execTestLoopback e s hs
  | .rebind e, hs => keeps_execRebind e s hs
  | .rebindRun, hs => keeps_execRebindRun s hs
  | .parcelReserve e, hs => keeps_execParcelReserve e s hs
  | .parcelSeal e, hs => keeps_execParcelSeal e s hs
  | .parcelDiscard e, hs => keeps_execParcelDiscard e s hs
  | .grant e, hs => keeps_execGrant e s hs
  | .fill e, hs => keeps_execFill e s hs
  | .fence e, hs => keeps_execFence e s hs
  | .copy e, hs => keeps_execCopy e s hs
  | .atomic e, hs => keeps_execAtomic e s hs
  | .swappoolAdd e, hs => keeps_execSwappoolAdd e s hs
  | .swappoolRemove e, hs => keeps_execSwappoolRemove e s hs
  | .nmSubmit e, hs => keeps_execNmSubmit e s hs
  | .submit e, hs => keeps_execSubmit e s hs
  | .cancel e, hs => keeps_execCancel e s hs
  | .preempt e, hs => keeps_execPreempt e s hs
  | .resume e, hs => keeps_execResume e s hs
  | .freeze e, hs => keeps_execFreeze e s hs
  | .prefixHandleCreate slot, hs => keeps_execPrefixHandleCreate slot s hs
  | .release e, hs => keeps_execRelease e s hs
  | .query e, hs => keeps_execQuery e s hs
  | .discard e, hs => keeps_execDiscard e s hs
  | .bookSet e, hs => keeps_execBookSet e s hs
  | .bookBind e, hs => keeps_execBookBind e s hs
  | .bookUnbind e, hs => keeps_execBookUnbind e s hs
  | .sampleCfg e, hs => keeps_execSampleCfg e s hs
  | .grammarLoad e, hs => keeps_execGrammarLoad e s hs
  | .grammarUnload e, hs => keeps_execGrammarUnload e s hs
  | .ringEnable e, hs => keeps_execRingEnable e s hs
  | .ringDisable e, hs => keeps_execRingDisable e s hs
  | .receiptsEnable e, hs => keeps_execReceiptsEnable e s hs
  | .receiptsDisable e, hs => keeps_execReceiptsDisable e s hs
  | .powerCap e, hs => keeps_execPowerCap e s hs
  | .powerLimit e, hs => keeps_execPowerLimit e s hs
  | .thermal e, hs => keeps_execThermal e s hs
  | .fabric e, hs => keeps_execFabric e s hs
  | .roundCfg e, hs => keeps_execRoundCfg e s hs
  | .jobForm e, hs => keeps_execJobForm e s hs
  | .jobDissolve e, hs => keeps_execJobDissolve e s hs
  | .circ e, hs => keeps_execCirc e s hs
  | .twinPair e, hs => keeps_execTwinPair e s hs
  | .twinUnpair e, hs => keeps_execTwinUnpair e s hs
  | .handover e, hs => keeps_execHandover e s hs
  | .dying e, hs => keeps_execDying e s hs
  | .leaseKeyEnrol e, hs => keeps_execLeaseKeyEnrol e s hs
  | .leaseKeyClear e, hs => keeps_execLeaseKeyClear e s hs
  | .leaseGrant e, hs => keeps_execLeaseGrant e s hs
  | .logRead e, hs => keeps_execLogRead e s hs
  | .fwStage e, hs => keeps_execFwStage e s hs
  | .fwActivate e, hs => keeps_execFwActivate e s hs
  | .getVersion req, hs => keeps_execGetVersion req s hs
  | .getCapabilities req, hs => keeps_execGetCapabilities req s hs
  | .negotiateAlgorithms req, hs => keeps_execNegotiateAlgorithms req s hs
  | .getDigests req, hs => keeps_execGetDigests req s hs
  | .getCertificate slot req, hs => keeps_execGetCertificate slot req s hs
  | .challenge slot req, hs => keeps_execChallenge slot req s hs
  | .getMeasurements index, hs => keeps_execGetMeasurements index s hs
  | .keyExchange req, hs => keeps_execKeyExchange req s hs
  | .finish session req, hs => keeps_execFinish session req s hs
  | .heartbeat session, hs => keeps_execHeartbeat session s hs
  | .endSession session, hs => keeps_execEndSession session s hs
  | .roundBoundary, hs => keeps_execRoundBoundary s hs
  | .markerReceived port m fwd, hs => keeps_execMarkerReceived port m fwd s hs
  | .flywheelOpen, hs => keeps_execFlywheelOpen s hs
  | .standbyTakeover, hs => keeps_execStandbyTakeover s hs
  | .beatLoss, hs => keeps_execBeatLoss s hs
  | .bookRefill b, hs => keeps_execBookRefill b s hs
  | .bookParamEffect b, hs => keeps_execBookParamEffect b s hs
  | .colourFlip, hs => keeps_execColourFlip s hs
  | .stepStartPoint d, hs => keeps_execStepStartPoint d s hs
  | .stagingDeferPreempt slot, hs => keeps_execStagingDeferPreempt slot s hs
  | .stepComplete d, hs => keeps_execStepComplete d s hs
  | .samplingTrigger d shard, hs => keeps_execSamplingTrigger d shard s hs
  | .tokenDraw slot, hs => keeps_execTokenDraw slot s hs
  | .streamEnd slot, hs => keeps_execStreamEnd slot s hs
  | .receiptPost r, hs => keeps_execReceiptPost r s hs
  | .statementIssue, hs => keeps_execStatementIssue s hs
  | .kvAppend site, hs => keeps_execKvAppend site s hs
  | .chainPageOpen slot chain page, hs => keeps_execChainPageOpen slot chain page s hs
  | .lookaheadPass d, hs => keeps_execLookaheadPass d s hs
  | .spillStart site, hs => keeps_execSpillStart site s hs
  | .spillWriteDone slot chain page ok, hs => keeps_execSpillWriteDone slot chain page ok s hs
  | .pageReturn slot chain page poison, hs => keeps_execPageReturn slot chain page poison s hs
  | .expanderLost port exp, hs => keeps_execExpanderLost port exp s hs
  | .preemptionWriteout slot ok, hs => keeps_execPreemptionWriteout slot ok s hs
  | .preemptionTag slot, hs => keeps_execPreemptionTag slot s hs
  | .preemptionRetry slot, hs => keeps_execPreemptionRetry slot s hs
  | .templateNmTrigger d stage op, hs => keeps_execTemplateNmTrigger d stage op s hs
  | .nmOpStart e busy, hs => keeps_execNmOpStart e busy s hs
  | .nmOpComplete e, hs => keeps_execNmOpComplete e s hs
  | .nmHoldExpiry e, hs => keeps_execNmHoldExpiry e s hs
  | .vaultWordRead v off src, hs => keeps_execVaultWordRead v off src s hs
  | .strongRepair v blk, hs => keeps_execStrongRepair v blk s hs
  | .vaultFullWrite v off data src, hs => keeps_execVaultFullWrite v off data src s hs
  | .vaultNarrowWrite v off bytes src, hs => keeps_execVaultNarrowWrite v off bytes src s hs
  | .hostWindowRead port func vlocal addr, hs => keeps_execHostWindowRead port func vlocal addr s hs
  | .hostWindowWrite port func vlocal addr bytes, hs => keeps_execHostWindowWrite port func vlocal addr bytes s hs
  | .patrolScrub v, hs => keeps_execPatrolScrub v s hs
  | .demandScrub v, hs => keeps_execDemandScrub v s hs
  | .dramRefresh v layer bank, hs => keeps_execDramRefresh v layer bank s hs
  | .channelFlitReplay v, hs => keeps_execChannelFlitReplay v s hs
  | .iwFlitReplay site edge, hs => keeps_execIwFlitReplay site edge s hs
  | .laneFailure site edge lane, hs => keeps_execLaneFailure site edge lane s hs
  | .laneSubstitutionDone site edge, hs => keeps_execLaneSubstitutionDone site edge s hs
  | .routeDrainExpiry, hs => keeps_execRouteDrainExpiry s hs
  | .routeLoadDone, hs => keeps_execRouteLoadDone s hs
  | .ackTimeout g ch n, hs => keeps_execAckTimeout g ch n s hs
  | .fabricLinkUp port fid serial delay x4 peerReady, hs => keeps_execFabricLinkUp port fid serial delay x4 peerReady s hs
  | .fabricLaneFail port failed, hs => keeps_execFabricLaneFail port failed s hs
  | .fabricFlitReplay port, hs => keeps_execFabricFlitReplay port s hs
  | .transportPacket port dst src body, hs => keeps_execTransportPacket port dst src body s hs
  | .transportAckTimeout x, hs => keeps_execTransportAckTimeout x s hs
  | .ethernetFrame port len over_, hs => keeps_execEthernetFrame port len over_ s hs
  | .slowRequest j fid cause mhz, hs => keeps_execSlowRequest j fid cause mhz s hs
  | .stepdone j fid, hs => keeps_execStepdone j fid s hs
  | .stepHeartbeat j fid, hs => keeps_execStepHeartbeat j fid s hs
  | .splitDeclare j, hs => keeps_execSplitDeclare j s hs
  | .leaseRenewal j, hs => keeps_execLeaseRenewal j s hs
  | .leaseRelay g, hs => keeps_execLeaseRelay g s hs
  | .leaseExpiry j, hs => keeps_execLeaseExpiry j s hs
  | .splitHoldTimeout j, hs => keeps_execSplitHoldTimeout j s hs
  | .submitCopy d id spec ctl, hs => keeps_execSubmitCopy d id spec ctl s hs
  | .drawCopy id m, hs => keeps_execDrawCopy id m s hs
  | .drawCopyAck slot, hs => keeps_execDrawCopyAck slot s hs
  | .drawWaitTimeout slot, hs => keeps_execDrawWaitTimeout slot s hs
  | .stepCopy id m, hs => keeps_execStepCopy id m s hs
  | .sealCopy id round, hs => keeps_execSealCopy id round s hs
  | .freezeCopy id h t, hs => keeps_execFreezeCopy id h t s hs
  | .endCopy id, hs => keeps_execEndCopy id s hs
  | .twinResync slot, hs => keeps_execTwinResync slot s hs
  | .deviceLeaseExpiry, hs => keeps_execDeviceLeaseExpiry s hs
  | .failoverActivate lapsed, hs => keeps_execFailoverActivate lapsed s hs
  | .circBlockSend j own con, hs => keeps_execCircBlockSend j own con s hs
  | .circBlockReceived j b sig, hs => keeps_execCircBlockReceived j b sig s hs
  | .circQueryReceived j stream pos q own, hs => keeps_execCircQueryReceived j stream pos q own s hs
  | .partialStateReceived j p own, hs => keeps_execPartialStateReceived j p own s hs
  | .inputFault high, hs => keeps_execInputFault high s hs
  | .capDivision, hs => keeps_execCapDivision s hs
  | .allotmentRequest ws, hs => keeps_execAllotmentRequest ws s hs
  | .controlWindowEnd, hs => keeps_execControlWindowEnd s hs
  | .gatedSlice k on, hs => keeps_execGatedSlice k on s hs
  | .voltageDroop k mv, hs => keeps_execVoltageDroop k mv s hs
  | .regulatorNotice k, hs => keeps_execRegulatorNotice k s hs
  | .meterSample m mv ma, hs => keeps_execMeterSample m mv ma s hs
  | .diodeConversion k n x, hs => keeps_execDiodeConversion k n x s hs
  | .thermalModelUpdate cl words activity, hs => keeps_execThermalModelUpdate cl words activity s hs
  | .dieTrip k n, hs => keeps_execDieTrip k n s hs
  | .coolantRead x, hs => keeps_execCoolantRead x s hs
  | .coolantReadRetry x, hs => keeps_execCoolantReadRetry x s hs
  | .sensorLost, hs => keeps_execSensorLost s hs
  | .stopSequence, hs => keeps_execStopSequence s hs
  | .pwrEnFall, hs => keeps_execPwrEnFall s hs
  | .powerOn edge clerkOk patchOk found exps ms, hs => keeps_execPowerOn edge clerkOk patchOk found exps ms s hs
  | .coolantWaitTimeout, hs => keeps_execCoolantWaitTimeout s hs
  | .modReset clerkOk patchOk found exps ms, hs => keeps_execModReset clerkOk patchOk found exps ms s hs
  | .perst port, hs => keeps_execPerst port s hs
  | .bdWatchdog site restarts, hs => keeps_execBdWatchdog site restarts s hs
  | .bdRestartTimeout site restarts, hs => keeps_execBdRestartTimeout site restarts s hs
  | .siteLoss k, hs => keeps_execSiteLoss k s hs
  | .viaRemap g found, hs => keeps_execViaRemap g found s hs
  | .deferredRecovery found restarts, hs => keeps_execDeferredRecovery found restarts s hs
  | .refclkLoss both, hs => keeps_execRefclkLoss both s hs
  | .clerkWatchdog, hs => keeps_execClerkWatchdog s hs
  | .clerkStartTimeout, hs => keeps_execClerkStartTimeout s hs
  | .rollbackRaise image, hs => keeps_execRollbackRaise image s hs
  | .siteRouterFailure site, hs => keeps_execSiteRouterFailure site s hs
  | .clerkUp, hs => keeps_execClerkUp s hs
  | .heavyPhaseEnd k, hs => keeps_execHeavyPhaseEnd k s hs
  | .chainOpenFailure site, hs => keeps_execChainOpenFailure site s hs

/-! The invariant. -/

/-- The invariant does not speak of the queue. -/
theorem good_of_inv {s : State} (p : List Instr) (h : Inv s) : Good p { s with pending := p } := ⟨h, rfl⟩

theorem inv_reset : Inv State.reset :=
  ⟨⟨rfl, fun _ h => nomatch h⟩, rfl, rfl, rfl, rfl, rfl, rfl, rfl⟩

/-- What a step can do to a state that meets the invariant: the state after it meets it too, and its queue is the rest of the queue. -/
theorem keeps_step {s : State} (h : Inv s) : Keeps s.pending.tail (step s) := by
  cases hp : s.pending with
  | nil =>
    rw [step_of_pending_nil hp]
    exact keeps_next (good_upd_now.2 ⟨h, hp⟩)
  | cons c rest =>
    rw [step_of_pending_cons hp]
    exact keeps_exec c (good_of_inv rest h)

theorem step_eq_next (s : State) : ∃ t, step s = .next t := by
  cases hp : s.pending with
  | nil => exact ⟨_, step_of_pending_nil hp⟩
  | cons c rest =>
    rw [step_of_pending_cons hp]
    exact exec_eq_next c _

/-! The obligations. -/

/-- Settles O4: each row of the table keeps the invariant (`keeps_exec`), and neither the queue nor the clock is part of it. -/
theorem stepKeepsInv : Obligations.StepKeepsInv :=
  fun _ t h ht => (keeps_step h t ht).1

/-- Settles O3: each row keeps the queue that `step` hands it (`keeps_exec`), and each answers a next state (`exec_eq_next`). -/
theorem stepAnswers : Obligations.StepAnswers :=
  ⟨fun _ t h ht => (keeps_step h t ht).2, step_eq_next⟩

/-- Settles O1, by the step's definition on a queue with a front. -/
theorem stepRunsFront : Obligations.StepRunsFront :=
  fun _ _ _ => step_of_pending_cons

/-- Settles O2, by the step's definition on an empty queue. -/
theorem stepIdle : Obligations.StepIdle :=
  fun _ => step_of_pending_nil

/-- Settles O5: right after reset every table and memory is empty. -/
theorem resetInv : Obligations.ResetInv :=
  inv_reset

end Sys2Proof.Machine
end

section
/-!
PROOFS. The frame of the district table, first half: reading and writing vaults, pages, scratchpads and mailboxes, sending packets and
taking part in a step leave every district as it was. One equation an operation, in the order of the model's files. Those of the plain
updates are proved `by rfl` and not by the term `rfl`, which `simp` would take for a definitional step and not use under a fold.
-/

namespace Sys2Proof.Machine

variable {q : Nat}

/-! Branches and folds. -/

@[simp] theorem getDistrict_ite {c : Prop} [Decidable c] {s t : State} :
    getDistrict q (if c then s else t) = if c then getDistrict q s else getDistrict q t :=
  apply_ite _ c s t

@[simp] theorem getDistrict_ite_snd {α : Type} {c : Prop} [Decidable c] {a b : α × State} :
    getDistrict q (if c then a else b).2 = if c then getDistrict q a.2 else getDistrict q b.2 := by
  split <;> rfl

@[simp] theorem getDistrict_foldl {β : Type} {f : State → β → State} (h : ∀ u x, getDistrict q (f u x) = getDistrict q u) (l : List β)
    (s : State) : getDistrict q (l.foldl f s) = getDistrict q s := by
  induction l generalizing s with
  | nil => rfl
  | cons x l ih => exact (ih _).trans (h s x)

/-! Updates of other parts of the state. -/

@[simp] theorem getDistrict_upd_pages {s : State} {x : Table PageRec} : getDistrict q { s with pages := x } = getDistrict q s := by rfl
@[simp] theorem getDistrict_upd_cores {s : State} {x : CoreSide} : getDistrict q { s with cores := x } = getDistrict q s := by rfl
@[simp] theorem getDistrict_upd_vaults {s : State} {x : VaultSide} : getDistrict q { s with vaults := x } = getDistrict q s := by rfl
@[simp] theorem getDistrict_upd_fab {s : State} {x : FabSide} : getDistrict q { s with fab := x } = getDistrict q s := by rfl

/-! Registers, the logbook, cores and scratchpads (Machine/Ops). -/

@[simp] theorem getDistrict_wr (f : Reg) (i v : Nat) (s : State) : getDistrict q (wr f i v s) = getDistrict q s := by rfl
@[simp] theorem getDistrict_addSat (f : Reg) (i n : Nat) (s : State) : getDistrict q (addSat f i n s) = getDistrict q s := by rfl
@[simp] theorem getDistrict_bump (f : Reg) (i : Nat) (s : State) : getDistrict q (bump f i s) = getDistrict q s := by rfl
@[simp] theorem getDistrict_flag (f : Reg) (i : Nat) (s : State) : getDistrict q (flag f i s) = getDistrict q s := by rfl
@[simp] theorem getDistrict_emit (e : Emission) (s : State) : getDistrict q (emit e s) = getDistrict q s := by rfl
@[simp] theorem getDistrict_addDue (x : Due) (s : State) : getDistrict q (addDue x s) = getDistrict q s := by rfl
@[simp] theorem getDistrict_addLog (r : LogRec) (s : State) : getDistrict q (addLog r s) = getDistrict q s := by rfl
@[simp] theorem getDistrict_updCore (g : Nat) (f : Core → Core) (s : State) : getDistrict q (updCore g f s) = getDistrict q s := by rfl
@[simp] theorem getDistrict_setTag (g line t : Nat) (s : State) : getDistrict q (setTag g line t s) = getDistrict q s := by rfl
@[simp] theorem getDistrict_setPoison (g line : Nat) (b : Bool) (s : State) :
    getDistrict q (setPoison g line b s) = getDistrict q s := by rfl

@[simp] theorem getDistrict_setPage (v page : Nat) (r : PageRec) (s : State) : getDistrict q (setPage v page r s) = getDistrict q s := by
  simp only [setPage, getDistrict_wr, getDistrict_upd_pages, getDistrict_ite, ite_self]

@[simp] theorem getDistrict_events (code : Nat) (ds : List Nat) (site : Nat) (s : State) :
    getDistrict q (events code ds site s) = getDistrict q s := by
  simp only [events, getDistrict_addDue, getDistrict_foldl, implies_true]

@[simp] theorem getDistrict_logEvent (r : LogRec) (ds : List Nat) (s : State) : getDistrict q (logEvent r ds s) = getDistrict q s := by
  simp only [logEvent, getDistrict_events, getDistrict_addLog, getDistrict_ite, ite_self]

@[simp] theorem getDistrict_spWrite (g off tag : Nat) (bs : List Byte) (s : State) :
    getDistrict q (spWrite g off tag bs s) = getDistrict q s := by
  simp only [spWrite, getDistrict_setPoison, getDistrict_setTag, getDistrict_upd_cores, getDistrict_foldl, getDistrict_ite, ite_self,
    implies_true]

/-! Vaults (Machine/Vault). -/

@[simp] theorem getDistrict_setMark (v off : Nat) (m : Mark) (s : State) : getDistrict q (setMark v off m s) = getDistrict q s := by rfl
@[simp] theorem getDistrict_setBad (v off j x : Nat) (s : State) : getDistrict q (setBad v off j x s) = getDistrict q s := by rfl
@[simp] theorem getDistrict_setParBad (v off p j x : Nat) (s : State) :
    getDistrict q (setParBad v off p j x s) = getDistrict q s := by rfl
@[simp] theorem getDistrict_clearBad (v off : Nat) (s : State) : getDistrict q (clearBad v off s) = getDistrict q s := by rfl
@[simp] theorem getDistrict_clearParBad (v off p : Nat) (s : State) : getDistrict q (clearParBad v off p s) = getDistrict q s := by rfl
@[simp] theorem getDistrict_setCntBad (v off x : Nat) (s : State) : getDistrict q (setCntBad v off x s) = getDistrict q s := by rfl
@[simp] theorem getDistrict_setEst (v off : Nat) (b : Bool) (s : State) : getDistrict q (setEst v off b s) = getDistrict q s := by rfl
@[simp] theorem getDistrict_setParMark (v off p : Nat) (m : Mark) (s : State) :
    getDistrict q (setParMark v off p m s) = getDistrict q s := by rfl
@[simp] theorem getDistrict_dramWrite (v off : Nat) (bs : List Byte) (s : State) :
    getDistrict q (dramWrite v off bs s) = getDistrict q s := by rfl
@[simp] theorem getDistrict_openRow (v off : Nat) (s : State) : getDistrict q (openRow v off s) = getDistrict q s := by rfl
@[simp] theorem getDistrict_openBlock (v off : Nat) (s : State) : getDistrict q (openBlock v off s) = getDistrict q s := by rfl
@[simp] theorem getDistrict_errAddr (v off kind src : Nat) (s : State) :
    getDistrict q (errAddr v off kind src s) = getDistrict q s := by rfl

@[simp] theorem getDistrict_freshParity (v off : Nat) (s : State) : getDistrict q (freshParity v off s) = getDistrict q s := by
  simp only [freshParity, getDistrict_clearParBad, getDistrict_setParMark, getDistrict_foldl, implies_true]

@[simp] theorem getDistrict_grantSlots (scrub : Bool) (v n : Nat) (s : State) :
    getDistrict q (grantSlots scrub v n s) = getDistrict q s := by
  simp only [grantSlots, getDistrict_upd_vaults, getDistrict_ite, ite_self]

@[simp] theorem getDistrict_dataUe (v off kind src : Nat) (s : State) : getDistrict q (dataUe v off kind src s) = getDistrict q s := by
  simp only [dataUe, getDistrict_logEvent, getDistrict_bump, getDistrict_errAddr]

@[simp] theorem getDistrict_queueScrub (v off : Nat) (s : State) : getDistrict q (queueScrub v off s) = getDistrict q s := by
  simp only [queueScrub, getDistrict_flag, getDistrict_upd_vaults, getDistrict_ite, ite_self]

@[simp] theorem getDistrict_adoptWord (v off : Nat) (s : State) : getDistrict q (adoptWord v off s) = getDistrict q s := by
  simp only [adoptWord, getDistrict_clearBad, getDistrict_dramWrite, getDistrict_ite, ite_self]

@[simp] theorem getDistrict_clearWordBad (v base j : Nat) (s : State) : getDistrict q (clearWordBad v base j s) = getDistrict q s := by
  simp only [clearWordBad, getDistrict_clearBad, getDistrict_clearParBad, getDistrict_ite, ite_self]

@[simp] theorem getDistrict_keepWord (v base c j : Nat) (s : State) : getDistrict q (keepWord v base c j s) = getDistrict q s := by
  simp only [keepWord, getDistrict_clearBad, getDistrict_setMark, getDistrict_adoptWord, getDistrict_ite, ite_self]

@[simp] theorem getDistrict_strongRepair (v off j src : Nat) (s : State) :
    getDistrict q (strongRepair v off j src s) = getDistrict q s := by
  simp only [strongRepair, getDistrict_bump, getDistrict_clearBad, getDistrict_clearWordBad, getDistrict_keepWord,
    getDistrict_freshParity, getDistrict_addDue, getDistrict_addSat, getDistrict_setMark, getDistrict_queueScrub, getDistrict_openBlock,
    getDistrict_dataUe, getDistrict_foldl, getDistrict_ite, ite_self, implies_true]

@[simp] theorem getDistrict_reportMark (v off src : Nat) (m : Mark) (s : State) :
    getDistrict q (reportMark v off src m s).2 = getDistrict q s := by
  cases m <;> rfl

@[simp] theorem getDistrict_uncorrectable (v off src : Nat) (s : State) :
    getDistrict q (uncorrectable v off src s).2 = getDistrict q s := by
  simp only [uncorrectable, getDistrict_clearBad, getDistrict_strongRepair, getDistrict_setMark, getDistrict_dataUe,
    getDistrict_ite_snd, ite_self]

@[simp] theorem getDistrict_counterByte (v off src : Nat) (s : State) : getDistrict q (counterByte v off src s).2 = getDistrict q s := by
  unfold counterByte
  dsimp only
  split <;> simp only [getDistrict_bump, getDistrict_openRow, getDistrict_dataUe]

@[simp] theorem getDistrict_counterBytes (v off src n : Nat) (s : State) :
    getDistrict q (counterBytes v off src n s).2 = getDistrict q s := by
  induction n generalizing off s with
  | zero => rfl
  | succ n ih => simp only [counterBytes, getDistrict_counterByte, ih]

@[simp] theorem getDistrict_rewriteCounter (v w : Nat) (s : State) : getDistrict q (rewriteCounter v w s) = getDistrict q s := by
  simp only [rewriteCounter, getDistrict_setCntBad, getDistrict_dramWrite, getDistrict_foldl, getDistrict_ite, ite_self, implies_true]

theorem getDistrict_corrected {k : ReadKind} {v off : Nat} {f : State → State} (h : ∀ u, getDistrict q (f u) = getDistrict q u)
    (s : State) :
    getDistrict q (corrected k v off f s) = getDistrict q s := by
  simp only [corrected, getDistrict_bump, getDistrict_queueScrub, h, getDistrict_ite, ite_self]

@[simp] theorem getDistrict_metMark (k : ReadKind) (v off src : Nat) (m : Mark) (s : State) :
    getDistrict q (metMark k v off src m s).2 = getDistrict q s := by
  simp only [metMark, getDistrict_reportMark, getDistrict_ite_snd, ite_self]

@[simp] theorem getDistrict_vreadAs (k : ReadKind) (v off src : Nat) (s : State) :
    getDistrict q (vreadAs k v off src s).2 = getDistrict q s := by
  unfold vreadAs
  dsimp only
  split
  · simp only [getDistrict_counterBytes, getDistrict_rewriteCounter, getDistrict_openRow, getDistrict_grantSlots, getDistrict_ite, ite_self]
  · repeat' split
    all_goals simp only [getDistrict_bump, getDistrict_clearBad, getDistrict_metMark, getDistrict_setBad, getDistrict_corrected,
      getDistrict_setMark, getDistrict_uncorrectable, getDistrict_openRow, getDistrict_grantSlots, implies_true]

@[simp] theorem getDistrict_flipFire (v off : Nat) (s : State) : getDistrict q (flipFire v off s) = getDistrict q s := by
  simp only [flipFire, getDistrict_setCntBad, getDistrict_flag, getDistrict_setBad, getDistrict_setParBad, getDistrict_wr,
    getDistrict_foldl, getDistrict_ite, ite_self, implies_true]

@[simp] theorem getDistrict_writeWord (v off : Nat) (bs : List Byte) (s : State) :
    getDistrict q (writeWord v off bs s) = getDistrict q s := by
  simp only [writeWord, getDistrict_setCntBad, getDistrict_clearBad, getDistrict_setMark, getDistrict_dramWrite, getDistrict_openRow,
    getDistrict_grantSlots, getDistrict_foldl, getDistrict_ite, ite_self, implies_true]

@[simp] theorem getDistrict_writePart (v off src : Nat) (bs : List Byte) (s : State) :
    getDistrict q (writePart v off src bs s).2 = getDistrict q s := by
  unfold writePart
  dsimp only
  split
  · simp only [getDistrict_setCntBad, getDistrict_dramWrite, getDistrict_openRow, getDistrict_grantSlots, getDistrict_foldl, implies_true]
  · split <;> simp only [getDistrict_logEvent, getDistrict_bump, getDistrict_writeWord, getDistrict_errAddr, getDistrict_vreadAs,
      getDistrict_ite, ite_self]

@[simp] theorem getDistrict_finishWrite (src : Nat) (ps : List Piece) (s : State) :
    getDistrict q (finishWrite src ps s) = getDistrict q s := by
  simp only [finishWrite, establish, getDistrict_flipFire, getDistrict_freshParity, getDistrict_setEst, getDistrict_foldl,
    getDistrict_ite, ite_self, implies_true]

@[simp] theorem getDistrict_writeWords (v src k off : Nat) (bs : List Byte) (s : State) :
    getDistrict q (writeWords v src k off bs s).2 = getDistrict q s := by
  induction k generalizing off bs s with
  | zero => rfl
  | succ k ih => simp only [writeWords, getDistrict_writeWord, getDistrict_writePart, ih, getDistrict_ite_snd, ite_self]

@[simp] theorem getDistrict_vwrite (v off src : Nat) (bs : List Byte) (s : State) :
    getDistrict q (vwrite v off src bs s).2 = getDistrict q s := by
  simp only [vwrite, vwriteRaw, getDistrict_finishWrite, getDistrict_writeWords, getDistrict_ite_snd, ite_self]

@[simp] theorem getDistrict_readWords (v src k off n : Nat) (s : State) :
    getDistrict q (readWords v src k off n s).2 = getDistrict q s := by
  induction k generalizing off n s with
  | zero => rfl
  | succ k ih =>
    unfold readWords
    split
    · rfl
    · dsimp only
      split <;> simp only [vread, getDistrict_vreadAs, ih]

@[simp] theorem getDistrict_vreadBytes (v off n src : Nat) (s : State) : getDistrict q (vreadBytes v off n src s).2 = getDistrict q s :=
  getDistrict_readWords ..

@[simp] theorem getDistrict_walkReads (d va src : Nat) (s : State) : getDistrict q (walkReads d va src s) = getDistrict q s := by
  unfold walkReads
  dsimp only
  repeat' split
  all_goals simp only [getDistrict_counterBytes, getDistrict_grantSlots]

/-! The networks (Machine/Network). -/

@[simp] theorem getDistrict_launch (a p : Nat) (e : Emission) (s : State) : getDistrict q (launch a p e s) = getDistrict q s := by
  simp only [launch, getDistrict_flag, getDistrict_emit, getDistrict_upd_fab, getDistrict_ite, ite_self]

@[simp] theorem getDistrict_offer (a : Nat) (ps : List Nat) (dst : Nat) (k : FabKind) (body : List Byte) (s : State) :
    getDistrict q (offer a ps dst k body s) = getDistrict q s := by
  simp only [offer, sendPiece, getDistrict_flag, getDistrict_launch, getDistrict_upd_fab, getDistrict_foldl, getDistrict_ite, ite_self,
    implies_true]

@[simp] theorem getDistrict_sendTwin (a : Nat) (k : FabKind) (body : List Byte) (s : State) :
    getDistrict q (sendTwin a k body s) = getDistrict q s :=
  getDistrict_offer ..

/-! Starting a core (Machine/Control). -/

@[simp] theorem getDistrict_goCore (g : Nat) (s : State) : getDistrict q (goCore g s) = getDistrict q s := by
  simp only [goCore, startCore, getDistrict_updCore, getDistrict_wr, getDistrict_foldl, getDistrict_ite, ite_self, implies_true]

/-! Mailboxes and replies (Machine/Envelope). -/

@[simp] theorem getDistrict_setEng (x : EngSide) (s : State) : getDistrict q (setEng x s) = getDistrict q s := by rfl

@[simp] theorem getDistrict_mboxCopy (m : Nat) (bs : List Byte) (s : State) : getDistrict q (mboxCopy m bs s) = getDistrict q s := by
  simp only [mboxCopy, getDistrict_flag, getDistrict_vwrite, getDistrict_ite, ite_self]

@[simp] theorem getDistrict_mboxFill (m : Nat) (bs : List Byte) (s : State) : getDistrict q (mboxFill m bs s) = getDistrict q s := by
  simp only [mboxFill, mboxIrq, getDistrict_flag, getDistrict_setEng, getDistrict_mboxCopy, getDistrict_wr, getDistrict_emit,
    getDistrict_ite, ite_self]

@[simp] theorem getDistrict_fwSend (m : Nat) (event : Bool) (bs : List Byte) (s : State) :
    getDistrict q (fwSend m event bs s) = getDistrict q s := by
  simp only [fwSend, getDistrict_flag, getDistrict_bump, getDistrict_setEng, getDistrict_mboxFill, getDistrict_ite, ite_self]

@[simp] theorem getDistrict_ringIdle (n : Nat) (s : State) : getDistrict q (ringIdle n s) = getDistrict q s := by rfl

@[simp] theorem getDistrict_reply (opcode : Nat) (e : Env) (a : Ans) (s : State) :
    getDistrict q (reply opcode e a s) = getDistrict q s := by
  unfold reply
  dsimp only
  split
  · split <;> simp only [getDistrict_bump, getDistrict_setEng, getDistrict_ringIdle, getDistrict_emit, getDistrict_wr, getDistrict_ite,
      ite_self]
  all_goals simp only [getDistrict_emit, getDistrict_fwSend, getDistrict_ite, ite_self]

/-! Pages and page tables (Machine/Pages). -/

@[simp] theorem getDistrict_zeroPage (v page : Nat) (s : State) : getDistrict q (zeroPage v page s) = getDistrict q s := by
  simp only [zeroPage, fillRange, fillPieces, getDistrict_writeWord, getDistrict_finishWrite, getDistrict_foldl, implies_true]

@[simp] theorem getDistrict_takePage (d v page : Nat) (o : PageOwner) (s : State) :
    getDistrict q (takePage d v page o s) = getDistrict q s := by
  simp only [takePage, getDistrict_zeroPage, getDistrict_wr, getDistrict_setPage, getDistrict_ite, ite_self]

@[simp] theorem getDistrict_freePage (d v page : Nat) (s : State) : getDistrict q (freePage d v page s) = getDistrict q s := by
  simp only [freePage, getDistrict_wr, getDistrict_setPage]

@[simp] theorem getDistrict_writeEntry (d n w : Nat) (s : State) : getDistrict q (writeEntry d n w s) = getDistrict q s := by
  unfold writeEntry
  split <;> simp only [writeCounter, getDistrict_vwrite]

@[simp] theorem getDistrict_dvaRead (d va n src : Nat) (s : State) : getDistrict q (dvaRead d va n src s).2 = getDistrict q s := by
  unfold dvaRead
  split <;> simp only [getDistrict_vreadBytes, getDistrict_walkReads]

@[simp] theorem getDistrict_dvaBytes (d src k va n : Nat) (s : State) : getDistrict q (dvaBytes d src k va n s).2 = getDistrict q s := by
  induction k generalizing va n s with
  | zero => rfl
  | succ k ih =>
    unfold dvaBytes
    split
    · rfl
    · dsimp only
      split <;> simp only [getDistrict_dvaRead, ih]

@[simp] theorem getDistrict_dvaReadN (d va n src : Nat) (s : State) : getDistrict q (dvaReadN d va n src s).2 = getDistrict q s :=
  getDistrict_dvaBytes ..

end Sys2Proof.Machine
end

section
/-!
PROOFS. The frame of the district table, second half: chains, control blocks, jobs, letters and commits leave every district as it was.
-/

namespace Sys2Proof.Machine

variable {q : Nat}

/-! Streams and chains (Machine/Kv). -/

@[simp] theorem getDistrict_setStream (slot : Nat) (x : Stream) (s : State) :
    getDistrict q (setStream slot x s) = getDistrict q s := by rfl
@[simp] theorem getDistrict_updStream (slot : Nat) (f : Stream → Stream) (s : State) :
    getDistrict q (updStream slot f s) = getDistrict q s := by rfl
@[simp] theorem getDistrict_setChain (slot c : Nat) (x : Chain) (s : State) :
    getDistrict q (setChain slot c x s) = getDistrict q s := by rfl
@[simp] theorem getDistrict_updChain (slot c : Nat) (f : Chain → Chain) (s : State) :
    getDistrict q (updChain slot c f s) = getDistrict q s := by rfl
@[simp] theorem getDistrict_updPage (slot c j : Nat) (f : ChainPage → ChainPage) (s : State) :
    getDistrict q (updPage slot c j f s) = getDistrict q s := by rfl

@[simp] theorem getDistrict_failPage (site slot : Nat) (page : Nat × Nat) (code : Nat) (s : State) :
    getDistrict q (failPage site slot page code s) = getDistrict q s := by
  simp only [failPage, getDistrict_bump, getDistrict_setStream, getDistrict_ite, ite_self]

@[simp] theorem getDistrict_kvRead (v off n : Nat) (s : State) : getDistrict q (kvRead v off n s).2 = getDistrict q s :=
  getDistrict_vreadBytes ..

@[simp] theorem getDistrict_kvReadOr (slot v off n : Nat) (s : State) : getDistrict q (kvReadOr slot v off n s).2 = getDistrict q s := by
  unfold kvReadOr
  dsimp only
  split <;> simp only [getDistrict_failPage, getDistrict_kvRead]

@[simp] theorem getDistrict_kvWrite (slot v off : Nat) (bs : List Byte) (s : State) :
    getDistrict q (kvWrite slot v off bs s) = getDistrict q s := by
  simp only [kvWrite, getDistrict_failPage, getDistrict_vwrite, getDistrict_ite, ite_self]

@[simp] theorem getDistrict_writeHeader (slot c j : Nat) (s : State) : getDistrict q (writeHeader slot c j s) = getDistrict q s := by
  simp only [writeHeader, getDistrict_kvWrite, getDistrict_ite, ite_self]

@[simp] theorem getDistrict_pcWrite (slot loc : Nat) (bs : List Byte) (s : State) :
    getDistrict q (pcWrite slot loc bs s) = getDistrict q s :=
  getDistrict_kvWrite ..

@[simp] theorem getDistrict_withLsr (xs : List (Nat × Nat × Nat)) (s : State) : getDistrict q (withLsr xs s).2 = getDistrict q s := by
  induction xs generalizing s with
  | nil => rfl
  | cons x xs ih => simp only [withLsr, getDistrict_failPage, getDistrict_kvRead, ih, getDistrict_ite, ite_self]

@[simp] theorem getDistrict_movePage (slot c j v page : Nat) (s : State) :
    getDistrict q (movePage slot c j v page s) = getDistrict q s := by
  simp only [movePage, getDistrict_failPage, getDistrict_bump, getDistrict_zeroPage, getDistrict_vreadBytes, getDistrict_freePage,
    getDistrict_writeEntry, getDistrict_addSat, getDistrict_vwrite, getDistrict_updPage, getDistrict_ite, ite_self]

@[simp] theorem getDistrict_markChain (v page : Nat) (s : State) : getDistrict q (markChain v page s) = getDistrict q s :=
  getDistrict_setPage ..

theorem getDistrict_takeChainPage {d v p : Nat} {s t : State} (h : takeChainPage d v s = some (p, t)) :
    getDistrict q t = getDistrict q s := by
  unfold takeChainPage at h
  split at h
  · cases h
  · obtain ⟨q, -, hq⟩ := Option.map_eq_some_iff.1 h
    cases hq
    simp only [getDistrict_markChain, getDistrict_takePage]

theorem getDistrict_moveOldest {d v : Nat} {s t : State} (h : moveOldest d v s = some t) : getDistrict q t = getDistrict q s := by
  unfold moveOldest at h
  dsimp only at h
  split at h
  · cases h
  · obtain ⟨u, -, rfl⟩ := Option.map_eq_some_iff.1 h
    simp only [getDistrict_bump, getDistrict_markChain, getDistrict_withLsr, getDistrict_takePage, getDistrict_movePage]

@[simp] theorem getDistrict_makeRun (d v n k : Nat) (s : State) : getDistrict q (makeRun d v n k s) = getDistrict q s := by
  induction k generalizing s with
  | zero => rfl
  | succ k ih =>
    unfold makeRun
    split
    · rfl
    · split
      · next h => exact (ih _).trans (getDistrict_moveOldest h)
      · rfl

@[simp] theorem getDistrict_makeRoom (d v n : Nat) (s : State) : getDistrict q (makeRoom d v n s) = getDistrict q s := by
  simp only [makeRoom, getDistrict_makeRun, getDistrict_ite, ite_self]

theorem getDistrict_openHead {slot c : Nat} {s t : State} (h : openHead slot c s = some t) : getDistrict q t = getDistrict q s := by
  unfold openHead at h
  dsimp only at h
  split at h
  · cases h; rfl
  · split at h
    · cases h
    · obtain ⟨p, -, rfl⟩ := Option.map_eq_some_iff.1 h
      exact (getDistrict_updChain ..).trans <| (getDistrict_foldl (fun u i => by simp only [getDistrict_markChain,
        getDistrict_zeroPage, getDistrict_takePage]) _ _).trans (getDistrict_makeRoom ..)

@[simp] theorem getDistrict_writeHead (slot c : Nat) (s : State) : getDistrict q (writeHead slot c s) = getDistrict q s := by
  unfold writeHead
  dsimp only
  split <;> simp only [getDistrict_kvWrite]

@[simp] theorem getDistrict_reopenRows (slot c j r n : Nat) (s : State) :
    getDistrict q (reopenRows slot c j r n s) = getDistrict q s := by
  simp only [reopenRows, getDistrict_kvReadOr, getDistrict_kvWrite, getDistrict_foldl, getDistrict_ite, ite_self, implies_true]

@[simp] theorem getDistrict_setLen (slot c n : Nat) (s : State) : getDistrict q (setLen slot c n s) = getDistrict q s := by
  simp only [setLen, getDistrict_setChain, getDistrict_writeHeader, getDistrict_foldl, implies_true]

@[simp] theorem getDistrict_commitKv (slot n : Nat) (s : State) : getDistrict q (commitKv slot n s) = getDistrict q s := by
  simp only [commitKv, getDistrict_setLen, getDistrict_foldl, implies_true]

@[simp] theorem getDistrict_uncommitKv (slot : Nat) (s : State) : getDistrict q (uncommitKv slot s) = getDistrict q s := by
  simp only [uncommitKv, getDistrict_reopenRows, getDistrict_writeHeader, getDistrict_updChain, getDistrict_foldl, getDistrict_ite,
    ite_self, implies_true]

/-! Poste restante and returns (Machine/Lookahead). -/

@[simp] theorem getDistrict_showPr (site : Nat) (s : State) : getDistrict q (showPr site s) = getDistrict q s := by rfl

@[simp] theorem getDistrict_startReturn (slot c j : Nat) (s : State) : getDistrict q (startReturn slot c j s) = getDistrict q s := by
  unfold startReturn
  dsimp only
  split
  · rfl
  · split <;> simp only [getDistrict_markChain, getDistrict_makeRoom, getDistrict_takePage, getDistrict_updPage]

/-! Streams, their control blocks and handles (Machine/Streams). -/

@[simp] theorem getDistrict_setSt (slot : Nat) (st : StreamSt) (s : State) : getDistrict q (setSt slot st s) = getDistrict q s := by rfl

@[simp] theorem getDistrict_cbRead (slot off n : Nat) (s : State) : getDistrict q (cbRead slot off n s).2 = getDistrict q s :=
  getDistrict_vreadBytes ..

@[simp] theorem getDistrict_cbWrite (slot off : Nat) (bs : List Byte) (s : State) :
    getDistrict q (cbWrite slot off bs s) = getDistrict q s :=
  getDistrict_vwrite ..

@[simp] theorem getDistrict_cbAdd (slot off n k : Nat) (s : State) : getDistrict q (cbAdd slot off n k s) = getDistrict q s := by
  unfold cbAdd
  dsimp only
  split <;> simp only [getDistrict_cbWrite, getDistrict_cbRead]

@[simp] theorem getDistrict_cbFlag (slot b : Nat) (s : State) : getDistrict q (cbFlag slot b s) = getDistrict q s := by
  unfold cbFlag
  dsimp only
  split <;> simp only [getDistrict_cbWrite, getDistrict_cbRead]

@[simp] theorem getDistrict_pushHistory (slot : Nat) (ts : List Nat) (s : State) :
    getDistrict q (pushHistory slot ts s) = getDistrict q s := by
  refine getDistrict_foldl (fun u t => ?_) ts s
  dsimp only
  split <;> simp only [getDistrict_cbWrite, getDistrict_cbRead]

@[simp] theorem getDistrict_setHandle (h : Nat) (x : Handle) (s : State) : getDistrict q (setHandle h x s) = getDistrict q s := by rfl

@[simp] theorem getDistrict_showPreempt (s : State) : getDistrict q (showPreempt s) = getDistrict q s := by
  simp only [showPreempt, getDistrict_wr, getDistrict_foldl, implies_true]

@[simp] theorem getDistrict_showLapsed (s : State) : getDistrict q (showLapsed s) = getDistrict q s := by rfl

@[simp] theorem getDistrict_trimRows (slot w v page r : Nat) (s : State) :
    getDistrict q (trimRows slot w v page r s) = getDistrict q s := by
  simp only [trimRows, getDistrict_kvWrite, getDistrict_foldl, implies_true]

@[simp] theorem getDistrict_trimCopy (slot c j t was : Nat) (s : State) :
    getDistrict q (trimCopy slot c j t was s) = getDistrict q s := by
  simp only [trimCopy, getDistrict_reopenRows, getDistrict_writeHeader, getDistrict_trimRows, getDistrict_kvWrite, getDistrict_ite,
    ite_self]

/-! Jobs and the twin (Machine/Fabric). -/

@[simp] theorem getDistrict_updJob (j : Nat) (f : JobX → JobX) (s : State) : getDistrict q (updJob j f s) = getDistrict q s := by rfl
@[simp] theorem getDistrict_meetPosition (j id pos : Nat) (s : State) :
    getDistrict q (meetPosition j id pos s) = getDistrict q s := by rfl
@[simp] theorem getDistrict_takeDone (j fid : Nat) (s : State) : getDistrict q (takeDone j fid s) = getDistrict q s := by rfl

@[simp] theorem getDistrict_send (j dst : Nat) (k : FabKind) (body : List Byte) (s : State) :
    getDistrict q (send j dst k body s) = getDistrict q s := by
  simp only [send, getDistrict_bump, getDistrict_offer, getDistrict_ite, ite_self]

@[simp] theorem getDistrict_reportDone (d : Nat) (s : State) : getDistrict q (reportDone d s) = getDistrict q s := by
  unfold reportDone
  split <;> simp only [getDistrict_send, getDistrict_takeDone, getDistrict_updJob, getDistrict_foldl, implies_true]

@[simp] theorem getDistrict_sendStep (slot n : Nat) (hist : List Nat) (s : State) :
    getDistrict q (sendStep slot n hist s) = getDistrict q s := by
  simp only [sendStep, getDistrict_bump, getDistrict_updStream, getDistrict_sendTwin, getDistrict_setStream, getDistrict_showLapsed,
    getDistrict_ite, ite_self]

/-! Steps (Machine/Steps). -/

@[simp] theorem getDistrict_placeLine (d g j l : Nat) (s : State) : getDistrict q (placeLine d g j l s) = getDistrict q s := by
  unfold placeLine
  dsimp only
  split <;> simp only [headerBytes, getDistrict_spWrite, getDistrict_setPoison, getDistrict_setTag, getDistrict_dvaReadN]

@[simp] theorem getDistrict_recopyLetter (d g j : Nat) (s : State) : getDistrict q (recopyLetter d g j s) = getDistrict q s := by
  simp only [recopyLetter, getDistrict_placeLine, getDistrict_foldl, getDistrict_ite, ite_self, implies_true]

@[simp] theorem getDistrict_startCores (d : Nat) (s : State) : getDistrict q (startCores d s) = getDistrict q s := by
  simp only [startCores, getDistrict_goCore, getDistrict_recopyLetter, getDistrict_foldl, implies_true]

@[simp] theorem getDistrict_readyStage (d stage : Nat) (m : Micro) (s : State) :
    getDistrict q (readyStage d stage m s) = getDistrict q s := by
  simp only [readyStage, readyCore, getDistrict_updCore, getDistrict_flag, getDistrict_spWrite, getDistrict_addDue, getDistrict_foldl,
    getDistrict_ite, ite_self, implies_true]

@[simp] theorem getDistrict_startNotices (d : Nat) (s : State) : getDistrict q (startNotices d s) = getDistrict q s := by rfl

@[simp] theorem getDistrict_markThrottled (d : Nat) (s : State) : getDistrict q (markThrottled d s) = getDistrict q s := by
  simp only [markThrottled, getDistrict_cbFlag, getDistrict_foldl, implies_true]

@[simp] theorem getDistrict_sendQueries (d : Nat) (slots : List Nat) (s : State) :
    getDistrict q (sendQueries d slots s) = getDistrict q s := by
  unfold sendQueries
  split <;> simp only [getDistrict_send, getDistrict_foldl, implies_true]

@[simp] theorem getDistrict_credit (slot : Nat) (s : State) : getDistrict q (credit slot s) = getDistrict q s := by rfl

@[simp] theorem getDistrict_promptTokens (slot n : Nat) (s : State) : getDistrict q (promptTokens slot n s).2 = getDistrict q s := by
  simp only [promptTokens, getDistrict_cbRead, getDistrict_dvaReadN, getDistrict_ite_snd, ite_self]

@[simp] theorem getDistrict_passPosition (slot : Nat) (s : State) : getDistrict q (passPosition slot s) = getDistrict q s := by
  unfold passPosition
  dsimp only
  split <;> simp only [getDistrict_meetPosition, getDistrict_ite, ite_self]

@[simp] theorem getDistrict_endNotices (d : Nat) (s : State) : getDistrict q (endNotices d s) = getDistrict q s := by rfl

end Sys2Proof.Machine
end

section
/-!
PROOFS. Whether a district's step runs (R22, R24), and what leaves it so: among the operations that a step calls, only its start and its
end change it.
-/

namespace Sys2Proof.Machine

variable {q : Nat}

/-- The step of a district runs. A name of its own, so that the kernel compares two states before it opens either. -/
def stepRuns (x : District) : Bool := x.running

theorem stepRuns_setDistrict (d : Nat) (x : District) (s : State) :
    stepRuns (getDistrict q (setDistrict d x s)) = if q = d then stepRuns x else stepRuns (getDistrict q s) := by
  simp only [setDistrict, getDistrict, tget_tset, apply_ite stepRuns]

/-- An update of a district that keeps a projection of it keeps it for every district. -/
theorem getDistrict_updDistrict_of {α : Type} {g : District → α} {f : District → District} (h : ∀ x, g (f x) = g x) (d : Nat)
    (s : State) :
    g (getDistrict q (updDistrict d f s)) = g (getDistrict q s) := by
  simp only [updDistrict, setDistrict, getDistrict, tget_tset]
  split
  · next hq => rw [h, hq]
  · rfl

theorem stepRuns_ite {c : Prop} [Decidable c] {x y : District} :
    stepRuns (if c then x else y) = if c then stepRuns x else stepRuns y :=
  apply_ite _ c x y

theorem stepRuns_foldl {β : Type} {f : State → β → State} (h : ∀ u x, stepRuns (getDistrict q (f u x)) = stepRuns (getDistrict q u))
    (l : List β) (s : State) : stepRuns (getDistrict q (l.foldl f s)) = stepRuns (getDistrict q s) := by
  induction l generalizing s with
  | nil => rfl
  | cons x l ih => exact (ih _).trans (h s x)

theorem stepRuns_updDistrict {f : District → District} (h : ∀ x, stepRuns (f x) = stepRuns x) (d : Nat) (s : State) :
    stepRuns (getDistrict q (updDistrict d f s)) = stepRuns (getDistrict q s) :=
  getDistrict_updDistrict_of h d s

/-! Near-memory operations (Machine/NearMem). -/

@[simp] theorem getDistrict_setEngine (k : Nat) (x : Engine) (s : State) : getDistrict q (setEngine k x s) = getDistrict q s := by rfl
@[simp] theorem getDistrict_showEngine (e : Nat) (s : State) : getDistrict q (showEngine e s) = getDistrict q s := by rfl

/-- The answer to an operation adds to `opEnds` of a district and to nothing else of it. -/
theorem getDistrict_nmAnswer_of {α : Type} {g : District → α} (hg : ∀ x l, g { x with opEnds := l } = g x) (op : NmOp) (status : Nat)
    (bs : List Byte) (s : State) : g (getDistrict q (nmAnswer op status bs s)) = g (getDistrict q s) := by
  unfold nmAnswer
  split
  · rw [getDistrict_reply]
  · rw [getDistrict_addDue]
  · exact getDistrict_updDistrict_of (fun x => hg x _) _ _

theorem getDistrict_nmSubmit_of {α : Type} {g : District → α} (hg : ∀ x l, g { x with opEnds := l } = g x) (e : Nat) (op : NmOp)
    (s : State) : g (getDistrict q (nmSubmit e op s)) = g (getDistrict q s) := by
  have answer := getDistrict_nmAnswer_of (q := q) hg
  simp only [nmSubmit, answer, getDistrict_showEngine, getDistrict_setEngine, getDistrict_setEng, getDistrict_ite, apply_ite g, ite_self]

theorem stepRuns_nmSubmit (e : Nat) (op : NmOp) (s : State) :
    stepRuns (getDistrict q (nmSubmit e op s)) = stepRuns (getDistrict q s) :=
  getDistrict_nmSubmit_of (fun _ _ => rfl) ..

/-! Staging and returns (Machine/Lookahead). -/

theorem stepRuns_stagePage (slot c j : Nat) (s : State) :
    stepRuns (getDistrict q (stagePage slot c j s)) = stepRuns (getDistrict q s) := by
  unfold stagePage
  dsimp only
  split
  · next h _ => simp only [getDistrict_makeRoom, getDistrict_zeroPage, stepRuns_nmSubmit, getDistrict_updChain, getDistrict_takeChainPage h]
  · rfl

theorem stepRuns_fetchPage (slot c j : Nat) (s : State) :
    stepRuns (getDistrict q (fetchPage slot c j s)) = stepRuns (getDistrict q s) := by
  simp only [fetchPage, stepRuns_stagePage, getDistrict_startReturn, getDistrict_ite, ite_self, stepRuns_ite]

theorem stepRuns_advanceChain (slot c : Nat) (s : State) :
    stepRuns (getDistrict q (advanceChain slot c s)) = stepRuns (getDistrict q s) := by
  unfold advanceChain
  dsimp only
  split
  · rfl
  · split
    · rfl
    · next h =>
      simp only [stepRuns_fetchPage, getDistrict_writeHead, getDistrict_updChain, getDistrict_openHead h, getDistrict_ite, ite_self,
        implies_true, stepRuns_foldl]

theorem stepRuns_pageReturned (slot c j : Nat) (poison : Bool) (s : State) :
    stepRuns (getDistrict q (pageReturned slot c j poison s)) = stepRuns (getDistrict q s) := by
  unfold pageReturned
  dsimp only
  split
  · simp only [getDistrict_failPage, getDistrict_showPr, getDistrict_bump, getDistrict_zeroPage, getDistrict_freePage,
      getDistrict_writeEntry, stepRuns_advanceChain, getDistrict_updPage, getDistrict_kvWrite, getDistrict_ite, ite_self, stepRuns_ite]
  · rfl

/-! Handles and pre-emption (Machine/Streams). -/

theorem stepRuns_recallPage {slot c j : Nat} {s t : State} (h : recallPage slot c j s = some t) :
    stepRuns (getDistrict q t) = stepRuns (getDistrict q s) := by
  unfold recallPage at h
  dsimp only at h
  split at h
  · cases h; rfl
  · split at h
    · cases h
      rw [stepRuns_pageReturned, getDistrict_startReturn]
    · cases h

theorem stepRuns_recallPages {slot c : Nat} {b : Bool} (js : List Nat) {o : Option State}
    (ho : ∀ u ∈ o, stepRuns (getDistrict q u) = b) :
    ∀ u ∈ js.foldl (fun o j => o.bind fun u => recallPage slot c j u) o, stepRuns (getDistrict q u) = b := by
  induction js generalizing o with
  | nil => exact ho
  | cons j js ih =>
    refine ih fun v hv => ?_
    obtain ⟨u, hu, hr⟩ := Option.bind_eq_some_iff.1 hv
    exact (stepRuns_recallPage hr).trans (ho u hu)

theorem stepRuns_shareChain {slot c n : Nat} {s : State} {r : Chain × State} (h : shareChain slot c n s = some r) :
    stepRuns (getDistrict q r.2) = stepRuns (getDistrict q s) := by
  unfold shareChain at h
  dsimp only at h
  split at h
  · cases h
  · next s1 h1 =>
    have recalled := stepRuns_recallPages (q := q) _ (fun u hu => by cases hu; rfl) s1 h1
    split at h
    · cases h
      simp only [getDistrict_showPr, getDistrict_writeHeader, getDistrict_updPage, recalled, getDistrict_foldl, implies_true]
    · split at h
      · cases h
      · next h3 =>
        split at h
        · cases h
        · obtain ⟨vp, -, rfl⟩ := Option.map_eq_some_iff.1 h
          simp only [getDistrict_pcWrite, getDistrict_showPr, getDistrict_makeRoom, getDistrict_zeroPage, getDistrict_setChain,
            getDistrict_trimCopy, getDistrict_writeHeader, getDistrict_takePage, getDistrict_kvReadOr, getDistrict_updPage,
            getDistrict_kvWrite, getDistrict_takeChainPage h3, recalled, getDistrict_foldl, implies_true]

theorem stepRuns_shareChains {slot n : Nat} {cs : List Nat} {s : State} {r : List (Nat × Chain) × State}
    (h : shareChains slot n cs s = some r) : stepRuns (getDistrict q r.2) = stepRuns (getDistrict q s) := by
  induction cs generalizing s r with
  | nil => cases h; rfl
  | cons c cs ih =>
    unfold shareChains at h
    split at h
    · cases h
    · next h1 =>
      obtain ⟨r', hr', rfl⟩ := Option.map_eq_some_iff.1 h
      exact (ih hr').trans (stepRuns_shareChain h1)

theorem stepRuns_createHandle (slot : Nat) (s : State) :
    stepRuns (getDistrict q (createHandle slot s)) = stepRuns (getDistrict q s) := by
  unfold createHandle
  dsimp only
  split
  · rfl
  · split
    · rfl
    · split
      · simp only [getDistrict_setStream, getDistrict_setHandle, getDistrict_addLog]
      · next vp cs s1 made =>
        have shared : stepRuns (getDistrict q s1) = stepRuns (getDistrict q s) := by
          split at made
          · cases made
          · split at made
            · cases made
            · obtain ⟨r, hr, hm⟩ := Option.map_eq_some_iff.1 made
              cases hm
              rw [stepRuns_shareChains hr, getDistrict_takePage, getDistrict_setStream]
        simp only [getDistrict_sendTwin, getDistrict_setStream, getDistrict_setHandle, shared, getDistrict_ite, ite_self]

theorem stepRuns_startPreempt (slot : Nat) (e : Option Env) (s : State) :
    stepRuns (getDistrict q (startPreempt slot e s)) = stepRuns (getDistrict q s) := by
  simp only [startPreempt, getDistrict_showPreempt, getDistrict_updStream, getDistrict_setSt, stepRuns_createHandle,
    getDistrict_setStream, getDistrict_ite, ite_self, implies_true, stepRuns_foldl, stepRuns_ite]

theorem stepRuns_leavePreempt (slot : Nat) (s : State) :
    stepRuns (getDistrict q (leavePreempt slot s)) = stepRuns (getDistrict q s) := by
  unfold leavePreempt
  dsimp only
  split
  · rfl
  · rw [getDistrict_setSt, stepRuns_updDistrict]
    exact fun _ => rfl

theorem stepRuns_beginEnd (slot code : Nat) (s : State) :
    stepRuns (getDistrict q (beginEnd slot code s)) = stepRuns (getDistrict q s) := by
  unfold beginEnd
  dsimp only
  split
  · rfl
  · repeat' split
    all_goals simp only [getDistrict_showPreempt, getDistrict_updStream, getDistrict_setSt, stepRuns_leavePreempt, getDistrict_reply]

/-! The start of a step (Machine/Steps). -/

theorem stepRuns_arm (d : Nat) (s : State) : stepRuns (getDistrict q (arm d s)) = stepRuns (getDistrict q s) :=
  stepRuns_updDistrict (f := fun x => { x with armed := _, shardOut := [], armedOps := _, opEnds := [] }) (fun _ => rfl) ..

theorem stepRuns_countRounds (d : Nat) (s : State) :
    stepRuns (getDistrict q (countRounds d s)) = stepRuns (getDistrict q s) := by
  unfold countRounds
  dsimp only
  rw [stepRuns_updDistrict]
  · simp only [getDistrict_markThrottled, getDistrict_cbAdd, getDistrict_foldl, getDistrict_ite, ite_self, implies_true]
  · exact fun _ => rfl

/-- What follows the mark of a running step in its start leaves it. -/
theorem stepRuns_startStep (d : Nat) (s : State) : stepRuns (getDistrict d (startStep d s)) = true := by
  unfold startStep
  dsimp only
  rw [getDistrict_startNotices, stepRuns_countRounds]
  simp only [getDistrict_foldl, getDistrict_readyStage, getDistrict_startCores, implies_true, stepRuns_arm, getDistrict_sendQueries]
  simp only [updDistrict, stepRuns_setDistrict, if_true]
  rfl

/-! The end of a step (Machine/Steps). -/

theorem stepRuns_afterStep (slot code : Nat) (s : State) :
    stepRuns (getDistrict q (afterStep slot code s)) = stepRuns (getDistrict q s) := by
  simp only [afterStep, stepRuns_startPreempt, getDistrict_setSt, getDistrict_setStream, stepRuns_beginEnd, getDistrict_ite, ite_self,
    stepRuns_ite]

theorem stepRuns_refusedStep (slot : Nat) (s : State) :
    stepRuns (getDistrict q (refusedStep slot s)) = stepRuns (getDistrict q s) := by
  simp only [refusedStep, stepRuns_afterStep, getDistrict_uncommitKv, getDistrict_credit]

theorem stepRuns_commitStream (slot : Nat) (s : State) :
    stepRuns (getDistrict q (commitStream slot s)) = stepRuns (getDistrict q s) := by
  unfold commitStream
  dsimp only
  split
  · exact stepRuns_refusedStep ..
  · rw [stepRuns_afterStep, getDistrict_sendStep, stepRuns_updDistrict]
    · simp only [getDistrict_passPosition, getDistrict_pushHistory, getDistrict_commitKv, getDistrict_cbAdd, getDistrict_setStream,
        getDistrict_addSat, getDistrict_promptTokens, getDistrict_updChain, getDistrict_foldl, getDistrict_ite_snd, ite_self,
        implies_true]
    · exact fun _ => rfl

theorem stepRuns_endRefused (d : Nat) (s : State) :
    stepRuns (getDistrict q (endRefused d s)) = stepRuns (getDistrict q s) := by
  simp only [endRefused, stepRuns_beginEnd, implies_true, stepRuns_foldl]

theorem stepRuns_commitStep (d : Nat) (s : State) : stepRuns (getDistrict d (commitStep d s)) = false := by
  unfold commitStep
  dsimp only
  simp only [getDistrict_bump, stepRuns_commitStream, stepRuns_endRefused, getDistrict_endNotices, stepRuns_setDistrict,
    getDistrict_reportDone, stepRuns_setDistrict, implies_true, stepRuns_foldl]
  rfl

end Sys2Proof.Machine
end

section
/-!
PROOFS. Steps (chapters 00, 09 and 11): what a step start point, STEP_COMPLETE, a trigger, the staging limit and a look-ahead pass do, case
by case.
-/

namespace Sys2Proof.Machine

/-! The commands. -/

theorem exec_stepStartPoint (d : DistrictId) (s : State) : exec (.stepStartPoint d) s = .next (settle (stepPoint d s)) := rfl
theorem exec_stepComplete (d : DistrictId) (s : State) : exec (.stepComplete d) s = .next (settle (completeStep d s)) := rfl
theorem exec_samplingTrigger (d : DistrictId) (n : Nat) (s : State) :
    exec (.samplingTrigger d n) s = .next (settle (samplingTrigger d n s)) := rfl
theorem exec_templateNmTrigger (d : DistrictId) (stage : StageId) (n : Nat) (s : State) :
    exec (.templateNmTrigger d stage n) s = .next (settle (templateTrigger d stage n s)) := rfl
theorem exec_stagingDeferPreempt (slot : SlotId) (s : State) :
    exec (.stagingDeferPreempt slot) s = .next (settle (stagingPreempt slot s)) := rfl
theorem exec_lookaheadPass (d : DistrictId) (s : State) : exec (.lookaheadPass d) s = .next (settle (lookPass d s)) := rfl
theorem exec_tokenDraw (slot : SlotId) (s : State) : exec (.tokenDraw slot) s = .next (settle (tokenDraw slot s)) := rfl
theorem exec_drawCopyAck (slot : SlotId) (s : State) : exec (.drawCopyAck slot) s = .next (settle (drawReleased slot true s)) := rfl
theorem exec_drawWaitTimeout (slot : SlotId) (s : State) :
    exec (.drawWaitTimeout slot) s = .next (settle (drawReleased slot false s)) := rfl

/-! The step start point (R22, R24, R222). -/

section
variable {d : Nat} {s : State}

theorem stepPoint_eq_self
    (h : rd .distCfgState d s ≠ 1 ∨ bit .distCfgPv d s = false ∨ roundNow s < (getDistrict d s).started ∨ stopping s = true) :
    stepPoint d s = s := by
  unfold stepPoint
  exact if_pos (by simpa only [Bool.not_eq_true'] using h)

theorem stepPoint_of_start (hst : rd .distCfgState d s = 1) (hpv : bit .distCfgPv d s = true)
    (hround : (getDistrict d s).started ≤ roundNow s) (hstop : stopping s = false) {s1 : State}
    (h1 : s1 = setDistrict d { getDistrict d s with stepStart := s.now, started := roundNow s + 1 } s) :
    stepPoint d s = if (getDistrict d s).running then bump .distStepOvrCount d s1
      else if jobHolds d (takeConfigs d s1) then bump .distStepOvrCount d (takeConfigs d s1) else startStep d (takeConfigs d s1) := by
  unfold stepPoint
  dsimp only
  rw [if_neg, ← h1]
  rintro (h | h | h | h)
  · exact h hst
  · simp only [hpv, Bool.not_true, Bool.false_eq_true] at h
  · omega
  · simp only [hstop, Bool.false_eq_true] at h

theorem running_startStep : (getDistrict d (startStep d s)).running = true := stepRuns_startStep d s

/-! STEP_COMPLETE (R24, R295, R303). -/

theorem completeStep_eq_self (h : (getDistrict d s).running = false ∨ partsDone d s = false) : completeStep d s = s := by
  unfold completeStep
  exact if_pos (by simpa only [Bool.or_eq_true, Bool.not_eq_true'] using h)

theorem completeStep_of_parts (hrun : (getDistrict d s).running = true) (hparts : partsDone d s = true) :
    completeStep d s = if (getDistrict d s).armed = [] then (if drawsPosted d s then commitStep d s else s) else failStep d false s := by
  cases harm : (getDistrict d s).armed <;> cases hpost : drawsPosted d s <;> simp [completeStep, hrun, hparts, harm, hpost]

theorem running_commitStep : (getDistrict d (commitStep d s)).running = false := stepRuns_commitStep d s

end

/-! Triggers of shards and of template operations (R229, R303). -/

section
variable {d n : Nat} {s : State} {cfg : Samp} {sh : Shard}

theorem samplingTrigger_eq_self (hcfg : (getDistrict d s).samp = some cfg) (hsh : cfg.shards[n]? = some sh)
    (h : rd .coreSemValue (16 * sh.tcore + sh.sem) s < sh.count ∨ stopping s = true) : samplingTrigger d n s = s := by
  simp only [samplingTrigger, hcfg, hsh]
  refine if_pos ?_
  rcases h with h | h <;> simp only [h, decide_true, Bool.or_true, Bool.true_or]

variable (hcfg : (getDistrict d s).samp = some cfg) (hsh : cfg.shards[n]? = some sh) (hrun : (getDistrict d s).running = true)
  (hstop : stopping s = false) (harm : n ∈ (getDistrict d s).armed) (hcount : sh.count ≤ rd .coreSemValue (16 * sh.tcore + sh.sem) s)
  {s2 : State} (h2 : s2 = updDistrict d (fun y => { y with armed := y.armed.erase n })
    (wr .coreSemValue (16 * sh.tcore + sh.sem) (rd .coreSemValue (16 * sh.tcore + sh.sem) s - sh.count) s))

include hcfg hsh hrun hstop harm hcount h2

theorem samplingTrigger_of_unread (hr : (readShard d sh (drawers d s2) s2).1 = none) :
    samplingTrigger d n s = addDue (.stepFail d) (readShard d sh (drawers d s2) s2).2 := by
  have hcount' := Nat.not_lt.2 hcount
  subst h2
  simp [samplingTrigger, hcfg, hsh, hrun, hstop, harm, hcount', hr]

theorem samplingTrigger_of_read {out : List (Nat × List Nat)} (hr : (readShard d sh (drawers d s2) s2).1 = some out) :
    samplingTrigger d n s =
      updDistrict d (fun y => { y with shardOut := y.shardOut ++ [(n, out)] }) (readShard d sh (drawers d s2) s2).2 := by
  have hcount' := Nat.not_lt.2 hcount
  subst h2
  simp [samplingTrigger, hcfg, hsh, hrun, hstop, harm, hcount', hr]

end

section
variable {d j i : Nat} {s : State} {op : TmplOp} (hop : (stageE (parcelOf d s) j).ops[i]? = some op)

include hop

theorem templateTrigger_eq_self (h : rd .coreSemValue (16 * actor op.core s + op.sem) s < op.count) : templateTrigger d j i s = s := by
  simp only [templateTrigger, hop, h, decide_true, Bool.or_true, if_true]

theorem templateTrigger_of_count (harm : (j, i) ∈ (getDistrict d s).armedOps)
    (h : op.count ≤ rd .coreSemValue (16 * actor op.core s + op.sem) s) :
    templateTrigger d j i s = nmSubmit (32 * siteOf (actor op.core s) + nEngine op.desc)
      { desc := op.desc, district := some d, who := .dispatcher d (16 * j + i) }
      (setDistrict d { getDistrict d s with armedOps := (getDistrict d s).armedOps.erase (j, i) }
        (wr .coreSemValue (16 * actor op.core s + op.sem) (rd .coreSemValue (16 * actor op.core s + op.sem) s - op.count) s)) := by
  have h' := Nat.not_lt.2 h
  simp [templateTrigger, hop, harm, h']

theorem armedOps_templateTrigger (harm : (j, i) ∈ (getDistrict d s).armedOps)
    (h : op.count ≤ rd .coreSemValue (16 * actor op.core s + op.sem) s) :
    (getDistrict d (templateTrigger d j i s)).armedOps = (getDistrict d s).armedOps.erase (j, i) := by
  rw [templateTrigger_of_count hop harm h, getDistrict_nmSubmit_of (g := District.armedOps) fun _ _ => rfl]
  simp only [setDistrict, getDistrict, tget_tset_same]

end

/-! The staging limit (R270). -/

@[simp] theorem getStream_setStream_same (slot : Nat) (x : Stream) (s : State) : getStream slot (setStream slot x s) = x :=
  tget_tset_same ..

@[simp] theorem getStream_updStream_same (slot : Nat) (f : Stream → Stream) (s : State) :
    getStream slot (updStream slot f s) = f (getStream slot s) :=
  tget_tset_same ..

theorem getStream_showPreempt (slot : Nat) (s : State) : getStream slot (showPreempt s) = getStream slot s := by
  have sort_foldl : ∀ (l : List Nat) (v : Nat → Nat) (u : State),
      (l.foldl (fun u k => wr .kvsiteStatusPreempt k (v k) u) u).sort = u.sort := by
    intro l v
    induction l with
    | nil => exact fun _ => rfl
    | cons k l ih => exact fun u => ih _
  unfold getStream showPreempt
  dsimp only
  rw [sort_foldl]

theorem getStream_setSt_same (slot : Nat) (st : StreamSt) (s : State) :
    getStream slot (setSt slot st s) = { getStream slot s with st := st } :=
  getStream_setStream_same slot { getStream slot s with st := st } s

section
variable {slot : Nat} {s : State}

theorem stagingPreempt_eq_self (h : (getStream slot s).st ≠ .ready ∨ (getStream slot s).stag < 64) : stagingPreempt slot s = s := by
  unfold stagingPreempt
  refine if_neg fun hr => ?_
  rcases h with h | h
  · exact h hr.1
  · exact absurd hr.2 (Nat.not_le.2 h)

theorem stagingPreempt_of_ready (hst : (getStream slot s).st = .ready) (h : 64 ≤ (getStream slot s).stag) :
    stagingPreempt slot s = startPreempt slot none (updStream slot (fun y => { y with stag := 0 }) s) :=
  if_pos ⟨hst, h⟩

/-- A READY stream for which no FREEZE waits is PREEMPTING, with its image under way, and otherwise as it was (R279). -/
theorem getStream_startPreempt_ready {e : Option Env} (hst : (getStream slot s).st = .ready) (hf : (getStream slot s).freezes = []) :
    getStream slot (startPreempt slot e s) = { getStream slot s with st := .preempting, pre := 2, preEnv := e } := by
  simp only [startPreempt, hst, if_true, hf, List.foldl_nil, getStream_showPreempt, getStream_setSt_same, getStream_updStream_same]

theorem getStream_stagingPreempt (hst : (getStream slot s).st = .ready) (h : 64 ≤ (getStream slot s).stag)
    (hf : (getStream slot s).freezes = []) :
    getStream slot (stagingPreempt slot s) = { getStream slot s with st := .preempting, pre := 2, preEnv := none, stag := 0 } := by
  rw [stagingPreempt_of_ready hst h, getStream_startPreempt_ready] <;> rw [getStream_updStream_same]
  · exact hst
  · exact hf

end

/-! The look-ahead pass (R269). -/

section
variable (d : Nat) (s : State)

/-- What a look-ahead pass leaves listed: streams that were listed, that still have a slot, and that lack a chain. -/
theorem mem_look_lookPass {k : Nat} (hk : k ∈ (getDistrict d (lookPass d s)).look) :
    k ∈ (getDistrict d s).look ∧ (getStream k (lookPass d s)).st ≠ .free ∧ chainsReady k (lookPass d s) = false := by
  unfold lookPass at hk ⊢
  dsimp only at hk ⊢
  simp only [updDistrict, setDistrict, getDistrict, tget_tset_same, List.mem_filter, List.mem_insertionSort, List.mem_dedup,
    Bool.and_eq_true, bne_iff_ne, Bool.not_eq_true'] at hk
  exact hk

theorem lookPass_of_nil (h : (getDistrict d s).look = []) :
    (lookPass d s).sort = s.sort ∧ (lookPass d s).vaults = s.vaults ∧ ∀ f i, rd f i (lookPass d s) = rd f i s := by
  unfold lookPass
  rw [h]
  exact ⟨rfl, rfl, fun _ _ => rfl⟩

end

end Sys2Proof.Machine
end

section
/-!
PROOFS. Draws (R26, R303 to R309, R345): what a draw and the end of a wait for the twin do, case by case, and the obligation about steps and
draws.
-/

namespace Sys2Proof.Machine

/-! The draw (R303 to R309). -/

theorem tokenDraw_eq_self {slot : Nat} {s : State}
    (h : (getDistrict (getStream slot s).district s).samp = none ∨ slot ∉ drawers (getStream slot s).district s ∨
      (getStream slot s).drawn = true ∨ (getDistrict (getStream slot s).district s).armed ≠ [] ∨ stopping s = true) :
    tokenDraw slot s = s := by
  unfold tokenDraw
  dsimp only
  split
  · rfl
  · next cfg hcfg =>
    refine if_pos ?_
    simpa [hcfg, or_assoc] using h

section
variable {slot : Nat} {s : State} {cfg : Samp} (hcfg : (getDistrict (getStream slot s).district s).samp = some cfg)
  (hdraws : slot ∈ drawers (getStream slot s).district s) (hdrawn : (getStream slot s).drawn = false)
  (harm : (getDistrict (getStream slot s).district s).armed = []) (hstop : stopping s = false)

include hcfg hdraws hdrawn harm hstop

theorem tokenDraw_of_unread (hc : (cbWhole slot s).1 = none) : tokenDraw slot s = noDraw slot 0 24 (cbWhole slot s).2 := by
  simp [tokenDraw, hcfg, hdraws, hdrawn, harm, hstop, hc]

variable {cb : List Byte} (hc : (cbWhole slot s).1 = some cb)

include hc

theorem tokenDraw_of_kept {r : DrawRec} (hk : (getStream slot s).kept = some r) (hi : r.index = (getStream slot s).out) :
    tokenDraw slot s = applyDraw slot cb r false (cbWhole slot s).2 := by
  simp [tokenDraw, hcfg, hdraws, hdrawn, harm, hstop, hc, hk, hi]

variable (hk : (getStream slot s).kept = none)

include hk

theorem tokenDraw_of_recorded {r : DrawRec}
    (hr : ((getStream slot s).recorded.find? fun y => y.index == (getStream slot s).out) = some r) :
    tokenDraw slot s = applyDraw slot cb r true
      (setStream slot { getStream slot s with recorded := (getStream slot s).recorded.erase r } (cbWhole slot s).2) := by
  simp [tokenDraw, hcfg, hdraws, hdrawn, harm, hstop, hc, hk, hr]

end

/-- The logits of a slot's stream by shard, from what the shards' triggers have left (R303, R305). -/
def shardRows (slot : Nat) (cfg : Samp) (x : District) : List (Shard × List Nat) :=
  cfg.shards.zipIdx.filterMap fun p => (x.shardOut.find? fun o => o.1 == p.2).bind fun o =>
    (o.2.find? fun y => y.1 == slot).map fun y => (p.1, y.2)

/-- The record of a fresh draw of token and probability t with candidates cs (R306, R309, R311). -/
def drawnRec (x : Stream) (cb : List Byte) (t : Nat × Val) (cs : List (Nat × Val)) (round : Nat) : DrawRec where
  index := x.out
  token := t.1
  logp := (spLog (fp t.2)).toNat
  alts := (cs.take x.nalt).map fun y => (y.1, (spLog (fp y.2)).toNat)
  code := if stopCode x cb t.1 = 0 ∧ x.cancel = true then 5 else stopCode x cb t.1
  round := round

theorem alts_drawnRec (x : Stream) (cb : List Byte) (t : Nat × Val) (cs : List (Nat × Val)) (round : Nat) :
    (drawnRec x cb t cs round).alts.map (·.1) = (cs.take x.nalt).map (·.1) := by
  simp only [drawnRec, List.map_map, Function.comp_def]

section
variable {slot : Nat} {s : State} {cfg : Samp} (hcfg : (getDistrict (getStream slot s).district s).samp = some cfg)
  (hdraws : slot ∈ drawers (getStream slot s).district s) (hdrawn : (getStream slot s).drawn = false)
  (harm : (getDistrict (getStream slot s).district s).armed = []) (hstop : stopping s = false)
variable {cb : List Byte} (hc : (cbWhole slot s).1 = some cb) (hk : (getStream slot s).kept = none)
  (hr : ∀ y ∈ (getStream slot s).recorded, y.index ≠ (getStream slot s).out)

include hcfg hdraws hdrawn harm hstop hc hk hr

theorem tokenDraw_of_no_token
    (hd : drawFrom (getStream slot s) cb cfg.vocab (shardRows slot cfg (getDistrict (getStream slot s).district s)) = none) :
    tokenDraw slot s = noDraw slot (if specNat cb 57 1 / 16 % 2 = 1 then 6 else 7) 0 (cbWhole slot s).2 := by
  have hf : ((getStream slot s).recorded.find? fun y => y.index == (getStream slot s).out) = none := by simpa using hr
  unfold shardRows at hd
  simp [tokenDraw, hcfg, hdraws, hdrawn, harm, hstop, hc, hk, hf, hd]

theorem tokenDraw_of_token {t : Nat × Val} {cs : List (Nat × Val)}
    (hd : drawFrom (getStream slot s) cb cfg.vocab (shardRows slot cfg (getDistrict (getStream slot s).district s)) = some (t, cs)) :
    tokenDraw slot s = applyDraw slot cb (drawnRec (getStream slot s) cb t cs (roundNow s)) true (cbWhole slot s).2 := by
  have hf : ((getStream slot s).recorded.find? fun y => y.index == (getStream slot s).out) = none := by simpa using hr
  unfold shardRows at hd
  simp [tokenDraw, drawnRec, hcfg, hdraws, hdrawn, harm, hstop, hc, hk, hf, hd]

end

/-! The end of the wait for the twin (R345). -/

theorem drawReleased_of_none {slot : Nat} {s : State} (h : (getStream slot s).wait = none) (acked : Bool) :
    drawReleased slot acked s = s := by
  simp only [drawReleased, h]

theorem drawReleased_of_some {slot : Nat} {s : State} {r : DrawRec} (h : (getStream slot s).wait = some r) (acked : Bool) :
    drawReleased slot acked s = if acked then postDraw slot r s else lapse slot (postDraw slot r s) := by
  simp only [drawReleased, h]

/-! The obligation. -/

/-- Settles O48, a command at a time: what each does in each case is its own lemma above, and the frame of the district table keeps
`running` and `armedOps` behind the operations that set them. -/
theorem stepAndDrawRules : Obligations.StepAndDrawRules := by
  unfold Obligations.StepAndDrawRules
  simp only [exec_stepStartPoint, exec_stepComplete, exec_samplingTrigger, exec_templateNmTrigger, exec_stagingDeferPreempt,
    exec_lookaheadPass, exec_tokenDraw, exec_drawCopyAck, exec_drawWaitTimeout]
  refine ⟨fun d slot stage n s => ⟨?start, ?starts, ?parts, ?complete, ?shard, ?template, ?stage, ?preempts, ?stays, ?look, ?lookNil⟩,
    fun slot s => ⟨?undrawn, ?draw, ?unheld, ?held⟩⟩
  case start => exact fun h => by rw [stepPoint_eq_self h]
  case starts =>
    intro hst hpv hround hstop s1 h1
    have start := stepPoint_of_start hst hpv hround hstop h1
    refine ⟨fun hrun => by rw [start, if_pos hrun], ?_⟩
    rintro hrun s2 rfl
    rw [if_neg (by rw [hrun]; exact Bool.false_ne_true)] at start
    exact ⟨fun hold => by rw [start, if_pos hold],
      fun hold => ⟨by rw [start, if_neg (by rw [hold]; exact Bool.false_ne_true)], running_startStep⟩⟩
  case parts => exact fun h => by rw [completeStep_eq_self h]
  case complete =>
    intro hrun hparts
    rw [completeStep_of_parts hrun hparts]
    exact ⟨fun harm => by rw [if_neg harm], fun harm hpost => by rw [if_pos harm, hpost]; rfl,
      fun harm hpost => ⟨by rw [if_pos harm, hpost]; rfl, running_commitStep⟩⟩
  case shard =>
    intro cfg sh hcfg hsh
    refine ⟨fun h => by rw [samplingTrigger_eq_self hcfg hsh h], ?_⟩
    rintro hrun hstop harm hcount s2 h2 r rfl
    exact ⟨fun hr => by rw [samplingTrigger_of_unread hcfg hsh hrun hstop harm hcount h2 hr],
      fun out hr => by rw [samplingTrigger_of_read hcfg hsh hrun hstop harm hcount h2 hr]⟩
  case template =>
    intro op hop
    exact ⟨fun h => by rw [templateTrigger_eq_self hop h], fun harm h => by rw [templateTrigger_of_count hop harm h],
      fun harm h => ⟨_, rfl, armedOps_templateTrigger hop harm h⟩⟩
  case stage => exact fun hst h => by rw [stagingPreempt_of_ready hst h]
  case preempts => exact fun hst h hf => ⟨_, rfl, getStream_stagingPreempt hst h hf⟩
  case stays => exact fun h => by rw [stagingPreempt_eq_self h]
  case look => exact ⟨_, rfl, fun _ => mem_look_lookPass d s⟩
  case lookNil => exact fun h => ⟨_, rfl, lookPass_of_nil d s h⟩
  case undrawn => exact fun h => by rw [tokenDraw_eq_self h]
  case draw =>
    rintro cfg hcfg hdraws hdrawn harm hstop c rfl
    refine ⟨fun hc => by rw [tokenDraw_of_unread hcfg hdraws hdrawn harm hstop hc], fun cb hc => ⟨?_, ?_, ?_⟩⟩
    · exact fun r hk hi => by rw [tokenDraw_of_kept hcfg hdraws hdrawn harm hstop hc hk hi]
    · exact fun r hk hr => by rw [tokenDraw_of_recorded hcfg hdraws hdrawn harm hstop hc hk hr]
    · rintro hk hr rows rfl
      exact ⟨fun hd => by rw [tokenDraw_of_no_token hcfg hdraws hdrawn harm hstop hc hk hr hd],
        fun t cs hd => ⟨drawnRec (getStream slot s) cb t cs (roundNow s),
          by rw [tokenDraw_of_token hcfg hdraws hdrawn harm hstop hc hk hr hd], rfl, rfl, alts_drawnRec .., rfl⟩⟩
  case unheld => exact fun h => ⟨by rw [drawReleased_of_none h], by rw [drawReleased_of_none h]⟩
  case held => exact fun r h => ⟨by rw [drawReleased_of_some h]; rfl, by rw [drawReleased_of_some h]; rfl⟩

end Sys2Proof.Machine
end

section
/-!
PROOFS. Number formats (chapter 02): an element's value converts back to its code.
-/

namespace Sys2Proof.Machine

/-! Rounding to units that divide the value (R42). -/

theorem roundUnits_self (r : Rnd) (u m : Nat) (e : Int) : roundUnits r u m e e = m := by
  simp [roundUnits]

theorem sig_natAbs (i : Int) : sig (i < 0) i.natAbs = i := by
  unfold sig
  by_cases h : i < 0
  · rw [if_pos (decide_eq_true h)]; omega
  · rw [if_neg (by simpa using h)]; omega

/-! The fields of a float's code: sign, exponent, mantissa (R28). -/

section
variable {f : Fmt} {mb bias eb w m : Nat}

theorem mod_pow_add_eq_fields (mb eb w : Nat) : w % 2 ^ (mb + eb) = (w >>> mb % 2 ^ eb) * 2 ^ mb + w % 2 ^ mb := by
  rw [Nat.pow_add, Nat.mod_mul, Nat.shiftRight_eq_div_pow, Nat.mul_comm, Nat.add_comm]

theorem sign_add_magnitude {k : Nat} (hw : w < 2 ^ (k + 1)) :
    (if (w >>> k % 2 == 1) = true then 2 ^ k else 0) + w % 2 ^ k = w := by
  rw [Nat.shiftRight_eq_div_pow]
  have hq : w / 2 ^ k < 2 := Nat.div_lt_of_lt_mul (by rwa [← Nat.pow_succ])
  have hd := Nat.div_add_mod w (2 ^ k)
  interval_cases hk : w / 2 ^ k <;> simp at hd ⊢ <;> exact hd

/-- The smallest exponent of a float format is the unit of every significand below 2^(mantissa width) that stands there. -/
theorem ulpExp_subnormal (hm : m < 2 ^ mb) (h0 : m ≠ 0) : ulpExp mb bias m (1 - (bias : Int) - mb) = 1 - (bias : Int) - mb := by
  have hlog : Nat.log2 m < mb := (Nat.log2_lt h0).2 hm
  unfold ulpExp
  omega

theorem ulpExp_normal {x : Nat} (hm : m < 2 ^ mb) (hx : x ≠ 0) :
    ulpExp mb bias (2 ^ mb + m) ((x : Int) - bias - mb) = (x : Int) - bias - mb := by
  have hlog : Nat.log2 (2 ^ mb + m) = mb := (Nat.log2_eq_iff (by omega)).2 ⟨by omega, by omega⟩
  unfold ulpExp
  omega

theorem packUnits_subnormal : packUnits mb bias m (1 - (bias : Int) - mb) = m := by
  simp [packUnits]

theorem packUnits_normal {x : Nat} (hx : x ≠ 0) : packUnits mb bias (2 ^ mb + m) ((x : Int) - bias - mb) = x * 2 ^ mb + m := by
  obtain ⟨y, rfl⟩ := Nat.exists_eq_succ_of_ne_zero hx
  have hq : ((y.succ : Int) - bias - mb - (1 - (bias : Int) - mb)).toNat = y := by omega
  rw [packUnits, hq, Nat.shiftLeft_eq, Nat.succ_mul]
  omega

/-- The ways to read a finite value from a float's code: neither the code of an infinity or NaN, it is a subnormal (exponent field 0)
or a normal number. -/
theorem decodeFloat_finite {n : Bool} {e : Int} (h : decodeFloat f mb bias eb w = .fin n m e) :
    (fmtHasInf f && w >>> mb % 2 ^ eb == 2 ^ eb - 1) = false ∧ (f == .e4m3 && w % 128 == 127) = false ∧
      n = (w >>> (mb + eb) % 2 == 1) ∧
      (w >>> mb % 2 ^ eb = 0 ∧ m = w % 2 ^ mb ∧ e = 1 - (bias : Int) - mb ∨
        w >>> mb % 2 ^ eb ≠ 0 ∧ m = 2 ^ mb + w % 2 ^ mb ∧ e = (w >>> mb % 2 ^ eb : Nat) - (bias : Int) - mb) := by
  simp only [decodeFloat] at h
  split at h
  · split at h <;> cases h
  · next hinf =>
    split at h
    · cases h
    · next hnan =>
      refine ⟨Bool.eq_false_of_not_eq_true hinf, Bool.eq_false_of_not_eq_true hnan, ?_⟩
      split at h
      · next hx => cases h; exact ⟨rfl, .inl ⟨eq_of_beq hx, rfl, rfl⟩⟩
      · next hx => cases h; exact ⟨rfl, .inr ⟨fun h0 => hx (beq_of_eq h0), rfl, rfl⟩⟩

/-- A finite value read from a float's code packs, in its own unit, to the code's bits below the sign. -/
theorem packUnits_of_decodeFloat {n : Bool} {e : Int} (h : decodeFloat f mb bias eb w = .fin n m e) :
    (m = 0 → w % 2 ^ (mb + eb) = 0) ∧ (m ≠ 0 → ulpExp mb bias m e = e ∧ packUnits mb bias m e = w % 2 ^ (mb + eb)) := by
  have hman : w % 2 ^ mb < 2 ^ mb := Nat.mod_lt _ (by positivity)
  obtain ⟨_, _, _, ⟨hx, rfl, rfl⟩ | ⟨hx, rfl, rfl⟩⟩ := decodeFloat_finite h
  · rw [mod_pow_add_eq_fields, hx, Nat.zero_mul, Nat.zero_add]
    exact ⟨id, fun h0 => ⟨ulpExp_subnormal hman h0, packUnits_subnormal⟩⟩
  · rw [mod_pow_add_eq_fields]
    exact ⟨fun h0 => absurd h0 (by have := Nat.two_pow_pos mb; omega), fun _ => ⟨ulpExp_normal hman hx, packUnits_normal hx⟩⟩

/-- No code above the largest finite magnitude stands for a finite value (R28): the numbers of each format. -/
theorem magnitude_le_fmtMaxBits {n : Bool} {e : Int} (hf : fmtShape f = some (mb, bias, eb))
    (h : decodeFloat f mb bias eb w = .fin n m e) : w % 2 ^ (mb + eb) ≤ fmtMaxBits f := by
  obtain ⟨hinf, hnan, _⟩ := decodeFloat_finite h
  rw [Nat.shiftRight_eq_div_pow] at hinf
  cases f <;> cases hf <;> simp [fmtHasInf, fmtMaxBits] at hinf hnan ⊢ <;> omega

end

/-! Conversion of a value that the format represents (R42, R43). -/

section
variable (r : Rnd) (sat : Bool) (u : Nat)

theorem convert_finite_of_float {f : Fmt} {mb bias eb : Nat} (hf : fmtShape f = some (mb, bias, eb)) {n : Bool} {m : Nat} {e : Int}
    (hq : m ≠ 0 → ulpExp mb bias m e = e ∧ packUnits mb bias m e ≤ fmtMaxBits f) :
    convert f r sat u (.fin n m e) =
      ((if n = true then 2 ^ (mb + eb) else 0) + (if m = 0 then 0 else packUnits mb bias m e), {}) := by
  by_cases h0 : m = 0
  · simp [convert, hf, h0]
  · obtain ⟨hu, hmax⟩ := hq h0
    simp [convert, hf, h0, hu, roundUnits_self, hmax]

theorem convert_decodeFloat {f : Fmt} {mb bias eb w : Nat} (hf : fmtShape f = some (mb, bias, eb)) (hw : w < 2 ^ (mb + eb + 1))
    (hfin : ∃ n m e, decodeFloat f mb bias eb w = .fin n m e) :
    convert f r sat u (decodeFloat f mb bias eb w) = (w, {}) := by
  obtain ⟨n, m, e, h⟩ := hfin
  obtain ⟨_, _, hn, _⟩ := decodeFloat_finite h
  obtain ⟨hz, hp⟩ := packUnits_of_decodeFloat h
  have hmax := magnitude_le_fmtMaxBits hf h
  have hmag : (if m = 0 then 0 else packUnits mb bias m e) = w % 2 ^ (mb + eb) := by
    split
    · next h0 => exact (hz h0).symm
    · next h0 => exact (hp h0).2
  rw [h, convert_finite_of_float r sat u hf fun h0 => ⟨(hp h0).1, (hp h0).2 ▸ hmax⟩, hmag, hn, sign_add_magnitude hw]

theorem convert_int8_ofInt {i : Int} (hlo : -128 ≤ i) (hhi : i ≤ 127) : convert .int8 r sat u (ofInt i) = ((i % 256).toNat, {}) := by
  simp [convert, fmtShape, ofInt, roundUnits_self, sig_natAbs, hlo.not_gt, hhi.not_gt]

theorem convert_int4_ofInt {i : Int} (hlo : -8 ≤ i) (hhi : i ≤ 7) : convert .int4 r sat u (ofInt i) = ((i % 16).toNat, {}) := by
  simp [convert, fmtShape, ofInt, roundUnits_self, sig_natAbs, hlo.not_gt, hhi.not_gt]

theorem convert_t158_ofInt {i : Int} (hlo : -1 ≤ i) (hhi : i ≤ 1) : convert .t158 r sat u (ofInt i) = ((i + 1).toNat, {}) := by
  simp [convert, fmtShape, ofInt, roundUnits_self, sig_natAbs, hlo.not_gt, hhi.not_gt]

end

/-- The bits of a float element are its sign, exponent and mantissa. -/
theorem fmtBits_of_fmtShape {f : Fmt} {mb bias eb : Nat} (hf : fmtShape f = some (mb, bias, eb)) :
    fmtBits f = mb + eb + 1 ∧ f ≠ .t158 := by
  cases f <;> cases hf <;> decide

/-! Two's complement (R31). -/

theorem toSigned_of_lt {b w : Nat} (hw : w < 2 ^ b) : toSigned b w = if w < 2 ^ (b - 1) then (w : Int) else (w : Int) - 2 ^ b := by
  have hz : (w : Int) % 2 ^ b = w := Int.emod_eq_of_lt (by omega) (by exact_mod_cast hw)
  rw [toSigned, Nat.mod_eq_of_lt hw, hz]

theorem toSigned_range {b w : Nat} (hw : w < 2 ^ (b + 1)) :
    -2 ^ b ≤ toSigned (b + 1) w ∧ toSigned (b + 1) w ≤ 2 ^ b - 1 ∧ (toSigned (b + 1) w % 2 ^ (b + 1)).toNat = w := by
  rw [toSigned_of_lt hw, Nat.add_sub_cancel]
  have hc : ((2 ^ b : Nat) : Int) = 2 ^ b := by push_cast; rfl
  rw [pow_succ] at hw ⊢
  split
  · exact ⟨by omega, by omega, by rw [Int.emod_eq_of_lt] <;> omega⟩
  · exact ⟨by omega, by omega, by rw [Int.sub_emod_right, Int.emod_eq_of_lt] <;> omega⟩

/-- Settles O15: a float's code is its sign, and a magnitude in the very units that conversion picks for it
(`packUnits_of_decodeFloat`); an integer's code lies within the limits of the format. -/
theorem representableUnchanged : Obligations.RepresentableUnchanged := by
  intro f r sat u w hw hfin
  cases hf : fmtShape f with
  | some shape =>
    obtain ⟨mb, bias, eb⟩ := shape
    obtain ⟨hbits, hne⟩ := fmtBits_of_fmtShape hf
    rw [if_neg hne, hbits] at hw
    simp only [decodeElem, hf] at hfin ⊢
    exact convert_decodeFloat r sat u hf hw hfin
  | none =>
    cases f with
    | int8 =>
      obtain ⟨hlo, hhi, hmod⟩ := toSigned_range (b := 7) hw
      exact (convert_int8_ofInt r sat u hlo hhi).trans (Prod.ext hmod rfl)
    | int4 =>
      obtain ⟨hlo, hhi, hmod⟩ := toSigned_range (b := 3) hw
      exact (convert_int4_ofInt r sat u hlo hhi).trans (Prod.ext hmod rfl)
    | t158 =>
      have hw3 : w < 3 := hw
      exact (convert_t158_ofInt r sat u (by omega) (by omega)).trans (Prod.ext (by dsimp only; omega) rfl)
    | _ => cases hf

end Sys2Proof.Machine
end

section
/-!
PROOFS. Scales (R34, R35): what an E8M0 and a fine scale stand for, and what they make of an element.
-/

namespace Sys2Proof.Machine

theorem decodeScale_e8m0_of_ne {x : Nat} (h : x ≠ 255) : decodeScale .e8m0 x = .fin false 1 ((x : Int) - 127) := by
  simp [decodeScale, h]

/-- E4M3 has no infinity (R28). -/
theorem decodeScale_fine_ne_inf (b : Nat) (n : Bool) : decodeScale .fine b ≠ .inf n := by
  change decodeFloat .e4m3 3 7 4 b ≠ .inf n
  simp only [decodeFloat, fmtHasInf, Bool.false_and, Bool.false_eq_true, if_false]
  split
  · exact nofun
  · split <;> exact nofun

theorem isZero_iff {v : Val} : isZero v = true ↔ ∃ n e, v = .fin n 0 e := by
  constructor
  · intro h
    match v, h with
    | .fin n 0 e, _ => exact ⟨n, e, rfl⟩
  · rintro ⟨n, e, rfl⟩
    rfl

theorem isNan_iff {v : Val} : isNan v = true ↔ v = .nan := by
  cases v <;> simp [isNan]

theorem vmul_nan (v : Val) : vmul v .nan = .nan := by
  cases v <;> rfl

/-- A negative fine scale is a negative finite value. -/
theorem decodeScale_fine_negative {b : Nat} (h : isNeg (decodeScale .fine b) = true) :
    ∃ m e, decodeScale .fine b = .fin true m e := by
  cases hv : decodeScale .fine b with
  | fin n m e =>
    rw [hv] at h
    exact ⟨m, e, congrArg (Val.fin · m e) h⟩
  | inf n => exact absurd hv (decodeScale_fine_ne_inf b n)
  | nan => rw [hv] at h; cases h

/-- Settles O17: every code but 0xFF is a power of two, and a fine scale is an E4M3 value, which is no infinity. -/
theorem scaleValues : Obligations.ScaleValues := by
  refine ⟨fun x hx => decodeScale_e8m0_of_ne (by omega), rfl, ?e8m0, rfl, rfl, fun _ _ => rfl, ?zero, ?negative, ?nan⟩
  case e8m0 =>
    intro x _
    by_cases h : x = 255
    · subst h; exact ⟨rfl, rfl, fun _ => nofun⟩
    · rw [decodeScale_e8m0_of_ne h]; exact ⟨rfl, rfl, fun _ => nofun⟩
  case zero =>
    rintro b _ hz ⟨n, m, e, rfl⟩
    obtain ⟨k, f, hb⟩ := isZero_iff.1 hz
    rw [hb]
    exact isZero_iff.2 ⟨n != k, e + f, rfl⟩
  case negative =>
    intro b n m e _ hneg
    obtain ⟨k, f, hb⟩ := decodeScale_fine_negative hneg
    rw [hb]
    exact Bool.bne_true n
  case nan =>
    intro b v hb
    rw [isNan_iff.1 hb, vmul_nan]

end Sys2Proof.Machine
end

section
/-!
PROOFS. T158 regions (R32): a packed region is the base-256 number of its bytes, each the base-3 number of five digits.
-/

namespace Sys2Proof.Machine

/-- Reading digit i of a number written in base b. -/
theorem ofDigits_div_pow_mod {b : Nat} {L : List Nat} (hb : 0 < b) (hL : ∀ x ∈ L, x < b) (i : Nat) :
    Nat.ofDigits b L / b ^ i % b = L.getD i 0 := by
  rw [Nat.ofDigits_div_pow_eq_ofDigits_drop i hb L hL]
  by_cases hi : i < L.length
  · have hx : L[i] < b := hL _ (List.getElem_mem hi)
    rw [List.drop_eq_getElem_cons hi, Nat.ofDigits_cons, Nat.add_mul_mod_self_left, Nat.mod_eq_of_lt hx, List.getD_eq_getElem _ _ hi]
  · rw [List.drop_of_length_le (by omega), List.getD_eq_default _ _ (by omega)]
    exact Nat.zero_mod b

/-- The bytes of whole groups of five digits. -/
def tritBytes : List Nat → List Nat
  | a :: b :: c :: d :: e :: ys => Nat.ofDigits 3 [a, b, c, d, e] :: tritBytes ys
  | _ => []

/-- Induction over the groups of five of a list. -/
theorem groupInduction {P : (ys : List Nat) → 5 ∣ ys.length → Prop} (nil : P [] (Nat.dvd_zero 5))
    (group : ∀ a b c d e ys h h', P ys h → P (a :: b :: c :: d :: e :: ys) h') : ∀ ys h, P ys h
  | [], _ => nil
  | [_], h | [_, _], h | [_, _, _], h | [_, _, _, _], h => absurd h (by simp only [List.length_cons, List.length_nil]; decide)
  | a :: b :: c :: d :: e :: ys, h =>
    have h5 : 5 ∣ ys.length := (Nat.dvd_add_left (Nat.dvd_refl 5)).1 h
    group a b c d e ys h5 h (groupInduction nil group ys h5)

theorem length_tritBytes {ys : List Nat} (h5 : 5 ∣ ys.length) : 5 * (tritBytes ys).length = ys.length := by
  induction ys, h5 using groupInduction with
  | nil => rfl
  | group a b c d e ys _ _ ih =>
    simp only [tritBytes, List.length_cons]
    omega

theorem tritBytes_le {ys : List Nat} (h5 : 5 ∣ ys.length) (hy : ∀ y ∈ ys, y < 3) : ∀ x ∈ tritBytes ys, x ≤ 242 := by
  induction ys, h5 using groupInduction with
  | nil => exact fun x hx => nomatch hx
  | group a b c d e ys _ _ ih =>
    obtain ⟨hd, hy'⟩ := List.forall_mem_append (l₁ := [a, b, c, d, e]).1 hy
    have hb : Nat.ofDigits 3 [a, b, c, d, e] < 3 ^ 5 := Nat.ofDigits_lt_base_pow_length (by decide) hd
    exact List.forall_mem_cons.2 ⟨by omega, ih hy'⟩

/-- Digit i of whole groups stands at place i % 5 of byte i / 5. -/
theorem tritBytes_digit {ys : List Nat} (h5 : 5 ∣ ys.length) (hy : ∀ y ∈ ys, y < 3) (i : Nat) :
    (tritBytes ys).getD (i / 5) 0 / 3 ^ (i % 5) % 3 = ys.getD i 0 := by
  induction ys, h5 using groupInduction generalizing i with
  | nil => simp [tritBytes]
  | group a b c d e ys _ _ ih =>
    obtain ⟨hd, hy'⟩ := List.forall_mem_append (l₁ := [a, b, c, d, e]).1 hy
    rcases Nat.lt_or_ge i 5 with hi | hi
    · rw [Nat.div_eq_of_lt hi, Nat.mod_eq_of_lt hi]
      exact (ofDigits_div_pow_mod (by decide) hd i).trans (List.getD_append [a, b, c, d, e] ys 0 i hi).symm
    · obtain ⟨j, rfl⟩ := Nat.exists_eq_add_of_le' hi
      rw [Nat.add_div_right _ (by decide), Nat.add_mod_right]
      exact ih hy' j

/-- The packing sum over digits at places from 5 * m on is the number of their bytes, m bytes up. -/
theorem foldl_places_eq_ofDigits {ys : List Nat} (h5 : 5 ∣ ys.length) (m acc : Nat) :
    (ys.zipIdx (5 * m)).foldl (fun a p => a + p.1 * 3 ^ (p.2 % 5) * 256 ^ (p.2 / 5)) acc =
      acc + 256 ^ m * Nat.ofDigits 256 (tritBytes ys) := by
  induction ys, h5 using groupInduction generalizing m acc with
  | nil => simp [tritBytes]
  | group a b c d e ys _ _ ih =>
    simp only [List.zipIdx_cons, List.foldl_cons, tritBytes, Nat.ofDigits_cons, Nat.ofDigits_nil, Nat.add_assoc, Nat.reduceAdd,
      Nat.mul_add_mod, Nat.mul_add_div (show 0 < 5 by decide)]
    rw [show 5 * m + 5 = 5 * (m + 1) from rfl, ih]
    have h0 : 5 * m % 5 = 0 := Nat.mul_mod_right 5 m
    have h1 : 5 * m / 5 = m := Nat.mul_div_cancel_left m (by decide)
    simp only [h0, h1]
    ring

/-! A region: its digits, filled up to whole bytes. -/

/-- The digits of a region, its last byte filled with digit 1. -/
def padTrits (xs : List Nat) : List Nat := xs ++ List.replicate (5 * ceilDiv xs.length 5 - xs.length) 1

theorem length_padTrits (xs : List Nat) : (padTrits xs).length = 5 * ceilDiv xs.length 5 := by
  simp only [padTrits, ceilDiv, List.length_append, List.length_replicate]
  omega

theorem dvd_length_padTrits (xs : List Nat) : 5 ∣ (padTrits xs).length := ⟨_, length_padTrits xs⟩

theorem getD_padTrits_of_lt {xs : List Nat} {i : Nat} (hi : i < xs.length) : (padTrits xs).getD i 0 = xs.getD i 0 :=
  List.getD_append _ _ _ _ hi

theorem getD_padTrits_of_ge {xs : List Nat} {i : Nat} (h : xs.length ≤ i) (hi : i < 5 * ceilDiv xs.length 5) :
    (padTrits xs).getD i 0 = 1 := by
  rw [padTrits, List.getD_append_right _ _ _ _ h, List.getD_replicate _ (by omega)]

theorem packElems_t158 (xs : List Nat) : packElems .t158 xs = Nat.ofDigits 256 (tritBytes (padTrits xs)) :=
  (foldl_places_eq_ofDigits (dvd_length_padTrits xs) 0 0).trans (by simp)

theorem elemBits_t158_of_lt {reg i : Nat} (h : reg / 256 ^ (i / 5) % 256 < 243) :
    elemBits .t158 reg i = (reg / 256 ^ (i / 5) % 256 / 3 ^ (i % 5) % 3, false) := by
  have hb : reg >>> (8 * (i / 5)) = reg / 256 ^ (i / 5) := by rw [Nat.shiftRight_eq_div_pow, Nat.pow_mul]
  simp only [elemBits, hb]
  rw [if_neg (Nat.not_le.2 h)]

section
variable {xs : List Nat} (hx : ∀ x ∈ xs, x < 3)
include hx

theorem padTrits_lt : ∀ y ∈ padTrits xs, y < 3 :=
  List.forall_mem_append.2 ⟨hx, fun _ h => by rw [List.eq_of_mem_replicate h]; decide⟩

theorem tritBytes_padTrits_lt : ∀ x ∈ tritBytes (padTrits xs), x < 256 :=
  fun x h => Nat.lt_of_le_of_lt (tritBytes_le (dvd_length_padTrits xs) (padTrits_lt hx) x h) (by decide)

theorem packElems_t158_byte (j : Nat) : packElems .t158 xs / 256 ^ j % 256 = (tritBytes (padTrits xs)).getD j 0 := by
  rw [packElems_t158]
  exact ofDigits_div_pow_mod (by decide) (tritBytes_padTrits_lt hx) j

theorem packElems_t158_byte_le (j : Nat) : packElems .t158 xs / 256 ^ j % 256 ≤ 242 := by
  rw [packElems_t158_byte hx]
  by_cases hj : j < (tritBytes (padTrits xs)).length
  · rw [List.getD_eq_getElem _ _ hj]
    exact tritBytes_le (dvd_length_padTrits xs) (padTrits_lt hx) _ (List.getElem_mem hj)
  · rw [List.getD_eq_default _ _ (Nat.le_of_not_lt hj)]
    decide

theorem elemBits_packElems_t158 (i : Nat) : elemBits .t158 (packElems .t158 xs) i = ((padTrits xs).getD i 0, false) := by
  rw [elemBits_t158_of_lt (Nat.lt_succ_of_le (packElems_t158_byte_le hx _)), packElems_t158_byte hx,
    tritBytes_digit (dvd_length_padTrits xs) (padTrits_lt hx)]

theorem packElems_t158_lt : packElems .t158 xs < 256 ^ regionBytes .t158 xs.length := by
  have hlen : (tritBytes (padTrits xs)).length = ceilDiv xs.length 5 := by
    have := length_tritBytes (dvd_length_padTrits xs)
    have := length_padTrits xs
    omega
  rw [packElems_t158, regionBytes, ← hlen]
  exact Nat.ofDigits_lt_base_pow_length (by decide) (tritBytes_padTrits_lt hx)

end

/-- Settles O16: the region is the number of its bytes (`packElems_t158`), and each byte the number of its five digits
(`tritBytes_digit`). -/
theorem ternaryPacking : Obligations.TernaryPacking := by
  refine ⟨⟨by decide, by decide, by decide⟩, fun _ => rfl, by decide, fun xs hx => ⟨fun i hi => ?_, fun i hge hi => ?_, ?_, ?_⟩,
    fun reg i => ?_⟩
  · rw [elemBits_packElems_t158 hx, getD_padTrits_of_lt hi]
  · rw [elemBits_packElems_t158 hx, getD_padTrits_of_ge hge hi]
  · exact packElems_t158_byte_le hx
  · exact packElems_t158_lt hx
  · exact (Nat.lt_or_ge _ 243).symm.imp_right elemBits_t158_of_lt

end Sys2Proof.Machine
end

section
/-!
PROOFS. Releases of waiting cores (R104, R109), the trap of a blocked drain (R70, R111), and writes of the generator registers (R45).
-/

namespace Sys2Proof.Machine

/-! States that differ in one core. -/

theorem OnlyCore.trans {g : Nat} {s t u : State} (a : OnlyCore g s t) (b : OnlyCore g t u) : OnlyCore g s u := by
  obtain ⟨⟨c, rfl⟩, ha⟩ := a
  obtain ⟨⟨c', rfl⟩, hb⟩ := b
  exact ⟨⟨c', rfl⟩, fun h hne => (hb h hne).trans (ha h hne)⟩

theorem onlyCore_updCore (g : Nat) (f : Core → Core) (s : State) : OnlyCore g s (updCore g f s) :=
  ⟨⟨_, rfl⟩, fun h hne => by rw [getCore_updCore, if_neg hne]⟩

theorem onlyCore_advance (g : Nat) (s : State) : OnlyCore g s (advance g s) := onlyCore_updCore ..

@[simp] theorem getCore_advance_same (g : Nat) (s : State) : getCore g (advance g s) = advanceFrom (getCore g s).pc (getCore g s) :=
  getCore_updCore_same ..

/-! Releases. -/

/-- The site that releases of a core come from: its district's home, or its own site in no district. -/
def releaseHome (g : Nat) (s : State) : Nat :=
  match coreDistrict g s with
  | some d => rd .distCfgHome d s
  | none => siteOf g

section
variable {g : Nat} {s : State}

theorem releaseBarrier_of_path (hst : stalled g s = false) (hr : (getCore g s).releasing = true) (hw : (getCore g s).st = .barrierWait)
    (hp : pathOpen (releaseHome g s) (siteOf g) s = true ∨ drains (getCore g s).relSent s = true) :
    releaseBarrier g s = advance g (updCore g (fun c => { c with releasing := false, arrived := none }) s) :=
  if_pos ⟨by rw [hst]; rfl, hr, hw, hp⟩

theorem releaseStep_of_path (hst : stalled g s = false) (hr : (getCore g s).rel = true)
    (hp : pathOpen (releaseHome g s) (siteOf g) s = true ∨ drains (getCore g s).stepSent s = true) :
    releaseStep g s =
      if goState (getCore g s).st then updCore g (fun c => { c with rel := false }) s
      else wake g (updCore g (fun c => { c with rel := false, held := true }) s) := by
  refine if_neg ?_
  change ¬ (!(getCore g s).rel || stalled g s || !(pathOpen (releaseHome g s) (siteOf g) s || drains (getCore g s).stepSent s)) = true
  rw [hr, hst, Bool.or_eq_true_iff.2 hp]
  decide

theorem releaseRound_of_wait {w : Nat} (hw : (getCore g s).wait = some w) (hst : (getCore g s).st = .roundWait) (hs : stalled g s = false)
    (hop : bits w 56 8 = 0x0B) (ht : bits w 31 1 = 0 ∨ (getCore g s).took = true) :
    releaseRound g s = advance g (updCore g (fun c => { c with took := false }) s) := by
  simp only [releaseRound, hw]
  exact if_pos ⟨hst, by rw [hs]; rfl, hop, ht⟩

/-! A blocked drain. -/

theorem tileDeadlock_of_blocked {q : Queued} (hd : (getCore g s).drain = some q) (hf : 8 ≤ (getCore g s).tiles.length)
    (hgo : goState (getCore g s).st = false) (hq : ((getCore g s).vq.any fun v => vQa v.word) = false) :
    tileDeadlock g s = trap g 1 0x0B q.pc (getCore g s).pc 0 0 q.word s := by
  simp only [tileDeadlock, hd]
  exact if_pos ⟨hf, by rw [hgo]; rfl, by rw [hq]; rfl⟩

end

section
variable (g cls cause pc next line ch word : Nat) (s : State)

theorem st_trap : (getCore g (trap g cls cause pc next line ch word s)).st = .trapped := by
  obtain ⟨_, _, hcore⟩ := onlyReleasing_barrierChecks g _
  obtain ⟨b, v, hb⟩ := hcore g
  rw [trap, hb, getCore_updCore_same]

/-- The fields of CORE.TRAP and CORE.TRAP_INSN as a trap writes them (R111). -/
def trapWrites : State :=
  wr .coreTrapClass g cls (wr .coreTrapCause g cause (wr .coreTrapPc g pc (wr .coreTrapNextPc g next
    (wr .coreTrapLine g line (wr .coreTrapCh g ch (wr .coreTrapInsnWord g word s))))))

theorem rd_trap {f : Reg} (i : Nat) (hf : f ≠ .netStatusUnreach) :
    rd f i (trap g cls cause pc next line ch word s) = rd f i (trapWrites g cls cause pc next line ch word s) := by
  obtain ⟨_, hrd, _⟩ := onlyReleasing_barrierChecks g _
  exact (hrd f i hf).trans rfl

/-- What a trap's record reads, each value fitting its field. -/
theorem rd_trap_record (hcls : cls < 2 ^ 3) (hcause : cause < 2 ^ 8) (hpc : pc < 2 ^ 13) (hword : word < 2 ^ 64) :
    rd .coreTrapClass g (trap g cls cause pc next line ch word s) = cls ∧
      rd .coreTrapCause g (trap g cls cause pc next line ch word s) = cause ∧
      rd .coreTrapPc g (trap g cls cause pc next line ch word s) = pc ∧
      rd .coreTrapInsnWord g (trap g cls cause pc next line ch word s) = word := by
  simp only [rd_trap, ne_eq, reduceCtorEq, not_false_eq_true, trapWrites, rd_wr, false_and, if_false, and_self, if_true]
  exact ⟨Nat.mod_eq_of_lt hcls, Nat.mod_eq_of_lt hcause, Nat.mod_eq_of_lt hpc, Nat.mod_eq_of_lt hword⟩

end

/-! Writes of the generator registers. -/

theorem blockWrite_core_of_free {g : Nat} {s : State} (act : State → State) (h : bit .corePostBusy g s = false) :
    blockWrite .core g act s = act s :=
  if_neg (by rw [h]; decide)

theorem blockWrite_core_of_busy {g : Nat} {s : State} (act : State → State) (h : bit .corePostBusy g s = true) :
    blockWrite .core g act s = flag .corePostOverrun g s :=
  if_pos h

/-- The register that a held write is for: the seed, or the counter. -/
def srReg (seed : Bool) : Reg := if seed then .coreSrSeed else .coreSrCtr

theorem srReg_inj {a b : Bool} : srReg a = srReg b ↔ a = b := by
  cases a <;> cases b <;> decide

theorem srReg_width (b : Bool) : (regInfo (srReg b)).w = 64 := by
  cases b <;> rfl

/-- Held writes made in order. -/
def srWrites (g : Nat) (l : List (Bool × Word64)) (s : State) : State := l.foldl (fun u p => wr (srReg p.1) g p.2.toNat u) s

theorem applySr_eq (g : Nat) (s : State) :
    applySr g s = setCore g { getCore g s with srHeld := [] } (srWrites g (getCore g s).srHeld s) := rfl

theorem srWrites_concat (g : Nat) (l : List (Bool × Word64)) (p : Bool × Word64) (s : State) :
    srWrites g (l ++ [p]) s = wr (srReg p.1) g p.2.toNat (srWrites g l s) := List.foldl_append

/-- Held writes change nothing but registers. -/
theorem srWrites_regs (g : Nat) (l : List (Bool × Word64)) (s : State) : ∃ r, srWrites g l s = { s with regs := r } := by
  induction l using List.reverseRecOn with
  | nil => exact ⟨_, rfl⟩
  | append_singleton l p ih =>
    obtain ⟨r, hr⟩ := ih
    rw [srWrites_concat, hr]
    exact ⟨_, rfl⟩

theorem rd_srWrites_other {g : Nat} {f : Reg} {i : Nat} (l : List (Bool × Word64)) (s : State)
    (h : (f ≠ .coreSrSeed ∧ f ≠ .coreSrCtr) ∨ i ≠ g) : rd f i (srWrites g l s) = rd f i s := by
  have hf : ∀ b, ¬ (f = srReg b ∧ i = g) := by
    rintro b ⟨rfl, rfl⟩
    cases b <;> simp [srReg] at h
  induction l using List.reverseRecOn with
  | nil => rfl
  | append_singleton l p ih => rw [srWrites_concat, rd_wr, if_neg (hf p.1), ih]

/-- The last held write of a register is the one that stays. -/
theorem rd_srWrites (g : Nat) (b : Bool) (l : List (Bool × Word64)) (s : State) :
    rd (srReg b) g (srWrites g l s) =
      ((l.filter fun p => p.1 == b).getLast?).elim (rd (srReg b) g s) fun p => p.2.toNat := by
  induction l using List.reverseRecOn with
  | nil => rfl
  | append_singleton l p ih =>
    obtain ⟨c, v⟩ := p
    rw [srWrites_concat, rd_wr, List.filter_append]
    by_cases h : c = b
    · subst h
      have hv : v.toNat % 2 ^ (regInfo (srReg c)).w = v.toNat := by rw [srReg_width]; exact Nat.mod_eq_of_lt v.isLt
      simp [hv]
    · have hne : ¬ (srReg b = srReg c ∧ g = g) := fun x => h (srReg_inj.1 x.1).symm
      rw [if_neg hne, ih]
      simp [h]

/-- Settles O23: each release and the trap by its own lemma above; of the held writes the last of each register stays
(`rd_srWrites`). -/
theorem releasesAndHeldWrites : Obligations.ReleasesAndHeldWrites := by
  refine ⟨fun g s => ?releases, fun g v s => ⟨?held, ?busy, ?effect⟩⟩
  case releases =>
    intro path
    refine ⟨?barrier, ?step, ?round, ?deadlock⟩
    case barrier =>
      intro hst hr hw hp
      refine ⟨_, congrArg Host.Outcome.next (releaseBarrier_of_path hst hr hw hp),
        (onlyCore_updCore _ _ s).trans (onlyCore_advance _ _), ?_⟩
      simp only [getCore_advance_same, getCore_updCore_same]
      exact ⟨rfl, rfl, rfl, rfl, rfl, rfl⟩
    case step =>
      intro hst hr hp
      exact ⟨fun hgo => congrArg Host.Outcome.next ((releaseStep_of_path hst hr hp).trans (if_pos hgo)),
        fun hgo => congrArg Host.Outcome.next ((releaseStep_of_path hst hr hp).trans (if_neg (Bool.not_eq_true _ ▸ hgo)))⟩
    case round =>
      intro w hw hst hs hop ht
      refine ⟨_, congrArg Host.Outcome.next (releaseRound_of_wait hw hst hs hop ht),
        (onlyCore_updCore _ _ s).trans (onlyCore_advance _ _), ?_⟩
      simp only [getCore_advance_same, getCore_updCore_same]
      exact ⟨rfl, rfl, rfl, rfl, rfl⟩
    case deadlock =>
      intro q hd hf hgo hq hpc hword
      exact ⟨_, congrArg Host.Outcome.next (tileDeadlock_of_blocked hd hf hgo hq), rfl, st_trap ..,
        rd_trap_record _ _ _ _ _ _ _ _ _ (by decide) (by decide) hpc hword⟩
  case held =>
    intro h
    exact ⟨⟨_, congrArg Host.Outcome.next (blockWrite_core_of_free _ h), onlyCore_updCore .., getCore_updCore_same ..⟩,
      ⟨_, congrArg Host.Outcome.next (blockWrite_core_of_free _ h), onlyCore_updCore .., getCore_updCore_same ..⟩⟩
  case busy =>
    intro h
    exact ⟨congrArg Host.Outcome.next (blockWrite_core_of_busy _ h), congrArg Host.Outcome.next (blockWrite_core_of_busy _ h)⟩
  case effect =>
    refine ⟨applySr g s, rfl, ?_⟩
    rw [applySr_eq]
    obtain ⟨r, hr⟩ := srWrites_regs g (getCore g s).srHeld s
    refine ⟨getCore_setCore_same .., fun h hne => ?_, ?_, ?_, fun b => ?_, fun f i h => rd_srWrites_other _ s h⟩
    · rw [getCore_setCore, if_neg hne, hr]; rfl
    · rw [hr]; rfl
    · rw [hr]; rfl
    · refine (rd_srWrites g b (getCore g s).srHeld s).trans ?_
      cases ((getCore g s).srHeld.filter fun p => p.1 == b).getLast? <;> rfl

end Sys2Proof.Machine
end

section
/-!
PROOFS. Issue that does not happen, and the checks at issue that trap (R79, R84, R86, R88, R93, R108, R111, R113).
-/

namespace Sys2Proof.Machine

section
variable {f : Nat → Nat → State → State} {g w : Nat} {s : State}

theorem issue_eq_self (h : (getCore g s).st ≠ .running ∨ (getCore g s).wait ≠ none ∨ stalled g s = true) : issue f g w s = s :=
  if_pos h

section
variable (hst : (getCore g s).st = .running) (hw : (getCore g s).wait = none) (hs : stalled g s = false)
include hst hw hs

theorem issue_of_ready :
    issue f g w s =
      if 4 * rd .coreLetterLlen g s ≤ (getCore g s).pc then trapNow g 2 3 (rd .coreLetterLbase g s + (getCore g s).pc / 4) 0 w s
      else if linePoison g (rd .coreLetterLbase g s + (getCore g s).pc / 4) s then
        trapNow g 4 1 (rd .coreLetterLbase g s + (getCore g s).pc / 4) 0 w s
      else wake g (f g w s) := by
  have hready : ¬ ((getCore g s).st ≠ .running ∨ (getCore g s).wait ≠ none ∨ stalled g s = true) := by simp [hst, hw, hs]
  exact if_neg hready

theorem issue_past_letter (h : 4 * rd .coreLetterLlen g s ≤ (getCore g s).pc) :
    issue f g w s = trapNow g 2 3 (rd .coreLetterLbase g s + (getCore g s).pc / 4) 0 w s :=
  (issue_of_ready hst hw hs).trans (if_pos h)

theorem issue_poisoned_line (h : (getCore g s).pc < 4 * rd .coreLetterLlen g s)
    (hp : linePoison g (rd .coreLetterLbase g s + (getCore g s).pc / 4) s = true) :
    issue f g w s = trapNow g 4 1 (rd .coreLetterLbase g s + (getCore g s).pc / 4) 0 w s := by
  rw [issue_of_ready hst hw hs, if_neg (Nat.not_le.2 h), if_pos hp]

end

/-- An instruction whose effect is a branch on a check that holds takes that branch, and the units then move. -/
theorem issue_of_check {c : Prop} [Decidable c] {t : State} {u : State} (hi : CanIssue g s) (hf : f g w s = if c then t else u)
    (hc : c) : issue f g w s = wake g t := by
  rw [issue_can f g w s hi, hf, if_pos hc]

end

theorem issueMatrix_of_mCheck {g w cls cause line : Nat} {s : State} (h : mCheck g w s = some (cls, cause, line)) :
    issueMatrix g w s = trapNow g cls cause line 0 w s := by
  simp only [issueMatrix, h]

theorem issueVector_of_vCheck {g w cls cause line : Nat} {s : State} (h : vCheck g w (getCore g s).vcfg s = some (cls, cause, line)) :
    issueVector g w s = trapNow g cls cause line 0 w s := by
  unfold issueVector
  dsimp only
  rw [h]

/-- Settles O7: `issue` decides by the core's state and its letter before it looks at an effect, and every effect tests its own
checks first. -/
theorem checksTrap : Obligations.ChecksTrap := by
  refine ⟨fun f g w s => ⟨issue_eq_self, fun hst hw hs => ⟨issue_past_letter hst hw hs, issue_poisoned_line hst hw hs⟩⟩,
    fun g w s hi => ?reserved,
    fun g w op s => ⟨fun _ _ _ => issueMatrix_of_mCheck, fun _ _ _ => issueVector_of_vCheck,
      fun hi h => congrArg Host.Outcome.next (issue_of_check hi rfl h)⟩⟩
  case reserved =>
    refine ⟨?nop, ?halt, ?dmax, ?dwait, ?sig, ?swait, ?bar, ?loop, ?loopi, ?br, ?notice, ?rwait⟩
    case halt | sig | bar => exact fun h => congrArg (Host.Outcome.next ∘ settle) (issue_of_check hi rfl h)
    case br => exact fun h => congrArg Host.Outcome.next (issue_of_check hi rfl (.inl h))
    all_goals exact fun h => congrArg Host.Outcome.next (issue_of_check hi rfl h)

end Sys2Proof.Machine
end

section
/-!
PROOFS. One matrix instruction on idle units (R63 to R67, R75, R76): it issues, is queued, leaves the queue at once and takes its effect.
-/

namespace Sys2Proof.Machine

/-! A table key written twice. -/

section
variable {α : Type}

theorem terase_terase (t : Table α) (k : Nat) : terase k (terase k t) = terase k t := by
  induction t with
  | nil => rfl
  | cons p t ih =>
    obtain ⟨k', v'⟩ := p
    by_cases h : k' = k <;> simp [terase, h, ih]

theorem terase_tins (t : Table α) (k : Nat) (v : α) : terase k (tins k v t) = terase k t := by
  induction t with
  | nil => simp [tins, terase]
  | cons p t ih =>
    obtain ⟨k', v'⟩ := p
    rw [tins]
    split
    · simp [terase]
    · split
      · next h => simp [terase, h]
      · simp only [terase, ih]

theorem tins_tins (t : Table α) (k : Nat) (v v' : α) : tins k v (tins k v' t) = tins k v t := by
  induction t with
  | nil => simp [tins]
  | cons p t ih =>
    obtain ⟨k', x⟩ := p
    by_cases h : k < k'
    · simp [tins, h]
    · by_cases h' : k = k'
      · simp [tins, h']
      · simp [tins, h, h', ih]

/-- A key below every key of a table goes to its front. -/
theorem tins_of_below {t : Table α} {k : Nat} (v : α) (h : ∀ p ∈ t, k < p.1) : tins k v t = (k, v) :: t := by
  cases t with
  | nil => rfl
  | cons p t => exact if_pos (h p List.mem_cons_self)

theorem terase_of_below {t : Table α} {k : Nat} (h : ∀ p ∈ t, k < p.1) : terase k t = t := by
  induction t with
  | nil => rfl
  | cons p t ih =>
    obtain ⟨hp, ht⟩ := List.forall_mem_cons.1 h
    rw [terase, if_neg (Nat.ne_of_gt hp), ih ht]

/-- In a rising table a key that was erased goes back where it stood. -/
theorem tins_terase {t : Table α} (ht : Rising t) (k : Nat) (v : α) : tins k v (terase k t) = tins k v t := by
  induction t with
  | nil => rfl
  | cons p t ih =>
    obtain ⟨k', x⟩ := p
    have htail : ∀ q ∈ t, k' < q.1 := fun q hq => List.rel_of_pairwise_cons ht hq
    by_cases h : k' = k
    · subst h
      rw [terase, if_pos rfl, terase_of_below htail, tins_of_below v htail]
      simp [tins]
    · have htl : tins k v (terase k t) = tins k v t := ih ht.of_cons
      by_cases hlt : k < k'
      · have hbelow : ∀ q ∈ t, k < q.1 := fun q hq => Nat.lt_trans hlt (htail q hq)
        simp [terase, h, tins, hlt, terase_of_below hbelow]
      · simp [terase, h, tins, hlt, Ne.symm h, htl]

/-- In the canonical form the last write of a key is the only one that shows. -/
theorem tset_tset [DecidableEq α] {d : Nat → α} {t : Table α} (ht : twf d t = true) (k : Nat) (v v' : α) :
    tset d (tset d t k v') k v = tset d t k v := by
  have hr : Rising t := ((twf_iff d t).1 ht).1
  unfold tset
  by_cases hv : v = d k
  · rw [if_pos hv, if_pos hv]
    split
    · exact terase_terase t k
    · exact terase_tins t k v'
  · rw [if_neg hv, if_neg hv]
    split
    · exact tins_terase hr k v
    · exact tins_tins t k v v'

end

theorem setCore_setCore {g : Nat} {s : State} (h : CoresWf s) (c c' : Core) : setCore g c (setCore g c' s) = setCore g c s := by
  unfold setCore
  rw [tset_tset h]

/-! A core that rests: its units are idle and nothing waits at issue. -/

/-- Nothing of the core's letter is under way or waits: its units do nothing until it issues again. -/
def Resting (c : Core) : Prop := c.mq = [] ∧ c.vq = [] ∧ c.drain = none ∧ c.wait = none

theorem resting_iff {g : Nat} {s : State} : Resting (getCore g s) ↔ UnitsIdle g s ∧ (getCore g s).wait = none := by
  simp only [Resting, UnitsIdle, and_assoc]

theorem wake_of_resting {g : Nat} {s : State} (h : Resting (getCore g s)) : wake g s = s :=
  have ⟨hidle, hw⟩ := resting_iff.1 h
  wake_idle g s hidle hw

theorem runUnits_of_resting {g : Nat} {s : State} (h : Resting (getCore g s)) (k : Nat) : runUnits g k s = s := by
  obtain ⟨hmq, hvq, hdrain, _⟩ := h
  cases k with
  | zero => rfl
  | succ k => simp [runUnits, moveMatrix, moveVector, hmq, hvq, hdrain]

/-- A trap drops what is queued (R80, R112). -/
theorem resting_trap (g cls cause pc next line ch word : Nat) (s : State) :
    Resting (getCore g (trap g cls cause pc next line ch word s)) := by
  obtain ⟨_, _, hcore⟩ := onlyReleasing_barrierChecks g _
  obtain ⟨b, v, hb⟩ := hcore g
  rw [trap, hb, getCore_updCore_same]
  exact ⟨rfl, rfl, rfl, rfl⟩

/-! Flags and draws leave a core but for its held writes of the generator (R45, R46). -/

@[simp] theorem getCore_flagIf (g : Nat) (b : Bool) (f : Reg) (i : Nat) (s : State) : getCore g (flagIf b f i s) = getCore g s := by
  cases b <;> rfl

@[simp] theorem getCore_setFlags (g h : Nat) (f : NumFlags) (s : State) : getCore g (setFlags h f s) = getCore g s := by
  simp only [setFlags, getCore_flagIf]

theorem setFlags_none (g : Nat) (s : State) : setFlags g {} s = s := rfl

@[simp] theorem getCore_countDraws (g h n : Nat) (s : State) : getCore g (countDraws h n s) = getCore g s := by
  unfold countDraws
  split <;> rfl

theorem takeDraws_zero (g : Nat) (s : State) : takeDraws g 0 s = ([], s) := rfl

theorem getCore_takeDraws (g n : Nat) (s : State) : ∃ l, getCore g (takeDraws g n s).2 = { getCore g s with srHeld := l } := by
  by_cases h : n = 0
  · subst h; exact ⟨_, rfl⟩
  · refine ⟨[], ?_⟩
    simp only [takeDraws, h, if_false, getCore_countDraws, applySr_eq, getCore_setCore_same]

/-! Banks. -/

theorem getBank_setBank_same {b : Nat} {c : Core} (k : Bank) (h : b < c.banks.length) : getBank b (setBank b k c) = k := by
  simp [getBank, setBank, h]

theorem getBank_setBank_other {a b : Nat} (k : Bank) (c : Core) (h : a ≠ b) : getBank a (setBank b k c) = getBank a c := by
  simp [getBank, setBank, List.getD_eq_getElem?_getD, List.getElem?_set_ne (Ne.symm h)]

/-! What each matrix instruction leaves of its core. -/

/-- The stationary operand that MLOAD loads from its rows and scales (R50 to R53). -/
def loadedOperand (g w : Nat) (f : Fmt) (s : State) : Stationary :=
  let sf := scaleOf (mSsf w) (mSse w)
  let rl := rowLines f (mK w)
  let sl := scaleLines sf (mK w)
  ⟨f, sf, mK w, (List.range 16).map fun n => regionNat g (mSbase w + n * rl) rl s,
    (List.range 16).map fun n => regionNat g (mBase w + n * sl) sl s⟩

/-- A bank after all wavefronts of a stream (R47, R54, R63). -/
def wholeStream (g w : Nat) (x : StreamArgs) (st : Stationary) (b : Bank) (s : State) : Bank :=
  let n := streamLines x.b x.k x.g (saWc x)
  (streamBank x st (regionNat g x.base n s) (regionNat g (x.base + n) (streamScaleLines x.sb x.k) s)
    (waveCount x.k x.g (saWc x)) (mOp w == 0x41) b).1

/-- The tile a drain appends (R67), for the values it drains. -/
def drainedTile (w : Nat) (b : Bank) (vals : List (BitVec 32)) : Tile :=
  ⟨(b.last == .int32) != mCvt w, b.wcb, mBank w, b.sat, b.st == .invalid, b.nv, mUtag w, vals⟩

/-- The values of a bank as a drain reads them: an EMPTY bank gives zeros (R66). -/
def bankValues (b : Bank) : List (BitVec 32) := if b.st == .empty then List.replicate (16 * wcOf b.wcb) 0 else b.vals

/-- A core after a drain of bank b (R66). -/
def drainedCore (w : Nat) (b : Bank) (vals : List (BitVec 32)) (c : Core) : Core :=
  setBank (mBank w) (drainedBank (mClr w) b) { c with drain := none, tiles := c.tiles ++ [drainedTile w b vals] }

theorem getBank_drainedCore_same {w : Nat} {c : Core} (b : Bank) (vals : List (BitVec 32)) (h : mBank w < c.banks.length) :
    getBank (mBank w) (drainedCore w b vals c) = drainedBank (mClr w) b :=
  getBank_setBank_same _ h

theorem getBank_drainedCore_other {a w : Nat} (b : Bank) (vals : List (BitVec 32)) (c : Core) (h : a ≠ mBank w) :
    getBank a (drainedCore w b vals c) = getBank a c :=
  getBank_setBank_other _ _ h

/-- The bank that a queued instruction names. -/
def namedBank (g : Nat) (q : Queued) (s : State) : Bank := getBank (mBank q.word) (getCore g s)

/-- The draws a drain takes, and the state after them (R45, R66). -/
def drainDraws (g : Nat) (q : Queued) (s : State) : List Nat × State :=
  takeDraws g (if mCvt q.word && mRnd q.word == 2 then 16 * wcOf (namedBank g q s).wcb else 0) s

/-- The values a drain moves, each with the flags of its conversion (R66). -/
def drainOuts (g : Nat) (q : Queued) (s : State) : List (BitVec 32 × NumFlags) :=
  (bankValues (namedBank g q s)).zipIdx.map fun p =>
    drainValue (mCvt q.word) (namedBank g q s).last (rndOf (mRnd q.word)) ((drainDraws g q s).1.getD p.2 0) p.1

section
variable {g : Nat} {q : Queued} {s : State}

theorem runDrain_eq :
    runDrain g q s = setFlags g ((drainOuts g q s).foldl (fun f o => orFlags f o.2) {})
      (updCore g (drainedCore q.word (namedBank g q s) ((drainOuts g q s).map (·.1))) (drainDraws g q s).2) := rfl

theorem getCore_runDrain :
    ∃ l, getCore g (runDrain g q s) =
      drainedCore q.word (namedBank g q s) ((drainOuts g q s).map (·.1)) { getCore g s with srHeld := l } := by
  obtain ⟨l, hl⟩ := getCore_takeDraws g (if mCvt q.word && mRnd q.word == 2 then 16 * wcOf (namedBank g q s).wcb else 0) s
  exact ⟨l, by rw [runDrain_eq, getCore_setFlags, getCore_updCore_same, drainDraws, hl]⟩

theorem foldl_orFlags_none {α : Type} (l : List α) : l.foldl (fun f _ => orFlags f {}) {} = ({} : NumFlags) := by
  induction l with
  | nil => rfl
  | cons _ l ih => exact ih

/-- Without a conversion a drain draws nothing, raises no flag and moves the values as they are (R66). -/
theorem runDrain_of_raw (h : mCvt q.word = false) :
    runDrain g q s = updCore g (drainedCore q.word (namedBank g q s) (bankValues (namedBank g q s))) s := by
  have hdraws : (drainDraws g q s).2 = s := by simp [drainDraws, h, takeDraws_zero]
  have houts : drainOuts g q s = (bankValues (namedBank g q s)).map fun x => (x, {}) := by
    simp only [drainOuts, h, drainValue, Bool.not_false, if_true]
    exact List.map_map.symm.trans (congrArg (List.map fun x => (x, ({} : NumFlags))) (List.zipIdx_map_fst 0 _))
  rw [runDrain_eq, hdraws, houts, List.foldl_map, foldl_orFlags_none, setFlags_none, List.map_map, Function.comp_def, List.map_id']

theorem getCore_runMclear :
    getCore g (runMclear g q s) = setBank (mBank q.word) (drainedBank true (namedBank g q s)) (getCore g s) :=
  getCore_updCore_same ..

/-- MLOAD with every line readable (R50 to R53, R59). -/
theorem getCore_runMload_of_clean {f : Fmt} (hf : fmtOfCode (mSfmt q.word) = some f)
    (hb : mloadBad g q.word (rowLines f (mK q.word)) (scaleLines (scaleOf (mSsf q.word) (mSse q.word)) (mK q.word)) s = none) :
    getCore g (runMload g q s) = { getCore g s with stat := some (loadedOperand g q.word f s) } := by
  simp only [runMload, hf, hb, getCore_setFlags, getCore_updCore_same]
  rfl

/-- A stream that meets no conflict and no bad line (R63). -/
theorem getCore_runStream_of_clean {x : StreamArgs} {st : Stationary} (hx : streamArgs q.word = some x)
    (hst : (getCore g s).stat = some st) (hc : streamConflict q x (getCore g s) = none) (hb : firstBadWave g x s = none) :
    getCore g (runStream g q s) = setBank x.bank (wholeStream g q.word x st (getBank x.bank (getCore g s)) s) (getCore g s) := by
  simp only [runStream, hx, hst, hc, hb, getCore_flagIf, getCore_setFlags, getCore_updCore_same]
  rfl

/-! Each leaves a resting core resting. -/

theorem resting_runMload (h : Resting (getCore g s)) : Resting (getCore g (runMload g q s)) := by
  unfold runMload
  split
  · exact h
  · dsimp only
    split
    · exact resting_trap ..
    · rw [getCore_setFlags, getCore_updCore_same]; exact h

theorem resting_runStream (h : Resting (getCore g s)) : Resting (getCore g (runStream g q s)) := by
  unfold runStream
  split
  · exact h
  · dsimp only
    split
    · exact resting_trap ..
    · exact h
    · split
      · rw [getCore_flagIf, getCore_setFlags, getCore_updCore_same]; exact h
      · exact resting_trap ..

theorem resting_runDrain (h : Resting (getCore g s)) : Resting (getCore g (runDrain g q s)) := by
  obtain ⟨l, hl⟩ := getCore_runDrain (g := g) (q := q) (s := s)
  obtain ⟨hmq, hvq, _, hw⟩ := h
  rw [hl]
  exact ⟨hmq, hvq, rfl, hw⟩

theorem resting_runMclear (h : Resting (getCore g s)) : Resting (getCore g (runMclear g q s)) := by
  rw [getCore_runMclear]
  exact h

end

/-! The matrix queue (R69, R75, R76). -/

/-- The effect of a matrix instruction by its opcode. -/
def runMatrix : Nat → Nat → Queued → State → State
  | 0x40 => runMload
  | 0x41 | 0x42 => runStream
  | 0x43 => runDrain
  | _ => runMclear

theorem runMatrix_of_other {op : Nat} (hload : op ≠ 0x40) (hstream : op ≠ 0x41) (hacc : op ≠ 0x42) (hdrain : op ≠ 0x43) :
    runMatrix op = runMclear := by
  unfold runMatrix
  split
  · exact absurd rfl hload
  · exact absurd rfl hstream
  · exact absurd rfl hacc
  · exact absurd rfl hdrain
  · rfl

section
variable {g : Nat} {q : Queued} {s : State}

theorem resting_runMatrix (op : Nat) (h : Resting (getCore g s)) : Resting (getCore g (runMatrix op g q s)) := by
  unfold runMatrix
  split
  · exact resting_runMload h
  · exact resting_runStream h
  · exact resting_runStream h
  · exact resting_runDrain h
  · exact resting_runMclear h

/-- An instruction alone in its queue moves, a drain where a tile entry is free. -/
theorem moveMatrix_of_alone (hmq : (getCore g s).mq = [q]) (hvq : (getCore g s).vq = []) (hd : (getCore g s).drain = none)
    (ht : mOp q.word = 0x43 → (getCore g s).tiles.length < 8) :
    moveMatrix vWrites vDraws g s = some (runMatrix (mOp q.word) g q (setCore g { getCore g s with mq := [] } s)) := by
  have hwaits : mWaits vWrites vDraws q (getCore g s) = false := by simp [mWaits, hvq]
  simp only [moveMatrix, hd, hmq, hwaits, Bool.false_eq_true, if_false]
  by_cases hdrain : mOp q.word = 0x43
  · have hfree : drainWaits vWrites vDraws q (getCore g s) = false := by simp [drainWaits, hwaits, ht hdrain]
    rw [if_pos hdrain, hfree, if_neg Bool.false_ne_true, hdrain]
    rfl
  · rw [if_neg hdrain]
    split
    · next hop => rw [hop]; rfl
    · next hop => rw [hop]; rfl
    · next hop => rw [hop]; rfl
    · next hload hstream hacc => rw [runMatrix_of_other hload hstream hacc hdrain]

/-- The state in which a matrix instruction has issued and stands alone in its queue. -/
def queuedAlone (g w : Nat) (s : State) : State :=
  setCore g { advanceFrom (getCore g s).pc (getCore g s) with mq := [entryOf g w s] } s

theorem issueMatrix_of_idle {w : Nat} (hc : mCheck g w s = none) (hmq : (getCore g s).mq = []) :
    issueMatrix g w s = runUnits g unitFuel (queuedAlone g w s) := by
  unfold issueMatrix
  rw [hc]
  dsimp only
  rw [hmq, if_neg (by decide)]
  rfl

theorem moveMatrix_queuedAlone {w : Nat} (hidle : UnitsIdle g s) (hwf : CoresWf s)
    (ht : mOp w = 0x43 → (getCore g s).tiles.length < 8) :
    moveMatrix vWrites vDraws g (queuedAlone g w s) = some (runMatrix (mOp w) g (entryOf g w s) (advance g s)) := by
  obtain ⟨hmq, hvq, hd⟩ := hidle
  have hcore : getCore g (queuedAlone g w s) = { advanceFrom (getCore g s).pc (getCore g s) with mq := [entryOf g w s] } :=
    getCore_setCore_same ..
  have hadv : setCore g { getCore g (queuedAlone g w s) with mq := [] } (queuedAlone g w s) = advance g s := by
    rw [hcore, queuedAlone, setCore_setCore hwf, ← hmq]
    rfl
  refine (moveMatrix_of_alone (q := entryOf g w s) ?_ ?_ ?_ ?_).trans (by rw [hadv]; rfl)
  all_goals rw [hcore]
  · exact hvq
  · exact hd
  · exact ht

/-- A matrix instruction that passes its checks on idle units advances and takes its effect at once. -/
theorem issue_matrix {w : Nat} (hi : CanIssue g s) (hidle : UnitsIdle g s) (hwf : CoresWf s) (hc : mCheck g w s = none)
    (ht : mOp w = 0x43 → (getCore g s).tiles.length < 8) :
    issue issueMatrix g w s = runMatrix (mOp w) g (entryOf g w s) (advance g s) := by
  have hmove := moveMatrix_queuedAlone hidle hwf ht
  obtain ⟨hmq, hvq, hd⟩ := hidle
  have hrest : Resting (getCore g (runMatrix (mOp w) g (entryOf g w s) (advance g s))) := by
    apply resting_runMatrix (mOp w)
    rw [getCore_advance_same]
    exact ⟨hmq, hvq, hd, rfl⟩
  rw [issue_can _ _ _ _ hi, issueMatrix_of_idle hc hmq, unitFuel, runUnits, hmove]
  dsimp only
  rw [runUnits_of_resting hrest, wake_of_resting hrest]

end

end Sys2Proof.Machine
end

section
/-!
PROOFS. The matrix instructions of chapter 03, row by row (R50, R63, R65 to R67, R75, R76): what each leaves of its core when it issues on
idle units.
-/

namespace Sys2Proof.Machine

theorem mOp_wordOf {op : Nat} (hop : op < 256) (w : BitVec 56) : mOp (wordOf op w) = op := by
  have hw := w.isLt
  simp only [mOp, bits, wordOf, Nat.shiftRight_eq_div_pow]
  omega

/-- A core that holds the letter's place of an advanced one has issued its instruction. -/
theorem issued_of_eq {g : Nat} {s t : State} {c : Core} (h : getCore g t = c) (hst : c.st = .running) (hw : c.wait = none)
    (hpc : c.pc = (loopNext (getCore g s).pc (getCore g s).loops).1)
    (hloops : c.loops = (loopNext (getCore g s).pc (getCore g s).loops).2) : Issued g s t := by
  subst h
  exact ⟨hst, hw, hpc, hloops⟩

section
variable {g : Nat} {w : BitVec 56} {s : State} (hi : CanIssue g s) (hidle : UnitsIdle g s) (hwf : CoresWf s)
include hi hidle hwf

theorem issue_matrix_wordOf {op : Nat} (hop : op < 256) (hc : mCheck g (wordOf op w) s = none)
    (ht : op = 0x43 → (getCore g s).tiles.length < 8) :
    issue issueMatrix g (wordOf op w) s = runMatrix op g (entryOf g (wordOf op w) s) (advance g s) := by
  have hmop : mOp (wordOf op w) = op := mOp_wordOf hop w
  rw [issue_matrix hi hidle hwf hc fun h => ht (hmop ▸ h), hmop]

end

/-! The core after each, in terms of the state before its issue: an advance changes no scratchpad line, tag or poison mark. -/

section
variable {g : Nat} {w : Nat} {s : State}

theorem namedBank_advance : namedBank g (entryOf g w s) (advance g s) = getBank (mBank w) (getCore g s) := by
  rw [namedBank, getCore_advance_same]
  rfl

/-- MLOAD with every line readable leaves its operand and the banks as they were (R50 to R53). -/
theorem mload_leaves {f : Fmt} (hf : fmtOfCode (mSfmt w) = some f)
    (hb : mloadBad g w (rowLines f (mK w)) (scaleLines (scaleOf (mSsf w) (mSse w)) (mK w)) s = none) :
    let t := runMload g (entryOf g w s) (advance g s)
    Issued g s t ∧ (getCore g t).banks = (getCore g s).banks ∧ (getCore g t).stat = some (loadedOperand g w f s) := by
  intro t
  have hcore : getCore g t = { advanceFrom (getCore g s).pc (getCore g s) with stat := some (loadedOperand g w f s) } := by
    rw [getCore_runMload_of_clean (q := entryOf g w s) (s := advance g s) hf hb, getCore_advance_same]
    rfl
  exact ⟨issued_of_eq hcore rfl rfl rfl rfl, by rw [hcore]; rfl, by rw [hcore]⟩

theorem getCore_stream {x : StreamArgs} {st : Stationary} (hx : streamArgs w = some x) (hst : (getCore g s).stat = some st)
    (hc : streamConflict (entryOf g w s) x (getCore g s) = none) (hb : firstBadWave g x s = none) :
    getCore g (runStream g (entryOf g w s) (advance g s)) =
      setBank x.bank (wholeStream g w x st (getBank x.bank (getCore g s)) s) (advanceFrom (getCore g s).pc (getCore g s)) := by
  rw [getCore_runStream_of_clean (q := entryOf g w s) (s := advance g s) (st := st) hx, getCore_advance_same]
  · rfl
  · rw [getCore_advance_same]; exact hst
  · rw [getCore_advance_same]; exact hc
  · exact hb

/-- A stream without conflict or bad line leaves its bank with all its wavefronts summed, and nothing else of the array changed. -/
theorem stream_leaves {op : Nat} {w : BitVec 56} {x : StreamArgs} {st : Stationary} (hop : op < 256)
    (hx : streamArgs (wordOf op w) = some x) (hst : (getCore g s).stat = some st)
    (hc : streamConflict (entryOf g (wordOf op w) s) x (getCore g s) = none) (hb : firstBadWave g x s = none)
    (hbank : x.bank < (getCore g s).banks.length) :
    let t := runStream g (entryOf g (wordOf op w) s) (advance g s)
    Issued g s t ∧ (getCore g t).stat = some st ∧
      getBank x.bank (getCore g t) = (streamBank x st (regionNat g x.base (streamLines x.b x.k x.g (saWc x)) s)
        (regionNat g (x.base + streamLines x.b x.k x.g (saWc x)) (streamScaleLines x.sb x.k) s)
        (waveCount x.k x.g (saWc x)) (op == 0x41) (getBank x.bank (getCore g s))).1 ∧
      ∀ b, b ≠ x.bank → getBank b (getCore g t) = getBank b (getCore g s) := by
  intro t
  have hcore := getCore_stream hx hst hc hb
  have hmop : mOp (wordOf op w) = op := mOp_wordOf hop w
  refine ⟨issued_of_eq hcore rfl rfl rfl rfl, ?_⟩
  rw [hcore, getBank_setBank_same (c := advanceFrom (getCore g s).pc (getCore g s)) _ hbank, wholeStream, hmop]
  exact ⟨hst, rfl, fun b hb => getBank_setBank_other _ _ hb⟩

/-- MDRAIN adds one tile, with its bank's number and its UTAG (R66, R67). -/
theorem mdrain_leaves :
    let t := runDrain g (entryOf g w s) (advance g s)
    ∃ tile : Tile, Issued g s t ∧ (getCore g t).tiles = (getCore g s).tiles ++ [tile] ∧ tile.bank = mBank w ∧ tile.utag = mUtag w ∧
      (getCore g t).drain = none := by
  intro t
  obtain ⟨l, hcore⟩ := getCore_runDrain (g := g) (q := entryOf g w s) (s := advance g s)
  rw [getCore_advance_same] at hcore
  exact ⟨drainedTile w _ _, issued_of_eq hcore rfl rfl rfl rfl, by rw [hcore]; rfl, rfl, rfl, by rw [hcore]; rfl⟩

/-- MCLEAR leaves its bank EMPTY and unmarked, and every other bank as it was (R65). -/
theorem mclear_leaves (hbank : mBank w < (getCore g s).banks.length) :
    let t := runMclear g (entryOf g w s) (advance g s)
    Issued g s t ∧ (getBank (mBank w) (getCore g t)).st = .empty ∧ (getBank (mBank w) (getCore g t)).sat = false ∧
      (getBank (mBank w) (getCore g t)).nv = false ∧ ∀ b, b ≠ mBank w → getBank b (getCore g t) = getBank b (getCore g s) := by
  intro t
  have hcore : getCore g t =
      setBank (mBank w) (drainedBank true (getBank (mBank w) (getCore g s))) (advanceFrom (getCore g s).pc (getCore g s)) := by
    rw [getCore_runMclear, namedBank_advance, getCore_advance_same]
    rfl
  refine ⟨issued_of_eq hcore rfl rfl rfl rfl, ?_⟩
  rw [hcore, getBank_setBank_same (c := advanceFrom (getCore g s).pc (getCore g s)) _ hbank]
  exact ⟨rfl, rfl, rfl, fun b hb => getBank_setBank_other _ _ hb⟩

end

/-- Settles O19: an instruction on idle units takes its effect in the step in which it issues (`issue_matrix_wordOf`), the core after each
effect is given by its lemma above, and a drain that does not convert moves the bank's values (`runDrain_of_raw`). -/
theorem drainedTileAndMatrixRuns : Obligations.DrainedTileAndMatrixRuns := by
  refine ⟨fun g w s hi hidle hwf => ?rows, fun g q s hraw hbank => ?raw⟩
  case rows =>
    have run {op : Nat} (hop : op < 256) (hc : mCheck g (wordOf op w) s = none) (ht : op = 0x43 → (getCore g s).tiles.length < 8) :
        (.next (issue issueMatrix g (wordOf op w) s) : Res) = .next (runMatrix op g (entryOf g (wordOf op w) s) (advance g s)) :=
      congrArg Host.Outcome.next (issue_matrix_wordOf hi hidle hwf hop hc ht)
    refine ⟨fun hc => run (by decide) hc nofun, fun hc => run (by decide) hc nofun, fun hc => run (by decide) hc nofun,
      fun hc ht => run (by decide) hc fun _ => ht, fun hc => run (by decide) hc nofun, ?mload, ?stream, ?mdrain, ?mclear⟩
    case mload =>
      intro f rl sl hc hf hrl hsl hb
      subst hrl hsl
      exact ⟨_, run (by decide) hc nofun, mload_leaves hf hb⟩
    case stream =>
      intro p hp x st hc hx hst hconf hb hbank
      rcases List.mem_pair.1 hp with rfl | rfl
      all_goals exact ⟨_, run (by decide) hc nofun, stream_leaves (by decide) hx hst hconf hb hbank⟩
    case mdrain =>
      intro hc ht
      obtain ⟨tile, h⟩ := mdrain_leaves (g := g) (w := wordOf 0x43 w) (s := s)
      exact ⟨_, tile, run (by decide) hc fun _ => ht, h⟩
    case mclear => exact fun hc hbank => ⟨_, run (by decide) hc nofun, mclear_leaves hbank⟩
  case raw =>
    have hcore : getCore g (runDrain g q s) =
        drainedCore q.word (namedBank g q s) (bankValues (namedBank g q s)) (getCore g s) := by
      rw [runDrain_of_raw hraw, getCore_updCore_same]
    refine ⟨?tiles, ?drain, ?stat, ?keep, ?clear, fun f i => ?regs⟩
    case tiles => rw [hcore, drainedCore, drainedTile, hraw, Bool.bne_false]; rfl
    case drain => rw [hcore]; rfl
    case stat => rw [hcore]; rfl
    case keep =>
      intro hclr b
      rw [hcore]
      by_cases hb : b = mBank q.word
      · rw [hb, getBank_drainedCore_same _ _ hbank, hclr]; rfl
      · exact getBank_drainedCore_other _ _ _ hb
    case clear =>
      intro hclr
      rw [hcore, getBank_drainedCore_same _ _ hbank, hclr]
      exact ⟨rfl, rfl, fun b hb => getBank_drainedCore_other _ _ _ hb⟩
    case regs => rw [runDrain_of_raw hraw, rd_updCore]

end Sys2Proof.Machine
end

section
/-!
PROOFS. What registers and cores read right after reset (R46, R115, R136, R398).
-/

namespace Sys2Proof.Machine

theorem regDefault_regKey (f : Reg) (i : Nat) : regDefault (regKey f i) = resetOf f i := by
  have hf := Reg.ctorIdx_lt f
  have hi : regKey f i / 512 = i := by unfold regKey; omega
  rw [regDefault, regOfKey, hi]

/-- Right after reset no field is listed, so each reads its reset value. -/
theorem rd_reset (f : Reg) (i : Nat) : rd f i State.reset = resetOf f i := regDefault_regKey f i

/-- Settles O6: a field reads its reset value (`rd_reset`), which is 0 for each of those listed, and no core is listed. -/
theorem resetRegisters : Obligations.ResetRegisters := by
  refine ⟨fun g => ⟨rfl, rfl, rfl, rfl, rfl, rfl⟩, fun f hf i => ?_⟩
  rw [rd_reset]
  fin_cases hf <;> rfl

end Sys2Proof.Machine
end

section
/-!
PROOFS. The letter instructions that only move the letter on: NOP, LOOP, LOOPI, NOTICE and RWAIT with NEXT = 0 (R93, R106, R109, R110).
-/

namespace Sys2Proof.Machine

/-- A field inside a field that is all 0 is 0. -/
theorem bits_eq_zero_of_low {w m n : Nat} (h : bits w 0 n = 0) (hm : m ≤ n) : bits w 0 m = 0 := by
  simp only [bits, Nat.shiftRight_zero] at h ⊢
  exact Nat.mod_eq_zero_of_dvd ((Nat.pow_dvd_pow 2 hm).trans (Nat.dvd_of_mod_eq_zero h))

theorem bits_eq_zero_of_high {w k n : Nat} (h : bits w 0 n = 0) (hk : k < n) : bits w k 1 = 0 := by
  have hlow : bits w 0 (k + 1) = 0 := bits_eq_zero_of_low h hk
  simp only [bits, Nat.shiftRight_zero] at hlow
  obtain ⟨c, rfl⟩ := Nat.dvd_of_mod_eq_zero hlow
  rw [bits, Nat.shiftRight_eq_div_pow, Nat.pow_succ, Nat.mul_assoc, Nat.mul_div_cancel_left _ (Nat.two_pow_pos k)]
  exact Nat.mul_mod_right ..

section
variable {f : Nat → Nat → State → State} {g w : Nat} {s t : State}

/-- A command that issues an instruction, where its effect is known. -/
theorem next_issue (hi : CanIssue g s) (ht : f g w s = t) : (.next (issue f g w s) : Res) = .next (wake g t) := by
  rw [issue_can f g w s hi, ht]

/-- The same of a command that settles what its instruction has brought about. -/
theorem next_settle_issue (hi : CanIssue g s) (ht : f g w s = t) :
    (.next (settle (issue f g w s)) : Res) = .next (settle (wake g t)) := by
  rw [issue_can f g w s hi, ht]

end

section
variable {g w : Nat} {s : State}

theorem xNop_of_clear (h : bits w 0 56 = 0) : xNop g w s = advance g s := if_neg (not_not_intro h)

theorem xLoop_of_legal (h : bits w 0 28 = 0) (hb : badLoop g (bits w 28 13) s = false) :
    xLoop g w s = startLoop g (bits w 41 15) (bits w 28 13) s := by
  simp [xLoop, h, hb]

theorem xLoopi_of_legal (h : bits w 0 27 = 0) (hb : badLoop g (bits w 27 13) s = false)
    (hu : lineUnwritten (bits w 43 13) (getCore g s) = false) (hp : linePoison g (bits w 43 13) s = false)
    (hn : spWord g (bits w 43 13) (bits w 40 3) s ≤ 32767) :
    xLoopi g w s = startLoop g (spWord g (bits w 43 13) (bits w 40 3) s) (bits w 27 13) s := by
  simp [xLoopi, h, hb, hu, hp, Nat.not_lt.2 hn]

theorem xNotice_of_lead (h : bits w 0 15 = 0) (hl : 0 < bits w 36 20) :
    xNotice g w s = advance g { s with notices := s.notices ++
      [⟨clusterOf g, bits w 32 4, bits w 36 20 * 1000 / max 1 (rd .pwrclSetpMhz (clusterOf g) s), bits w 16 16, s.now, false⟩] } :=
  if_neg (by omega)

theorem xRwait_of_offset (h : bits w 0 31 = 0) (hn : bits w 31 1 = 0) :
    xRwait g w s = if offsetReached g (bits w 32 24) s then advance g s else waitIn g w .roundWait s := by
  simp [xRwait, h, hn]

end

/-- Settles O8: on a core that can issue each instruction takes its effect (`issue_can`), given by its lemma above. -/
theorem letterFlow : Obligations.LetterFlow := by
  intro g w s hi
  refine ⟨?nop, ?loop, ?loopi, ?notice, ?rwait⟩
  case nop => exact next_issue hi (xNop_of_clear rfl)
  case loop => exact fun h hb => next_issue hi (xLoop_of_legal h hb)
  case loopi => exact fun h hb hu hp hn => next_issue hi (xLoopi_of_legal h hb hu hp hn)
  case notice => exact fun h hl => next_issue hi (xNotice_of_lead h hl)
  case rwait =>
    exact fun h => next_issue hi (xRwait_of_offset (bits_eq_zero_of_low h (by decide)) (bits_eq_zero_of_high h (by decide)))

end Sys2Proof.Machine
end

section
/-!
PROOFS. The letter instructions that wait for transfers, units and other cores: DWAIT, BAR, HALT and RWAIT with NEXT = 1 (R94, R104, R108,
R109).
-/

namespace Sys2Proof.Machine

theorem OnlyReleasing.resting {s t : State} (h : OnlyReleasing s t) {g : Nat} (hr : Resting (getCore g s)) : Resting (getCore g t) := by
  obtain ⟨_, _, hcore⟩ := h
  obtain ⟨b, v, hb⟩ := hcore g
  rw [hb]
  exact hr

theorem unitsBusy_of_idle {g : Nat} {s : State} (h : UnitsIdle g s) : unitsBusy (getCore g s) = false := by
  obtain ⟨hmq, hvq, hdrain⟩ := h
  simp [unitsBusy, hmq, hvq, hdrain]

/-- A core whose units are idle stays as it is behind an instruction that has issued. -/
theorem resting_advanceFrom {g pc : Nat} {s : State} (h : UnitsIdle g s) : Resting (advanceFrom pc (getCore g s)) := by
  obtain ⟨hmq, hvq, hdrain⟩ := h
  exact ⟨hmq, hvq, hdrain, rfl⟩

theorem resting_advance {g : Nat} {s : State} (h : UnitsIdle g s) : Resting (getCore g (advance g s)) := by
  rw [getCore_advance_same]
  exact resting_advanceFrom h

/-- The state in which HALT leaves its core before the barrier it leaves is examined (R108). -/
def haltedState (g code : Nat) (s : State) : State :=
  updCore g (fun c => { advanceFrom c.pc c with st := .halted, reported := true }) (wr .coreStateHaltCode g code s)

/-- The state in which an RWAIT with NEXT = 1 has taken the release that its core holds (R109). -/
def releaseTaken (g : Nat) (s : State) : State :=
  updCore g (fun c => { c with took := false })
    (updCore g (fun c => { c with held := false, fresh := false, reported := false, took := true }) s)

section
variable {g w : Nat} {s : State}

theorem xDwait_of_idle (h : bits w 0 48 = 0) (hc : ∀ j ∈ chansIn (bits w 48 8), (getChan j (getCore g s)).st = .idle) :
    xDwait g w s = advance g s := by
  simp [xDwait, h, busyIn_false _ _ hc, haltedIn_none _ _ hc]

theorem xBar_of_idle (h : bits w 0 54 = 0) (ha : (getCore g s).arrived = none)
    (hc : ∀ j ∈ chansIn 255, (getChan j (getCore g s)).st = .idle) (hv : apndOpen g s = false) :
    xBar g w s = barrierChecks g (updCore g (fun c =>
      { c with arrived := some (bits w 54 2), st := .barrierWait, wait := some w }) s) := by
  simp [xBar, h, ha, busyIn_false _ _ hc, haltedIn_none _ _ hc, hv]

theorem xHalt_of_done (h : bits w 0 40 = 0) (hu : UnitsIdle g s) (hb : busyIn 255 (getCore g s) = false) (hv : apndOpen g s = false) :
    xHalt g w s = barrierChecks g (haltedState g (bits w 40 16) s) := by
  simp [xHalt, h, unitsBusy_of_idle hu, hb, hv, haltedState]

theorem xRwait_of_held (h : bits w 0 31 = 0) (hn : bits w 31 1 = 1) (hu : UnitsIdle g s)
    (hc : ∀ j ∈ chansIn 255, (getChan j (getCore g s)).st = .idle) (hv : apndOpen g s = false) (ht : (getCore g s).took = false)
    (hh : (getCore g s).held = true) (ho : offsetReached g (bits w 32 24) s = true) :
    xRwait g w s = advance g (releaseTaken g s) := by
  have ho' (f : Core → Core) : offsetReached g (bits w 32 24) (updCore g f s) = true := ho
  simp [xRwait, h, hn, unitsBusy_of_idle hu, busyIn_false _ _ hc, haltedIn_none _ _ hc, hv, ht, hh, ho', releaseTaken]

theorem resting_haltedState {code : Nat} (hu : UnitsIdle g s) : Resting (getCore g (haltedState g code s)) := by
  rw [haltedState, getCore_updCore_same]
  exact resting_advanceFrom (pc := (getCore g s).pc) hu

/-- HALT leaves its core HALTED, its code recorded and its part of the step reported (R108). -/
theorem halt_leaves (code : Nat) (s : State) (hcode : code < 2 ^ 16) :
    let t := barrierChecks g (haltedState g code s)
    (getCore g t).st = .halted ∧ (getCore g t).reported = true ∧ rd .coreStateHaltCode g t = code ∧
      ∀ f i, f ≠ .coreStateHaltCode → f ≠ .netStatusUnreach → rd f i t = rd f i s := by
  intro t
  obtain ⟨_, hrd, hcore⟩ := onlyReleasing_barrierChecks g (haltedState g code s)
  obtain ⟨b, v, hb⟩ := hcore g
  have hg : getCore g t = { { advanceFrom (getCore g s).pc (getCore g s) with st := .halted, reported := true } with
      releasing := b, relSent := v } := by
    rw [hb, haltedState, getCore_updCore_same, getCore_wr]
  refine ⟨by rw [hg], by rw [hg], ?record, fun f i hf hu => ?rest⟩
  case record => exact (hrd _ _ (by decide)).trans ((rd_wr_same ..).trans (Nat.mod_eq_of_lt hcode))
  case rest => exact (hrd f i hu).trans (rd_wr_field _ _ _ _ _ _ hf)

end

theorem bits_lt (w lo n : Nat) : bits w lo n < 2 ^ n := Nat.mod_lt _ (Nat.two_pow_pos n)

/-- Settles O9: each instruction finds nothing to wait for and takes its effect, given by its lemma above; HALT and RWAIT leave a core that
rests, which `wake` leaves as it is. -/
theorem letterSync : Obligations.LetterSync := by
  intro g w s hi
  refine ⟨fun h hc => next_issue hi (xDwait_of_idle h hc), fun h ha hc hv => next_settle_issue hi (xBar_of_idle h ha hc hv), ?halt, ?rwait⟩
  case halt =>
    intro h hu hb hv
    have hrest : Resting (getCore (↑g) (barrierChecks g (haltedState g (bits (wordOf 0x01 w) 40 16) s))) :=
      (onlyReleasing_barrierChecks _ _).resting (resting_haltedState hu)
    refine ⟨_, (next_settle_issue hi (xHalt_of_done h hu hb hv)).trans (by rw [wake_of_resting hrest]), halt_leaves _ s (bits_lt ..)⟩
  case rwait =>
    intro h hn hu hc hv ht hh ho
    have hidle : UnitsIdle (↑g) (releaseTaken g s) := by simpa [UnitsIdle, releaseTaken] using hu
    refine ⟨advance g (releaseTaken g s), (next_issue hi (xRwait_of_held h hn hu hc hv ht hh ho)).trans
      (by rw [wake_of_resting (resting_advance hidle)]), ?_⟩
    simp only [getCore_advance_same, releaseTaken, getCore_updCore_same]
    exact ⟨rfl, rfl, rfl, rfl, rfl, rfl, fun f i => rfl⟩

end Sys2Proof.Machine
end

section
/-!
PROOFS. Semaphores: signals, SIG and SWAIT (R102, R103).
-/

namespace Sys2Proof.Machine

theorem tget_eq_default_or_mem {α : Type} (d : Nat → α) (t : Table α) (k : Nat) : tget d t k = d k ∨ (k, tget d t k) ∈ t := by
  induction t with
  | nil => exact .inl rfl
  | cons p t ih =>
    obtain ⟨k', v⟩ := p
    by_cases h : k' = k
    · subst h; simp [tget]
    · simp only [tget, h, if_false, List.mem_cons, Prod.mk.injEq]
      exact ih.imp_right .inr

/-- By the invariant a field holds no more than its width, where its reset value does not. -/
theorem rd_lt_of_regsWf {s : State} (h : RegsWf s) {f : Reg} {i : Nat} (hf : resetOf f i < 2 ^ (regInfo f).w) :
    rd f i s < 2 ^ (regInfo f).w := by
  rcases tget_eq_default_or_mem regDefault s.regs (regKey f i) with hd | hm
  · rw [rd, hd, regDefault_regKey]
    exact hf
  · have hp := h.2 _ hm
    rw [regOfKey] at hp
    exact hp

theorem rd_coreSemValue_lt {s : State} (h : RegsWf s) (i : Nat) : rd .coreSemValue i s < 2 ^ 16 :=
  rd_lt_of_regsWf h (f := .coreSemValue) (Nat.two_pow_pos 16)

/-- Writing a field with what it reads changes no field. -/
theorem rd_wr_self {s : State} {f : Reg} {i : Nat} (h : rd f i s < 2 ^ (regInfo f).w) (f' : Reg) (j : Nat) :
    rd f' j (wr f i (rd f i s) s) = rd f' j s := by
  rw [rd_wr]
  split
  · next e => rw [e.1, e.2, Nat.mod_eq_of_lt h]
  · rfl

theorem deliverSignal_of_path {src g : Nat} {s : State} {x : Signal} {rest : List Signal}
    (ht : takeSignal src g s.cores.signals = some (x, rest)) (hs : stalled g s = false)
    (hl : bit .brsiteStatusLost (siteOf g) s = false) (hp : pathOpen (signalSite x) (siteOf g) s = true ∨ drains x.sent s = true) :
    deliverSignal src g s = wake g (addSem g x.sem x.val { s with cores := { s.cores with signals := rest } }) := by
  rw [deliverSignal, ht]
  refine if_neg ?_
  rw [hs, hl, Bool.or_eq_true_iff.2 hp]
  decide

section
variable {g w sem v : Nat} {s : State}

theorem addSem_of_overflow (h : 65535 < rd .coreSemValue (16 * g + sem) s + v) :
    addSem g sem v s = flag .coreStateSemOvf g (wr .coreSemValue (16 * g + sem) 65535 s) := if_pos h

theorem addSem_of_fits (h : rd .coreSemValue (16 * g + sem) s + v ≤ 65535) :
    addSem g sem v s = wr .coreSemValue (16 * g + sem) (rd .coreSemValue (16 * g + sem) s + v) s := if_neg (Nat.not_lt.2 h)

theorem rd_addSem_value :
    rd .coreSemValue (16 * g + sem) (addSem g sem v s) = min 65535 (rd .coreSemValue (16 * g + sem) s + v) := by
  by_cases h : 65535 < rd .coreSemValue (16 * g + sem) s + v
  · rw [addSem_of_overflow h, flag, rd_wr_field _ _ _ _ _ _ (by decide), rd_wr_same, Nat.min_eq_left h.le]
    rfl
  · have hle := Nat.not_lt.1 h
    rw [addSem_of_fits hle, rd_wr_same, Nat.min_eq_right hle]
    exact Nat.mod_eq_of_lt (Nat.lt_succ_of_le hle)

theorem rd_addSem_other {f : Reg} {i : Nat} (hf : f ≠ .coreStateSemOvf) (hi : f = .coreSemValue → i ≠ 16 * g + sem) :
    rd f i (addSem g sem v s) = rd f i s := by
  have hne : ¬ (f = .coreSemValue ∧ i = 16 * g + sem) := fun h => hi h.1 h.2
  by_cases h : 65535 < rd .coreSemValue (16 * g + sem) s + v
  · rw [addSem_of_overflow h, flag, rd_wr_field _ _ _ _ _ _ hf, rd_wr, if_neg hne]
  · rw [addSem_of_fits (Nat.not_lt.1 h), rd_wr, if_neg hne]

/-- SWAIT whose semaphore holds enough subtracts (R102). -/
theorem xSwait_of_le (h : bits w 0 36 = 0) (hv : bits w 36 16 ≤ rd .coreSemValue (16 * g + bits w 52 4) s) :
    xSwait g w s = advance g (wr .coreSemValue (16 * g + bits w 52 4) (rd .coreSemValue (16 * g + bits w 52 4) s - bits w 36 16) s) := by
  simp [xSwait, h, hv]

theorem xSwait_of_lt (h : bits w 0 36 = 0) (hv : rd .coreSemValue (16 * g + bits w 52 4) s < bits w 36 16) :
    xSwait g w s = waitIn g w .semWait s := by
  simp [xSwait, h, Nat.not_le.2 hv]

theorem sendSignal_of_route {t : Nat} (hg : g < 131072) (hr : unreachable (siteOf g) (siteOf t) s = false) :
    sendSignal g t sem v s = { s with cores := { s.cores with signals := s.cores.signals ++
      [⟨g, t, sem, v, pathOpen (siteOf g) (siteOf t) s⟩] } } := by
  simp [sendSignal, signalSite, hg, hr]

/-- SIG to a usable core of its own district, its FENCE channels idle, sends its signal (R103). -/
theorem xSig_of_clear (h : bits w 0 11 = 0) (hd : (coreDistrict g s).isNone = false)
    (ht : coreDistrict (bits w 39 17) s = coreDistrict g s) (hu : usable (bits w 39 17) s = true)
    (hc : ∀ j ∈ chansIn (bits w 11 8), (getChan j (getCore g s)).st = .idle) :
    xSig g w s = advance g (sendSignal g (bits w 39 17) (bits w 35 4) (bits w 19 16) s) := by
  have hbad : ((coreDistrict g s).isNone || coreDistrict (bits w 39 17) s != coreDistrict g s || !usable (bits w 39 17) s) = false := by
    simp [hd, ht, hu]
  simp [xSig, h, hbad, busyIn_false _ _ hc, haltedIn_none _ _ hc]

end

/-- Settles O11: sums of `addSem` are read back by `rd_addSem_value` and `rd_addSem_other`, SWAIT and SIG take their effect by their
lemmas above, and with VALUE = 0 a semaphore is written with what it reads (`rd_wr_self`). -/
theorem semaphoreRules : Obligations.SemaphoreRules := by
  intro g w s hinv
  refine ⟨rfl, rfl, fun src x rest ht hs hl hp => congrArg Host.Outcome.next (deliverSignal_of_path ht hs hl hp),
    fun sem v => ⟨rd_addSem_value, ?overflow, ?fits, fun f i => rd_addSem_other⟩, fun hi h => ⟨?enough, ?short, ?zero⟩, ?sig⟩
  case overflow =>
    intro h
    rw [addSem_of_overflow h]
    exact rd_wr_same ..
  case fits =>
    intro h
    rw [addSem_of_fits h]
    exact rd_wr_field _ _ _ _ _ _ (by decide)
  case enough => exact fun hv => next_issue hi (xSwait_of_le h hv)
  case short => exact fun hv => next_issue hi (xSwait_of_lt h hv)
  case zero =>
    intro hv hu
    refine ⟨_, (next_issue hi (xSwait_of_le h (hv ▸ Nat.zero_le _))).trans
      (by rw [wake_of_resting (resting_advance (s := wr _ _ _ s) hu)]), fun f i => ?_⟩
    rw [hv, Nat.sub_zero]
    exact rd_wr_self (rd_coreSemValue_lt hinv.1 _) f i
  case sig =>
    rintro hi h ⟨d, hd⟩ ht hu hc hr
    refine next_settle_issue hi ((xSig_of_clear h (by rw [hd]; rfl) ht hu hc).trans ?_)
    rw [sendSignal_of_route g.isLt hr]

end Sys2Proof.Machine
end

section
/-!
PROOFS. Branches (R107).
-/

namespace Sys2Proof.Machine

section
variable {g w : Nat} {s : State}

theorem xBr_of_reserved (h : bits w 54 2 = 3 ∨ (bits w 54 2 = 0 ∧ (bits w 41 13 ≠ 0 ∨ bits w 38 3 ≠ 0))) :
    xBr g w s = trapNow g 1 1 0 0 w s := if_pos (.inr h)

section
variable (h0 : bits w 0 25 = 0) (h3 : bits w 54 2 ≠ 3) (hz : bits w 54 2 = 0 → bits w 41 13 = 0 ∧ bits w 38 3 = 0)
include h0 h3 hz

/-- No field of the branch is reserved (R107). -/
theorem xBr_of_legal :
    xBr g w s =
      if 4 * rd .coreLetterLlen g s ≤ bits w 25 13 then trapNow g 1 9 0 0 w s
      else if bits w 54 2 = 0 then branchTo g (bits w 25 13) s
      else if lineUnwritten (bits w 41 13) (getCore g s) then waitIn g w .running s
      else if linePoison g (bits w 41 13) s then trapNow g 4 3 (bits w 41 13) 0 w s
      else if (spWord g (bits w 41 13) (bits w 38 3) s == 0) == (bits w 54 2 == 1) then branchTo g (bits w 25 13) s
      else advance g s := by
  refine if_neg ?_
  rintro (h | h | ⟨h, hl | hk⟩)
  · exact h h0
  · exact h3 h
  · exact hl (hz h).1
  · exact hk (hz h).2

theorem xBr_past_letter (ht : 4 * rd .coreLetterLlen g s ≤ bits w 25 13) : xBr g w s = trapNow g 1 9 0 0 w s := by
  rw [xBr_of_legal h0 h3 hz, if_pos ht]

theorem xBr_always (ht : bits w 25 13 < 4 * rd .coreLetterLlen g s) (hc : bits w 54 2 = 0) :
    xBr g w s = branchTo g (bits w 25 13) s := by
  rw [xBr_of_legal h0 h3 hz, if_neg (Nat.not_le.2 ht), if_pos hc]

/-- A branch that tests a word that can be read. -/
theorem xBr_on_word (ht : bits w 25 13 < 4 * rd .coreLetterLlen g s) (hc : bits w 54 2 ≠ 0)
    (hu : lineUnwritten (bits w 41 13) (getCore g s) = false) (hp : linePoison g (bits w 41 13) s = false) :
    xBr g w s =
      if spWord g (bits w 41 13) (bits w 38 3) s = 0 ↔ bits w 54 2 = 1 then branchTo g (bits w 25 13) s else advance g s := by
  have hcond : ((spWord g (bits w 41 13) (bits w 38 3) s == 0) == (bits w 54 2 == 1)) = true ↔
      (spWord g (bits w 41 13) (bits w 38 3) s = 0 ↔ bits w 54 2 = 1) := by
    rw [beq_iff_eq, Bool.eq_iff_iff, beq_iff_eq, beq_iff_eq]
  rw [xBr_of_legal h0 h3 hz, if_neg (Nat.not_le.2 ht), if_neg hc, hu, hp]
  simp only [Bool.false_eq_true, if_false, hcond]

end

/-- The body of a loop holds an instruction. -/
def LoopFrame.holds (f : LoopFrame) (t : Nat) : Bool := f.first ≤ t && t ≤ f.last

theorem LoopFrame.holds_iff {f : LoopFrame} {t : Nat} : f.holds t = true ↔ f.first ≤ t ∧ t ≤ f.last := by
  simp [holds]

theorem getCore_branchTo (t : Nat) :
    (getCore g (branchTo g t s)).pc = t ∧
      (getCore g (branchTo g t s)).loops = (getCore g s).loops.dropWhile fun f => !f.holds t := by
  rw [branchTo, getCore_updCore_same]
  exact ⟨rfl, rfl⟩

/-- A taken branch ends the loops inside the innermost one whose body holds its target (R107). -/
theorem branchTo_loops (t : Nat) :
    ∃ ended, (getCore g s).loops = ended ++ (getCore g (branchTo g t s)).loops ∧
      (∀ f ∈ ended, ¬ (f.first ≤ t ∧ t ≤ f.last)) ∧
      ∀ f, (getCore g (branchTo g t s)).loops.head? = some f → f.first ≤ t ∧ t ≤ f.last := by
  rw [(getCore_branchTo t).2]
  refine ⟨(getCore g s).loops.takeWhile fun f => !f.holds t, List.takeWhile_append_dropWhile.symm, fun f hf => ?_, fun f hf => ?_⟩
  · simpa only [Bool.not_eq_true', ← Bool.not_eq_true, LoopFrame.holds_iff] using List.mem_takeWhile_imp hf
  · have hhead := List.head?_dropWhile_not (fun f : LoopFrame => !f.holds t) (getCore g s).loops
    rw [hf] at hhead
    exact LoopFrame.holds_iff.1 (by simpa using hhead)

end

/-- Settles O12: the fields of the word and the letter's end decide first, then the word that is read (`xBr_on_word`); the loops that a
taken branch keeps are those of `branchTo_loops`. -/
theorem branchRule : Obligations.BranchRule := by
  intro g w s hi h0
  refine ⟨fun hc => next_issue hi (xBr_of_reserved (.inl hc)), fun hc hl => next_issue hi (xBr_of_reserved (.inr ⟨hc, hl⟩)),
    fun h3 hz => ⟨fun ht => next_issue hi (xBr_past_letter h0 h3 hz ht), fun ht =>
      ⟨fun hc => next_issue hi (xBr_always h0 h3 hz ht hc), fun hc hu hp => ⟨fun hw => ?taken, fun hw => ?passed⟩⟩⟩,
    fun t => ⟨(getCore_branchTo t).1, branchTo_loops t⟩, fun hl => ?next⟩
  case taken => exact next_issue hi ((xBr_on_word h0 h3 hz ht hc hu hp).trans (if_pos hw))
  case passed => exact next_issue hi ((xBr_on_word h0 h3 hz ht hc hu hp).trans (if_neg hw))
  case next =>
    rw [getCore_advance_same, advanceFrom, hl]
    rfl

end Sys2Proof.Machine
end

section
/-!
PROOFS. Traps: what one records, drops and keeps (R111, R112), and what its report does (R105, R487, R488).
-/

namespace Sys2Proof.Machine

section
variable (g cls cause pc next line ch word : Nat) (s : State)

/-- A trap changes its core, registers and the consequences that are due, and nothing else of the state. -/
theorem trap_parts : ∃ c r d, trap g cls cause pc next line ch word s = { s with cores := { s.cores with cores := c }, regs := r, due := d } := by
  obtain ⟨⟨c, r, d, ht⟩, _, _⟩ := onlyReleasing_barrierChecks g
    (updCore g (fun c => { dropQueues c with st := .trapped, trapDue := true }) (trapWrites g cls cause pc next line ch word s))
  exact ⟨c, r, d, ht⟩

theorem getCore_trap : ∃ b v, getCore g (trap g cls cause pc next line ch word s) =
    { dropQueues (getCore g s) with st := .trapped, trapDue := true, releasing := b, relSent := v } := by
  obtain ⟨_, _, hcore⟩ := onlyReleasing_barrierChecks g
    (updCore g (fun c => { dropQueues c with st := .trapped, trapDue := true }) (trapWrites g cls cause pc next line ch word s))
  obtain ⟨b, v, hb⟩ := hcore g
  exact ⟨b, v, hb.trans (by rw [getCore_updCore_same]; rfl)⟩

/-- The fields that a trap may change: its record (R111), and UNREACH by the barrier that the core leaves (R104, R216). -/
def trapFields : List Reg :=
  [.coreTrapClass, .coreTrapCause, .coreTrapPc, .coreTrapNextPc, .coreTrapLine, .coreTrapCh, .coreTrapInsnWord, .netStatusUnreach]

theorem rd_trap_other {f : Reg} (i : Nat) (hf : f ∉ trapFields) : rd f i (trap g cls cause pc next line ch word s) = rd f i s := by
  simp only [trapFields, List.mem_cons, List.not_mem_nil, not_or, or_false] at hf
  obtain ⟨h1, h2, h3, h4, h5, h6, h7, h8⟩ := hf
  simp only [rd_trap _ _ _ _ _ _ _ _ _ i h8, trapWrites, rd_wr, h1, h2, h3, h4, h5, h6, h7, false_and, if_false]

/-- The rest of a trap's record, beside `rd_trap_record`. -/
theorem rd_trap_place (hnext : next < 2 ^ 13) (hline : line < 2 ^ 13) (hch : ch < 2 ^ 3) :
    rd .coreTrapNextPc g (trap g cls cause pc next line ch word s) = next ∧
      rd .coreTrapLine g (trap g cls cause pc next line ch word s) = line ∧
      rd .coreTrapCh g (trap g cls cause pc next line ch word s) = ch := by
  simp only [rd_trap, ne_eq, reduceCtorEq, not_false_eq_true, trapWrites, rd_wr, false_and, if_false, and_self, if_true]
  exact ⟨Nat.mod_eq_of_lt hnext, Nat.mod_eq_of_lt hline, Nat.mod_eq_of_lt hch⟩

end

section
variable {g : Nat} {s : State}

theorem trapReport_of_none (h : (getCore g s).trapDue = false) : trapReport g s = s := if_pos (by rw [h]; rfl)

theorem trapReport_of_free (h : (getCore g s).trapDue = true) (hd : coreDistrict g s = none) :
    trapReport g s = updCore g (fun c => { c with trapDue := false }) s := by
  simp [trapReport, h, hd]

theorem trapReport_of_step {d : Nat} (h : (getCore g s).trapDue = true) (hd : coreDistrict g s = some d)
    (hr : (getDistrict d s).running = true) :
    trapReport g s =
      let s1 := logEvent { faultRec 2 0x0035 (siteOf g) (g % 2048) (rd .coreTrapClass g s * 256 + rd .coreTrapCause g s) 5 with
        districts := [d] } [d] (deadLetter d 2 0 (trapRecord g s) (updCore g (fun c => { c with trapDue := false }) s))
      if letterError g s then failDistrict d 32 false s1 else failStep d true s1 := by
  simp [trapReport, h, hd, hr]

theorem letterError_iff :
    letterError g s = true ↔ rd .coreTrapClass g s ∈ [1, 2, 3, 6] ∨ (rd .coreTrapClass g s = 5 ∧ rd .coreTrapCause g s ≤ 8) := by
  simp [letterError, or_assoc]

end

/-- Settles O13: the trap's writes are read back, its core is that of `getCore_trap`, and the report follows its three branches. -/
theorem trapRules : Obligations.TrapRules := by
  refine ⟨fun g cls cause pc next line ch word s hcls hcause hpc hnext hline hch hword => ?effect, fun g s =>
    ⟨fun h => congrArg (Host.Outcome.next ∘ settle) (trapReport_of_none h),
      fun h hd => congrArg (Host.Outcome.next ∘ settle) (trapReport_of_free h hd),
      fun d h hd hr => congrArg (Host.Outcome.next ∘ settle) (trapReport_of_step h hd hr), letterError_iff⟩⟩
  obtain ⟨rcls, rcause, rpc, rword⟩ := rd_trap_record g cls cause pc next line ch word s hcls hcause hpc hword
  obtain ⟨rnext, rline, rch⟩ := rd_trap_place g cls cause pc next line ch word s hnext hline hch
  obtain ⟨c, r, d, ht⟩ := trap_parts g cls cause pc next line ch word s
  obtain ⟨b, v, hcore⟩ := getCore_trap g cls cause pc next line ch word s
  refine ⟨rcls, rcause, rpc, rnext, rline, rch, rword, fun f i hf => rd_trap_other _ _ _ _ _ _ _ _ _ i hf, ?_⟩
  unfold UnitsIdle
  rw [hcore]
  exact ⟨rfl, ⟨rfl, rfl, rfl⟩, rfl, rfl, rfl, rfl, rfl, by rw [ht], by rw [ht]⟩

end Sys2Proof.Machine
end

section
/-!
PROOFS. The frame of the letter instructions that only move the letter on or wait for channels (R93, R94, R106, R107, R111).
-/

namespace Sys2Proof.Machine

/-- From one state to the other nothing has changed but cores, the consequences due, and register fields that a trap writes. -/
def FlowOnly (s t : State) : Prop :=
  (∃ c r d, t = { s with cores := { s.cores with cores := c }, regs := r, due := d }) ∧ ∀ f i, f ∉ trapFields → rd f i t = rd f i s

theorem FlowOnly.refl (s : State) : FlowOnly s s := ⟨⟨_, _, _, rfl⟩, fun _ _ _ => rfl⟩

theorem FlowOnly.trans {s t u : State} (a : FlowOnly s t) (b : FlowOnly t u) : FlowOnly s u := by
  obtain ⟨⟨_, _, _, rfl⟩, ha⟩ := a
  obtain ⟨⟨c, r, d, rfl⟩, hb⟩ := b
  exact ⟨⟨c, r, d, rfl⟩, fun f i hf => (hb f i hf).trans (ha f i hf)⟩

theorem flowOnly_updCore (g : Nat) (h : Core → Core) (s : State) : FlowOnly s (updCore g h s) :=
  ⟨⟨_, _, _, rfl⟩, fun _ _ _ => rfl⟩

theorem flowOnly_trap (g cls cause pc next line ch word : Nat) (s : State) : FlowOnly s (trap g cls cause pc next line ch word s) :=
  ⟨trap_parts .., fun _ i hf => rd_trap_other _ _ _ _ _ _ _ _ _ i hf⟩

/-- An instruction has gone on, waits itself, or has trapped: with idle units nothing but its core and a trap's fields has changed, and
nothing waits but the instruction. -/
def FlowStep (g w : Nat) (s t : State) : Prop :=
  FlowOnly s t ∧ UnitsIdle g t ∧ ((getCore g t).wait = none ∨ (getCore g t).wait = some w)

section
variable {g w : Nat} {s : State}

theorem flowStep_trapNow (cls cause line ch : Nat) : FlowStep g w s (trapNow g cls cause line ch w s) := by
  obtain ⟨hidle, hwait⟩ := resting_iff.1 (resting_trap g cls cause (getCore g s).pc (getCore g s).pc line ch w s)
  exact ⟨flowOnly_trap .., hidle, .inl hwait⟩

/-- An update of the core that leaves its queues. -/
theorem flowStep_updCore {f : Core → Core} (hu : UnitsIdle g s) (hmq : (f (getCore g s)).mq = (getCore g s).mq)
    (hvq : (f (getCore g s)).vq = (getCore g s).vq) (hd : (f (getCore g s)).drain = (getCore g s).drain)
    (hw : (f (getCore g s)).wait = none ∨ (f (getCore g s)).wait = some w) : FlowStep g w s (updCore g f s) := by
  unfold FlowStep UnitsIdle
  rw [getCore_updCore_same, hmq, hvq, hd]
  exact ⟨flowOnly_updCore .., hu, hw⟩

theorem flowStep_waitIn (hu : UnitsIdle g s) (st : CoreSt) : FlowStep g w s (waitIn g w st s) :=
  flowStep_updCore hu rfl rfl rfl (.inr rfl)

theorem flowStep_advance (hu : UnitsIdle g s) : FlowStep g w s (advance g s) := flowStep_updCore hu rfl rfl rfl (.inl rfl)

theorem flowStep_branchTo (hu : UnitsIdle g s) (t : Nat) : FlowStep g w s (branchTo g t s) := flowStep_updCore hu rfl rfl rfl (.inl rfl)

theorem flowStep_startLoop (hu : UnitsIdle g s) (n body : Nat) : FlowStep g w s (startLoop g n body s) := by
  by_cases h : n = 0
  · subst h; exact flowStep_updCore hu rfl rfl rfl (.inl rfl)
  · exact flowStep_updCore hu (by rw [if_neg h]) (by rw [if_neg h]) (by rw [if_neg h]) (.inl (by rw [if_neg h]))

/-! Each instruction. -/

theorem flowStep_ite {c : Prop} [Decidable c] {t u : State} (ht : FlowStep g w s t) (hu : FlowStep g w s u) :
    FlowStep g w s (if c then t else u) := by
  split
  · exact ht
  · exact hu

theorem flowStep_xNop (hu : UnitsIdle g s) : FlowStep g w s (xNop g w s) := flowStep_ite (flowStep_trapNow ..) (flowStep_advance hu)

theorem flowStep_xLoop (hu : UnitsIdle g s) : FlowStep g w s (xLoop g w s) :=
  flowStep_ite (flowStep_trapNow ..) (flowStep_ite (flowStep_trapNow ..) (flowStep_startLoop hu ..))

theorem flowStep_xLoopi (hu : UnitsIdle g s) : FlowStep g w s (xLoopi g w s) :=
  flowStep_ite (flowStep_trapNow ..) (flowStep_ite (flowStep_trapNow ..) (flowStep_ite (flowStep_waitIn hu _)
    (flowStep_ite (flowStep_trapNow ..) (flowStep_ite (flowStep_trapNow ..) (flowStep_startLoop hu ..)))))

theorem flowStep_xBr (hu : UnitsIdle g s) : FlowStep g w s (xBr g w s) :=
  flowStep_ite (flowStep_trapNow ..) (flowStep_ite (flowStep_trapNow ..) (flowStep_ite (flowStep_branchTo hu _)
    (flowStep_ite (flowStep_waitIn hu _) (flowStep_ite (flowStep_trapNow ..) (flowStep_ite (flowStep_branchTo hu _)
      (flowStep_advance hu))))))

theorem flowStep_xDwait (hu : UnitsIdle g s) : FlowStep g w s (xDwait g w s) := by
  refine flowStep_ite (flowStep_trapNow ..) (flowStep_ite (flowStep_waitIn hu _) ?_)
  split
  · exact flowStep_trapNow ..
  · exact flowStep_advance hu

end

/-! Issue, and the one retry of an instruction that waits. -/

theorem runUnits_of_idle {g : Nat} {s : State} (h : UnitsIdle g s) (k : Nat) : runUnits g k s = s := by
  obtain ⟨hmq, hvq, hd⟩ := h
  cases k with
  | zero => rfl
  | succ k => simp [runUnits, moveMatrix, moveVector, hmq, hvq, hd]

section
variable {f : Nat → Nat → State → State} {g w : Nat} {s : State}

theorem wake_of_no_retry (h : UnitsIdle g s) (hr : retry g s = none) : wake g s = s := by
  simp [wake, runUnits_of_idle h, hr]

theorem wake_of_retry {x : Nat} (h : UnitsIdle g s) (hr : retry g s = some x) :
    wake g s = issueWord g x (updCore g (fun c => { c with st := .running, wait := none }) s) := by
  simp [wake, runUnits_of_idle h, hr]

/-- What `wake` makes of an instruction that has gone on, trapped, or is tried again. -/
theorem flowOnly_wake {t : State} (hf : ∀ u, UnitsIdle g u → FlowStep g w u (issueWord g w u)) (ht : FlowStep g w s t) :
    FlowOnly s (wake g t) := by
  obtain ⟨hst, hidle, hwait⟩ := ht
  have hretry : retry g t = none ∨ retry g t = some w := by
    unfold retry
    split
    · exact .inl rfl
    · exact hwait
  rcases hretry with h | h
  · rw [wake_of_no_retry hidle h]; exact hst
  · rw [wake_of_retry hidle h]
    have hidle' : UnitsIdle g (updCore g (fun c => { c with st := .running, wait := none }) t) := by
      simpa only [UnitsIdle, getCore_updCore_same] using hidle
    exact (hst.trans (flowOnly_updCore ..)).trans (hf _ hidle').1

theorem flowOnly_issue (hf : ∀ u, UnitsIdle g u → FlowStep g w u (f g w u)) (hw : ∀ u, issueWord g w u = f g w u) (hu : UnitsIdle g s) :
    FlowOnly s (issue f g w s) := by
  unfold issue
  dsimp only
  split
  · exact .refl s
  · split
    · exact flowOnly_trap ..
    · split
      · exact flowOnly_trap ..
      · exact flowOnly_wake (fun u hu => hw u ▸ hf u hu) (hf s hu)

end

section
variable {g w : Nat} {s : State}

theorem issueWord_xNop (h : bits w 56 8 = 0x00) : issueWord g w s = xNop g w s := by simp only [issueWord, h]
theorem issueWord_xDwait (h : bits w 56 8 = 0x03) : issueWord g w s = xDwait g w s := by simp only [issueWord, h]
theorem issueWord_xLoop (h : bits w 56 8 = 0x07) : issueWord g w s = xLoop g w s := by simp only [issueWord, h]
theorem issueWord_xLoopi (h : bits w 56 8 = 0x08) : issueWord g w s = xLoopi g w s := by simp only [issueWord, h]
theorem issueWord_xBr (h : bits w 56 8 = 0x09) : issueWord g w s = xBr g w s := by simp only [issueWord, h]

end

/-- Settles O14: each of the five instructions is a `FlowStep`, tried again at most once (`flowOnly_wake`), so the states differ by
`FlowOnly`. -/
theorem flowLettersFrame : Obligations.FlowLettersFrame := by
  rintro g w s t hu - ⟨c, hc, ht⟩
  have hword {op : Nat} (hop : op < 256) : bits (wordOf op w) 56 8 = op := mOp_wordOf hop w
  have hflow : FlowOnly s t := by
    simp only [List.mem_cons, List.not_mem_nil, or_false] at hc
    rcases hc with rfl | rfl | rfl | rfl | rfl <;> obtain rfl := Host.Outcome.next.inj ht
    · exact flowOnly_issue (fun _ => flowStep_xNop) (fun _ => issueWord_xNop (hword (by decide))) hu
    · exact flowOnly_issue (fun _ => flowStep_xLoop) (fun _ => issueWord_xLoop (hword (by decide))) hu
    · exact flowOnly_issue (fun _ => flowStep_xLoopi) (fun _ => issueWord_xLoopi (hword (by decide))) hu
    · exact flowOnly_issue (fun _ => flowStep_xBr) (fun _ => issueWord_xBr (hword (by decide))) hu
    · exact flowOnly_issue (fun _ => flowStep_xDwait) (fun _ => issueWord_xDwait (hword (by decide))) hu
  obtain ⟨⟨c, r, d, rfl⟩, hrd⟩ := hflow
  exact ⟨hrd, fun _ => rfl, fun _ => rfl, fun _ => rfl, rfl, rfl, rfl, rfl, rfl, rfl, rfl⟩

end Sys2Proof.Machine
end

section
/-!
PROOFS. GO and STOP of a core (R81, R114, R393, R412, R436).
-/

namespace Sys2Proof.Machine

section
variable {g : Nat} {f : Reg} {act : State → State} {s : State}

theorem coreWrite_of_busy (h : bit .corePostBusy g s = true) : coreWrite g f act s = flag .corePostOverrun g s :=
  blockWrite_core_of_busy _ h

theorem coreWrite_of_dark (h : bit .corePostBusy g s = false) (hd : bit .thclCtrlDark (clusterOf g) s = true) :
    coreWrite g f act s = { flag .corePostBusy g s with posted := s.posted ++ [⟨.core, g, [(f, g, 1)]⟩] } :=
  (blockWrite_core_of_free _ h).trans (if_pos (Bool.and_eq_true_iff.2 ⟨rfl, hd⟩))

theorem coreWrite_of_lit (h : bit .corePostBusy g s = false) (hd : bit .thclCtrlDark (clusterOf g) s = false) :
    coreWrite g f act s = act s :=
  (blockWrite_core_of_free _ h).trans (if_neg (by rw [coreDark, hd, Bool.and_false]; decide))

end

section
variable {g : Nat} {s : State}

/-! GO. -/

theorem goCore_of_other_state (h : goState (getCore g s).st = false) : goCore g s = s := if_pos (by rw [h]; rfl)

theorem goCore_of_accepted (h : goState (getCore g s).st = true) (hl : letterOk g s = true) :
    goCore g s = if busyIn 255 (getCore g s) then updCore g (fun c => { c with goWait := true }) s else startCore g s :=
  if_neg (by rw [h, hl]; decide)

theorem goIfWaiting_of_free (h : (getCore g s).goWait = true) (hb : busyIn 255 (getCore g s) = false) : goIfWaiting g s = startCore g s :=
  if_pos (by rw [h, hb]; rfl)

/-- The semaphores of a list written 0. -/
def clearSems (g : Nat) (js : List Nat) (s : State) : State := js.foldl (fun t j => wr .coreSemValue (16 * g + j) 0 t) s

/-- The fields that GO writes: CORE.TRAP and the semaphores (R114). -/
def startWrites (g : Nat) (s : State) : State :=
  clearSems g (List.range 16) (wr .coreTrapClass g 0 (wr .coreTrapCause g 0 (wr .coreTrapPc g 0 (wr .coreTrapNextPc g 0
    (wr .coreTrapLine g 0 (wr .coreTrapCh g 0 s))))))

/-- What GO leaves of its core (R114). -/
def startedCore (entry : Nat) (c : Core) : Core :=
  { c with
    st := .running, pc := entry, loops := [], vcfg := {}, wait := none, held := false, took := false, fresh := true, reported := false,
    arrived := none, releasing := false, goWait := false,
    chans := c.chans.map fun h => if h.st = .halted then { h with st := .idle, code := 0 } else h }

theorem startCore_eq : startCore g s = updCore g (startedCore (rd .coreLetterEntry g s)) (startWrites g s) := rfl

theorem clearSems_cores (js : List Nat) : (clearSems g js s).cores = s.cores := by
  unfold clearSems
  induction js generalizing s with
  | nil => rfl
  | cons j js ih => exact ih

theorem startWrites_cores : (startWrites g s).cores = s.cores := clearSems_cores _

theorem getCore_startCore : getCore g (startCore g s) = startedCore (rd .coreLetterEntry g s) (getCore g s) := by
  rw [startCore_eq, getCore_updCore_same, getCore, startWrites_cores]
  rfl

theorem startCore_lineTag : (startCore g s).cores.lineTag = s.cores.lineTag := by
  have h : (startWrites g s).cores.lineTag = s.cores.lineTag := by rw [startWrites_cores]
  rw [startCore_eq, updCore, setCore_lineTag, h]

theorem rd_clearSems_field {f : Reg} (hf : f ≠ .coreSemValue) (i : Nat) (js : List Nat) : rd f i (clearSems g js s) = rd f i s := by
  unfold clearSems
  induction js generalizing s with
  | nil => rfl
  | cons j js ih => exact ih.trans (rd_wr_field _ _ _ _ _ _ hf)

theorem rd_clearSems_mem {j : Nat} {js : List Nat} (h : j ∈ js ∨ rd .coreSemValue (16 * g + j) s = 0) :
    rd .coreSemValue (16 * g + j) (clearSems g js s) = 0 := by
  unfold clearSems
  induction js generalizing s with
  | nil => exact h.resolve_left (List.not_mem_nil)
  | cons k js ih =>
    refine ih ?_
    by_cases hj : j = k
    · rw [hj, rd_wr_same]
      exact .inr (Nat.zero_mod _)
    · rw [rd_wr_index _ _ _ _ _ (by omega)]
      exact h.imp_left fun hm => List.mem_of_ne_of_mem hj hm

/-- GO clears CORE.TRAP. -/
theorem rd_startCore_trap {f : Reg}
    (hf : f ∈ [Reg.coreTrapClass, .coreTrapCause, .coreTrapPc, .coreTrapNextPc, .coreTrapLine, .coreTrapCh]) :
    rd f g (startCore g s) = 0 := by
  have hne : f ≠ .coreSemValue := by rintro rfl; exact absurd hf (by decide)
  rw [startCore_eq, rd_updCore, startWrites, rd_clearSems_field hne]
  fin_cases hf <;> simp only [rd_wr, reduceCtorEq, false_and, if_false, and_self, if_true, Nat.zero_mod]

theorem rd_startCore_sem (j : Fin 16) : rd .coreSemValue (16 * g + j.val) (startCore g s) = 0 := by
  rw [startCore_eq, rd_updCore]
  exact rd_clearSems_mem (.inl (List.mem_range.2 j.isLt))

/-! STOP. -/

/-- The state in which STOP leaves its core before the barrier it leaves is examined (R114). -/
def stoppedState (g : Nat) (s : State) : State := updCore g (fun c => { dropQueues c with st := .stopped, held := false, took := false }) s

theorem stopCore_of_stopped (h : goState (getCore g s).st = true) : stopCore g s = s := if_pos h

theorem stopCore_of_live (h : goState (getCore g s).st = false) : stopCore g s = barrierChecks g (stoppedState g s) :=
  if_neg (by rw [h]; decide)

theorem stop_leaves (g : Nat) (s : State) :
    let t := barrierChecks g (stoppedState g s)
    (getCore g t).st = .stopped ∧ UnitsIdle g t ∧ (getCore g t).wait = none ∧ (getCore g t).held = false ∧
      (getCore g t).chans = (getCore g s).chans ∧ ∀ f i, f ≠ .netStatusUnreach → rd f i t = rd f i s := by
  intro t
  obtain ⟨_, hrd, hcore⟩ := onlyReleasing_barrierChecks g (stoppedState g s)
  obtain ⟨b, v, hb⟩ := hcore g
  have hg : getCore g t = { { dropQueues (getCore g s) with st := .stopped, held := false, took := false } with
      releasing := b, relSent := v } := by
    rw [hb, stoppedState, getCore_updCore_same]
  unfold UnitsIdle
  rw [hg]
  exact ⟨rfl, ⟨rfl, rfl, rfl⟩, rfl, rfl, rfl, fun f i hf => hrd f i hf⟩

end

/-- Settles O22: the core's block decides what becomes of the write (`coreWrite_of_busy`, `coreWrite_of_dark`, `coreWrite_of_lit`); GO
leaves the core of `getCore_startCore`, STOP the state of `stop_leaves`. -/
theorem goRule : Obligations.GoRule := by
  intro g s
  refine ⟨fun hb => ?busy, fun hb hd => ?dark, fun hb hd => ⟨fun hgo hl => ?go, fun hgo => ?ignored, fun hgo => ?stop, fun hgo => ?still⟩,
    goIfWaiting_of_free, ?started⟩
  case busy => exact ⟨congrArg Host.Outcome.next (coreWrite_of_busy hb), congrArg (Host.Outcome.next ∘ settle) (coreWrite_of_busy hb)⟩
  case dark => exact ⟨congrArg Host.Outcome.next (coreWrite_of_dark hb hd), congrArg (Host.Outcome.next ∘ settle) (coreWrite_of_dark hb hd)⟩
  case go =>
    have hgoes := (coreWrite_of_lit (f := .coreCtrlGo) hb hd).trans (goCore_of_accepted hgo hl)
    constructor
    · intro hc
      refine ⟨_, congrArg Host.Outcome.next (hgoes.trans (if_pos hc)), onlyCore_updCore .., ?_⟩
      rw [getCore_updCore_same]
      exact ⟨rfl, rfl⟩
    · exact fun hc => congrArg Host.Outcome.next (hgoes.trans (if_neg (by rw [hc]; decide)))
  case ignored => exact congrArg Host.Outcome.next ((coreWrite_of_lit hb hd).trans (goCore_of_other_state hgo))
  case stop =>
    exact ⟨_, congrArg (Host.Outcome.next ∘ settle) ((coreWrite_of_lit hb hd).trans (stopCore_of_live hgo)), stop_leaves g s⟩
  case still => exact congrArg (Host.Outcome.next ∘ settle) ((coreWrite_of_lit hb hd).trans (stopCore_of_stopped hgo))
  case started =>
    refine ⟨?_, ?_, ?_, ?_, ?_, ?_, ?_, ?_, startCore_lineTag, fun f => rd_startCore_trap, rd_startCore_sem⟩
    all_goals
      rw [getCore_startCore]
      rfl

end Sys2Proof.Machine
end

section
/-!
PROOFS. What vector instructions and transfers leave of the cores: the scratchpad operations of chapters 02 and 05 change no core.
-/

namespace Sys2Proof.Machine

variable {h : Nat}

theorem getCore_foldl {β : Type} {f : State → β → State} (hf : ∀ u x, getCore h (f u x) = getCore h u) (l : List β) (s : State) :
    getCore h (l.foldl f s) = getCore h s :=
  List.foldlRecOn (motive := fun u => getCore h u = getCore h s) l f rfl fun u ih x _ => (hf u x).trans ih

@[simp] theorem getCore_ite {c : Prop} [Decidable c] {s t : State} :
    getCore h (if c then s else t) = if c then getCore h s else getCore h t :=
  apply_ite _ c s t

/-! Lines of a scratchpad (Machine/Ops). -/

@[simp] theorem getCore_setTag (g line t : Nat) (s : State) : getCore h (setTag g line t s) = getCore h s := by rfl
@[simp] theorem getCore_setPoison (g line : Nat) (b : Bool) (s : State) : getCore h (setPoison g line b s) = getCore h s := by rfl

@[simp] theorem getCore_spWrite (g off tag : Nat) (bs : List Byte) (s : State) : getCore h (spWrite g off tag bs s) = getCore h s := by
  refine (getCore_foldl (fun u l => ?_) _ _).trans rfl
  rw [getCore_setTag, getCore_ite, getCore_setPoison, ite_self]

/-! The writes of a vector instruction (Machine/Vector). -/

@[simp] theorem getCore_pokeElem (g line : Nat) (f : Fmt) (i n v : Nat) (s : State) :
    getCore h (pokeElem g line f i n v s) = getCore h s := by rfl
@[simp] theorem getCore_pokeByte (g a v : Nat) (s : State) : getCore h (pokeByte g a v s) = getCore h s := by rfl

@[simp] theorem getCore_touchLines (g : Nat) (ls : List (Nat × Bool)) (s : State) :
    getCore h (touchLines g ls s) = getCore h s := by
  refine getCore_foldl (fun u p => ?_) _ _
  rw [getCore_setTag, getCore_ite, getCore_setPoison, ite_self]

@[simp] theorem getCore_pokeWord (g line k : Nat) (v : BitVec 32) (s : State) : getCore h (pokeWord g line k v s) = getCore h s :=
  (getCore_touchLines ..).trans rfl

@[simp] theorem getCore_chunkStore (g w : Nat) (c : VecCfg) (draws : List Nat) (i : Nat) (outs : List (BitVec 32)) (s : State) :
    getCore h (chunkStore g w c draws i outs s).1 = getCore h s := by
  unfold chunkStore
  refine List.foldlRecOn (motive := fun a : State × NumFlags => getCore h a.1 = getCore h s) _ _ ?_ fun a ih p _ => ?_
  · dsimp only
    split
    · exact getCore_pokeByte ..
    · rfl
  · exact (getCore_pokeElem ..).trans ih

/-! The run of a vector instruction. -/

section
variable (g w : Nat) (c : VecCfg) (draws : List Nat) (r : VRun)

theorem getCore_chunkStep (tile : Option Tile) (mx : BitVec 32) (ch : Nat × Nat) :
    getCore h (chunkStep g w c tile mx draws r ch).s = getCore h r.s := by
  unfold chunkStep
  split
  · rfl
  · split
    · rfl
    · dsimp only
      split
      · rfl
      · split
        · rfl
        · rw [getCore_touchLines, getCore_chunkStore]

theorem getCore_storeOne (v : BitVec 32) : getCore h (storeOne g w c draws v r).s = getCore h r.s := by
  unfold storeOne
  dsimp only
  split
  · rfl
  · rw [getCore_touchLines, getCore_chunkStore]

theorem getCore_vFinish (sum mx : BitVec 32) : getCore h (vFinish g w c draws sum mx r).s = getCore h r.s := by
  unfold vFinish
  split
  · rfl
  · dsimp only
    split
    · exact getCore_storeOne ..
    · split
      · split
        · exact getCore_storeOne ..
        · rw [getCore_pokeWord, getCore_pokeWord]
          exact getCore_storeOne ..
      · split
        · exact getCore_pokeWord ..
        · rfl

theorem getCore_chunks (tile : Option Tile) (mx : BitVec 32) (chs : List (Nat × Nat)) :
    getCore h (chs.foldl (chunkStep g w c tile mx draws) r).s = getCore h r.s :=
  List.foldlRecOn (motive := fun u : VRun => getCore h u.s = getCore h r.s) chs _ rfl fun _ ih _ _ => (getCore_chunkStep ..).trans ih

end

theorem resting_applySr {g : Nat} {s : State} (hr : Resting (getCore g s)) : Resting (getCore g (applySr g s)) := by
  rw [applySr_eq, getCore_setCore_same]
  exact hr

theorem resting_popTile {b : Bool} {c : Core} (hr : Resting c) : Resting (popTile b c) := by
  cases b <;> exact hr

/-- A vector instruction that runs leaves a resting core resting: it changes a core's tiles and held draws, or traps. -/
theorem resting_runVector {g : Nat} {q : Queued} {s : State} (hr : Resting (getCore g s)) : Resting (getCore g (runVector g q s)) := by
  unfold runVector
  dsimp only
  split
  · exact resting_trap ..
  · rw [getCore_updCore_same, getCore_flagIf, getCore_setFlags, getCore_countDraws, getCore_vFinish, getCore_chunks]
    apply resting_popTile
    dsimp only
    split
    · exact resting_applySr hr
    · exact hr

theorem resting_runVapnd {g : Nat} {q : Queued} {s : State} (hr : Resting (getCore g s)) : Resting (getCore g (runVapnd g q s)) := by
  unfold runVapnd
  dsimp only
  split
  · exact resting_trap ..
  · rw [showQocc, getCore_wr]
    change Resting (getCore g (setFlags g _ s))
    rw [getCore_setFlags]
    exact hr

end Sys2Proof.Machine
end

section
/-!
PROOFS. Vector instructions at issue (R84, R89 to R91, R116, R119, R132): VCFG, an instruction without elements, and one that runs at once.
-/

namespace Sys2Proof.Machine

section
variable {g w : Nat} {q : Queued} {s : State}

theorem issueVcfg_of_legal (h : vcfgCause w = 0) :
    issueVcfg g w s = updCore g (fun c => { advanceFrom c.pc c with vcfg := vcfgOf w }) s :=
  if_neg (not_not_intro h)

/-- The effect of a vector instruction that runs. -/
def runVectorOf (q : Queued) : Nat → Queued → State → State := if vOp q.word = 0xB2 then runVapnd else runVector

theorem resting_runVectorOf (hr : Resting (getCore g s)) : Resting (getCore g (runVectorOf q g q s)) := by
  unfold runVectorOf
  split
  · exact resting_runVapnd hr
  · exact resting_runVector hr

/-- An instruction alone in its queue, nothing held against it, moves. -/
theorem moveVector_of_alone (hvq : (getCore g s).vq = [q]) (hb : vBlocked g q s = false) (ht : tileCheck q.word (getCore g s) = none) :
    moveVector g s = some (runVectorOf q g q (setCore g { getCore g s with vq := [] } s)) := by
  simp only [moveVector, hvq, hb, ht, runVectorOf, Bool.false_eq_true, if_false]
  split
  · rfl
  · rfl

/-- The state in which a vector instruction has issued and stands alone in its queue. -/
def vqueuedAlone (g w : Nat) (s : State) : State :=
  setCore g { advanceFrom (getCore g s).pc (getCore g s) with vq := [entryOf g w s] } s

theorem getCore_vqueuedAlone :
    getCore g (vqueuedAlone g w s) = { advanceFrom (getCore g s).pc (getCore g s) with vq := [entryOf g w s] } :=
  getCore_setCore_same ..

section
variable (hc : vCheck g w (getCore g s).vcfg s = none)
include hc

theorem issueVector_of_empty (hn : vCount w = 0) : issueVector g w s = advance g s := by
  unfold issueVector
  dsimp only
  rw [hc]
  exact if_pos hn

theorem issueVector_of_idle (hn : 0 < vCount w) (hvq : (getCore g s).vq = []) :
    issueVector g w s = runUnits g unitFuel (vqueuedAlone g w s) := by
  unfold issueVector
  dsimp only
  rw [hc]
  dsimp only
  rw [if_neg (Nat.ne_of_gt hn), hvq, if_neg (by decide)]
  rfl

end

/-- What holds an instruction back is the same once it stands in the queue: tiles, transfers, the KV queue, and no older array work. -/
theorem vBlocked_vqueuedAlone : vBlocked g q (vqueuedAlone g w s) = vBlocked g q s := by
  unfold vBlocked
  rw [getCore_vqueuedAlone]
  rfl

theorem moveVector_vqueuedAlone (hidle : UnitsIdle g s) (hwf : CoresWf s) (hb : vBlocked g (entryOf g w s) s = false)
    (ht : tileCheck w (getCore g s) = none) :
    moveVector g (vqueuedAlone g w s) = some (runVectorOf (entryOf g w s) g (entryOf g w s) (advance g s)) := by
  obtain ⟨_, hvq, _⟩ := hidle
  have hadv : setCore g { getCore g (vqueuedAlone g w s) with vq := [] } (vqueuedAlone g w s) = advance g s := by
    rw [getCore_vqueuedAlone, vqueuedAlone, setCore_setCore hwf, ← hvq]
    rfl
  rw [moveVector_of_alone (q := entryOf g w s), hadv]
  · rw [getCore_vqueuedAlone]
  · rw [vBlocked_vqueuedAlone, hb]
  · rw [getCore_vqueuedAlone]
    exact ht

theorem moveMatrix_vqueuedAlone (hidle : UnitsIdle g s) : moveMatrix vWrites vDraws g (vqueuedAlone g w s) = none := by
  obtain ⟨hmq, _, hd⟩ := hidle
  have hmq' : (getCore g (vqueuedAlone g w s)).mq = [] := by rw [getCore_vqueuedAlone]; exact hmq
  have hd' : (getCore g (vqueuedAlone g w s)).drain = none := by rw [getCore_vqueuedAlone]; exact hd
  simp [moveMatrix, hmq', hd']

/-- A vector instruction that passes its checks on idle units, with nothing to wait for, advances and runs at once. -/
theorem issue_vector (hi : CanIssue g s) (hc : vCheck g w (getCore g s).vcfg s = none) (hn : 0 < vCount w) (hidle : UnitsIdle g s)
    (hwf : CoresWf s) (hb : vBlocked g (entryOf g w s) s = false) (ht : tileCheck w (getCore g s) = none) :
    issue issueVector g w s = runVectorOf (entryOf g w s) g (entryOf g w s) (advance g s) := by
  have hrest : Resting (getCore g (runVectorOf (entryOf g w s) g (entryOf g w s) (advance g s))) :=
    resting_runVectorOf (resting_advance hidle)
  rw [issue_can _ _ _ _ hi, issueVector_of_idle hc hn hidle.2.1, unitFuel, runUnits, moveMatrix_vqueuedAlone hidle,
    moveVector_vqueuedAlone hidle hwf hb ht]
  dsimp only
  rw [runUnits_of_resting hrest, wake_of_resting hrest]

end

/-- The rows of the common layout with their opcodes (R92). -/
def vectorRows : List ((CoreId → BitVec 56 → Instr) × Nat) :=
  [(.vadd, 0x81), (.vsub, 0x82), (.vmul, 0x83), (.vfma, 0x84), (.vmax, 0x85), (.vmin, 0x86), (.vcvt, 0x87),
    (.vaddb, 0x88), (.vmulb, 0x89), (.vtrow, 0x8A), (.vexp, 0x90), (.vlog, 0x91), (.vrcp, 0x92), (.vrsq, 0x93), (.vtanh, 0x94),
    (.vsigm, 0x95), (.vrsum, 0xA0), (.vrmax, 0xA1), (.vrmin, 0xA2), (.vrssq, 0xA3), (.vsmax, 0xA8), (.vsexp, 0xA9),
    (.vrope, 0xB0), (.vkvq, 0xB1), (.vapnd, 0xB2)]

/-- Each row issues a vector instruction of its opcode. -/
theorem exec_vectorRows {p : (CoreId → BitVec 56 → Instr) × Nat} (hp : p ∈ vectorRows) (g : CoreId) (w : BitVec 56) (s : State) :
    exec (p.1 g w) s = .next (issue issueVector g (wordOf p.2 w) s) ∧ p.2 < 256 := by
  fin_cases hp <;> exact ⟨rfl, by decide⟩

/-- Settles O20: VCFG by its one check, and each row of the common layout by `issue_vector`. -/
theorem vectorRuns : Obligations.VectorRuns := by
  intro g w s hi
  refine ⟨fun h => next_issue hi (issueVcfg_of_legal h), fun p hp hc => ?_⟩
  obtain ⟨hexec, hop⟩ := exec_vectorRows hp g w s
  have hvop : vOp (entryOf g (wordOf p.2 w) s).word = p.2 := mOp_wordOf hop w
  rw [hexec]
  refine ⟨fun hn => next_issue hi (issueVector_of_empty hc hn), fun hn hidle hwf hb ht => ?_⟩
  rw [issue_vector hi hc hn hidle hwf hb ht, runVectorOf, hvop]

end Sys2Proof.Machine
end

section
/-!
PROOFS. The frame of an access to a vault (chapter 06): reads, repairs and writes change vaults, register fields, the logbook and the
consequences due, and nothing else of the state.
-/

namespace Sys2Proof.Machine

/-- The state but for what an access to a vault may change. -/
def beyondVaults (s : State) : State :=
  { s with vaults := State.reset.vaults, regs := [], logbook := [], logSeq := 0, due := [] }

/-- Cores are beyond the vaults. -/
theorem getCore_of_beyondVaults {s t : State} (h : beyondVaults t = beyondVaults s) (g : Nat) : getCore g t = getCore g s := by
  change getCore g (beyondVaults t) = getCore g (beyondVaults s)
  rw [h]

@[simp] theorem beyondVaults_ite {c : Prop} [Decidable c] {s t : State} :
    beyondVaults (if c then s else t) = if c then beyondVaults s else beyondVaults t :=
  apply_ite _ c s t

@[simp] theorem beyondVaults_ite_snd {α : Type} {c : Prop} [Decidable c] {a b : α × State} :
    beyondVaults (if c then a else b).2 = if c then beyondVaults a.2 else beyondVaults b.2 := by
  split <;> rfl

@[simp] theorem beyondVaults_foldl {β : Type} {f : State → β → State} (hf : ∀ u x, beyondVaults (f u x) = beyondVaults u) (l : List β)
    (s : State) : beyondVaults (l.foldl f s) = beyondVaults s :=
  List.foldlRecOn (motive := fun u => beyondVaults u = beyondVaults s) l f rfl fun u ih x _ => (hf u x).trans ih

/-! Registers and the logbook (Machine/Ops). -/

@[simp] theorem beyondVaults_wr (f : Reg) (i v : Nat) (s : State) : beyondVaults (wr f i v s) = beyondVaults s := by rfl
@[simp] theorem beyondVaults_addSat (f : Reg) (i n : Nat) (s : State) : beyondVaults (addSat f i n s) = beyondVaults s := by rfl
@[simp] theorem beyondVaults_bump (f : Reg) (i : Nat) (s : State) : beyondVaults (bump f i s) = beyondVaults s := by rfl
@[simp] theorem beyondVaults_flag (f : Reg) (i : Nat) (s : State) : beyondVaults (flag f i s) = beyondVaults s := by rfl
@[simp] theorem beyondVaults_addDue (x : Due) (s : State) : beyondVaults (addDue x s) = beyondVaults s := by rfl

@[simp] theorem beyondVaults_logEvent (r : LogRec) (ds : List Nat) (s : State) : beyondVaults (logEvent r ds s) = beyondVaults s := by
  have hlog : beyondVaults (addLog r s) = beyondVaults s := rfl
  simp only [logEvent, events, hlog, beyondVaults_addDue, beyondVaults_foldl, beyondVaults_ite, ite_self, implies_true]

/-! Single updates of a vault (Machine/Vault). -/

@[simp] theorem beyondVaults_upd {s : State} {x : VaultSide} : beyondVaults { s with vaults := x } = beyondVaults s := by rfl
@[simp] theorem beyondVaults_setMark (v off : Nat) (m : Mark) (s : State) : beyondVaults (setMark v off m s) = beyondVaults s := by rfl
@[simp] theorem beyondVaults_setBad (v off j x : Nat) (s : State) : beyondVaults (setBad v off j x s) = beyondVaults s := by rfl
@[simp] theorem beyondVaults_setParBad (v off p j x : Nat) (s : State) : beyondVaults (setParBad v off p j x s) = beyondVaults s := by rfl
@[simp] theorem beyondVaults_clearBad (v off : Nat) (s : State) : beyondVaults (clearBad v off s) = beyondVaults s := by rfl
@[simp] theorem beyondVaults_clearParBad (v off p : Nat) (s : State) : beyondVaults (clearParBad v off p s) = beyondVaults s := by rfl
@[simp] theorem beyondVaults_setCntBad (v off x : Nat) (s : State) : beyondVaults (setCntBad v off x s) = beyondVaults s := by rfl
@[simp] theorem beyondVaults_setEst (v off : Nat) (b : Bool) (s : State) : beyondVaults (setEst v off b s) = beyondVaults s := by rfl
@[simp] theorem beyondVaults_setParMark (v off p : Nat) (m : Mark) (s : State) :
    beyondVaults (setParMark v off p m s) = beyondVaults s := by rfl
@[simp] theorem beyondVaults_dramWrite (v off : Nat) (bs : List Byte) (s : State) : beyondVaults (dramWrite v off bs s) = beyondVaults s := by
  rfl
@[simp] theorem beyondVaults_openRow (v off : Nat) (s : State) : beyondVaults (openRow v off s) = beyondVaults s := by rfl
@[simp] theorem beyondVaults_openBlock (v off : Nat) (s : State) : beyondVaults (openBlock v off s) = beyondVaults s := by rfl
@[simp] theorem beyondVaults_errAddr (v off kind src : Nat) (s : State) : beyondVaults (errAddr v off kind src s) = beyondVaults s := by rfl

@[simp] theorem beyondVaults_freshParity (v off : Nat) (s : State) : beyondVaults (freshParity v off s) = beyondVaults s := by
  simp only [freshParity, beyondVaults_foldl, beyondVaults_clearParBad, beyondVaults_setParMark, implies_true]

@[simp] theorem beyondVaults_grantSlots (scrub : Bool) (v n : Nat) (s : State) : beyondVaults (grantSlots scrub v n s) = beyondVaults s := by
  cases scrub <;> rfl

@[simp] theorem beyondVaults_dataUe (v off kind src : Nat) (s : State) : beyondVaults (dataUe v off kind src s) = beyondVaults s :=
  beyondVaults_logEvent ..

@[simp] theorem beyondVaults_queueScrub (v off : Nat) (s : State) : beyondVaults (queueScrub v off s) = beyondVaults s := by
  simp [queueScrub]

/-! Repairs (R152). -/

@[simp] theorem beyondVaults_clearWordBad (v base j : Nat) (s : State) : beyondVaults (clearWordBad v base j s) = beyondVaults s := by
  simp [clearWordBad]

@[simp] theorem beyondVaults_keepWord (v base c j : Nat) (s : State) : beyondVaults (keepWord v base c j s) = beyondVaults s := by
  simp [keepWord, adoptWord]

@[simp] theorem beyondVaults_strongRepair (v off j src : Nat) (s : State) : beyondVaults (strongRepair v off j src s) = beyondVaults s := by
  simp only [strongRepair, beyondVaults_ite, beyondVaults_addSat, beyondVaults_foldl, beyondVaults_clearWordBad,
    beyondVaults_queueScrub, beyondVaults_bump, beyondVaults_openBlock, beyondVaults_addDue, beyondVaults_dataUe, beyondVaults_freshParity,
    beyondVaults_keepWord, beyondVaults_setMark, beyondVaults_clearBad, ite_self, implies_true]

@[simp] theorem beyondVaults_uncorrectable (v off src : Nat) (s : State) : beyondVaults (uncorrectable v off src s).2 = beyondVaults s := by
  simp [uncorrectable]

/-! Reads (R138, R149). -/

@[simp] theorem beyondVaults_metMark (k : ReadKind) (v off src : Nat) (m : Mark) (s : State) :
    beyondVaults (metMark k v off src m s).2 = beyondVaults s := by
  have hreport : beyondVaults (reportMark v off src m s).2 = beyondVaults s := by cases m <;> rfl
  simp [metMark, hreport]

@[simp] theorem beyondVaults_counterByte (v off src : Nat) (s : State) : beyondVaults (counterByte v off src s).2 = beyondVaults s := by
  unfold counterByte
  dsimp only
  split <;> simp

@[simp] theorem beyondVaults_counterBytes (v off src n : Nat) (s : State) : beyondVaults (counterBytes v off src n s).2 = beyondVaults s := by
  induction n generalizing off s with
  | zero => rfl
  | succ n ih => simp [counterBytes, ih]

theorem beyondVaults_corrected {k : ReadKind} {v off : Nat} {f : State → State} (hf : ∀ u, beyondVaults (f u) = beyondVaults u)
    (s : State) : beyondVaults (corrected k v off f s) = beyondVaults s := by
  simp [corrected, hf]

@[simp] theorem beyondVaults_rewriteCounter (v w : Nat) (s : State) : beyondVaults (rewriteCounter v w s) = beyondVaults s := by
  simp only [rewriteCounter, beyondVaults_foldl, beyondVaults_ite, beyondVaults_setCntBad, beyondVaults_dramWrite, ite_self, implies_true]

@[simp] theorem beyondVaults_vreadAs (k : ReadKind) (v off src : Nat) (s : State) :
    beyondVaults (vreadAs k v off src s).2 = beyondVaults s := by
  unfold vreadAs
  dsimp only
  split
  · simp
  · repeat' split
    all_goals simp [beyondVaults_corrected]

@[simp] theorem beyondVaults_vreadBytes (v off n src : Nat) (s : State) : beyondVaults (vreadBytes v off n src s).2 = beyondVaults s := by
  unfold vreadBytes
  generalize n / 32 + 2 = k
  induction k generalizing off n s with
  | zero => rfl
  | succ k ih =>
    unfold readWords
    split
    · rfl
    · dsimp only
      split <;> simp [vread, ih]

@[simp] theorem beyondVaults_walkReads (d va src : Nat) (s : State) : beyondVaults (walkReads d va src s) = beyondVaults s := by
  unfold walkReads
  dsimp only
  repeat' split
  all_goals simp

/-! Writes (R151, R154, R155, R163). -/

@[simp] theorem beyondVaults_writeWord (v off : Nat) (bs : List Byte) (s : State) : beyondVaults (writeWord v off bs s) = beyondVaults s := by
  simp only [writeWord, beyondVaults_ite, beyondVaults_foldl, beyondVaults_setCntBad, beyondVaults_dramWrite, beyondVaults_openRow,
    beyondVaults_grantSlots, beyondVaults_clearBad, beyondVaults_setMark, ite_self, implies_true]

@[simp] theorem beyondVaults_writePart (v off src : Nat) (bs : List Byte) (s : State) :
    beyondVaults (writePart v off src bs s).2 = beyondVaults s := by
  unfold writePart
  dsimp only
  split
  · simp only [beyondVaults_foldl, beyondVaults_setCntBad, beyondVaults_dramWrite, beyondVaults_openRow, beyondVaults_grantSlots,
      implies_true]
  · split <;> simp

@[simp] theorem beyondVaults_vwriteRaw (v off src : Nat) (bs : List Byte) (s : State) :
    beyondVaults (vwriteRaw v off src bs s).2 = beyondVaults s := by
  unfold vwriteRaw
  generalize bs.length / 32 + 2 = k
  induction k generalizing off bs s with
  | zero => rfl
  | succ k ih => simp [writeWords, ih]

@[simp] theorem beyondVaults_flipFire (v off : Nat) (s : State) : beyondVaults (flipFire v off s) = beyondVaults s := by
  simp only [flipFire, beyondVaults_ite, beyondVaults_wr, beyondVaults_flag, beyondVaults_foldl, beyondVaults_setCntBad,
    beyondVaults_setParBad, beyondVaults_setBad, ite_self, implies_true]

@[simp] theorem beyondVaults_finishWrite (src : Nat) (ps : List Piece) (s : State) :
    beyondVaults (finishWrite src ps s) = beyondVaults s := by
  simp only [finishWrite, establish, beyondVaults_foldl, beyondVaults_flipFire, beyondVaults_ite, beyondVaults_setEst,
    beyondVaults_freshParity, ite_self, implies_true]

end Sys2Proof.Machine
end

section
/-!
PROOFS. DMA transfers (chapter 04, R94 to R101): the movement of the data changes no core, so a transfer ends on the channel it began on.
-/

namespace Sys2Proof.Machine

/-! The movement of the data (Machine/Dma). -/

section
variable {h : Nat} (g d : Nat)

theorem getCore_dmaWalk (a : Nat) (s : State) : getCore h (dmaWalk g d a s) = getCore h s := by
  refine getCore_of_beyondVaults ?_ h
  unfold dmaWalk
  split
  · simp
  · rfl

theorem getCore_dmaVaultRead (k a n : Nat) (s : State) : getCore h (dmaVaultRead g d k a n s).2 = getCore h s := by
  induction k generalizing a n s with
  | zero => rfl
  | succ k ih =>
    unfold dmaVaultRead
    split
    · rfl
    · dsimp only
      split
      · exact getCore_dmaWalk ..
      · have hread (v o m : Nat) : getCore h (vreadBytes v o m srcChannel (dmaWalk g d a s)).2 = getCore h s :=
          (getCore_of_beyondVaults (beyondVaults_vreadBytes ..) h).trans (getCore_dmaWalk ..)
        split
        · exact hread ..
        · exact (ih ..).trans (hread ..)

theorem getCore_dmaVaultWrite (k a : Nat) (bs : List Byte) (s : State) : getCore h (dmaVaultWrite g d k a bs s).2 = getCore h s := by
  induction k generalizing a bs s with
  | zero => rfl
  | succ k ih =>
    unfold dmaVaultWrite
    split
    · rfl
    · dsimp only
      split
      · exact getCore_dmaWalk ..
      · have hwrite (v o : Nat) (l : List Byte) : getCore h (vwriteRaw v o srcChannel l (dmaWalk g d a s)).2 = getCore h s :=
          (getCore_of_beyondVaults (beyondVaults_vwriteRaw ..) h).trans (getCore_dmaWalk ..)
        split
        · exact hwrite ..
        · exact (ih ..).trans (hwrite ..)

theorem getCore_pigWrite (p off : Nat) (bs : List Byte) (s : State) : getCore h (pigWrite p off bs s) = getCore h s := by
  refine (getCore_foldl (fun u l => ?_) _ _).trans rfl
  rw [getCore_ite]
  exact ite_self _

theorem getCore_dmaRead (a n : Nat) (s : State) : getCore h (dmaRead g d a n s).2 = getCore h s := by
  unfold dmaRead
  dsimp only
  split
  · exact getCore_dmaVaultRead ..
  · split <;> split <;> rfl

theorem getCore_dmaWrite (a : Nat) (bs : List Byte) (s : State) : getCore h (dmaWrite g d a bs s).2 = getCore h s := by
  unfold dmaWrite
  dsimp only
  split
  · exact getCore_dmaVaultWrite ..
  · split
    · split <;> exact getCore_pigWrite ..
    · split <;> exact getCore_spWrite ..

theorem getCore_moveRows (rs : List Nat) (lim : Nat) (s : State) : getCore h (moveRows g d rs lim s).2 = getCore h s := by
  induction rs generalizing lim s with
  | nil => rfl
  | cons r rs ih =>
    unfold moveRows
    dsimp only
    have hrow (a n a' : Nat) (bs : List Byte) : getCore h (dmaWrite g d a' bs (dmaRead g d a n s).2).2 = getCore h s :=
      (getCore_dmaWrite ..).trans (getCore_dmaRead ..)
    repeat' split
    · exact hrow ..
    · exact hrow ..
    · exact hrow ..
    · exact (ih ..).trans (hrow ..)

theorem getCore_skewRows (n : Nat) (rs : List Nat) (s : State) : getCore h (skewRows g d n rs s).2 = getCore h s := by
  induction rs generalizing s with
  | nil => rfl
  | cons r rs ih =>
    unfold skewRows
    dsimp only
    split
    · exact getCore_dmaRead ..
    · exact (ih _).trans (getCore_dmaRead ..)

theorem getCore_skewWrite (rows : List (List Byte)) (ls : List Nat) (lim : Nat) (s : State) :
    getCore h (skewWrite g d rows ls lim s).2 = getCore h s := by
  induction ls generalizing lim s with
  | nil => rfl
  | cons l ls ih =>
    unfold skewWrite
    split
    · rfl
    · split
      · rfl
      · split
        · rfl
        · exact (ih ..).trans (getCore_spWrite ..)

theorem getCore_moveSkew (lim : Nat) (s : State) : getCore h (moveSkew g d lim s).2 = getCore h s := by
  unfold moveSkew
  extract_lets f wc nrows n rr w s1
  have hmoved : getCore h s1 = getCore h s :=
    (getCore_setFlags ..).trans ((getCore_skewWrite ..).trans (getCore_skewRows ..))
  split
  · exact hmoved
  · dsimp only
    split
    · exact hmoved
    · exact (getCore_foldl (fun _ _ => getCore_setTag ..) _ _).trans hmoved

/-- Moving a transfer's data changes no core. -/
theorem getCore_moveDma (lim : Nat) (s : State) : getCore h (moveDma g d lim s).2 = getCore h s := by
  unfold moveDma
  split
  · rfl
  · split
    · exact getCore_moveSkew ..
    · exact (getCore_of_beyondVaults (beyondVaults_finishWrite ..) h).trans (getCore_moveRows ..)

theorem getCore_poisonSome (ls : List Nat) (s : State) : getCore h (poisonSome g ls s) = getCore h s := by
  induction ls generalizing s with
  | nil => rfl
  | cons l ls ih =>
    refine (ih _).trans ?_
    split <;> rfl

theorem getCore_cutMove (lim : Nat) (s : State) : getCore h (cutMove g d lim s) = getCore h s := by
  unfold cutMove
  dsimp only
  split
  · exact (getCore_foldl (fun _ _ => getCore_setTag ..) _ _).trans ((getCore_poisonSome ..).trans (getCore_moveDma ..))
  · exact (getCore_poisonSome ..).trans (getCore_moveDma ..)

end

/-! Channels (R94). -/

section
variable {ch : Nat} {c : Core}

theorem getChan_setChan_same (x : Chan) (h : ch < c.chans.length) : getChan ch (setChan ch x c) = x := by
  simp [getChan, setChan, h]

/-- A channel that is not there reads IDLE. -/
theorem chan_lt_of_busy (h : (getChan ch c).st = .busy) : ch < c.chans.length := by
  by_contra hlt
  rw [getChan, List.getD_eq_default _ _ (Nat.not_lt.1 hlt)] at h
  exact absurd h (by decide)

end

/-! The start of a transfer (R94, R97, R99, R100). -/

/-- The channel as it takes the descriptor of a line, its packets held back or not (R94, R100, R215). -/
def takenChan (g line : Nat) (sent : Bool) (s : State) : Chan :=
  { st := if dmaCheck g (spLine g line s) s = 0 then .busy else .halted, code := dmaCheck g (spLine g line s) s,
    desc := spLine g line s, seq := (getCore g s).seq, sent := sent }

theorem spWrite_regs (g off tag : Nat) (bs : List Byte) (s : State) : (spWrite g off tag bs s).regs = s.regs := by
  unfold spWrite
  extract_lets s1
  have hstep (u : State) (l : Nat) :
      (setTag g l tag (if coversLine off bs.length l then setPoison g l false u else u)).regs = u.regs := by
    split <;> rfl
  exact List.foldlRecOn (motive := fun u : State => u.regs = s.regs) _ _ rfl fun u ih l _ => (hstep u l).trans ih

theorem rd_flagIf_field {f f' : Reg} {i j : Nat} (b : Bool) (s : State) (h : f ≠ f') : rd f i (flagIf b f' j s) = rd f i s := by
  cases b
  · rfl
  · exact rd_wr_field _ _ _ _ _ _ h

section
variable {g w ch line : Nat} {s : State}

theorem getCore_startDma : ∃ sent, getCore g (startDma g ch line s) = setChan ch (takenChan g line sent s) (getCore g s) := by
  unfold startDma
  extract_lets d code c far away x s1
  have hs1 : getCore g s1 = setChan ch x c := by rw [getCore_flagIf, getCore_setCore_same]
  have hx : ∃ sent, x = takenChan g line sent s := by
    by_cases hcode : dmaCheck g (spLine g line s) s = 0
    · exact ⟨_, by simp [x, code, d, c, takenChan, hcode]; rfl⟩
    · exact ⟨true, by simp [x, code, d, c, takenChan, hcode]⟩
  obtain ⟨sent, hx⟩ := hx
  refine ⟨sent, ?_⟩
  rw [getCore_ite, getCore_spWrite, ite_self, hs1, hx]

theorem rd_startDma {f : Reg} (i : Nat) (hf : f ≠ .netStatusUnreach) : rd f i (startDma g ch line s) = rd f i s := by
  unfold startDma
  extract_lets d code c far away x s1
  have hs1 : rd f i s1 = rd f i s := (rd_flagIf_field _ _ hf).trans rfl
  split
  · rw [rd, spWrite_regs]
    exact hs1
  · exact hs1

/-- The channel of a transfer that has started. -/
theorem chan_startDma {x : Chan} (hch : ch < (getCore g s).chans.length) (hx : x = getChan ch (getCore g (startDma g ch line s))) :
    x.st = (if dmaCheck g (spLine g line s) s = 0 then .busy else .halted) ∧ x.code = dmaCheck g (spLine g line s) s ∧
      x.desc = spLine g line s ∧ x.lost = false := by
  obtain ⟨sent, hcore⟩ := getCore_startDma (g := g) (ch := ch) (line := line) (s := s)
  rw [hcore, getChan_setChan_same _ hch] at hx
  simp only [hx, takenChan, and_self]

/-- DMAX of a descriptor that passes the checks: its channel is BUSY and the letter goes on. -/
theorem dmax_leaves (hcheck : dmaCheck g (spLine g line s) s = 0) (hch : ch < (getCore g s).chans.length) :
    let t := advance g (startDma g ch line s)
    (getChan ch (getCore g t)).st = .busy ∧ (getChan ch (getCore g t)).code = 0 ∧
      (getChan ch (getCore g t)).desc = spLine g line s ∧ (getCore g t).pc = (loopNext (getCore g s).pc (getCore g s).loops).1 := by
  intro t
  obtain ⟨sent, hcore⟩ := getCore_startDma (g := g) (ch := ch) (line := line) (s := s)
  have ht : getCore g t = advanceFrom (getCore g s).pc (setChan ch (takenChan g line sent s) (getCore g s)) := by
    rw [getCore_advance_same, hcore]
    rfl
  have hchan : getChan ch (getCore g t) = takenChan g line sent s := by
    rw [ht]
    exact getChan_setChan_same (c := getCore g s) _ hch
  rw [hchan, takenChan, hcheck, ht]
  exact ⟨rfl, rfl, rfl, rfl⟩

/-- DMAX with nothing to wait for gives the descriptor of its line to the channel (R94, R99). -/
theorem xDmax_of_ready (h : bits w 0 40 = 0) (hc : (getChan (bits w 53 3) (getCore g s)).st = .idle)
    (hu : lineUnwritten (bits w 40 13) (getCore g s) = false) (hp : linePoison g (bits w 40 13) s = false)
    (ha : (dAdv (spLine g (bits w 40 13) s) && lineUnread (bits w 40 13) (getCore g s)) = false) :
    xDmax g w s = advance g (startDma g (bits w 53 3) (bits w 40 13) s) := by
  unfold xDmax
  dsimp only
  rw [if_neg (not_not_intro h), hc]
  dsimp only
  rw [if_neg (Bool.eq_false_iff.1 hu), if_neg (Bool.eq_false_iff.1 hp), if_neg (Bool.eq_false_iff.1 ha)]

end

/-! The end of a transfer (R100, R101). -/

/-- The state in which a transfer has ended with a code, before its core goes on. -/
def endedAt (g ch code : Nat) (s : State) : State :=
  updCore g (fun c => setChan ch { getChan ch c with st := if code = 0 then .idle else .halted, code := code } c) s

theorem endDma_eq (g ch code : Nat) (s : State) : endDma g ch code s = wake g (goIfWaiting g (endedAt g ch code s)) := rfl

section
variable {g ch code n : Nat} {s u : State}

/-- The channel of a transfer that has ended, where its data changed no core. -/
theorem chan_endedAt (hu : getCore g u = getCore g s) (hb : (getChan ch (getCore g s)).st = .busy) :
    (getChan ch (getCore g (endedAt g ch code u))).st = (if code = 0 then .idle else .halted) ∧
      (getChan ch (getCore g (endedAt g ch code u))).code = code := by
  rw [endedAt, getCore_updCore_same, hu, getChan_setChan_same _ (chan_lt_of_busy hb)]
  exact ⟨rfl, rfl⟩

/-- A transfer that ends with a halt code leaves its channel HALTED with it. -/
theorem halted_of_endDma (hu : getCore g u = getCore g s) (hb : (getChan ch (getCore g s)).st = .busy) (hcode : code ≠ 0) :
    ∃ t, endDma g ch code u = wake g (goIfWaiting g t) ∧ (getChan ch (getCore g t)).st = .halted ∧
      (getChan ch (getCore g t)).code = code := by
  obtain ⟨hst, hc⟩ := chan_endedAt (code := code) hu hb
  exact ⟨_, endDma_eq .., hst.trans (if_neg hcode), hc⟩

theorem completeDma_of_not_busy (h : (getChan ch (getCore g s)).st ≠ .busy) : completeDma g ch s = s := if_pos (.inl h)

theorem completeDma_of_free (h : (getChan ch (getCore g s)).st = .busy) (hs : stalled g s = false) (hh : dmaHeld g ch s = false)
    (hc : dmaCut g (getChan ch (getCore g s)) s = false) :
    completeDma g ch s = endDma g ch (moveDma g (getChan ch (getCore g s)).desc (2 ^ 64) s).1
      (moveDma g (getChan ch (getCore g s)).desc (2 ^ 64) s).2 :=
  if_neg (by simp [h, hs, hh, hc])

theorem haltDma_of_not_busy (h : (getChan ch (getCore g s)).st ≠ .busy) : haltDma g ch code n s = s := if_pos (.inl h)

section
variable (hb : (getChan ch (getCore g s)).st = .busy) (hh : dmaHeld g ch s = false)
include hb hh

/-- A halt of a BUSY channel that nothing holds back, by its causes in their order (R100, R113, R470). -/
theorem haltDma_of_busy :
    let d := (getChan ch (getCore g s)).desc
    let r := moveDma g d n s
    let spoilt := moveDma g d (2 ^ 64) (spoilLine g d n s)
    haltDma g ch code n s =
      if code = 0 then countCorrected g d s
      else if r.1 ≠ 0 ∧ r.1 ≠ 64 then endDma g ch r.1 r.2
      else if code = 10 ∧ (srcVault (dKind d) ∨ dstVault (dKind d)) then endDma g ch 10 (cutMove g d n s)
      else if code = 10 ∨ code = 12 then
        endDma g ch code (if isSkew (dKind d) ∧ r.1 = 0 then
          (List.range (skewLines d)).foldl (fun t l => setTag g (dDst d / 32 + l) 0 t) r.2 else r.2)
      else if code = 11 ∧ spoilt.1 ≠ 0 then endDma g ch spoilt.1 spoilt.2
      else s :=
  if_neg (by simp [hb, hh])

theorem haltDma_corrected : haltDma g ch 0 n s = countCorrected g (getChan ch (getCore g s)).desc s := by
  rw [haltDma_of_busy hb hh, if_pos rfl]

section
variable {d : Nat} (hd : (getChan ch (getCore g s)).desc = d)
include hd

/-- What the data meet comes before an outside cause. -/
theorem haltDma_of_data (hcode : code ≠ 0) (h0 : (moveDma g d n s).1 ≠ 0) (h64 : (moveDma g d n s).1 ≠ 64) :
    haltDma g ch code n s = endDma g ch (moveDma g d n s).1 (moveDma g d n s).2 := by
  subst hd
  rw [haltDma_of_busy hb hh, if_neg hcode, if_pos ⟨h0, h64⟩]

/-- A base-die reset and a remote error end a transfer whose data met nothing with their own code. -/
theorem haltDma_of_cause (hr : (moveDma g d n s).1 = 0 ∨ (moveDma g d n s).1 = 64) (hcode : code = 10 ∨ code = 12) :
    ∃ u, haltDma g ch code n s = endDma g ch code u ∧ getCore g u = getCore g s := by
  subst hd
  have hne : code ≠ 0 := by omega
  have hdata : ¬ ((moveDma g (getChan ch (getCore g s)).desc n s).1 ≠ 0 ∧ (moveDma g (getChan ch (getCore g s)).desc n s).1 ≠ 64) := by
    omega
  rw [haltDma_of_busy hb hh, if_neg hne, if_neg hdata]
  by_cases h : code = 10 ∧ (srcVault (dKind (getChan ch (getCore g s)).desc) = true ∨ dstVault (dKind (getChan ch (getCore g s)).desc) = true)
  · rw [if_pos h, ← h.1]
    exact ⟨_, rfl, getCore_cutMove ..⟩
  · rw [if_neg h, if_pos hcode]
    refine ⟨_, rfl, ?_⟩
    split
    · exact (getCore_foldl (fun _ _ => getCore_setTag ..) _ _).trans (getCore_moveDma ..)
    · exact getCore_moveDma ..

/-- Check bits that fail (11): the transfer ends with what the movement then meets. -/
theorem haltDma_of_spoilt (hr : (moveDma g d n s).1 = 0 ∨ (moveDma g d n s).1 = 64) (hcode : code = 11)
    (hs : (moveDma g d (2 ^ 64) (spoilLine g d n s)).1 ≠ 0) :
    haltDma g ch code n s = endDma g ch (moveDma g d (2 ^ 64) (spoilLine g d n s)).1 (moveDma g d (2 ^ 64) (spoilLine g d n s)).2 := by
  subst hd hcode
  have hdata : ¬ ((moveDma g (getChan ch (getCore g s)).desc n s).1 ≠ 0 ∧ (moveDma g (getChan ch (getCore g s)).desc n s).1 ≠ 64) := by
    omega
  rw [haltDma_of_busy hb hh, if_neg (by decide), if_neg hdata, if_neg (by omega), if_neg (by omega), if_pos ⟨rfl, hs⟩]

end

end

end

/-! The before-data checks (R97, R100). -/

section
variable {g d : Nat} {s : State}

theorem dmaCheck_of_badDesc (h : badDesc d = true) : dmaCheck g d s = 1 := if_pos h

theorem badDesc_of_reserved_kind (h : dKind d = 0 ∨ 8 ≤ dKind d) : badDesc d = true := by
  rcases h with h | h <;> simp [badDesc, h]

section
variable (hb : badDesc d = false)
include hb

theorem dmaCheck_of_empty (h : (isSkew (dKind d) = false ∧ dRbytes d = 0) ∨ dRows d = 0) : dmaCheck g d s = 2 := by
  have he : ((!isSkew (dKind d) && dRbytes d == 0) || dRows d == 0) = true := by simpa using h
  simp [dmaCheck, hb, he]

/-- The checks of a descriptor that is well formed and moves something. -/
theorem dmaCheck_of_some (h : isSkew (dKind d) = true ∨ dRbytes d ≠ 0) (hr : dRows d ≠ 0) :
    dmaCheck g d s =
      if badAddr d then 4 else if foreignTarget g d s then 6 else if tooLong d then 3 else if intoLetter g d s then 5 else 0 := by
  have he : ((!isSkew (dKind d) && dRbytes d == 0) || dRows d == 0) = false := by
    rcases h with h | h <;> simp [h, hr]
  simp [dmaCheck, hb, he]

end

end

/-- Settles O10: DMAX by `xDmax_of_ready` and `getCore_startDma`; a transfer ends on its own channel (`chan_endedAt`), since the data
change no core (`getCore_moveDma`); and the checks are a chain in the order of R100. -/
theorem dmaRules : Obligations.DmaRules := by
  refine ⟨fun g w s hi h hc hu hp ha => ?dmax, fun g ch code n s => ?transfer, fun g d s => ?checks⟩
  case dmax =>
    have hexec := next_issue hi (xDmax_of_ready h hc hu hp ha)
    exact ⟨hexec, fun hcheck hch => ⟨_, hexec, dmax_leaves hcheck hch⟩⟩
  case transfer =>
    intro d m r sp
    refine ⟨fun hb hs hh hcut => ?complete, fun hb hh => ?halt, fun hb => ?idle, fun d lim h => if_pos h, fun line x hch hx => ?start⟩
    case complete =>
      have hends : completeDma g ch s = endDma g ch m.1 m.2 := completeDma_of_free hb hs hh hcut
      refine ⟨congrArg (Host.Outcome.next ∘ settle) hends, fun hm => ?_⟩
      obtain ⟨hst, hcode⟩ := chan_endedAt (code := m.1) (getCore_moveDma (h := g) g d (2 ^ 64) s) hb
      refine ⟨endedAt g ch m.1 m.2, congrArg (Host.Outcome.next ∘ settle) hends, onlyCore_updCore .., ?_⟩
      exact ⟨hst.trans (if_pos hm), hcode.trans hm⟩
    case halt =>
      refine ⟨fun hcode => ?corrected, fun hcode h0 h64 => ?data, fun hr hcode => ?cause, fun hr hcode hs => ?spoilt⟩
      case corrected =>
        have hc := haltDma_corrected (n := n) hb hh
        rw [← hcode] at hc
        exact congrArg (Host.Outcome.next ∘ settle) hc
      case data =>
        have hends := haltDma_of_data hb hh rfl hcode h0 h64
        obtain ⟨t, ht, hst, hc⟩ := halted_of_endDma (getCore_moveDma (h := g) g d n s) hb h0
        exact ⟨congrArg (Host.Outcome.next ∘ settle) hends, t, congrArg (Host.Outcome.next ∘ settle) (hends.trans ht), hst, hc⟩
      case cause =>
        obtain ⟨u, hends, hu⟩ := haltDma_of_cause hb hh rfl hr hcode
        obtain ⟨t, ht, hst, hc⟩ := halted_of_endDma hu hb (code := code.val) (by omega)
        exact ⟨t, congrArg (Host.Outcome.next ∘ settle) (hends.trans ht), hst, hc⟩
      case spoilt => exact congrArg (Host.Outcome.next ∘ settle) (haltDma_of_spoilt hb hh rfl hr hcode hs)
    case idle =>
      exact ⟨congrArg (Host.Outcome.next ∘ settle) (completeDma_of_not_busy hb),
        congrArg (Host.Outcome.next ∘ settle) (haltDma_of_not_busy hb)⟩
    case start =>
      obtain ⟨hst, hcode, hdesc, hlost⟩ := chan_startDma hch hx
      exact ⟨hst, hcode, hdesc, hlost, fun f i hf => rd_startDma i hf⟩
  case checks =>
    refine ⟨dmaCheck_of_badDesc, fun hb => ⟨dmaCheck_of_empty hb, fun hs hr => ?_⟩, fun hk => dmaCheck_of_badDesc (badDesc_of_reserved_kind hk)⟩
    rw [dmaCheck_of_some hb hs hr]
    refine ⟨fun h1 => ?addr, fun h1 h2 => ?foreign, fun h1 h2 h3 => ?long, fun h1 h2 h3 h4 => ?letter, fun h1 h2 h3 h4 => ?pass⟩
    case addr => rw [h1]; rfl
    case foreign => rw [h1, h2]; rfl
    case long => rw [h1, h2, h3]; rfl
    case letter | pass => rw [h1, h2, h3, h4]; rfl

end Sys2Proof.Machine
end

section
/-!
PROOFS. A word of a vault written whole and read back (chapter 06: R138, R149, R154), and what the write leaves of every other word.
-/

namespace Sys2Proof.Machine

/-! Tables and byte memories (Machine/Table). -/

/-- A key of a table from which a test on the keys has taken entries: the test decides whether it reads as before or as the default. -/
theorem tget_filter_key {α : Type} (d : Nat → α) (f : Nat → Bool) (t : Table α) (k : Nat) :
    tget d (t.filter fun p => f p.1) k = if f k then tget d t k else d k := by
  induction t with
  | nil => simp [tget]
  | cons p t ih =>
    obtain ⟨k', v⟩ := p
    by_cases hk : k' = k
    · subst hk
      cases hf : f k' <;> simp_all [tget]
    · cases hf : f k' <;> simp [hf, tget, hk, ih]

theorem mread_eq_map (m : Memory) (a n : Nat) : mread m a n = (List.range n).map fun i => mget m (a + i) := by
  induction n generalizing a with
  | zero => rfl
  | succ n ih => simp [mread, ih, List.range_succ_eq_map, Nat.add_assoc, Nat.add_comm 1]

/-- Bytes written are read back. -/
theorem mread_mwrite_same (m : Memory) (a : Nat) (bs : List Byte) : mread (mwrite m a bs) a bs.length = bs := by
  rw [mread_eq_map]
  refine List.ext_getElem (by simp) fun i h1 h2 => ?_
  simp [mget_mwrite, h2]

/-- Bytes apart from those written read as before. -/
theorem mread_mwrite_apart (m : Memory) (a b n : Nat) (bs : List Byte) (h : b + n ≤ a ∨ a + bs.length ≤ b) :
    mread (mwrite m a bs) b n = mread m b n := by
  rw [mread_eq_map, mread_eq_map]
  refine List.map_congr_left fun i hi => ?_
  have hi := List.mem_range.1 hi
  rw [mget_mwrite, if_neg (by omega)]

/-! The words of the vaults (Machine/Vault). -/

section
variable {u v off o : Nat} {s : State}

/-- Aligned words of one vault each have a key of their own. -/
theorem wordKey_inj {j k : Nat} (hj : j < 2 ^ 21) (hk : k < 2 ^ 21) : wordKey u (32 * j) = wordKey v (32 * k) ↔ u = v ∧ j = k := by
  unfold wordKey
  omega

/-- Bytes, markers and bad symbols are read from a table each. -/
theorem dramRead_of_dram {n : Nat} {t : State} (h : t.vaults.dram = s.vaults.dram) : dramRead v off n t = dramRead v off n s := by
  simp only [dramRead, h]

theorem getMark_of_mark {t : State} (h : t.vaults.mark = s.vaults.mark) : getMark v off t = getMark v off s := by
  simp only [getMark, h]

theorem badOf_of_bad {t : State} (h : t.vaults.bad = s.vaults.bad) : badOf v off t = badOf v off s := by
  simp only [badOf, h]

/-- The state in which an access of a requester finds its word: its slot granted, its row open (R140, R142). -/
def accessed (v off : Nat) (s : State) : State := openRow v off (grantSlots false v 1 s)

@[simp] theorem accessed_dram : (accessed v off s).vaults.dram = s.vaults.dram := rfl
@[simp] theorem accessed_mark : (accessed v off s).vaults.mark = s.vaults.mark := rfl
@[simp] theorem accessed_bad : (accessed v off s).vaults.bad = s.vaults.bad := rfl

@[simp] theorem getMark_clearBad : getMark u o (clearBad v off s) = getMark u o s := getMark_of_mark (t := clearBad v off s) rfl
@[simp] theorem badOf_setMark (m : Mark) : badOf u o (setMark v off m s) = badOf u o s := badOf_of_bad (t := setMark v off m s) rfl

@[simp] theorem getMark_setMark_same (m : Mark) : getMark v off (setMark v off m s) = m := tget_tset_same ..

theorem getMark_setMark_other (m : Mark) (h : wordKey u o ≠ wordKey v off) : getMark u o (setMark v off m s) = getMark u o s :=
  tget_tset_other _ _ _ _ _ h

theorem badKey_div (w : Nat) {j : Nat} (h : j < 34) : (64 * w + j) / 64 = w := by omega

/-- `clearBad` takes out the bad symbols of its word. -/
@[simp] theorem badOf_clearBad_same : badOf v off (clearBad v off s) = [] := by
  refine List.filterMap_eq_nil_iff.2 fun j hj => ?_
  simp [clearBad, tget_filter_key noBad fun k => k / 64 != wordKey v off, badKey_div _ (List.mem_range.1 hj), noBad]

theorem badOf_clearBad_other (h : wordKey u o ≠ wordKey v off) : badOf u o (clearBad v off s) = badOf u o s := by
  refine List.filterMap_congr fun j hj => ?_
  simp [clearBad, tget_filter_key noBad fun k => k / 64 != wordKey v off, badKey_div _ (List.mem_range.1 hj), h]

/-- Counter-area bytes marked as right, one after another. -/
def clearCounters (v off n : Nat) (s : State) : State := (List.range n).foldl (fun u j => setCntBad v (off + j) 0 u) s

theorem clearCounters_succ (n : Nat) : clearCounters v off (n + 1) s = setCntBad v (off + n) 0 (clearCounters v off n s) := by
  simp [clearCounters, List.range_succ]

/-- They change nothing but the wrong bits of counter-area bytes. -/
theorem clearCounters_eq (n : Nat) : ∃ c, clearCounters v off n s = { s with vaults := { s.vaults with cntBad := c } } := by
  induction n with
  | zero => exact ⟨_, rfl⟩
  | succ n ih =>
    obtain ⟨c, hc⟩ := ih
    rw [clearCounters_succ, hc]
    exact ⟨_, rfl⟩

@[simp] theorem clearCounters_dram (n : Nat) : (clearCounters v off n s).vaults.dram = s.vaults.dram := by
  obtain ⟨c, hc⟩ := clearCounters_eq (v := v) (off := off) (s := s) n
  rw [hc]

@[simp] theorem clearCounters_mark (n : Nat) : (clearCounters v off n s).vaults.mark = s.vaults.mark := by
  obtain ⟨c, hc⟩ := clearCounters_eq (v := v) (off := off) (s := s) n
  rw [hc]

@[simp] theorem clearCounters_bad (n : Nat) : (clearCounters v off n s).vaults.bad = s.vaults.bad := by
  obtain ⟨c, hc⟩ := clearCounters_eq (v := v) (off := off) (s := s) n
  rw [hc]

@[simp] theorem clearCounters_regs (n : Nat) : (clearCounters v off n s).regs = s.regs := by
  obtain ⟨c, hc⟩ := clearCounters_eq (v := v) (off := off) (s := s) n
  rw [hc]

theorem cntBad_clearCounters {n j : Nat} (hj : off ≤ j) (hn : j < off + n) :
    tget noBad (clearCounters v off n s).vaults.cntBad (v * 2 ^ 26 + j) = 0 := by
  induction n with
  | zero => omega
  | succ n ih =>
    rw [clearCounters_succ]
    refine (tget_tset noBad (clearCounters v off n s).vaults.cntBad (v * 2 ^ 26 + (off + n)) _ 0).trans ?_
    split
    · rfl
    · exact ih (by omega)

/-- The bytes of a word in place, before its marker or its check bits follow. -/
def wordStored (v off : Nat) (bs : List Byte) (s : State) : State := dramWrite v off bs (accessed v off s)

@[simp] theorem getMark_wordStored (bs : List Byte) : getMark u o (wordStored v off bs s) = getMark u o s :=
  getMark_of_mark (t := wordStored v off bs s) rfl

@[simp] theorem badOf_wordStored (bs : List Byte) : badOf u o (wordStored v off bs s) = badOf u o s :=
  badOf_of_bad (t := wordStored v off bs s) rfl

theorem writeWord_counter (bs : List Byte) (h : counterBase ≤ off) : writeWord v off bs s = clearCounters v off 32 (wordStored v off bs s) :=
  if_pos h

theorem writeWord_coded (bs : List Byte) (h : off < counterBase) :
    writeWord v off bs s = clearBad v off (setMark v off .data (wordStored v off bs s)) := if_neg (Nat.not_le.2 h)

/-- The raw bytes after a whole write: only the writing counts. -/
theorem dram_writeWord (bs : List Byte) : (writeWord v off bs s).vaults.dram = mwrite s.vaults.dram (v * 2 ^ 26 + off) bs := by
  rcases Nat.lt_or_ge off counterBase with h | h
  · rw [writeWord_coded bs h]
    rfl
  · rw [writeWord_counter bs h, clearCounters_dram]
    rfl

/-- A whole write leaves the marker and the bad symbols of every other word. -/
theorem mark_bad_writeWord_other (bs : List Byte) (h : wordKey u o ≠ wordKey v off) :
    getMark u o (writeWord v off bs s) = getMark u o s ∧ badOf u o (writeWord v off bs s) = badOf u o s := by
  rcases Nat.lt_or_ge off counterBase with hc | hc
  · rw [writeWord_coded bs hc]
    simp [getMark_setMark_other .data h, badOf_clearBad_other h]
  · rw [writeWord_counter bs hc]
    rw [getMark_of_mark (clearCounters_mark 32), badOf_of_bad (clearCounters_bad 32)]
    simp

/-! Reading. -/

/-- A counter-area byte without wrong bits is delivered as it stands, and its read opens its row only. -/
theorem counterByte_clean (src : Nat) (h : tget noBad s.vaults.cntBad (v * 2 ^ 26 + off) = 0) :
    counterByte v off src s = ((mget s.vaults.dram (v * 2 ^ 26 + off), false), openRow v off s) := by
  have hat : counterAt v off (openRow v off s) = (mget s.vaults.dram (v * 2 ^ 26 + off), 0) := by
    change counterOut _ (tget noBad s.vaults.cntBad (v * 2 ^ 26 + off)) = _
    rw [h]
    rfl
  simp only [counterByte, hat]

theorem counterBytes_clean (src : Nat) {n : Nat} (h : ∀ j, off ≤ j → j < off + n → tget noBad s.vaults.cntBad (v * 2 ^ 26 + j) = 0) :
    (counterBytes v off src n s).1 = (dramRead v off n s, false) := by
  induction n generalizing off s with
  | zero => rfl
  | succ n ih =>
    have hrest := ih (off := off + 1) (s := openRow v off s) fun j h1 h2 => h j (by omega) (by omega)
    have hdram : (openRow v off s).vaults.dram = s.vaults.dram := rfl
    simp [counterBytes, counterByte_clean src (h off (by omega) (by omega)), hrest, dramRead, mread, hdram, Nat.add_assoc]

/-- A counter-area word without wrong bits reads as its bytes. -/
theorem vread_counter (src : Nat) (hoff : counterBase ≤ off)
    (h : ∀ j, off ≤ j → j < off + 32 → tget noBad s.vaults.cntBad (v * 2 ^ 26 + j) = 0) :
    (vread v off src s).1 = .ok (dramRead v off 32 s) := by
  have hclean := counterBytes_clean (s := accessed v off s) src h
  rw [dramRead_of_dram accessed_dram] at hclean
  simp only [accessed] at hclean
  simp [vread, vreadAs, scrubs, hoff, hclean]

/-- A coded word that holds data without wrong symbols reads as its bytes. -/
theorem vread_coded (src : Nat) (hoff : off < counterBase) (hm : getMark v off s = .data) (hb : badOf v off s = []) :
    (vread v off src s).1 = .ok (dramRead v off 32 s) := by
  rw [← getMark_of_mark (accessed_mark (v := v) (off := off))] at hm
  rw [← badOf_of_bad (accessed_bad (v := v) (off := off))] at hb
  rw [← dramRead_of_dram (accessed_dram (v := v) (off := off))]
  simp only [accessed] at hm hb ⊢
  simp [vread, vreadAs, scrubs, Nat.not_le.2 hoff, hm, hb]

/-- A word written whole reads back, whatever it held. -/
theorem vread_writeWord (src : Nat) {bs : List Byte} (hlen : bs.length = 32) : (vread v off src (writeWord v off bs s)).1 = .ok bs := by
  have hraw : dramRead v off 32 (writeWord v off bs s) = bs := by
    rw [dramRead, dram_writeWord, ← hlen, mread_mwrite_same]
  rcases Nat.lt_or_ge off counterBase with h | h
  · rw [vread_coded src h, hraw]
    · rw [writeWord_coded bs h]
      rw [getMark_clearBad, getMark_setMark_same]
    · rw [writeWord_coded bs h]
      exact badOf_clearBad_same
  · rw [vread_counter src h, hraw]
    intro j h1 h2
    rw [writeWord_counter bs h]
    exact cntBad_clearCounters h1 h2

/-! The end of a write operation. -/

/-- A piece shorter than a block covers none. -/
theorem coversBlock_short {n : Nat} (hn : n < 4096) (w b : Nat) : coversBlock [(v, off, n)] w b = false := by
  simp only [coversBlock, List.filter_cons, List.filter_nil]
  split
  · simp only [List.insertionSort_cons, List.insertionSort_nil, List.orderedInsert_nil, reach, decide_eq_false_iff_not]
    split <;> omega
  · simp [reach]

theorem establish_short {n : Nat} (hn : n < 4096) : establish [(v, off, n)] s = s := by
  simp only [establish, joinPieces, coversBlock_short hn]
  exact List.foldl_fixed' (fun _ => rfl) _

theorem flipFire_of_unarmed (h : rd .vaultFlipCtrlArmed v s = 0) : flipFire v off s = s := by
  simp [flipFire, bit, h]

/-- The end of a write operation over one piece shorter than a block, with the flip-mask not armed, changes nothing. -/
theorem finishWrite_short (src : Nat) {n : Nat} (hn : n < 4096) (harm : rd .vaultFlipCtrlArmed v s = 0) :
    finishWrite src [(v, off, n)] s = s := by
  simp only [finishWrite, List.filter_cons, List.filter_nil]
  split
  · simp [establish_short hn, flipFire_of_unarmed harm]
  · have hnil : establish [] s = s := rfl
    simp [hnil]

/-- A whole write changes no register field. -/
theorem regs_writeWord (bs : List Byte) : (writeWord v off bs s).regs = s.regs := by
  rcases Nat.lt_or_ge off counterBase with h | h
  · rw [writeWord_coded bs h]
    rfl
  · rw [writeWord_counter bs h, clearCounters_regs]
    rfl

/-- A write operation over one aligned word is the writing of the word, and is not lost (R154). -/
theorem vwrite_word (src : Nat) {k : Nat} {bs : List Byte} (hlen : bs.length = 32) (harm : rd .vaultFlipCtrlArmed v s = 0) :
    vwrite v (32 * k) src bs s = (none, writeWord v (32 * k) bs s) := by
  have hne : bs ≠ [] := by rintro rfl; simp at hlen
  have hraw : vwriteRaw v (32 * k) src bs s = (none, writeWord v (32 * k) bs s) := by
    simp [vwriteRaw, writeWords, hlen, hne, List.take_of_length_le hlen.le]
  have harm' : rd .vaultFlipCtrlArmed v (writeWord v (32 * k) bs s) = 0 := by rwa [rd, regs_writeWord]
  have hn : 32 * k + bs.length - 32 * k < 4096 := by omega
  simp only [vwrite, if_neg hne, hraw, Option.getD_none, finishWrite_short src hn harm']

end

/-- Settles O24: the operation is `writeWord` (`vwrite_word`), which reads back (`vread_writeWord`); another aligned word has another key
and other bytes. -/
theorem vaultReadAfterWrite : Obligations.VaultReadAfterWrite := by
  intro v k src src' bs s hlen hk harm
  rw [vwrite_word src hlen harm]
  refine ⟨rfl, vread_writeWord src' hlen, fun u j hj hne => ⟨?_, ?_⟩⟩
  · rw [dramRead, dram_writeWord]
    exact mread_mwrite_apart _ _ _ _ _ (by omega)
  · refine mark_bad_writeWord_other bs fun h => ?_
    obtain ⟨hv, hjk⟩ := (wordKey_inj hj hk).1 h
    omega

end Sys2Proof.Machine
end

section
/-!
PROOFS. The accesses of units to a vault and its upkeep (chapter 06: R137, R139, R141, R149, R152, R154, R155, R162).
-/

namespace Sys2Proof.Machine

section
variable {v off src : Nat} {s : State} {f : State → State}

/-- At a hole no access is made (R137). -/
theorem vaultAccess_hole (h : vaultEnd ≤ off) : vaultAccess v off f s = s := if_pos (.inl h)

theorem vaultAccess_of_works (h : vaultWorks v s = true) (hoff : off < vaultEnd) : vaultAccess v off f s = f s :=
  if_neg (by simp [h, hoff])

/-- Blocks with parity end below the counter area, and so below the end of a vault. -/
theorem block_lt_vaultEnd (blk : Fin 12032) : 4096 * blk.val < vaultEnd := by
  have := blk.isLt
  unfold vaultEnd
  omega

theorem wordRead_of_ok {bs : List Byte} (h : (vread v (off / 32 * 32) src s).1 = .ok bs) :
    wordRead v off src s = emit (.readData false bs) (vread v (off / 32 * 32) src s).2 := by
  simp only [wordRead, h]

theorem wordRead_of_lost (h : ∀ bs, (vread v (off / 32 * 32) src s).1 ≠ .ok bs) :
    wordRead v off src s = emit (.readData true []) (vread v (off / 32 * 32) src s).2 := by
  unfold wordRead
  dsimp only
  split
  · next hr => exact absurd hr (h _)
  · rfl

theorem scrubQueued_cons {b : Nat} {bs : List Nat} (h : tget dsqNone s.vaults.dsq v = b :: bs) (hw : vaultWorks v s = true) :
    scrubQueued v s =
      { demandScrub v b s with vaults := { (demandScrub v b s).vaults with dsq := tset dsqNone (demandScrub v b s).vaults.dsq v bs } } := by
  simp [scrubQueued, h, hw]

theorem patrolNext_disabled (h : rd .vsiteScrubEn (siteOf v) s = 0) : patrolNext v s = s := if_pos (by simp [bit, h])

/-- A counter that stops at its largest value, counted up by one. -/
theorem rd_bump_same (r : Reg) (i : Nat) (s : State) : rd r i (bump r i s) = min (rd r i s + 1) (2 ^ (regInfo r).w - 1) := by
  refine (rd_wr_same ..).trans (Nat.mod_eq_of_lt ?_)
  have := Nat.two_pow_pos (regInfo r).w
  omega

theorem rd_bump_other {r r' : Reg} {i j : Nat} (h : r' ≠ r ∨ j ≠ i) (s : State) : rd r' j (bump r i s) = rd r' j s :=
  (rd_wr ..).trans (if_neg fun ⟨hr, hi⟩ => h.elim (· hr) (· hi))

end

/-- Settles O26: each access is made where `vaultAccess` lets it through, and does what its own lemma says; the patrol scrub is
`patrolNext` past its one guard. -/
theorem vaultAccessAndUpkeep : Obligations.VaultAccessAndUpkeep := by
  refine ⟨fun v off src data bytes blk s => ⟨fun h => ?hole, fun hw hoff => ?accesses, fun hw hest => ?repair, fun hw hest => ?noRepair,
    fun b bs hq hw => ?demand⟩, fun v layer bank s => ⟨?refresh, fun h => ?disabled, fun hen hw => ?patrol, ?replay⟩⟩
  case hole =>
    exact ⟨congrArg (Host.Outcome.next ∘ settle) (vaultAccess_hole h), congrArg (Host.Outcome.next ∘ settle) (vaultAccess_hole h),
      congrArg (Host.Outcome.next ∘ settle) (vaultAccess_hole h)⟩
  case accesses =>
    refine ⟨fun bs h => ?read, fun h => ?lost, ?full, ?narrow⟩
    case read => exact congrArg (Host.Outcome.next ∘ settle) ((vaultAccess_of_works hw hoff).trans (wordRead_of_ok h))
    case lost => exact congrArg (Host.Outcome.next ∘ settle) ((vaultAccess_of_works hw hoff).trans (wordRead_of_lost h))
    case full | narrow => exact congrArg (Host.Outcome.next ∘ settle) (vaultAccess_of_works hw hoff)
  case repair =>
    exact congrArg (Host.Outcome.next ∘ settle) ((vaultAccess_of_works hw (block_lt_vaultEnd blk)).trans (if_pos hest))
  case noRepair =>
    exact congrArg (Host.Outcome.next ∘ settle) ((vaultAccess_of_works hw (block_lt_vaultEnd blk)).trans (if_neg (by simp [hest])))
  case demand => exact congrArg (Host.Outcome.next ∘ settle) (scrubQueued_cons hq hw)
  case refresh => exact ⟨_, rfl, tget_tset_same noBad s.vaults.openRow _ 0, rfl, rfl, rfl, rfl⟩
  case disabled => exact congrArg (Host.Outcome.next ∘ settle) (patrolNext_disabled h)
  case patrol => exact congrArg (Host.Outcome.next ∘ settle) (if_neg (by simp [hen, hw]))
  case replay => exact ⟨_, rfl, rd_bump_same .., fun f i h => rd_bump_other h s⟩

end Sys2Proof.Machine
end

section
/-!
PROOFS. The host windows (chapter 06: R144 to R148): the address forms, and what a host access does.
-/

namespace Sys2Proof.Machine

/-! The interleaved window (R144, R145). -/

/-- The field of a host-window address that picks the vault of a site: its number, mixed with the block's. -/
def windowVault (v off : Nat) : Nat := Nat.xor (v % 2048) (off / 2 ^ 8 % 2 ^ 11)

theorem windowVault_lt (v off : Nat) : windowVault v off < 2 ^ 11 :=
  Nat.xor_lt_two_pow (Nat.mod_lt _ (by decide)) (Nat.mod_lt _ (by decide))

/-- Mixed with the block's number again, it is the vault's number. -/
theorem windowVault_xor (v off : Nat) : Nat.xor (windowVault v off) (off / 2 ^ 8 % 2 ^ 11) = v % 2048 :=
  Nat.xor_xor_cancel_right ..

theorem toHostWindow_eq (v off : Nat) :
    toHostWindow v off = siteOf v * 2 ^ 36 + off / 256 * 2 ^ 19 + windowVault v off * 256 + off % 256 := rfl

/-- The fields of a host-window address: site, block, vault and byte of the block lie apart. -/
theorem window_fields {site block x byte a : Nat} (hs : site < 64) (hb : block < 2 ^ 17) (hx : x < 2 ^ 11) (hr : byte < 256)
    (ha : site * 2 ^ 36 + block * 2 ^ 19 + x * 256 + byte = a) :
    a / 2 ^ 36 % 64 = site ∧ a / 2 ^ 19 % 2 ^ 17 = block ∧ a / 2 ^ 19 % 2 ^ 11 = block % 2 ^ 11 ∧ a / 2 ^ 8 % 2 ^ 11 = x ∧
      a % 256 = byte ∧ a < 2 ^ 42 := by
  simp only [Nat.reducePow] at *
  omega

/-- Settles O28: each field of the address is read back (`window_fields`), the vault's number by `windowVault_xor`. -/
theorem hostWindowForms : Obligations.HostWindowForms := by
  intro v off hoff
  have hv := v.isLt
  have hsite : siteOf v = v.val / 2048 := rfl
  obtain ⟨h1, h2, h3, h4, h5, h6⟩ := window_fields (site := siteOf v) (block := off / 256) (by omega) (by omega)
    (windowVault_lt v off) (Nat.mod_lt off (by decide)) (toHostWindow_eq v off).symm
  refine ⟨?_, h6⟩
  rw [hostWindow, h1, h2, h3, h4, h5, ← show off / 2 ^ 8 = off / 256 from rfl, windowVault_xor, Prod.mk.injEq]
  omega

/-! A host access (R148). -/

section
variable {x : HostAccess} {s : State}

/-- An access from a port whose site is in service to a target site in service, joined to it, is served at once. -/
theorem hostAccess_of_joined (hup : siteUp (hostSite x.vlocal x.addr) s = true) (hin : s.net.out.contains (hostPortSite x.port s) = false)
    (hroute : unreachable (hostPortSite x.port s) (hostSite x.vlocal x.addr) s = false)
    (hheld : pathHeld (hostPortSite x.port s) (hostSite x.vlocal x.addr) s = false) : hostAccess x s = serveHost x s := by
  simp only [hostAccess, hup, hin, hroute, hheld]
  rfl

/-- The address of an access is a hole, or its function's window grants do not admit the page for it. -/
def NotAdmitted (x : HostAccess) (write : Bool) (s : State) : Prop :=
  hostTarget x.vlocal x.addr = none ∨
    ∃ t, hostTarget x.vlocal x.addr = some t ∧ grantAllows x.port x.func t.1 (t.2 / 65536) write s = false

/-- Such a read is not made: HOLE is set, poisoned data returned. -/
theorem serveHost_read_notAdmitted (hd : x.data = none) (h : NotAdmitted x false s) :
    serveHost x s = emit (.readData true []) (flag .vsiteStatusHole (hostSite x.vlocal x.addr) s) := by
  rcases h with h | ⟨t, ht, hg⟩
  · simp [serveHost, h, hd]
  · simp [serveHost, ht, hg, hd]

/-- Such a write is not made: HOLE is set. -/
theorem serveHost_write_notAdmitted {bs : List Byte} (hd : x.data = some bs) (h : NotAdmitted x true s) :
    serveHost x s = flag .vsiteStatusHole (hostSite x.vlocal x.addr) s := by
  rcases h with h | ⟨t, ht, hg⟩
  · simp [serveHost, h, hd]
  · simp [serveHost, ht, hg, hd]

/-- An admitted write writes its bytes. -/
theorem serveHost_write {t : Nat × Nat} {bs : List Byte} (hd : x.data = some bs) (ht : hostTarget x.vlocal x.addr = some t)
    (hg : grantAllows x.port x.func t.1 (t.2 / 65536) true s = true) :
    serveHost x s = (vwrite t.1 t.2 srcHost bs (meetHost t.1 s)).2 := by
  simp [serveHost, ht, hg, hd]

/-- An admitted read delivers the rest of the line. -/
theorem serveHost_read {t : Nat × Nat} {bs : List Byte} (hd : x.data = none) (ht : hostTarget x.vlocal x.addr = some t)
    (hg : grantAllows x.port x.func t.1 (t.2 / 65536) false s = true)
    (hr : (vreadBytes t.1 t.2 (64 - t.2 % 64) srcHost (meetHost t.1 s)).1 = (bs, none)) :
    serveHost x s = emit (.readData false bs) (vreadBytes t.1 t.2 (64 - t.2 % 64) srcHost (meetHost t.1 s)).2 := by
  simp [serveHost, ht, hg, hd, hr]

/-- An admitted read of a word that cannot be delivered returns poisoned data. -/
theorem serveHost_read_lost {t : Nat × Nat} {bs : List Byte} {o : Nat} (hd : x.data = none) (ht : hostTarget x.vlocal x.addr = some t)
    (hg : grantAllows x.port x.func t.1 (t.2 / 65536) false s = true)
    (hr : (vreadBytes t.1 t.2 (64 - t.2 % 64) srcHost (meetHost t.1 s)).1 = (bs, some o)) :
    serveHost x s = emit (.readData true []) (vreadBytes t.1 t.2 (64 - t.2 % 64) srcHost (meetHost t.1 s)).2 := by
  simp [serveHost, ht, hg, hd, hr]

end

/-- Settles O27: the access is served at once (`hostAccess_of_joined`), and each clause is one case of `serveHost`. -/
theorem hostWindowRule : Obligations.HostWindowRule := by
  intro port func vlocal addr bytes s hup hin hroute hheld
  have hread {t : State} (h : serveHost ⟨port.val, func.val, vlocal, addr.toNat, none⟩ s = t) :
      exec (.hostWindowRead port func vlocal addr) s = .next (settle t) :=
    congrArg (Host.Outcome.next ∘ settle) ((hostAccess_of_joined hup hin hroute hheld).trans h)
  have hwrite {t : State} (h : serveHost ⟨port.val, func.val, vlocal, addr.toNat, some (bytes.take (64 - addr.toNat % 64))⟩ s = t) :
      exec (.hostWindowWrite port func vlocal addr bytes) s = .next (settle t) :=
    congrArg (Host.Outcome.next ∘ settle) ((hostAccess_of_joined hup hin hroute hheld).trans h)
  refine ⟨fun h => ?noRead, fun h => ?noWrite, fun t ht hg => ⟨fun bs hr => ?read, fun bs o hr => ?poisoned⟩, fun t ht hg => ?write,
    fun i u => ⟨wr_vaults .., rd_wr_same ..⟩⟩
  case noRead => exact hread (serveHost_read_notAdmitted rfl h)
  case noWrite => exact hwrite (serveHost_write_notAdmitted rfl h)
  case read => exact hread (serveHost_read rfl ht hg hr)
  case poisoned => exact hread (serveHost_read_lost rfl ht hg hr)
  case write => exact hwrite (serveHost_write rfl ht hg)

end Sys2Proof.Machine
end

section
/-!
PROOFS. Envelopes over memory (R158, R159, R168, R172, R180, R224, R236, R239, R359, R371, R372, R514).
-/

namespace Sys2Proof.Machine

/-! An envelope that its checks let through (R361, R362). -/

section
variable {o : OpInfo} {e : Env} {s u : State}

/-- A taken envelope reaches its opcode's body. -/
theorem envelope_of_taken (h : Taken o e s) (body : State → Option Ans × State) :
    envelope o e body s = handle o e body (markPassed e s) := by
  obtain ⟨hready, hheader, hclerk, -, -⟩ := h
  have hstore : ¬(o.clerk = true ∧ (!clerkUp (markPassed e s)) = true) := fun ⟨hc, hu⟩ => by simp [hclerk hc] at hu
  simp only [envelope, hready, hheader, if_neg hstore]
  rfl

/-- Its class may send the opcode, where its handler looks at that. -/
theorem class_of_taken (h : Taken o e s) : ¬(o.first && !classAllowed o e) = true := by
  obtain ⟨-, -, -, hfirst, -⟩ := h
  cases hf : o.first <;> simp_all

/-- An answer, other than AUTHORITY, is sent. -/
theorem envelope_answers {body : State → Option Ans × State} {a : Ans} (h : Taken o e s) (hb : body (markPassed e s) = (some a, u))
    (ha : a.status ≠ 4) : envelope o e body s = reply o.code e a u := by
  obtain ⟨-, -, -, -, hparam⟩ := id h
  rw [envelope_of_taken h]
  simp only [handle, if_neg (class_of_taken h), hparam, hb, if_neg ha]

theorem atOnce_of_eq {f : State → Ans × State} {a : Ans} (hf : f s = (a, u)) : atOnce f s = (some a, u) := by
  rw [atOnce, hf]

/-- An envelope that is answered later leaves its body's state. -/
theorem envelope_waits {body : State → Option Ans × State} (h : Taken o e s) (hb : body (markPassed e s) = (none, u)) :
    envelope o e body s = u := by
  obtain ⟨-, -, -, -, hparam⟩ := id h
  rw [envelope_of_taken h]
  simp only [handle, if_neg (class_of_taken h), hparam, hb]

end

/-! Parcels (R224, R372, R514). -/

section
variable {e : Env} {s : State}

@[simp] theorem getParcel_setParcel_same (p : Nat) (x : Parcel) (s : State) : getParcel p (setParcel p x s) = x := tget_tset_same ..

theorem doParcelReserve_of_free (hp : pNat e 0 1 < 64) (hn : pNat e 266 2 ≠ 0) (hend : pNat e 264 2 + pNat e 266 2 ≤ 752) {ks : List Nat}
    (hks : ks = (List.range 2048).filter (pNat e 8 256).testBit) (hne : ks ≠ []) (hst : (getParcel (pNat e 0 1) s).st = 0)
    (hlost : ∀ k ∈ ks, bit .brsiteStatusLost (k / 32) s = false)
    (hfree : ∀ q ∈ reservedPages { clusters := ks, first := pNat e 264 2, npages := pNat e 266 2 }, pageIsFree q.1 q.2 s = true) :
    doParcelReserve e s =
      (okAns, reserveParcel (pNat e 0 1) { clusters := ks, first := pNat e 264 2, npages := pNat e 266 2 } s) := by
  have hany : (ks.any fun k => bit .brsiteStatusLost (k / 32) s) = false := List.any_eq_false.2 fun k hk => by simp [hlost k hk]
  have hall : ((reservedPages { clusters := ks, first := pNat e 264 2, npages := pNat e 266 2 }).all fun q =>
      decide (752 ≤ q.2) || pageIsFree q.1 q.2 s) = true := List.all_eq_true.2 fun q hq => by simp [hfree q hq]
  simp only [doParcelReserve, ← hks, if_neg (Nat.not_le.2 hp), if_neg hne, if_neg hn, hst, hany, hall, if_neg (Nat.not_lt.2 hend)]
  rfl

/-- Status 0 is the answer of the last branch alone, behind every check: the parcel has been sealed. -/
theorem trySeal_zero {p : Nat} (h : (trySeal p s).1 = 0) : ∃ x t, (trySeal p s).2 = sealParcel p x t := by
  revert h
  fun_cases trySeal <;> simp_all

/-- A sealed parcel is SEALED. -/
theorem st_sealParcel (p : Nat) (x : Parcel) (s : State) : (getParcel p (sealParcel p x s)).st = 2 := by
  simp [sealParcel]

theorem doParcelSeal_ok (hp : pNat e 0 1 < 64) (h : (trySeal (pNat e 0 1) s).1 = 0) :
    doParcelSeal e s =
      (⟨0, 0, natBe 16 ((getParcel (pNat e 0 1) (trySeal (pNat e 0 1) s).2).measure / 2 ^ 256), []⟩, (trySeal (pNat e 0 1) s).2) := by
  simp [doParcelSeal, Nat.not_le.2 hp, h]

theorem doParcelSeal_refused (hp : pNat e 0 1 < 64) (h : (trySeal (pNat e 0 1) s).1 ≠ 0) :
    doParcelSeal e s = (refuse (trySeal (pNat e 0 1) s).1, (trySeal (pNat e 0 1) s).2) := by
  simp [doParcelSeal, Nat.not_le.2 hp, h]

theorem doParcelDiscard_of_unbound (hp : pNat e 0 1 < 64) (hb : boundTo (pNat e 0 1) s = none) (h0 : (getParcel (pNat e 0 1) s).st ≠ 0)
    (h4 : (getParcel (pNat e 0 1) s).st ≠ 4) : doParcelDiscard e s = (okAns, discardParcel (pNat e 0 1) s) := by
  simp [doParcelDiscard, Nat.not_le.2 hp, hb, h0, h4]

/-- A discarded parcel that no district is bound to is FREE again. -/
theorem getParcel_discardParcel {p : Nat} (h : boundTo p s = none) : getParcel p (discardParcel p s) = {} := by
  simp [discardParcel, h]

/-! Grants (R236, R372). -/

theorem doGrant_ok (hport : pNat e 0 1 < 4) (hfunc : pNat e 1 1 < 8) (hentry : pNat e 2 1 < 16) (hc : mayConfigure e (pNat e 0 1) = true)
    {g : GrantE} (hg : (pNat e 3 1, g) ∈ [(0, GrantE.none_), (1, .district (pNat e 4 1) false), (2, .district (pNat e 4 1) true),
      (3, .parcel (pNat e 4 1))]) (hnone : pNat e 3 1 = 0 → pNat e 4 1 = 0) (hparcel : pNat e 3 1 = 3 → pNat e 4 1 < 64)
    (hbind : pNat e 3 1 = 1 ∨ pNat e 3 1 = 2 → rd .distCfgState (pNat e 4 1) s ≠ 2) :
    doGrant e s = (okAns, setEng { s.eng with
      grants := tset noGrant s.eng.grants (grantKey (pNat e 0 1) (pNat e 1 1) (pNat e 2 1)) g } s) := by
  have hid : ¬((pNat e 3 1 = 0 ∧ pNat e 4 1 ≠ 0) ∨ (pNat e 3 1 = 3 ∧ 64 ≤ pNat e 4 1)) := by omega
  have hre : ¬((pNat e 3 1 = 1 ∨ pNat e 3 1 = 2) ∧ rd .distCfgState (pNat e 4 1) s = 2) := fun ⟨hk, hs⟩ => hbind hk hs
  simp only [List.mem_cons, Prod.mk.injEq, List.not_mem_nil, or_false] at hg
  have hkind : ¬ 4 ≤ pNat e 3 1 := by omega
  simp only [doGrant, if_neg (Nat.not_le.2 hport), if_neg (Nat.not_le.2 hfunc), if_neg (Nat.not_le.2 hentry), if_neg hkind, if_neg hid,
    hc, if_neg hre]
  rcases hg with ⟨hk, rfl⟩ | ⟨hk, rfl⟩ | ⟨hk, rfl⟩ | ⟨hk, rfl⟩ <;> simp [hk]

/-! Ranges: FILL, FENCE, COPY, ATOMIC (R158, R159, R180, R372). -/

theorem doFill_ok (hbad : fillBad e = none) (h : ∀ r ∈ (fillRanges e).map (·.2), rangeForeign e r.1 r.2 true s = false ∧
      rangeSealed r.1 r.2 s = false ∧ rangeBusy r.1 r.2 s = false ∧ rangeLost r.1 s = false) :
    doFill e s = (okAns, finishWrite srcDispatcher
      ((fillRanges e).map fun y => ((vaultLocal y.2.1).1, (vaultLocal y.2.1).2, y.2.2)) ((fillRanges e).foldl (fun w y =>
        (List.range (y.2.2 / 32)).foldl (fun z j =>
          writeWord (vaultLocal y.2.1).1 ((vaultLocal y.2.1).2 + 32 * j) (pBytes e 0 32) z) w) s)) := by
  have hany {f : Nat × Nat → Bool} (hf : ∀ r ∈ (fillRanges e).map (·.2), f r = false) : ((fillRanges e).map (·.2)).any f = false :=
    List.any_eq_false.2 fun r hr => by simp [hf r hr]
  simp only [doFill, hbad, hany fun r hr => (h r hr).1, hany fun r hr => (h r hr).2.1, hany fun r hr => (h r hr).2.2.1,
    hany fun r hr => (h r hr).2.2.2]
  simp [fillPieces, List.foldl_map, Function.comp_def]

theorem rangeBad_of_inVault {a n : Nat} (o p : Nat) (ha : a < 2 ^ 43) (hv : inVault a n = true) : rangeBad a n o p = none := by
  simp only [rangeBad, if_neg (Nat.not_le.2 ha), hv]
  rfl

theorem doFence_of_range (hn : pNat e 8 8 ≠ 0) (ha : pNat e 0 8 < 2 ^ 43) (hv : inVault (pNat e 0 8) (pNat e 8 8) = true)
    (hf : rangeForeign e (pNat e 0 8) (pNat e 8 8) false s = false) {ops : List Nat}
    (hops : ops = fenceOps (vaultLocal (pNat e 0 8)).1 (vaultLocal (pNat e 0 8)).2 (pNat e 8 8) s) :
    doFence e s = if ops = [] then (some okAns, s) else (none, setEng { s.eng with fences := s.eng.fences ++ [⟨e, ops⟩] } s) := by
  simp only [doFence, if_neg hn, rangeBad_of_inVault 0 8 ha hv, hf, hops]
  rfl

/-- A COPY that its own checks let through. -/
structure CopyPasses (e : Env) (s : State) : Prop where
  nonempty : pNat e 16 4 ≠ 0
  wholeWords : pNat e 16 4 % 32 = 0
  inVaults : (rangeBad (pNat e 0 8) (pNat e 16 4) 0 16 <|> rangeBad (pNat e 8 8) (pNat e 16 4) 8 16) = none
  pages : (rangeForeign e (pNat e 0 8) (pNat e 16 4) false s || rangeForeign e (pNat e 8 8) (pNat e 16 4) true s) = false
  unsealed : (rangeSealed (pNat e 0 8) (pNat e 16 4) s || rangeSealed (pNat e 8 8) (pNat e 16 4) s) = false
  notRebinding : (rangeBusy (pNat e 0 8) (pNat e 16 4) s || rangeBusy (pNat e 8 8) (pNat e 16 4) s) = false
  sitesUp : (rangeLost (pNat e 0 8) s || rangeLost (pNat e 8 8) s) = false

theorem copyPasses_of_sides (hn : pNat e 16 4 ≠ 0) (hw : pNat e 16 4 % 32 = 0)
    (hs : ∀ a ∈ [pNat e 0 8, pNat e 8 8], a < 2 ^ 43 ∧ inVault a (pNat e 16 4) = true ∧ rangeSealed a (pNat e 16 4) s = false ∧
      rangeBusy a (pNat e 16 4) s = false ∧ rangeLost a s = false)
    (hr : rangeForeign e (pNat e 0 8) (pNat e 16 4) false s = false) (hd : rangeForeign e (pNat e 8 8) (pNat e 16 4) true s = false) :
    CopyPasses e s := by
  obtain ⟨ha, hva, hsa, hba, hla⟩ := hs _ (List.mem_cons_self ..)
  obtain ⟨hb, hvb, hsb, hbb, hlb⟩ := hs _ (List.mem_cons_of_mem _ (List.mem_singleton_self _))
  refine ⟨hn, hw, ?_, ?_, ?_, ?_, ?_⟩
  · rw [rangeBad_of_inVault 0 16 ha hva, rangeBad_of_inVault 8 16 hb hvb]
    rfl
  · rw [hr, hd]
    rfl
  · rw [hsa, hsb]
    rfl
  · rw [hba, hbb]
    rfl
  · rw [hla, hlb]
    rfl

section
variable (h : CopyPasses e s) {r : (List Byte × Option Nat) × State}
  (hr : r = vreadBytes (vaultLocal (pNat e 0 8)).1 (vaultLocal (pNat e 0 8)).2 (pNat e 16 4) srcSide s)
include h hr

theorem doCopy_unread (hn : r.1.2 ≠ none) : doCopy e s = (⟨9, 13, [], []⟩, r.2) := by
  obtain ⟨o, ho⟩ := Option.ne_none_iff_exists'.1 hn
  simp only [doCopy, if_neg h.nonempty, h.wholeWords, h.inVaults, h.pages, h.unsealed, h.notRebinding, h.sitesUp, ← hr, ho]
  rfl

theorem doCopy_unreachable (hn : r.1.2 = none)
    (hu : unreachable (siteOf (vaultLocal (pNat e 0 8)).1) (siteOf (vaultLocal (pNat e 8 8)).1) r.2 = true) :
    doCopy e s = (⟨9, 14, [], []⟩, flag .netStatusUnreach (siteOf (vaultLocal (pNat e 0 8)).1) r.2) := by
  simp only [doCopy, if_neg h.nonempty, h.wholeWords, h.inVaults, h.pages, h.unsealed, h.notRebinding, h.sitesUp, ← hr, hn, hu]
  rfl

section
variable (hn : r.1.2 = none) (hu : unreachable (siteOf (vaultLocal (pNat e 0 8)).1) (siteOf (vaultLocal (pNat e 8 8)).1) r.2 = false)
  {w : Option Nat × State} (hw : w = vwrite (vaultLocal (pNat e 8 8)).1 (vaultLocal (pNat e 8 8)).2 srcSide r.1.1 r.2)
include hn hu hw

theorem doCopy_written (hl : w.1 = none) : doCopy e s = (okAns, w.2) := by
  simp only [doCopy, if_neg h.nonempty, h.wholeWords, h.inVaults, h.pages, h.unsealed, h.notRebinding, h.sitesUp, ← hr, hn, hu,
    Bool.false_eq_true, if_false, ← hw, hl]
  rfl

theorem doCopy_lost (hl : w.1 ≠ none) : doCopy e s = (⟨9, 14, [], []⟩, w.2) := by
  obtain ⟨o, ho⟩ := Option.ne_none_iff_exists'.1 hl
  simp only [doCopy, if_neg h.nonempty, h.wholeWords, h.inVaults, h.pages, h.unsealed, h.notRebinding, h.sitesUp, ← hr, hn, hu,
    Bool.false_eq_true, if_false, ← hw, ho]
  rfl

end

end

theorem doAtomic_of_counter (h1 : 1 ≤ pNat e 0 1) (h4 : pNat e 0 1 ≤ 4) (hsize : pNat e 1 1 = 4 ∨ pNat e 1 1 = 8)
    (hal : pNat e 8 8 % pNat e 1 1 = 0) (ha : pNat e 8 8 < 2 ^ 43) (hv : inVault (pNat e 8 8) (pNat e 1 1) = true)
    (hc : counterBase ≤ pNat e 8 8 % 2 ^ 26) (hf : rangeForeign e (pNat e 8 8) (pNat e 1 1) true s = false)
    (hb : rangeBusy (pNat e 8 8) (pNat e 1 1) s = false) (hl : rangeLost (pNat e 8 8) s = false) {r : (List Byte × Bool) × State}
    (hread : r = counterBytes (vaultLocal (pNat e 8 8)).1 (vaultLocal (pNat e 8 8)).2 srcHost (pNat e 1 1)
      (grantSlots false (vaultLocal (pNat e 8 8)).1 1 s)) :
    doAtomic e s = if r.1.2 then (⟨9, 13, [], []⟩, r.2) else (⟨0, 0, natLe 8 (leNat r.1.1), []⟩,
      (vwrite (vaultLocal (pNat e 8 8)).1 (vaultLocal (pNat e 8 8)).2 srcHost
        (natLe (pNat e 1 1) (atomicNew (pNat e 0 1) (pNat e 1 1) (leNat r.1.1) (pNat e 16 8) (pNat e 24 8))) r.2).2) := by
  have hop : ¬(pNat e 0 1 = 0 ∨ 4 < pNat e 0 1) := by omega
  have hsz : ¬(pNat e 1 1 ≠ 4 ∧ pNat e 1 1 ≠ 8) := by omega
  have hin : (!inVault (pNat e 8 8) (pNat e 1 1) || decide (pNat e 8 8 % 2 ^ 26 < counterBase)) = false := by
    rw [hv, decide_eq_false (Nat.not_lt.2 hc)]
    rfl
  simp only [doAtomic, if_neg hop, if_neg hsz, hal, if_neg (Nat.not_le.2 ha), hin, hf, hb, hl, ← hread]
  rfl

/-! Swap pools (R372). -/

section
variable {p a n : Nat}

/-- No range of a list meets the one given. -/
theorem any_meets_eq_false {l : List (Nat × Nat × Nat)} (h : ∀ q ∈ l, ¬(q.1 = p ∧ q.2.1 < a + n ∧ a < q.2.1 + q.2.2)) :
    (l.any fun q => q.1 == p && decide (q.2.1 < a + n ∧ a < q.2.1 + q.2.2)) = false :=
  List.any_eq_false.2 fun q hq => by simpa using h q hq

variable (hr : swapRange e = (p, a, n)) (hb : swapBad e = none)
include hr hb

theorem doSwappoolAdd_ok (hlen : s.sort.pool.length < 16) (h : ∀ q ∈ s.sort.pool, ¬(q.1 = p ∧ q.2.1 < a + n ∧ a < q.2.1 + q.2.2)) :
    doSwappoolAdd e s = (okAns, setSort { s.sort with pool := s.sort.pool ++ [(p, a, n)] } s) := by
  simp only [doSwappoolAdd, hr, hb, any_meets_eq_false h, Bool.false_eq_true, or_false, if_neg (Nat.not_le.2 hlen)]

theorem doSwappoolRemove_ok (hin : (p, a, n) ∈ s.sort.pool) (h : ∀ q ∈ poolUsed s, ¬(q.1 = p ∧ q.2.1 < a + n ∧ a < q.2.1 + q.2.2)) :
    doSwappoolRemove e s = (okAns, setSort { s.sort with pool := s.sort.pool.erase (p, a, n) } s) := by
  simp only [doSwappoolRemove, hr, hb, any_meets_eq_false h, List.contains_iff_mem.2 hin]
  rfl

end

/-! NM_SUBMIT (R168, R171, R172). -/

/-- The checks before data do not look at the count of accepted operations. -/
theorem nmCheck_setEng_nmSeq (k n : Nat) (op : NmOp) : nmCheck k op (setEng { s.eng with nmSeq := n } s) = nmCheck k op s := rfl

theorem doNmSubmit_ok (hg : districtGate e (pNat e 64 1) s = none)
    (hl : bit .brsiteStatusLost (nmSite (pNat e 0 64) (pNat e 64 1) s) s = false) :
    doNmSubmit e s = (none, nmSubmit (32 * nmSite (pNat e 0 64) (pNat e 64 1) s + nEngine (pNat e 0 64))
      { desc := pNat e 0 64, district := some (pNat e 64 1), who := .envelope e } s) := by
  simp only [doNmSubmit, hg, hl]
  rfl

@[simp] theorem getEngine_setEngine_same (k : Nat) (x : Engine) (s : State) : getEngine k (setEngine k x s) = x := tget_tset_same ..

/-- An operation that passes its engine's checks joins the queue while that holds fewer than 16 (R172). -/
theorem nmSubmit_of_room {k : Nat} {op : NmOp} (hc : nmCheck k { op with seq := s.eng.nmSeq } s = 0) (hq : (getEngine k s).queue.length < 16) :
    nmSubmit k op s = showEngine k (setEngine k
      { getEngine k s with queue := (getEngine k s).queue ++ [{ op with seq := s.eng.nmSeq }] }
      (setEng { s.eng with nmSeq := s.eng.nmSeq + 1 } s)) := by
  have hsame : getEngine k (setEng { s.eng with nmSeq := s.eng.nmSeq + 1 } s) = getEngine k s := rfl
  simp [nmSubmit, nmCheck_setEng_nmSeq, hc, hsame, hq]

theorem getEngine_showEngine (k j : Nat) (s : State) : getEngine j (showEngine k s) = getEngine j s := rfl

end

/-- Settles O39: a taken envelope is answered with what its opcode's body answers (`envelope_answers`), or waits (`envelope_waits`), and
each body by its own lemma. -/
theorem memoryEnvelopes : Obligations.MemoryEnvelopes := by
  intro e s u
  have h04 : (0 : Nat) ≠ 4 := by decide
  have h94 : (9 : Nat) ≠ 4 := by decide
  have hreplies {o : OpInfo} {body : State → Option Ans × State} {a : Ans} {t : State} (h : Taken o e s) (hb : body u = (some a, t))
      (ha : a.status ≠ 4) : (.next (settle (envelope o e body s)) : Res) = .next (settle (reply o.code e a t)) :=
    congrArg (Host.Outcome.next ∘ settle) (envelope_answers h hb ha)
  have hanswers {o : OpInfo} {f : State → Ans × State} {a : Ans} {t : State} (h : Taken o e s) (hf : f u = (a, t)) (ha : a.status ≠ 4) :
      (.next (settle (envelope o e (atOnce f) s)) : Res) = .next (settle (reply o.code e a t)) := hreplies h (atOnce_of_eq hf) ha
  have hwaits {o : OpInfo} {body : State → Option Ans × State} {t : State} (h : Taken o e s) (hb : body u = (none, t)) :
      (.next (settle (envelope o e body s)) : Res) = .next (settle t) := congrArg (Host.Outcome.next ∘ settle) (envelope_waits h hb)
  refine ⟨fun h hp hn hend ks hks hne hst hlost hfree => ?reserve, fun h hp => ?sealed, fun h hp hb h0 h4 => ?discard,
    fun h hport hfunc hentry hc g hg hnone hparcel hbind => ?grant, fun h hbad hr => ?fill, fun h hn ha hv hf ops hops => ?fence,
    fun h hn hw hs hr hd r hread => ?copy, fun h h1 h4 hsize hal ha hv hc hf hb hl r hread => ?atomic,
    fun p a n hr hb => ?swappool, fun h hg hl => ?submit, fun k op hk hop h hg hl hc hq => ?queued⟩
  case reserve => exact ⟨hanswers h (doParcelReserve_of_free hp hn hend hks hne hst hlost hfree) h04, getParcel_setParcel_same ..⟩
  case sealed =>
    refine ⟨fun h0 => ⟨hanswers h (doParcelSeal_ok hp h0) h04, ?_⟩, fun h0 h4 => hanswers h (doParcelSeal_refused hp h0) h4⟩
    obtain ⟨x, t, hx⟩ := trySeal_zero h0
    rw [hx, st_sealParcel]
  case discard => exact ⟨hanswers h (doParcelDiscard_of_unbound hp hb h0 h4) h04, getParcel_discardParcel hb⟩
  case grant => exact hanswers h (doGrant_ok hport hfunc hentry hc hg hnone hparcel hbind) h04
  case fill => exact hanswers h (doFill_ok hbad hr) h04
  case fence =>
    have hdo := doFence_of_range hn ha hv hf hops
    refine ⟨fun h0 => ?clear, fun h0 => ?held⟩
    case clear =>
      rw [if_pos h0] at hdo
      exact hreplies h hdo h04
    case held =>
      rw [if_neg h0] at hdo
      exact hwaits h hdo
  case copy =>
    have hpass := copyPasses_of_sides hn hw hs hr hd
    refine ⟨fun hok hu => ?unreachable, fun hok hu w hw => ⟨fun hl => ?written, fun hl => ?lost⟩, fun hno => ?unread⟩
    case unreachable => exact hanswers h (doCopy_unreachable hpass hread hok hu) h94
    case written => exact hanswers h (doCopy_written hpass hread hok hu hw hl) h04
    case lost => exact hanswers h (doCopy_lost hpass hread hok hu hw hl) h94
    case unread => exact hanswers h (doCopy_unread hpass hread hno) h94
  case atomic =>
    have hdo := doAtomic_of_counter h1 h4 hsize hal ha hv hc hf hb hl hread
    refine ⟨fun h0 => ?done, fun h0 => ?lost⟩
    case done =>
      rw [if_neg (by simp [h0])] at hdo
      exact hanswers h hdo h04
    case lost =>
      rw [if_pos h0] at hdo
      exact hanswers h hdo h94
  case swappool =>
    exact ⟨fun h hlen hap => hanswers h (doSwappoolAdd_ok hr hb hlen hap) h04,
      fun h hin hap => hanswers h (doSwappoolRemove_ok hr hb hin hap) h04⟩
  case submit => exact hwaits h (doNmSubmit_ok hg hl)
  case queued =>
    subst hk hop
    refine ⟨_, hwaits h (doNmSubmit_ok hg hl), ?_⟩
    rw [nmSubmit_of_room (op := { desc := pNat e 0 64, district := some (pNat e 64 1), who := .envelope e }) hc hq,
      getEngine_showEngine, getEngine_setEngine_same]
    exact ⟨rfl, rfl⟩

end Sys2Proof.Machine
end

section
/-!
PROOFS. Near-memory engines (R172, R181, R185, R440): what leaves the table of engines as it is, the start of an operation, its end, and
the abort of all of an engine's operations.
-/

namespace Sys2Proof.Machine

/-- A fold leaves alone what each of its steps leaves alone. -/
theorem foldl_keeps {α β γ : Type} {p : α → γ} {f : α → β → α} (h : ∀ u x, p (f u x) = p u) (l : List β) (s : α) :
    p (l.foldl f s) = p s :=
  List.foldlRecOn (motive := fun u => p u = p s) l f rfl fun u ih x _ => (h u x).trans ih

theorem natBool_mod_two (b : Bool) : natBool b % 2 ^ 1 = natBool b := by cases b <;> rfl

/-! Answers leave the engines alone. -/

theorem engines_vwrite (v off src : Nat) (bs : List Byte) (s : State) : (vwrite v off src bs s).2.engines = s.engines := by
  have h : beyondVaults (vwrite v off src bs s).2 = beyondVaults s := by simp [vwrite]
  exact (congrArg State.engines h :)

theorem engines_mboxFill (m : Nat) (bs : List Byte) (s : State) : (mboxFill m bs s).engines = s.engines := by
  have hirq (u : State) : (mboxIrq m u).engines = u.engines := by unfold mboxIrq; split <;> rfl
  have hcopy (bs : List Byte) (u : State) : (mboxCopy m bs u).engines = u.engines := by
    unfold mboxCopy
    extract_lets
    split
    · rfl
    · split
      · exact engines_vwrite ..
      · rfl
  exact (hirq _).trans (hcopy ..)

theorem engines_fwSend (m : Nat) (event : Bool) (bs : List Byte) (s : State) : (fwSend m event bs s).engines = s.engines := by
  unfold fwSend
  split
  · exact engines_mboxFill ..
  · dsimp only
    split <;> rfl

theorem engines_reply (opcode : Nat) (e : Env) (a : Ans) (s : State) : (reply opcode e a s).engines = s.engines := by
  unfold reply
  extract_lets addr fails st toHost slip
  split
  · split
    · rfl
    · extract_lets s1 s2 ph s3 s4
      have h2 : s2.engines = s.engines := by
        change (if toHost then _ else s1).engines = _
        split <;> rfl
      split
      · rfl
      · split <;> exact h2
  · extract_lets s1
    refine (engines_fwSend ..).trans ?_
    change (if toHost then _ else s).engines = _
    split <;> rfl
  · rfl

theorem engines_nmAnswer (op : NmOp) (status : Nat) (bs : List Byte) (s : State) : (nmAnswer op status bs s).engines = s.engines := by
  unfold nmAnswer
  split
  · exact engines_reply ..
  · rfl
  · rfl

theorem engines_fencePass (seq : Nat) (s : State) : (fencePass seq s).engines = s.engines :=
  foldl_keeps (p := State.engines) (f := fun (u : State) (f : FenceWait) => reply 0x0202 f.env okAns u) (fun _ _ => engines_reply ..) _ _

theorem engines_nmDrop (e : Nat) (op : NmOp) (status : Nat) (s : State) : (nmDrop e op status s).engines = s.engines :=
  (engines_fencePass ..).trans (engines_nmAnswer ..)

theorem getEngine_of_engines {s t : State} (h : t.engines = s.engines) (k : Nat) : getEngine k t = getEngine k s := by
  rw [getEngine, h, getEngine]

/-! The status register and the queue (R172). -/

section
variable {k : Nat} {s : State}

theorem rd_showEngine_running : rd .nmeStatusRunning k (showEngine k s) = natBool (getEngine k s).running.isSome := by
  rw [showEngine, rd_wr_field _ _ _ _ _ _ (by decide), rd_wr_same]
  exact natBool_mod_two _

theorem rd_showEngine_qocc : rd .nmeStatusQocc k (showEngine k s) = (getEngine k s).queue.length % 2 ^ 5 := rd_wr_same ..

theorem rd_showEngine_held : rd .nmeStatusHeld k (showEngine k s) = natBool (getEngine k s).held := by
  rw [showEngine, rd_wr_field _ _ _ _ _ _ (by decide), rd_wr_field _ _ _ _ _ _ (by decide), rd_wr_same]
  exact natBool_mod_two _

/-- An engine whose free queue entries are filled from what waits. -/
def admitted (x : Engine) : Engine :=
  { x with queue := x.queue ++ x.waiting.take (16 - x.queue.length), waiting := x.waiting.drop (16 - x.queue.length) }

theorem getEngine_admitWaiting : getEngine k (admitWaiting k s) = admitted (getEngine k s) := getEngine_setEngine_same ..

end

/-! The start of an operation (R172, R440). -/

section
variable {e : Nat} {op : NmOp} {busy : Bool} {s : State}

/-- The engine as it takes an operation out of its queue. -/
def takenBy (e : Nat) (op : NmOp) (s : State) : Engine :=
  { getEngine e s with queue := (getEngine e s).queue.erase op, running := some { op with vaults := nmVaults e op s }, held := false,
                       checker := false, met := false, abort := false }

theorem startOp_of_next (hr : (getEngine e s).running = none) (hq : nextOp (getEngine e s).queue = some op) :
    startOp e s = showEngine e (admitWaiting e (setEngine e (takenBy e op s) s)) := by
  unfold startOp
  dsimp only
  rw [hr, hq]
  rfl

theorem getEngine_startOp (hr : (getEngine e s).running = none) (hq : nextOp (getEngine e s).queue = some op) :
    getEngine e (startOp e s) = admitted (takenBy e op s) := by
  rw [startOp_of_next hr hq, getEngine_showEngine, getEngine_admitWaiting, getEngine_setEngine_same]

theorem rd_startOp_running (hr : (getEngine e s).running = none) (hq : nextOp (getEngine e s).queue = some op) :
    rd .nmeStatusRunning e (startOp e s) = 1 := by
  rw [startOp_of_next hr hq, rd_showEngine_running, getEngine_admitWaiting, getEngine_setEngine_same]
  rfl

theorem vaults_startOp (e : Nat) (s : State) : (startOp e s).vaults = s.vaults := by
  unfold startOp
  dsimp only
  split <;> rfl

section
variable (hr : (getEngine e s).running = none) (hq : (getEngine e s).queue ≠ []) (hs : engineStopped e s = false)
include hr hq hs

theorem nmStart_of_allowed (h : startHold e busy s = 2) : nmStart e busy s = startOp e s := by
  simp [nmStart, hr, hq, hs, h]

/-- A start that is held for the first time is counted (R440). -/
theorem nmStart_of_hold (h : startHold e busy s ≠ 2) (hh : (getEngine e s).held = false) :
    nmStart e busy s = showEngine e (setEngine e { getEngine e s with held := true, checker := checkerHolds e busy s }
      (bump .thsiteHoldHeld (e / 32) s)) := by
  simp [nmStart, hr, hq, hs, h, hh]

end

theorem nmHoldExpired_of_held (hh : (getEngine e s).held = true) (hc : (getEngine e s).checker = true) (h : startHold e false s ≠ 0)
    (hs : engineStopped e s = false) : nmHoldExpired e s = startOp e (bump .thsiteHoldExpired (e / 32) s) :=
  if_pos ⟨hh, hc, h, by simp [hs]⟩

end

/-! The end of an operation (R181, R184). -/

section
variable {e : Nat} {op : NmOp} {s : State}

theorem beforeData_of_ok {r : NmRun} (h : r.status = 0) : beforeData r = false := by simp [beforeData, h]

/-- An operation that fails no check ends with its record, its signal and its answer, in this order. -/
theorem nmEnd_of_ok {r : NmRun} (done : Nat) (h : r.status = 0) :
    let bs := nmRecord r done (getEngine e s).met s
    let s1 := if nCen op.desc then
        (vwrite (nCrec op.desc / 2 ^ 26) (nCrec op.desc % 2 ^ 26) (engineSrc e (nCrec op.desc / 2 ^ 26)) bs s).2 else s
    let s2 := if nSen op.desc then sendSignal (131072 + e) (nTcore op.desc) (nSem op.desc) 1 s1 else s1
    let s3 := wr .nmeStatusLast e 0 (if (getEngine e s).met then flag .nmeStatusHostMet e s2 else s2)
    nmEnd e op r done s = fencePass op.seq (nmAnswer op 0 bs s3) := by
  unfold nmEnd
  rw [beforeData_of_ok h, h]
  rfl

/-- The engine is free again and admits what waits. -/
def freeEngine (e : Nat) (s : State) : State :=
  showEngine e (admitWaiting e (setEngine e { getEngine e s with running := none, met := false, abort := false } s))

theorem nmComplete_of_running (h : (getEngine e s).running = some op) :
    nmComplete e s =
      freeEngine e (nmEnd e op (nmRun e op (2 ^ 20) 0 s).1.1 (nmRun e op (2 ^ 20) 0 s).1.2 (nmRun e op (2 ^ 20) 0 s).2) := by
  unfold nmComplete
  rw [h]
  rfl

end

/-! The abort of all operations of an engine (R185). -/

section
variable {e code : Nat} {s : State}

theorem running_nmStop (op : NmOp) : (getEngine e (nmStop e op code s)).running = none := by
  unfold nmStop
  extract_lets
  rw [getEngine_setEngine_same]

/-- The state in which an engine's running operation has ended. -/
def afterRunning (e code : Nat) (s : State) : State :=
  match (getEngine e s).running with
  | some op => nmStop e op code s
  | none => s

theorem running_afterRunning : (getEngine e (afterRunning e code s)).running = none := by
  unfold afterRunning
  split
  · exact running_nmStop _
  · assumption

/-- The engine that an abort of all operations leaves. -/
def emptied (x : Engine) : Engine := { x with queue := [], waiting := [], held := false, checker := false }

theorem nmAbort_all : nmAbort e (fun _ => true) code s = showEngine e (admitWaiting e
    (((getEngine e (afterRunning e code s)).queue ++ (getEngine e (afterRunning e code s)).waiting).foldl (fun u op => nmDrop e op code u)
      (setEngine e (emptied (getEngine e (afterRunning e code s))) (afterRunning e code s)))) := by
  simp only [nmAbort, Bool.not_true, List.filter_false, List.isEmpty_nil, Bool.and_false, if_true, List.filter_true]
  rfl

theorem getEngine_nmAbort_all :
    getEngine e (nmAbort e (fun _ => true) code s) = admitted (emptied (getEngine e (afterRunning e code s))) := by
  have hdrop (l : List NmOp) (u : State) : (l.foldl (fun u op => nmDrop e op code u) u).engines = u.engines :=
    foldl_keeps (p := State.engines) (fun u op => engines_nmDrop e op code u) l u
  rw [nmAbort_all, getEngine_showEngine, getEngine_admitWaiting, getEngine_of_engines (hdrop _ _), getEngine_setEngine_same]

/-- An aborted engine runs nothing, holds nothing, and its status shows it (R185). -/
theorem nmAbort_leaves :
    let t := nmAbort e (fun _ => true) code s
    (getEngine e t).running = none ∧ (getEngine e t).queue = [] ∧ (getEngine e t).waiting = [] ∧ (getEngine e t).held = false ∧
      rd .nmeStatusRunning e t = 0 ∧ rd .nmeStatusQocc e t = 0 ∧ rd .nmeStatusHeld e t = 0 := by
  intro t
  have hidle : getEngine e t = admitted (emptied (getEngine e (afterRunning e code s))) := getEngine_nmAbort_all
  have hrun : (getEngine e t).running = none := by
    rw [hidle]
    exact running_afterRunning
  have hqueue : (getEngine e t).queue = [] := by rw [hidle]; rfl
  have hheld : (getEngine e t).held = false := by rw [hidle]; rfl
  obtain ⟨u, hu⟩ : ∃ u, t = showEngine e u := ⟨_, nmAbort_all⟩
  have hshow : getEngine e u = getEngine e t := by rw [hu, getEngine_showEngine]
  refine ⟨hrun, hqueue, by rw [hidle]; rfl, hheld, ?_, ?_, ?_⟩
  · rw [hu, rd_showEngine_running, hshow, hrun]
    rfl
  · rw [hu, rd_showEngine_qocc, hshow, hqueue]
    rfl
  · rw [hu, rd_showEngine_held, hshow, hheld]
    rfl

end

end Sys2Proof.Machine
end

section
/-!
PROOFS. The wafer network (R211, R212, R215, R216): what a route change discards and what it leaves, lanes and edges, the end of a route
change.
-/

namespace Sys2Proof.Machine

/-! What is discarded on the network changes nothing but cores, UNREACH and the consequences due (R216). -/

/-- Two states that differ only in the table of cores, in UNREACH, and in the consequences that are due. -/
def OnlyDiscards (s t : State) : Prop :=
  (∃ c r d, t = { s with cores := { s.cores with cores := c }, regs := r, due := d }) ∧
    ∀ f i, f ≠ .netStatusUnreach → rd f i t = rd f i s

namespace OnlyDiscards
variable {s t u : State}

theorem refl (s : State) : OnlyDiscards s s := ⟨⟨_, _, _, rfl⟩, fun _ _ _ => rfl⟩

theorem trans (a : OnlyDiscards s t) (b : OnlyDiscards t u) : OnlyDiscards s u := by
  obtain ⟨⟨c, r, d, e⟩, ra⟩ := a
  obtain ⟨⟨c', r', d', e'⟩, rb⟩ := b
  exact ⟨⟨c', r', d', by rw [e', e]⟩, fun f i h => (rb f i h).trans (ra f i h)⟩

theorem foldl {β : Type} {f : State → β → State} (hf : ∀ u x, OnlyDiscards u (f u x)) (l : List β) (s : State) :
    OnlyDiscards s (l.foldl f s) :=
  List.foldlRecOn (motive := OnlyDiscards s) l f (refl s) fun u ih x _ => ih.trans (hf u x)

theorem net (h : OnlyDiscards s t) : t.net = s.net := by
  obtain ⟨⟨c, r, d, e⟩, -⟩ := h
  rw [e]

theorem vaults (h : OnlyDiscards s t) : t.vaults = s.vaults := by
  obtain ⟨⟨c, r, d, e⟩, -⟩ := h
  rw [e]

theorem signals (h : OnlyDiscards s t) : t.cores.signals = s.cores.signals := by
  obtain ⟨⟨c, r, d, e⟩, -⟩ := h
  rw [e]

theorem rd_eq (h : OnlyDiscards s t) {f : Reg} (i : Nat) (hf : f ≠ .netStatusUnreach) : rd f i t = rd f i s := h.2 f i hf

end OnlyDiscards

theorem onlyDiscards_addDue (x : Due) (s : State) : OnlyDiscards s (addDue x s) := ⟨⟨_, _, _, rfl⟩, fun _ _ _ => rfl⟩

theorem onlyDiscards_unreach (i : Nat) (s : State) : OnlyDiscards s (flag .netStatusUnreach i s) :=
  ⟨⟨_, _, _, rfl⟩, fun _ _ h => rd_wr_field _ _ _ _ _ _ h⟩

theorem onlyDiscards_updCore (g : Nat) (f : Core → Core) (s : State) : OnlyDiscards s (updCore g f s) :=
  ⟨⟨_, _, _, rfl⟩, fun _ _ _ => rfl⟩

theorem onlyDiscards_signalLoss (x : Signal) (s : State) : OnlyDiscards s (signalLoss x s) :=
  .foldl (fun _ _ => onlyDiscards_addDue ..) _ _

/-- The signals under way without those that are discarded. -/
def keptSignals (bad : Signal → Bool) (s : State) : State :=
  { s with cores := { s.cores with signals := s.cores.signals.filter fun x => !bad x } }

theorem onlyDiscards_dropSignals (bad : Signal → Bool) (s : State) : OnlyDiscards (keptSignals bad s) (dropSignals bad s) :=
  .foldl (fun _ _ => (onlyDiscards_unreach ..).trans (onlyDiscards_signalLoss ..)) _ _

theorem onlyDiscards_dropReleases (bad : Bool → Nat → Nat → Bool) (s : State) : OnlyDiscards s (dropReleases bad s) := by
  refine .foldl (fun u p => ?_) _ _
  split
  · extract_lets home bar step
    split
    · exact ((onlyDiscards_updCore ..).trans (onlyDiscards_unreach ..)).trans (onlyDiscards_addDue ..)
    · exact .refl u
  · exact .refl u

theorem onlyDiscards_loseTransfers (bad : Bool → Nat → Nat → Bool) (s : State) : OnlyDiscards s (loseTransfers bad s) := by
  refine .foldl (fun u p => ?_) _ _
  extract_lets hit cut
  split
  · exact (onlyDiscards_updCore ..).trans (onlyDiscards_unreach ..)
  · exact .refl u

/-- What is under way is discarded: signals, releases and transfers (R216). -/
def discardUnderWay (badSignal : Signal → Bool) (bad : Bool → Nat → Nat → Bool) (s : State) : State :=
  loseTransfers bad (dropReleases bad (dropSignals badSignal s))

theorem onlyDiscards_discardUnderWay (badSignal : Signal → Bool) (bad : Bool → Nat → Nat → Bool) (s : State) :
    OnlyDiscards (keptSignals badSignal s) (discardUnderWay badSignal bad s) :=
  ((onlyDiscards_dropSignals ..).trans (onlyDiscards_dropReleases ..)).trans (onlyDiscards_loseTransfers ..)

/-! The 20 us of a route change (R215). -/

/-- The packets between two sites that lie inside a lost site's router or go to or from a lost site. -/
def cutByLoss (s : State) (sent : Bool) (a b : Nat) : Bool :=
  a != b && ((sitesLost s).contains b || (sitesLost s).contains a || (sent &&
    match routeIn s.net.out s.net.down a b with
    | some p => p.any fun x => (sitesLost s).contains x
    | none => false))

/-- The state whose routes are to be loaded, without what the lost sites have cut. -/
def drained (s : State) : State :=
  let s1 := discardUnderWay (fun x => cutByLoss s x.sent (signalSite x) (siteOf x.dst)) (cutByLoss s) s
  setNet { s1.net with phase := 2 } { s1 with fab := { s1.fab with packets := s1.fab.packets.filter fun x => !(sitesLost s).contains x.1 } }

section
variable {s : State}

theorem drainExpired_of_draining (h : s.net.phase = 1) : drainExpired s = drained s := if_neg (not_not_intro h)

theorem net_drained : (drained s).net = { s.net with phase := 2 } :=
  congrArg (fun n : NetSide => { n with phase := 2 }) (onlyDiscards_discardUnderWay ..).net

theorem vaults_drained : (drained s).vaults = s.vaults := (onlyDiscards_discardUnderWay ..).vaults

theorem signals_drained :
    (drained s).cores.signals = s.cores.signals.filter fun x => !cutByLoss s x.sent (signalSite x) (siteOf x.dst) :=
  (onlyDiscards_discardUnderWay ..).signals

/-! The loading of the routes (R215). -/

theorem net_launch (a p : Nat) (e : Emission) (s : State) : (launch a p e s).net = s.net := by
  unfold launch
  extract_lets
  split
  · rfl
  · split <;> rfl

theorem net_relaunch (s : State) : (relaunch s).net = s.net := by
  refine foldl_keeps (p := State.net) (fun u x => ?_) _ _
  split
  · rfl
  · exact net_launch ..

theorem net_markSent (s : State) : (markSent s).net = s.net := by
  refine (foldl_keeps (p := State.net) (fun _ _ => ?_) _ _).trans ?_ <;> rfl

theorem net_addLog (r : LogRec) (s : State) : (addLog r s).net = s.net := rfl

theorem net_routesLoaded : (routesLoaded s).net = { s.net with phase := 0, out := outNow s, down := downNow s } := by
  unfold routesLoaded
  dsimp only
  rw [net_addLog]
  refine (foldl_keeps (p := State.net) (fun _ _ => ?_) _ _).trans ?_
  · rfl
  · rw [net_relaunch, net_markSent]
    exact (onlyDiscards_discardUnderWay ..).net

section
variable {v : State} (h : s.net.phase = 2) (hv : barriersAgain (releaseHeld (routesLoaded s)) = v)
include h hv

/-- With the routes loaded the device goes on where no recovery runs. -/
theorem routeDone_of_none (hn : v.faults.running = none) : routeDone s = v := by
  unfold routeDone
  rw [if_neg (not_not_intro h)]
  dsimp only
  rw [hv, hn]

section
variable {r : Repair} (hr : v.faults.running = some r)
include hr

theorem routeDone_of_some :
    routeDone s = if r.kind = 4 then finishRecovery v else if r.kind = 5 then endSiteLoss r.site v else v := by
  unfold routeDone
  rw [if_neg (not_not_intro h)]
  dsimp only
  rw [hv, hr]

theorem routeDone_of_edge (h4 : r.kind = 4) : routeDone s = finishRecovery v := by
  rw [routeDone_of_some h hv hr, if_pos h4]

theorem routeDone_of_site (h5 : r.kind = 5) : routeDone s = endSiteLoss r.site v := by
  rw [routeDone_of_some h hv hr, if_neg (by omega), if_pos h5]

theorem routeDone_of_other (h4 : r.kind ≠ 4) (h5 : r.kind ≠ 5) : routeDone s = v := by
  rw [routeDone_of_some h hv hr, if_neg h4, if_neg h5]

end

end

/-! Lanes and edges (R211, R212). -/

section
variable {k lane : Nat}

theorem replayIw_of_edge (h : edgeExists k = true) : replayIw k s = bump .netEdgeReplay k s := if_pos h

theorem detect_of_free (r : Repair) (h : s.faults.running = none) : detect r s = (true, startRecovery r s) := by
  unfold detect
  rw [h]

section
variable (he : edgeExists k = true) (hst : rd .netEdgeState k s ≠ 3) (ho : bit .netStatusOut (k / 4) s = false)
include he hst ho

theorem laneFails_of_last (hl : lastLane k s = true) :
    laneFails k lane s = edgeDown k (wr .netEdgeActive k (rd .netEdgeActive k s - 1) s) := by
  simp [laneFails, he, hst, ho, hl]

theorem laneFails_of_free (hl : lastLane k s = false) (hr : s.faults.running = none) :
    laneFails k lane s =
      startLane k lane (startRecovery (mkRepair 3 (k / 4) (k % 4) lane (touchedByEdge (k / 4) (otherEnd k / 4) s)) s) := by
  simp [laneFails, he, hst, ho, hl, detect_of_free _ hr]

end

/-- A substitution that has ended has left the list, a spare lane that it took counted (R212). -/
def laneTaken (k : Nat) (x : Nat × Nat × Bool) (s : State) : State :=
  let s1 := setNet { s.net with subs := s.net.subs.erase x } s
  if x.2.2 then wr .netEdgeSpares k (rd .netEdgeSpares k s1 + 1) s1 else s1

/-- The edge shows what is left of it after one of its substitutions has ended (R212). -/
def substituted (k : Nat) (x : Nat × Nat × Bool) (s : State) : State :=
  wr .netEdgeState k (if (laneTaken k x s).net.subs.any fun y => y.1 == k then 1 else if rd .netEdgeActive k (laneTaken k x s) < 32 then 2 else 0)
    (laneTaken k x s)

section
variable {x : Nat × Nat × Bool}

theorem laneDone_of_found (h : s.net.subs.find? (fun x => x.1 == k) = some x) :
    laneDone k s = if runs 3 (k / 4) (k % 4) (substituted k x s) then
      endRecovery 3 0x0022 0 (bump .fltdevCountRepairs 0 (substituted k x s)) else substituted k x s := by
  unfold laneDone
  rw [h]
  rfl

theorem faults_laneTaken : (laneTaken k x s).faults = s.faults := by
  unfold laneTaken
  dsimp only
  split <;> rfl

theorem subs_laneTaken : (laneTaken k x s).net.subs = s.net.subs.erase x := by
  unfold laneTaken
  dsimp only
  split <;> rfl

theorem rd_laneTaken {f : Reg} (i : Nat) (hf : f ≠ .netEdgeSpares) : rd f i (laneTaken k x s) = rd f i s := by
  unfold laneTaken
  dsimp only
  split
  · exact rd_wr_field _ _ _ _ _ _ hf
  · rfl

theorem rd_netEdgeState_substituted :
    rd .netEdgeState k (substituted k x s) =
      if (s.net.subs.erase x).any (fun y => y.1 == k) then 1 else if rd .netEdgeActive k s < 32 then 2 else 0 := by
  rw [substituted, rd_wr_same, subs_laneTaken, rd_laneTaken k (by decide)]
  split
  · rfl
  · split <;> rfl

theorem runs_of_faults {kind site unit : Nat} {t : State} (h : t.faults = s.faults) : runs kind site unit t = runs kind site unit s := by
  rw [runs, h, runs]

end

end

/-! A router that fails by itself (R215; log 126). -/

section
variable {site : Nat}

/-- The packets that have left their source for a route through a router. -/
def through (site : Nat) (s : State) (sent : Bool) (a b : Nat) : Bool :=
  sent && a != b &&
    match routeIn s.net.out s.net.down a b with
    | some p => p.contains site
    | none => false

theorem routerFails_of_out (h : (outNow s).contains site = true) : routerFails site s = s := if_pos h

/-- The state without what was inside a router. -/
def withoutInside (site : Nat) (s : State) : State :=
  discardUnderWay (fun x => through site s x.sent (signalSite x) (siteOf x.dst)) (through site s) s

theorem onlyDiscards_withoutInside :
    OnlyDiscards (keptSignals (fun x => through site s x.sent (signalSite x) (siteOf x.dst)) s) (withoutInside site s) :=
  onlyDiscards_discardUnderWay ..

theorem routerFails_of_in (h : (outNow s).contains site = false) :
    routerFails site s =
      startRoute (wr .netStatusOut site 1 (setNet { s.net with dead := s.net.dead ++ [site] } (withoutInside site s))) := by
  have hnet : (withoutInside site s).net = s.net := onlyDiscards_withoutInside.net
  rw [← hnet]
  exact if_neg (by rw [h]; exact Bool.false_ne_true)

end

/-! A transfer whose packets were discarded (R216). -/

theorem ackTimeout_of_lost {g ch n : Nat} (hb : (getChan ch (getCore g s)).st = .busy) (hk : dKind (getChan ch (getCore g s)).desc = 6)
    (hl : (getChan ch (getCore g s)).lost = true) :
    ackTimeout g ch n s = endDma g ch 12 (moveDma g (getChan ch (getCore g s)).desc n s).2 := by
  simp [ackTimeout, hb, hk, hl]

end

end Sys2Proof.Machine
end

section
/-!
PROOFS. The near-memory engines and the wafer network together (R172, R181, R211, R212, R215, R216, R412, R440, R446).
-/

namespace Sys2Proof.Machine

/-- What a command answers once its effect is known. -/
theorem next_settle_of_eq {s t : State} (h : s = t) : (.next (settle s) : Res) = .next (settle t) := by rw [h]

/-- Settles O29, a command at a time: an engine's start and end and a route change's phases by their lemmas above, and what a route change
discards leaves the routes, the vaults and the registers (`OnlyDiscards`). -/
theorem enginesAndNetwork : Obligations.EnginesAndNetwork := by
  refine ⟨fun e busy s => ⟨fun hr hq hs => ⟨fun h => ?start, fun h hh => ?hold⟩, fun op hr hq => ?started,
      fun op h => ⟨fun h0 => ?complete, ?ends⟩, fun hh hc h hs => ?expiry⟩,
    fun site edge lane g ch n s => ?network⟩
  case start => exact next_settle_of_eq (nmStart_of_allowed hr hq hs h)
  case hold => exact next_settle_of_eq (nmStart_of_hold hr hq hs h hh)
  case started =>
    rw [getEngine_startOp hr hq]
    exact ⟨rfl, rfl, rfl, rd_startOp_running hr hq, vaults_startOp ..⟩
  case complete => exact next_settle_of_eq ((nmComplete_of_running h).trans (congrArg (freeEngine e) (nmEnd_of_ok _ h0)))
  case ends => exact next_settle_of_eq (nmComplete_of_running h)
  case expiry => exact next_settle_of_eq (nmHoldExpired_of_held hh hc h hs)
  case network =>
    intro k rep v
    refine ⟨fun he => ?replay, fun he hst ho => ⟨fun hl hr => ?lane, fun hl => ?last⟩, fun h => ?drain,
      fun h => ⟨?phase, ?out, ?down, fun hn => ?noRecovery,
        fun r hr => ⟨fun h4 => ?edgeRecovery, fun h5 => ?siteRecovery, fun h4 h5 => ?other⟩⟩,
      fun x hx => ?substitution, fun h => ?router, fun h => ?routerOut, fun hb hk hl => ?timeout⟩
    case replay => exact congrArg Host.Outcome.next (replayIw_of_edge he)
    case lane => exact next_settle_of_eq (laneFails_of_free he hst ho hl hr)
    case last => exact next_settle_of_eq (laneFails_of_last he hst ho hl)
    case drain =>
      exact ⟨_, next_settle_of_eq (drainExpired_of_draining h), net_drained, vaults_drained, signals_drained⟩
    case phase => rw [net_routesLoaded]
    case out => rw [net_routesLoaded]
    case down => rw [net_routesLoaded]
    case noRecovery => exact next_settle_of_eq (congrArg startWaiting (routeDone_of_none (v := v) h rfl hn))
    case edgeRecovery => exact next_settle_of_eq (congrArg startWaiting (routeDone_of_edge (v := v) (r := r) h rfl hr h4))
    case siteRecovery => exact next_settle_of_eq (congrArg startWaiting (routeDone_of_site (v := v) (r := r) h rfl hr h5))
    case other => exact next_settle_of_eq (congrArg startWaiting (routeDone_of_other (v := v) (r := r) h rfl hr h4 h5))
    case substitution =>
      refine ⟨substituted k x s, subs_laneTaken, faults_laneTaken, rd_netEdgeState_substituted, ?_⟩
      refine next_settle_of_eq (congrArg startWaiting ((laneDone_of_found hx).trans ?_))
      rw [runs_of_faults (t := substituted k x s) faults_laneTaken]
    case router =>
      have hd := onlyDiscards_withoutInside (site := site) (s := s)
      exact ⟨_, withoutInside site s, next_settle_of_eq (routerFails_of_in h), rfl, hd.net, fun f i hf => hd.rd_eq i hf, hd.signals⟩
    case routerOut => exact next_settle_of_eq (routerFails_of_out h)
    case timeout =>
      obtain ⟨hst, hcode⟩ := chan_endedAt (code := 12) (getCore_moveDma (h := g) g (getChan ch (getCore g s)).desc n s) hb
      exact ⟨_, next_settle_of_eq ((ackTimeout_of_lost hb hk hl).trans (endDma_eq ..)), onlyCore_updCore .., hst, hcode⟩

end Sys2Proof.Machine
end

section
/-!
PROOFS. Registers (R185, R284, R385, R390 to R397, R404, R468, R493): what becomes of a write, the command registers, and triple voting.
-/

namespace Sys2Proof.Machine

/-! A note in the logbook (R475). -/

section
variable {s : State}

theorem events_due (code : Nat) (ds : List Nat) (site : Nat) (s : State) : ∃ d, events code ds site s = { s with due := d } :=
  List.foldlRecOn (motive := fun u => ∃ d, u = { s with due := d }) _ _ ⟨_, rfl⟩ fun _ ⟨_, hu⟩ _ _ => ⟨_, by rw [hu]; rfl⟩

/-- A note changes the logbook and the consequences due. -/
theorem note_parts (site unit detail event : Nat) (s : State) :
    ∃ l q d, note site unit detail event s = { s with logbook := l, logSeq := q, due := d } := by
  unfold note logEvent
  dsimp only
  split
  · exact ⟨_, _, _, rfl⟩
  · obtain ⟨d, hd⟩ := events_due event [] (site % 64) (addLog _ s)
    exact ⟨_, _, d, hd⟩

theorem rd_note (f : Reg) (i site unit detail event : Nat) (s : State) : rd f i (note site unit detail event s) = rd f i s := by
  obtain ⟨l, q, d, h⟩ := note_parts site unit detail event s
  rw [h]
  rfl

theorem eng_note (site unit detail event : Nat) (s : State) : (note site unit detail event s).eng = s.eng := by
  obtain ⟨l, q, d, h⟩ := note_parts site unit detail event s
  rw [h]

end

/-! What becomes of a write (R385, R390, R396, R397, R467, R468). -/

section
variable {port func off : Nat} {data : List Byte} {s : State}

theorem registerWrite_rootPort (h : rootPort port s = true) : registerWrite port func off data s = s := if_pos h

variable (hp : rootPort port s = false)
include hp

theorem registerWrite_badWidth (hw : widthOk off data.length = false) :
    registerWrite port func off data s = flag .devAccessWidthErr 0 s := by
  simp [registerWrite, hp, hw]

variable (hw : widthOk off data.length = true)
include hw

theorem registerWrite_siteDown (ho : off < 0x8000000) (hs : siteUp (off / 0x200000) s = false) :
    registerWrite port func off data s = bump .devAccessDropped 0 s := by
  simp [registerWrite, hp, hw, ho, hs]

variable (hup : 0x8000000 ≤ off ∨ siteUp (off / 0x200000) s = true)
include hup

/-- A write of a legal width to a site in service or to the device's own blocks. -/
theorem registerWrite_of_up :
    registerWrite port func off data s = match locate off with
      | none => s
      | some (b, i, o) =>
        if !barServes b s then s
        else if !mayWrite port func b i s then denied true port func off s
        else if b = .mbox ∧ o < 512 then
          if o < 256 then setEng { s.eng with staging := mwrite s.eng.staging (256 * i + o) data } s else s
        else writeRegister port func b i o off data s := by
  have hdown : ¬(off < 0x8000000 ∧ siteUp (off / 0x200000) s = false) := by
    rintro ⟨ho, hs⟩
    rcases hup with h | h
    · omega
    · exact absurd h (by simp [hs])
  unfold registerWrite
  rw [hp, hw]
  exact if_neg hdown

theorem registerWrite_nowhere (hl : locate off = none) : registerWrite port func off data s = s := by
  rw [registerWrite_of_up hp hw hup, hl]

variable {b : Block} {i o : Nat} (hl : locate off = some (b, i, o))
include hl

theorem registerWrite_unserved (hb : barServes b s = false) : registerWrite port func off data s = s := by
  simp [registerWrite_of_up hp hw hup, hl, hb]

variable (hb : barServes b s = true)
include hb

theorem registerWrite_denied (hm : mayWrite port func b i s = false) :
    registerWrite port func off data s = denied true port func off s := by
  simp [registerWrite_of_up hp hw hup, hl, hb, hm]

variable (hm : mayWrite port func b i s = true)
include hm

theorem registerWrite_allowed :
    registerWrite port func off data s =
      if b = .mbox ∧ o < 512 then
        if o < 256 then setEng { s.eng with staging := mwrite s.eng.staging (256 * i + o) data } s else s
      else writeRegister port func b i o off data s := by
  simp [registerWrite_of_up hp hw hup, hl, hb, hm]

theorem registerWrite_staging (hmb : b = .mbox) (ho : o < 256) :
    registerWrite port func off data s = setEng { s.eng with staging := mwrite s.eng.staging (256 * i + o) data } s := by
  rw [registerWrite_allowed hp hw hup hl hb hm, if_pos ⟨hmb, by omega⟩, if_pos ho]

theorem registerWrite_message (hmb : b = .mbox) (hlo : 256 ≤ o) (hhi : o < 512) : registerWrite port func off data s = s := by
  rw [registerWrite_allowed hp hw hup hl hb hm, if_pos ⟨hmb, hhi⟩, if_neg (by omega)]

theorem registerWrite_register (h : b ≠ .mbox ∨ 512 ≤ o) :
    registerWrite port func off data s = writeRegister port func b i o off data s := by
  rw [registerWrite_allowed hp hw hup hl hb hm, if_neg]
  rintro ⟨hmb, ho⟩
  rcases h with h | h
  · exact h hmb
  · omega

end

/-! The fields of a write, and a posted write (R391, R393 to R395). -/

section
variable {port func off i o : Nat} {b : Block} {data : List Byte} {s : State}

/-- A field that a write may not set: a triple-voted one, or one whose lock is set (R394, R395). -/
def refusesField (s : State) (x : Reg × Nat × Nat) : Bool :=
  match (regInfo x.1).acc with
  | .tv => true
  | .rwl => locked x.1 x.2.1 s
  | _ => false

/-- The fields that a write sets, in the order in which they are set. -/
def fieldsSet (b : Block) (i o : Nat) (data : List Byte) (s : State) : List (Reg × Nat × Nat) :=
  ((enabledFields b i o data).filter fun x => !refusesField s x).reverse

theorem mem_enabledFields_of_mem_fieldsSet {x : Reg × Nat × Nat} (h : x ∈ fieldsSet b i o data s) : x ∈ enabledFields b i o data :=
  (List.mem_filter.1 (List.mem_reverse.1 h)).1

/-- The state after the refusals of a write. -/
def afterRefusals (port func : Nat) (b : Block) (i o off : Nat) (data : List Byte) (s : State) : State :=
  if (enabledFields b i o data).any (refusesField s) then denied true port func off s else s

theorem afterRefusals_eq :
    afterRefusals port func b i o off data s = s ∨ afterRefusals port func b i o off data s = denied true port func off s := by
  unfold afterRefusals
  split
  · exact .inr rfl
  · exact .inl rfl

/-- What becomes of a write to a register, by BUSY of its block and by an RWP field of the register (R393). -/
theorem writeRegister_eq :
    writeRegister port func b i o off data s =
      match busyBits b with
      | some r =>
        if bit r.1 i s then flag r.2 i (afterRefusals port func b i o off data s)
        else if holdsRwp b o then
          { flag r.1 i (afterRefusals port func b i o off data s) with
            posted := (afterRefusals port func b i o off data s).posted ++ [⟨b, i, fieldsSet b i o data s⟩] }
        else (fieldsSet b i o data s).foldl (fun u w => writeField func w.1 w.2.1 w.2.2 u) (afterRefusals port func b i o off data s)
      | none => (fieldsSet b i o data s).foldl (fun u w => writeField func w.1 w.2.1 w.2.2 u) (afterRefusals port func b i o off data s) := by
  unfold writeRegister post
  cases busyBits b <;> rfl

/-- A posted write takes effect and BUSY returns to 0 (R284, R393). -/
theorem postedEffect_of_found {p : Posted} {r : Reg × Reg} (hp : s.posted.find? (fun p => p.blk == b && p.inst == i) = some p)
    (hd : coreDark b i s = false) (hr : busyBits b = some r) :
    postedEffect b i s = (effective i p.sets (wr r.1 i 0 { s with posted := s.posted.erase p })).foldl
      (fun u w => writeField 0 w.1 w.2.1 w.2.2 u) (wr r.1 i 0 { s with posted := s.posted.erase p }) := by
  unfold postedEffect
  rw [hp, hr]
  exact if_neg (Bool.eq_false_iff.1 hd)

end

/-! The command registers (R163, R185, R394, R404, R493). -/

section
variable {s : State}

theorem blockWrite_of_busy {b : Block} {r : Reg × Reg} {i : Nat} (act : State → State) (hr : busyBits b = some r) (h : bit r.1 i s = true) :
    blockWrite b i act s = flag r.2 i s := by
  simp [blockWrite, hr, h]

theorem blockWrite_of_free {b : Block} {r : Reg × Reg} {i : Nat} (act : State → State) (hr : busyBits b = some r) (h : bit r.1 i s = false) :
    blockWrite b i act s = act s := by
  simp [blockWrite, hr, h]

theorem rd_wr_other {f f' : Reg} {i j : Nat} (v : Nat) (s : State) (h : f ≠ f' ∨ i ≠ j) : rd f i (wr f' j v s) = rd f i s := by
  rw [rd_wr, if_neg]
  rintro ⟨rfl, rfl⟩
  simp at h

/-- A write of one of a unit's listed fields leaves alone what is not one of them. -/
theorem rd_wr_outside {fs : List Reg} {f f' : Reg} {i j v : Nat} (h : f ∉ fs ∨ i ≠ j) (hf : f' ∈ fs) (s : State) :
    rd f i (wr f' j v s) = rd f i s :=
  rd_wr_other v s (h.imp_left fun hn e => hn (e ▸ hf))

/-- The vault's flip-mask armed with the mode bits (R163). -/
def flipArmed (v c : Nat) (s : State) : State :=
  wr .vaultFlipCtrlDat v (bits c 1 1) (wr .vaultFlipCtrlChk v (bits c 2 1)
    (wr .vaultFlipCtrlPar v (bits c 3 1) (wr .vaultFlipCtrlParw v (bits c 4 2) (flag .vaultFlipCtrlArmed v s))))

theorem flipArmed_leaves (v c : Nat) (s : State) :
    rd .vaultFlipCtrlArmed v (flipArmed v c s) = 1 ∧ rd .vaultFlipCtrlDat v (flipArmed v c s) = bits c 1 1 ∧
      rd .vaultFlipCtrlChk v (flipArmed v c s) = bits c 2 1 ∧ rd .vaultFlipCtrlPar v (flipArmed v c s) = bits c 3 1 ∧
      rd .vaultFlipCtrlParw v (flipArmed v c s) = bits c 4 2 ∧
      ∀ f i, f ∉ [Reg.vaultFlipCtrlArmed, .vaultFlipCtrlDat, .vaultFlipCtrlChk, .vaultFlipCtrlPar, .vaultFlipCtrlParw] ∨ i ≠ v →
        rd f i (flipArmed v c s) = rd f i s := by
  have hbits (lo n : Nat) : bits c lo n % 2 ^ n = bits c lo n := Nat.mod_eq_of_lt (bits_lt ..)
  refine ⟨?armed, ?dat, ?chk, ?par, ?parw, fun f i h => ?frame⟩
  case frame =>
    rw [flipArmed, flag, rd_wr_outside h (by decide), rd_wr_outside h (by decide), rd_wr_outside h (by decide),
      rd_wr_outside h (by decide), rd_wr_outside h (by decide)]
  all_goals simp only [flipArmed, flag, rd_wr, reduceCtorEq, false_and, if_false, and_self, if_true]
  case armed => rfl
  all_goals exact hbits ..

theorem lockSite_of_free {k : Nat} (h : bit .nmsiteLockLock k s = false) : lockSite k s = flag .nmsiteLockLock k s := by
  simp [lockSite, h]

/-- A write to a lock that is set is refused as function 0's, of a port left open (R394, R397; log 130). -/
theorem lockSite_of_locked {k : Nat} (h : bit .nmsiteLockLock k s = true) :
    lockSite k s = denied true ((fresh s).1 % 4) 0 (k * 0x200000 + 0x142280) (fresh s).2 := if_pos h

theorem restartVmin_leaves (k : Nat) (s : State) :
    rd .pwrclVminMv k (restartVmin k s) = presentMv k s % 2 ^ (regInfo .pwrclVminMv).w ∧
      rd .pwrclVminRound k (restartVmin k s) = roundNow s % 2 ^ (regInfo .pwrclVminRound).w ∧
      rd .pwrclVminPtpNs k (restartVmin k s) = s.now % 2 ^ (regInfo .pwrclVminPtpNs).w ∧
      ∀ f i, f ∉ [Reg.pwrclVminMv, .pwrclVminRound, .pwrclVminPtpNs] ∨ i ≠ k → rd f i (restartVmin k s) = rd f i s := by
  refine ⟨rd_wr_same .., ?_, ?_, fun f i h => ?_⟩
  · rw [restartVmin, rd_wr_field _ _ _ _ _ _ (by decide), rd_wr_same]
  · rw [restartVmin, rd_wr_field _ _ _ _ _ _ (by decide), rd_wr_field _ _ _ _ _ _ (by decide), rd_wr_same]
  · rw [restartVmin, rd_wr_outside h (by decide), rd_wr_outside h (by decide), rd_wr_outside h (by decide)]

/-- The queues after the head of one is popped (R493). -/
theorem dlqOf_dlqPop (d : Nat) (s : State) :
    dlqOf d (dlqPop s) = if d = rd .fltdevDlqSelDistrict 0 s then (dlqOf (rd .fltdevDlqSelDistrict 0 s) s).tail else dlqOf d s :=
  tget_tset ..

theorem dlqPop_leaves (s : State) :
    dlqOf (rd .fltdevDlqSelDistrict 0 s) (dlqPop s) = (dlqOf (rd .fltdevDlqSelDistrict 0 s) s).tail ∧
      rd .fltdevDlqStateCount 0 (dlqPop s) = (dlqOf (rd .fltdevDlqSelDistrict 0 s) s).tail.length % 2 ^ (regInfo .fltdevDlqStateCount).w ∧
      ∀ d, d ≠ rd .fltdevDlqSelDistrict 0 s → dlqOf d (dlqPop s) = dlqOf d s := by
  have hsel : dlqOf (rd .fltdevDlqSelDistrict 0 s) (dlqPop s) = (dlqOf (rd .fltdevDlqSelDistrict 0 s) s).tail := by
    rw [dlqOf_dlqPop, if_pos rfl]
  refine ⟨hsel, ?_, fun d hd => by rw [dlqOf_dlqPop, if_neg hd]⟩
  rw [← hsel]
  exact rd_wr_same ..

end

/-! Triple voting (R395; log 131). -/

section
variable {o : Nat} {s : State}

/-- What a scan does with one register of which it found copies wrong (R395). -/
def tvFound (upset : List (Nat × Nat)) (s : State) (off : Nat) : State :=
  match (upset.filter fun x => x.1 == off).map (·.2) with
  | [c] => tvCorrect off c s
  | _ => tvLost off s

theorem tvScan_eq (upset : List (Nat × Nat)) (s : State) : tvScan upset s = ((upset.map (·.1)).dedup).foldl (tvFound upset) s := rfl

theorem tvFound_of_other {c off : Nat} {xs : List (Nat × Nat)} (h : off ≠ o) : tvFound ((o, c) :: xs) s off = tvFound xs s off := by
  simp [tvFound, Ne.symm h]

/-- A register one of whose copies is wrong is corrected, and the scan goes on (R395). -/
theorem tvScan_cons {c : Nat} {xs : List (Nat × Nat)} (h : ∀ x ∈ xs, x.1 ≠ o) : tvScan ((o, c) :: xs) s = tvScan xs (tvCorrect o c s) := by
  have hout : o ∉ xs.map (·.1) := by
    intro hm
    obtain ⟨x, hx, rfl⟩ := List.mem_map.1 hm
    exact h x hx rfl
  have hone : ((o, c) :: xs).filter (fun x => x.1 == o) = [(o, c)] := by
    simp only [List.filter_cons, beq_self_eq_true, if_true, List.cons.injEq, true_and, List.filter_eq_nil_iff, beq_iff_eq]
    exact h
  rw [tvScan_eq, List.map_cons, List.dedup_cons_of_notMem hout, List.foldl_cons, tvFound, hone, tvScan_eq]
  refine List.foldl_ext _ _ _ fun u off hoff => tvFound_of_other ?_
  rintro rfl
  exact hout (List.mem_dedup.1 hoff)

/-- Where two copies of a register are wrong it is lost. -/
theorem tvScan_pair (o c c' : Nat) (s : State) : tvScan [(o, c), (o, c')] s = tvLost o s := by
  simp [tvScan_eq, tvFound]

theorem tvLost_of_pending (h : s.eng.tvPending.contains o = true) : tvLost o s = s := if_pos h

/-- A register is counted and noted as lost, and its restore is PENDING (R395). -/
theorem tvLost_leaves (h : s.eng.tvPending.contains o = false) :
    (tvLost o s).eng.tvPending = s.eng.tvPending ++ [o] ∧ rd .devTvPending 0 (tvLost o s) = 1 ∧
      rd .devTvOffset 0 (tvLost o s) = o % 2 ^ (regInfo .devTvOffset).w ∧
      rd .devTvUncorr 0 (tvLost o s) = min (rd .devTvUncorr 0 s + 1) (2 ^ (regInfo .devTvUncorr).w - 1) := by
  have hlost : tvLost o s = note 255 0 o 0x0012 (flag .devTvPending 0 (wr .devTvOffset 0 o (bump .devTvUncorr 0
      (setEng { s.eng with tvPending := s.eng.tvPending ++ [o] } s)))) := if_neg (Bool.eq_false_iff.1 h)
  rw [hlost, eng_note, rd_note, rd_note, rd_note]
  refine ⟨rfl, rd_wr_same .., ?_, ?_⟩
  · rw [flag, rd_wr_field _ _ _ _ _ _ (by decide), rd_wr_same]
  · rw [flag, rd_wr_field _ _ _ _ _ _ (by decide), rd_wr_field _ _ _ _ _ _ (by decide), rd_bump_same]
    rfl

/-- A completed restore: PENDING tells whether another register waits (R395). -/
theorem tvRestore_leaves (o : Nat) (s : State) :
    (tvRestore o s).eng.tvPending = (tvLost o s).eng.tvPending.filter (· != o) ∧
      rd .devTvPending 0 (tvRestore o s) = natBool (!((tvLost o s).eng.tvPending.filter (· != o)).isEmpty) ∧
      ∀ f i, f ≠ .devTvPending → rd f i (tvRestore o s) = rd f i (tvLost o s) :=
  ⟨rfl, (rd_wr_same ..).trans (natBool_mod_two _), fun _ _ h => rd_wr_field _ _ _ _ _ _ h⟩

theorem filter_ne_concat (h : s.eng.tvPending.contains o = false) :
    (s.eng.tvPending ++ [o]).filter (· != o) = s.eng.tvPending := by
  have hn : o ∉ s.eng.tvPending := by simpa using h
  rw [List.filter_append, List.filter_eq_self.2 fun a ha => by simpa using fun e : a = o => hn (e ▸ ha)]
  simp

end

end Sys2Proof.Machine
end

section
/-!
PROOFS. Register writes and command registers together (R185, R284, R385, R390 to R397, R404, R468).
-/

namespace Sys2Proof.Machine

/-- Settles O32: a write goes by its place, its width and its function (`registerWrite`), then by its block and its fields
(`writeRegister_eq`), and each command register by its own lemma above. -/
theorem registerRules : Obligations.RegisterRules := by
  refine ⟨fun port func off data s => ⟨fun hp => ?root, fun hp hw => ?width, fun hp hw ho hs => ?dropped,
      fun hp hw hup => ⟨fun hl => ?nowhere, fun b i o hl hb => ?unserved, fun b i o hl hb => ⟨fun hm => ?denied,
        fun hm => ⟨fun hmb ho => ?staging, fun hmb hlo hhi => ?message, fun h => ?register⟩⟩⟩,
      fun b i o => ?fields, fun b i p hp hd o hl r hr => ?posted⟩,
    fun v ctrl site k off s => ⟨fun h => ?flip, fun h => ?flipBusy, fun h => ?lock, fun h => ?locked, ?vmin, fun h => ?abort,
      fun h => ?abortBusy, ?pop, ⟨?scanNone, fun o c xs h => ?scanOne, fun o c c' h => ?scanPair⟩, fun h => ?restore, fun h => ?restoreLost⟩⟩
  case root => exact next_settle_of_eq (registerWrite_rootPort hp)
  case width => exact next_settle_of_eq (registerWrite_badWidth hp hw)
  case dropped => exact next_settle_of_eq (registerWrite_siteDown hp hw ho hs)
  case nowhere => exact next_settle_of_eq (registerWrite_nowhere hp hw hup hl)
  case unserved => exact next_settle_of_eq (registerWrite_unserved hp hw hup hl hb)
  case denied => exact next_settle_of_eq (registerWrite_denied hp hw hup hl hb hm)
  case staging =>
    exact ⟨_, next_settle_of_eq (registerWrite_staging hp hw hup hl hb hm hmb ho), rfl, fun a => mget_mwrite data s.eng.staging _ a⟩
  case message => exact next_settle_of_eq (registerWrite_message hp hw hup hl hb hm hmb hlo hhi)
  case register => exact next_settle_of_eq (registerWrite_register hp hw hup hl hb hm h)
  case fields =>
    exact ⟨_, fieldsSet b i o data s, afterRefusals_eq, fun _ => mem_enabledFields_of_mem_fieldsSet, writeRegister_eq⟩
  case posted =>
    refine congrArg Host.Outcome.next ?_
    rw [hl]
    exact congrArg settle (postedEffect_of_found hp hd hr)
  case flip => exact ⟨_, congrArg Host.Outcome.next (blockWrite_of_free (b := .vault) (r := (.vaultStatusBusy, .vaultStatusOverrun)) _ rfl h), flipArmed_leaves ..⟩
  case flipBusy => exact congrArg Host.Outcome.next (blockWrite_of_busy (b := .vault) (r := (.vaultStatusBusy, .vaultStatusOverrun)) _ rfl h)
  case lock =>
    exact ⟨_, congrArg Host.Outcome.next (lockSite_of_free h), rd_wr_same .., fun f i hf => rd_wr_other _ _ hf⟩
  case locked =>
    exact ⟨_, (fresh s).2, Nat.mod_lt _ (by decide), rfl, congrArg Host.Outcome.next (lockSite_of_locked h)⟩
  case vmin => exact ⟨_, rfl, restartVmin_leaves ..⟩
  case abort => exact ⟨_, next_settle_of_eq (blockWrite_of_free (b := .nme) (r := (.nmeStatusBusy, .nmeStatusOverrun)) _ rfl h), rfl, nmAbort_leaves⟩
  case abortBusy => exact next_settle_of_eq (blockWrite_of_busy (b := .nme) (r := (.nmeStatusBusy, .nmeStatusOverrun)) _ rfl h)
  case pop => exact ⟨_, rfl, dlqPop_leaves s⟩
  case scanNone => rfl
  case scanOne => exact congrArg Host.Outcome.next (tvScan_cons h)
  case scanPair => exact ⟨_, congrArg Host.Outcome.next (tvScan_pair ..), tvLost_leaves h⟩
  case restore =>
    obtain ⟨hleft, hpend, hrest⟩ := tvRestore_leaves off.toNat s
    rw [tvLost_of_pending h] at hleft hpend hrest
    exact ⟨_, rfl, hleft, hpend, hrest _ _ (by decide)⟩
  case restoreLost =>
    obtain ⟨hleft, hpend, hrest⟩ := tvRestore_leaves off.toNat s
    obtain ⟨hlist, -, hoff, hcount⟩ := tvLost_leaves h
    rw [hlist, filter_ne_concat h] at hpend
    exact ⟨_, rfl, hpend, (hrest _ _ (by decide)).trans (hoff.trans (Nat.mod_eq_of_lt off.isLt)), (hrest _ _ (by decide)).trans hcount⟩

end Sys2Proof.Machine
end

section
/-!
PROOFS. The header checks and the checks of a named district (R239, R357 to R361).
-/

namespace Sys2Proof.Machine

/-- A NOP from MGMT that names no buffers and whose OUTLEN is 2^32 - 1, the field's largest value, which R11 makes legal only where the
field's description says so. -/
def nopWithFullOutlen : Env :=
  { cls := .mgmt, secured := true, port := 0, func := 0, via := .mgmt, input := [], outFault := false,
    raw := natLe 2 1 ++ [1, 0] ++ natLe 2 64 ++ List.replicate 18 0 ++ List.replicate 4 255 ++ List.replicate 36 0 }

/-- Its OUTLEN is refused with LENGTH_EXCEEDS. -/
theorem headerCheck_nopWithFullOutlen : headerCheck (opNop nopWithFullOutlen) nopWithFullOutlen = some (3, 24) := by decide

/-- Refutes O35: the model refuses an OUTLEN of 2^32 - 1 with LENGTH_EXCEEDS even where the output fits (R11), so the clause by which every
MGMT envelope with room for its output passes the header checks fails for a NOP. -/
theorem not_headerAndGateOrder : ¬ Obligations.HeaderAndGateOrder := by
  intro h
  obtain ⟨hheader, -⟩ := h
  obtain ⟨-, -, -, hlen, -⟩ := hheader (opNop nopWithFullOutlen) nopWithFullOutlen
  obtain ⟨-, -, -, hbody⟩ := hlen (by decide) (by decide)
  obtain ⟨-, hpast⟩ := hbody (by decide) (by decide) (by decide) (by decide) (by decide)
  obtain ⟨-, -, hpass⟩ := hpast (.inr (by decide))
  have hnone := hpass rfl (by decide) (by decide) (by decide) (by decide) (by decide)
  rw [headerCheck_nopWithFullOutlen] at hnone
  exact absurd hnone (by decide)

end Sys2Proof.Machine
end

section
/-!
PROOFS. What an envelope's command answers: the reply to what its opcode's body answers, or nothing yet (R358, R361, R369); and what a write
of a register field leaves alone.
-/

namespace Sys2Proof.Machine

section
variable {o : OpInfo} {e : Env} {s u : State} {a : Ans}

/-- The command of an envelope that is answered, other than with AUTHORITY. -/
theorem command_replies {body : State → Option Ans × State} (h : Taken o e s) (hb : body (markPassed e s) = (some a, u))
    (ha : a.status ≠ 4) : (.next (settle (envelope o e body s)) : Res) = .next (settle (reply o.code e a u)) :=
  next_settle_of_eq (envelope_answers h hb ha)

/-- The same for a body that always answers at once. -/
theorem command_answers {f : State → Ans × State} (h : Taken o e s) (hf : f (markPassed e s) = (a, u)) (ha : a.status ≠ 4) :
    (.next (settle (envelope o e (atOnce f) s)) : Res) = .next (settle (reply o.code e a u)) :=
  command_replies h (atOnce_of_eq hf) ha

/-- The command of an envelope that is answered later. -/
theorem command_waits {body : State → Option Ans × State} (h : Taken o e s) (hb : body (markPassed e s) = (none, u)) :
    (.next (settle (envelope o e body s)) : Res) = .next (settle u) :=
  next_settle_of_eq (envelope_waits h hb)

/-- The command of an envelope whose body refuses it for its class: the refusal is counted (R358). -/
theorem command_denied {body : State → Option Ans × State} (h : Taken o e s) (hb : body (markPassed e s) = (some (refuse 4), u)) :
    (.next (settle (envelope o e body s)) : Res) = .next (settle (countAuthority o e (reply o.code e (refuse 4) u))) := by
  refine next_settle_of_eq ?_
  obtain ⟨-, -, -, -, hparam⟩ := id h
  rw [envelope_of_taken h]
  simp only [handle, if_neg (class_of_taken h), hparam, hb]
  rfl

end

/-! A write within a register block. -/

/-- A write of a field of one of a block's units leaves the fields of other blocks and units. -/
theorem rd_wr_block {f g : Reg} {b : Block} {i j : Nat} (v : Nat) (s : State) (h : (regInfo f).blk ≠ b ∨ i ≠ j)
    (hg : (regInfo g).blk = b) : rd f i (wr g j v s) = rd f i s :=
  rd_wr_other v s (h.imp_left fun hf e => hf (e ▸ hg))

end Sys2Proof.Machine
end


section
/-!
PROOFS. Stamp books and sampling configuration (R239, R297 to R299, R303, R371).
-/

namespace Sys2Proof.Machine

/-! The envelopes' own checks and effects. -/

section
variable {e : Env} {s : State}

section
variable (hb : pNat e 0 2 < 4096) (hdepth : pNat e 8 4 ≠ 0) (hlo : 1 ≤ pNat e 12 2) (hhi : pNat e 12 2 ≤ 16384)
include hb hdepth hlo hhi

theorem doBookSet_shallow (hsum : pNat e 8 4 < pNat e 14 2 + pNat e 16 2) : doBookSet e s = (refuse 35, s) := by
  simp [doBookSet, Nat.not_le.2 hb, hdepth, Nat.ne_of_gt hlo, Nat.not_lt.2 hhi, hsum]

theorem doBookSet_ok (hsum : pNat e 14 2 + pNat e 16 2 ≤ pNat e 8 4)
    (hbusy : bit .bookBindBound (pNat e 0 2) s = true → rd .distCfgState (rd .bookBindDistrict (pNat e 0 2) s) s ≠ 2) :
    doBookSet e s = (okAns, setBook (pNat e 0 2) { getBook (pNat e 0 2) s with
      pend := some (⟨pNat e 4 4, pNat e 8 4, pNat e 12 2, pNat e 14 2, pNat e 16 2⟩, roundNow s) } s) := by
  have hfree : ¬(bit .bookBindBound (pNat e 0 2) s && rd .distCfgState (rd .bookBindDistrict (pNat e 0 2) s) s == 2) = true := by
    simpa using hbusy
  simp only [doBookSet, if_neg (Nat.not_le.2 hb), if_neg hdepth, if_neg (show ¬(pNat e 12 2 = 0 ∨ 16384 < pNat e 12 2) by omega),
    if_neg (Nat.not_lt.2 hsum), if_neg hfree]

end

section
variable (hb : pNat e 0 2 < 4096)
include hb

theorem doBookBind_named (hg : districtGate e (pNat e 3 1) s = none) (hn : bookNamed (pNat e 0 2) s = true)
    (hd : rd .bookBindDistrict (pNat e 0 2) s ≠ pNat e 3 1) : doBookBind e s = (refuse 36, s) := by
  simp [doBookBind, Nat.not_le.2 hb, hg, hn, hd]

theorem doBookBind_ok (hg : districtGate e (pNat e 3 1) s = none)
    (h : bookNamed (pNat e 0 2) s = false ∨ rd .bookBindDistrict (pNat e 0 2) s = pNat e 3 1) :
    doBookBind e s = (okAns, wr .bookBindDistrict (pNat e 0 2) (pNat e 3 1) (flag .bookBindBound (pNat e 0 2)
      (wr .bookLevelLevel (pNat e 0 2) (rd .bookParamDepth (pNat e 0 2) s) s))) := by
  rcases h with h | h <;> simp [doBookBind, Nat.not_le.2 hb, hg, h]

theorem doBookUnbind_unbound (h : bit .bookBindBound (pNat e 0 2) s = false) : doBookUnbind e s = (refuse 34, s) := by
  simp [doBookUnbind, Nat.not_le.2 hb, h]

variable (hbound : bit .bookBindBound (pNat e 0 2) s = true)
  (hbusy : rd .distCfgState (rd .bookBindDistrict (pNat e 0 2) s) s ≠ 2)
include hbound hbusy

theorem doBookUnbind_named (hn : bookNamed (pNat e 0 2) s = true) : doBookUnbind e s = (refuse 36, s) := by
  simp [doBookUnbind, Nat.not_le.2 hb, hbound, hbusy, hn]

theorem doBookUnbind_ok (hn : bookNamed (pNat e 0 2) s = false) :
    doBookUnbind e s = (okAns, wr .bookBindDistrict (pNat e 0 2) 0 (wr .bookBindBound (pNat e 0 2) 0 s)) := by
  simp [doBookUnbind, Nat.not_le.2 hb, hbound, hbusy, hn]

end

section
variable (hlo : 2 ≤ pNat e 4 4) (hhi : pNat e 4 4 ≤ 2 ^ 20) (hbad : shardBad e = none) (hg : districtGate e (pNat e 0 1) s = none)
  {hs : List Shard} (hsorted : hs = ((List.range (pNat e 1 1)).map (parseShard e)).insertionSort fun a b => a.site ≤ b.site)
include hlo hhi hbad hg hsorted

theorem doSampleCfg_eq : doSampleCfg e s = if shardsCover (pNat e 4 4) 0 none hs
    then (okAns, updDistrict (pNat e 0 1) (fun x => { x with sampNext := some ⟨pNat e 4 4, hs⟩ }) s) else (refuse 47, s) := by
  simp only [doSampleCfg, if_neg (show ¬(pNat e 4 4 < 2 ∨ 2 ^ 20 < pNat e 4 4) by omega), hbad, hg, ← hsorted]
  cases shardsCover (pNat e 4 4) 0 none hs <;> rfl

end

end

/-! Parameters that wait (R299). -/

section
variable {b : Nat} {s : State}

@[simp] theorem getBook_setBook_same (b : Nat) (x : BookX) (s : State) : getBook b (setBook b x s) = x := tget_tset_same ..

theorem getBook_wr (b : Nat) (f : Reg) (i v : Nat) (s : State) : getBook b (wr f i v s) = getBook b s := rfl

theorem rd_setBook (f : Reg) (i b : Nat) (x : BookX) (s : State) : rd f i (setBook b x s) = rd f i s := rfl

theorem bookTakes_of_none (h : (getBook b s).pend = none) : bookTakes b s = s := by
  simp only [bookTakes, h]

/-- The book with its new parameters, the level at most the new depth. -/
def bookWith (b : Nat) (p : BookP) (s : State) : State :=
  wr .bookLevelLevel b (min p.depth (rd .bookLevelLevel b s))
    (wr .bookParamRate b p.rate (wr .bookParamDepth b p.depth (wr .bookWInterval b p.interval (wr .bookWWin b p.win
      (wr .bookWWout b p.wout (setBook b { getBook b s with pend := none } s))))))

section
variable {p : BookP} {r : Nat} (h : (getBook b s).pend = some (p, r))
include h

theorem bookTakes_early (hr : roundNow s ≤ r) : bookTakes b s = s := by
  simp only [bookTakes, h, if_pos hr]

theorem bookTakes_later (hr : r < roundNow s) : bookTakes b s = bookWith b p s := by
  simp only [bookTakes, h, if_neg (Nat.not_le.2 hr), bookWith]

end

theorem bookWith_fields (b : Nat) (p : BookP) (s : State) :
    rd .bookParamRate b (bookWith b p s) = p.rate % 2 ^ 32 ∧ rd .bookParamDepth b (bookWith b p s) = p.depth % 2 ^ 32 ∧
      rd .bookWInterval b (bookWith b p s) = p.interval % 2 ^ 15 ∧ rd .bookWWin b (bookWith b p s) = p.win % 2 ^ 16 ∧
      rd .bookWWout b (bookWith b p s) = p.wout % 2 ^ 16 ∧
      rd .bookLevelLevel b (bookWith b p s) = min p.depth (rd .bookLevelLevel b s) % 2 ^ 32 := by
  simp only [bookWith, rd_wr, reduceCtorEq, false_and, if_false, and_self, if_true]
  exact ⟨rfl, rfl, rfl, rfl, rfl, rfl⟩

theorem rd_bookWith_other {f : Reg} {i : Nat} (p : BookP) (h : (regInfo f).blk ≠ .book ∨ i ≠ b) :
    rd f i (bookWith b p s) = rd f i s := by
  rw [bookWith, rd_wr_block _ _ h rfl, rd_wr_block _ _ h rfl, rd_wr_block _ _ h rfl, rd_wr_block _ _ h rfl, rd_wr_block _ _ h rfl,
    rd_wr_block _ _ h rfl, rd_setBook]

theorem pend_bookWith (p : BookP) : (getBook b (bookWith b p s)).pend = none := by
  simp [bookWith, getBook_wr]

/-! Refills (R298). -/

/-- The book after its refill of the round. -/
def refilledBook (b : Nat) (s : State) : State :=
  wr .bookLevelLevel b (min (rd .bookParamDepth b s) (rd .bookLevelLevel b s + rd .bookParamRate b s))
    (setBook b { getBook b s with refilled := roundNow s + 1 } s)

theorem bookRefill_of_due (hp : (getBook b s).pend = none) (h0 : rd .bookWInterval b s ≠ 0)
    (hm : roundNow s % rd .bookWInterval b s = 0) (hr : (getBook b s).refilled ≤ roundNow s) : bookRefill b s = refilledBook b s := by
  simp [bookRefill, refilledBook, bookTakes_of_none hp, h0, hm, Nat.not_lt.2 hr]

theorem bookRefill_off_beat (hp : (getBook b s).pend = none) (h : rd .bookWInterval b s = 0 ∨ roundNow s % rd .bookWInterval b s ≠ 0) :
    bookRefill b s = s := by
  rcases h with h | h <;> simp [bookRefill, bookTakes_of_none hp, h]

/-- A book refills once in a round. -/
theorem bookRefill_again (hp : (getBook b s).pend = none) (h : roundNow s < (getBook b s).refilled) : bookRefill b s = s := by
  simp [bookRefill, bookTakes_of_none hp, h]

theorem getBook_refilledBook : getBook b (refilledBook b s) = { getBook b s with refilled := roundNow s + 1 } :=
  getBook_setBook_same ..

theorem rd_refilledBook_level : rd .bookLevelLevel b (refilledBook b s) =
    min (rd .bookParamDepth b s) (rd .bookLevelLevel b s + rd .bookParamRate b s) % 2 ^ 32 := rd_wr_same ..

theorem rd_refilledBook_other {f : Reg} {i : Nat} (h : f ≠ .bookLevelLevel ∨ i ≠ b) : rd f i (refilledBook b s) = rd f i s := by
  rw [refilledBook, rd_wr_other _ _ h, rd_setBook]

theorem roundNow_refilledBook : roundNow (refilledBook b s) = roundNow s := rd_refilledBook_other (.inl (by decide))

end

/-- Settles O42: the envelopes' checks and effects (`command_answers` with each body's lemma), new parameters by `bookWith`, refills by
`refilledBook`. -/
theorem bookTimeRules : Obligations.BookTimeRules := by
  refine ⟨fun e s => ⟨fun h hb hdepth hlo hhi => ⟨fun hsum => ?shallow, fun hsum hbusy => ?set⟩,
      fun h hb hg => ⟨fun hn hd => ?named, fun hfree => ?bind⟩,
      fun h hb => ⟨fun hun => ?unbound, fun hbound hbusy => ⟨fun hn => ?busy, fun hn => ?unbind⟩⟩,
      fun h hlo hhi hbad hg hs hsorted => ⟨fun hc => ?gaps, fun hc => ?cover⟩⟩,
    fun b s => ⟨fun hp => ?still, fun p r hp => ⟨fun hr => ?early, fun hr => ?later⟩,
      fun hp => ⟨fun h0 hm hr => ?refill, fun hoff => ?off⟩⟩⟩
  case shallow => exact command_answers h (doBookSet_shallow hb hdepth hlo hhi hsum) (by decide)
  case set => exact command_answers h (doBookSet_ok hb hdepth hlo hhi hsum hbusy) (by decide)
  case named => exact command_answers h (doBookBind_named hb hg hn hd) (by decide)
  case bind => exact command_answers h (doBookBind_ok hb hg hfree) (by decide)
  case unbound => exact command_answers h (doBookUnbind_unbound hb hun) (by decide)
  case busy => exact command_answers h (doBookUnbind_named hb hbound hbusy hn) (by decide)
  case unbind => exact command_answers h (doBookUnbind_ok hb hbound hbusy hn) (by decide)
  case gaps => exact command_answers h ((doSampleCfg_eq hlo hhi hbad hg hsorted).trans (if_neg (Bool.eq_false_iff.1 hc))) (by decide)
  case cover => exact command_answers h ((doSampleCfg_eq hlo hhi hbad hg hsorted).trans (if_pos hc)) (by decide)
  case still => exact congrArg Host.Outcome.next (bookTakes_of_none hp)
  case early => exact congrArg Host.Outcome.next (bookTakes_early hp hr)
  case later =>
    obtain ⟨hrate, hdepth, hinterval, hwin, hwout, hlevel⟩ := bookWith_fields b.val p s
    exact ⟨_, congrArg Host.Outcome.next (bookTakes_later hp hr), hrate, hdepth, hinterval, hwin, hwout, hlevel, pend_bookWith p,
      fun f i hf => rd_bookWith_other p hf⟩
  case refill =>
    refine ⟨_, congrArg Host.Outcome.next (bookRefill_of_due hp h0 hm hr), rd_refilledBook_level,
      fun f i hf => rd_refilledBook_other hf, congrArg Host.Outcome.next (bookRefill_again ?_ ?_)⟩
    · rw [getBook_refilledBook]
      exact hp
    · rw [getBook_refilledBook, roundNow_refilledBook]
      exact Nat.lt_succ_self _
  case off => exact congrArg Host.Outcome.next (bookRefill_off_beat hp hoff)

end Sys2Proof.Machine
end

section
/-!
PROOFS. Envelopes over the fabric, jobs, twins and leases (R223, R326, R328, R331, R334, R338, R342, R347, R351, R371, R372).
-/

namespace Sys2Proof.Machine

/-! Bytes of the parameter area. -/

theorem leNat_lt (bs : List Byte) : leNat bs < 256 ^ bs.length := by
  induction bs with
  | nil => simp [leNat]
  | cons b bs ih =>
    have hb : b.toNat < 256 := b.isLt
    rw [leNat, List.length_cons, Nat.pow_succ]
    omega

theorem pNat_lt (e : Env) (off n : Nat) : pNat e off n < 256 ^ n :=
  Nat.lt_of_lt_of_le (leNat_lt _) (Nat.pow_le_pow_right (by decide) (List.length_take_le ..))

/-! A register block that is cleared. -/

/-- Clearing one unit of a block whose fields stand once each leaves every field of another block or unit. -/
theorem rd_clearBlock_other {b : Block} {j : Nat} (hsub : ∀ f, (regInfo f).blk = b → (regInfo f).sub = 1) {f : Reg} {i : Nat}
    (h : (regInfo f).blk ≠ b ∨ i ≠ j) (s : State) : rd f i (clearBlock b j s) = rd f i s := by
  have hlt := Reg.ctorIdx_lt f
  have hfield : regKey f i % 512 = f.ctorIdx := by unfold regKey; omega
  have hindex : regKey f i / 512 = i := by unfold regKey; omega
  have hkept : (!((regInfo f).blk == b && i / (regInfo f).sub == j)) = true := by
    rw [Bool.not_eq_true', Bool.and_eq_false_iff, beq_eq_false_iff_ne, beq_eq_false_iff_ne]
    by_cases hb : (regInfo f).blk = b
    · rw [hsub f hb, Nat.div_one]
      exact .inr (h.resolve_left (not_not_intro hb))
    · exact .inl hb
  refine (tget_filter_key regDefault (fun k => !((regInfo (Reg.ofNat (k % 512))).blk == b &&
    k / 512 / (regInfo (Reg.ofNat (k % 512))).sub == j)) s.regs (regKey f i)).trans (if_pos ?_)
  rw [hfield, hindex, Reg.ofNat_ctorIdx]
  exact hkept

theorem sub_of_job_block (f : Reg) (h : (regInfo f).blk = .job) : (regInfo f).sub = 1 := by
  revert h
  cases f <;> decide

/-! FABRIC and ROUND_CFG. -/

section
variable {e : Env} {s : State}

theorem doFabric_ok (hfid : pNat e 0 2 < 1023) (hr : ∀ i < pNat e 2 2, routeBad e i = none) :
    doFabric e s = (okAns, takeFid (pNat e 0 2) (setFab { s.fab with
      routes := (List.range (pNat e 2 2)).foldl (fun t i => tset (fun _ => []) t (routeOf e i).1 (routeOf e i).2) [] } s)) := by
  have hnone : (List.range (pNat e 2 2)).findSome? (routeBad e) = none :=
    List.findSome?_eq_none_iff.2 fun i hi => hr i (List.mem_range.1 hi)
  simp only [doFabric, if_neg (Nat.not_le.2 hfid), hnone]

theorem doRoundCfg_ok (hm : pNat e 0 2 < 1024) (hb : pNat e 2 2 < 1024) (hu : pNat e 4 1 < 32) (hu' : pNat e 5 1 < 32)
    (hlo : 1 ≤ pNat e 6 1) (hhi : pNat e 6 1 ≤ 50) (htwice : 2 * pNat e 6 1 ≤ pNat e 8 2) (hp : 20 ≤ pNat e 8 2)
    (hp' : pNat e 8 2 ≤ 10000) {s1 : State}
    (h1 : s1 = (if pNat e 0 2 ≠ rd .roundCfgMaster 0 s ∨ pNat e 2 2 ≠ rd .roundCfgStandby 0 s
        then setFab { s.fab with deposed := false, acting := false, fly := 0, marker := none, master := none } s else s)) :
    doRoundCfg e s = (okAns, announcePeriod (pNat e 8 2) (wr .roundCfgMaster 0 (pNat e 0 2)
      (wr .roundCfgStandby 0 (pNat e 2 2) (wr .roundCfgUp 0 (pNat e 4 1 + 32 * pNat e 5 1) (wr .roundCfgBudget 0 (pNat e 6 1)
        (wr .roundCfgPeriod 0 (pNat e 8 2) (wr .roundCfgDown 0 (pNat e 12 4) s1))))))) := by
  simp only [doRoundCfg, if_neg (Nat.not_le.2 hm), if_neg (Nat.not_le.2 hb), if_neg (Nat.not_le.2 hu), if_neg (Nat.not_le.2 hu'),
    if_neg (show ¬(pNat e 6 1 = 0 ∨ 50 < pNat e 6 1 ∨ pNat e 8 2 < 2 * pNat e 6 1) by omega),
    if_neg (show ¬(pNat e 8 2 < 20 ∨ 10000 < pNat e 8 2) by omega), decide_eq_true_eq, ← h1]

/-! JOB (R334, R335). -/

/-- The ranges that a JOB form's fields have (R372). -/
theorem jobBad_none (h : jobBad e = none) : pNat e 3 1 < 2 ^ 4 ∧ pNat e 6 2 < 2 ^ 10 ∧ pNat e 8 2 < 2 ^ 10 ∧ pNat e 10 2 < 2 ^ 11 := by
  unfold jobBad at h
  dsimp only at h
  split_ifs at h
  omega

theorem doJobForm_rebinding (hbad : jobBad e = none) (hst : rd .distCfgState (pNat e 2 1) s = 2) : doJobForm e s = (refuse 19, s) := by
  simp [doJobForm, hbad, hst]

theorem doJobForm_refused (hbad : jobBad e = none) (hst : rd .distCfgState (pNat e 2 1) s ≠ 2)
    (h : bit .jobCfgMember (pNat e 0 1) s = true ∨ rd .distCfgState (pNat e 2 1) s = 0 ∨ bit .distCfgPv (pNat e 2 1) s = false ∨
      jobOf (pNat e 2 1) s ≠ none ∨ 16 ≤ (memberJobs s).length) : doJobForm e s = (refuse 53, s) := by
  simp only [doJobForm, hbad, if_neg hst, Bool.decide_eq_true]
  by_cases hown : bit .jobCfgMember (pNat e 0 1) s = true ∨ rd .distCfgState (pNat e 2 1) s = 0 ∨
      (!bit .distCfgPv (pNat e 2 1) s) = true
  · rw [if_pos hown]
  · rw [if_neg hown, if_pos]
    simp only [not_or, Bool.not_eq_true', Bool.not_eq_false] at hown
    obtain ⟨hm, h0, hpv⟩ := hown
    rcases h with h | h | h | h | h
    · exact absurd h hm
    · exact absurd h h0
    · simp [hpv] at h
    · exact .inl (Option.isSome_iff_ne_none.2 h)
    · exact .inr h

/-- The registers of a job as its form leaves them (R334). -/
def jobFormed (e : Env) (s : State) : State :=
  wr .jobCfgDistrict (pNat e 0 1) (pNat e 2 1) (wr .jobCfgJobidx (pNat e 0 1) (pNat e 3 1) (wr .jobCfgLeasedev (pNat e 0 1) (pNat e 6 2)
    (wr .jobCfgLeasesb (pNat e 0 1) (pNat e 8 2) (wr .jobSetpNom (pNat e 0 1) (pNat e 10 2) (wr .jobSetpCur (pNat e 0 1) (pNat e 10 2)
      (flag .jobCfgMember (pNat e 0 1) (clearBlock .job (pNat e 0 1) s)))))))

theorem doJobForm_ok (hbad : jobBad e = none) (hst : rd .distCfgState (pNat e 2 1) s ≠ 2)
    (hm : bit .jobCfgMember (pNat e 0 1) s = false) (h0 : rd .distCfgState (pNat e 2 1) s ≠ 0)
    (hpv : bit .distCfgPv (pNat e 2 1) s = true) (hj : jobOf (pNat e 2 1) s = none) (hlen : (memberJobs s).length < 16) :
    doJobForm e s = (okAns, clockJob (pNat e 0 1) (setJob (pNat e 0 1)
      { members := (List.range (pNat e 4 1)).map fun i => pNat e (16 + 2 * i) 2 } (jobFormed e s))) := by
  simp [doJobForm, hbad, hst, hm, h0, hpv, hj, Nat.not_le.2 hlen, jobFormed]

theorem rd_jobFormed (hbad : jobBad e = none) :
    ∀ x ∈ [(Reg.jobCfgMember, 1), (.jobCfgDistrict, pNat e 2 1), (.jobCfgJobidx, pNat e 3 1), (.jobCfgLeasedev, pNat e 6 2),
      (.jobCfgLeasesb, pNat e 8 2), (.jobSetpNom, pNat e 10 2), (.jobSetpCur, pNat e 10 2)], rd x.1 (pNat e 0 1) (jobFormed e s) = x.2 := by
  obtain ⟨hidx, hlease, hstand, hnom⟩ := jobBad_none hbad
  have hd : pNat e 2 1 < 2 ^ 8 := pNat_lt e 2 1
  simp only [jobFormed, flag, List.forall_mem_cons, rd_wr, reduceCtorEq, if_false, if_true, List.not_mem_nil, false_imp_iff,
    implies_true, and_true]
  exact ⟨rfl, Nat.mod_eq_of_lt hd, Nat.mod_eq_of_lt hidx, Nat.mod_eq_of_lt hlease, Nat.mod_eq_of_lt hstand, Nat.mod_eq_of_lt hnom,
    Nat.mod_eq_of_lt hnom⟩

theorem rd_jobFormed_other {f : Reg} {i : Nat} (h : (regInfo f).blk ≠ .job ∨ i ≠ pNat e 0 1) :
    rd f i (jobFormed e s) = rd f i s := by
  rw [jobFormed, rd_wr_block _ _ h rfl, rd_wr_block _ _ h rfl, rd_wr_block _ _ h rfl, rd_wr_block _ _ h rfl, rd_wr_block _ _ h rfl,
    rd_wr_block _ _ h rfl, flag, rd_wr_block _ _ h rfl, rd_clearBlock_other sub_of_job_block h]

section
variable (hj : pNat e 0 1 < 64)
include hj

theorem doJobDissolve_stranger (hm : bit .jobCfgMember (pNat e 0 1) s = false) : doJobDissolve e s = (refuse 53, s) := by
  simp [doJobDissolve, Nat.not_le.2 hj, hm]

variable (hm : bit .jobCfgMember (pNat e 0 1) s = true)
include hm

theorem doJobDissolve_member : doJobDissolve e s = (okAns, if passesCome (rd .jobCfgDistrict (pNat e 0 1) s) s
    then updJob (pNat e 0 1) (fun x => { x with dissolve := true }) s else dissolveJob (pNat e 0 1) s) := by
  simp [doJobDissolve, Nat.not_le.2 hj, hm]

/-! CIRC (R351). -/

theorem doCirc_ok {ports order : List Nat} {n : Nat} (hports : ports = (List.range 32).filter (pNat e 4 4).testBit) (hne : ports ≠ [])
    (hlen : ports.length ≤ 8) (hn : n = (getJob (pNat e 0 1) s).members.length)
    (horder : order = (List.range 16).map fun i => pNat e (16 + i) 1) (hlo : 1024 ≤ pNat e 8 4) (hhi : pNat e 8 4 ≤ 2 ^ 20)
    (hmod : pNat e 8 4 % kTpp (kvWord (rd .jobCfgDistrict (pNat e 0 1) s) s) = 0)
    (hperm : (order.take n).insertionSort (· ≤ ·) = List.range n) (hzero : ∀ x ∈ order.drop n, x = 0) :
    doCirc e s = (okAns, if passesCome (rd .jobCfgDistrict (pNat e 0 1) s) s
      then updJob (pNat e 0 1) (fun x => { x with circNext := some ⟨ports, pNat e 8 4, order.take n⟩ }) s
      else updJob (pNat e 0 1) (fun x => { x with circ := some ⟨ports, pNat e 8 4, order.take n⟩, circNext := none }) s) := by
  have hrest : (order.drop n).any (· != 0) = false := List.any_eq_false.2 fun x hx => by simp [hzero x hx]
  have hspan : ¬(pNat e 8 4 < 1024 ∨ 2 ^ 20 < pNat e 8 4 ∨
      pNat e 8 4 % kTpp (kvWord (rd .jobCfgDistrict (pNat e 0 1) s) s) ≠ 0) := by omega
  simp only [doCirc, ← hports, ← horder, ← hn, if_neg (Nat.not_le.2 hj), hm, if_neg hspan, hperm, hrest,
    if_neg (show ¬(ports = [] ∨ 8 < ports.length) from not_or.2 ⟨hne, Nat.not_lt.2 hlen⟩), ne_eq, not_true_eq_false, Bool.not_true,
    Bool.false_eq_true, or_self, if_false]
  cases passesCome (rd .jobCfgDistrict (pNat e 0 1) s) s <;> rfl

end

/-! TWIN (R342). -/

theorem doTwinPair_refused (hsen : pNat e 1 1 ≤ 1)
    (h : bit .twinCfgPaired 0 s = true ∨ bit .twinStatusFailover 0 s = true ∨ s.fab.handed ≠ []) : doTwinPair e s = (refuse 54, s) := by
  simp only [doTwinPair, if_neg (Nat.not_lt.2 hsen)]
  refine if_pos ?_
  simpa only [Bool.or_eq_true, Bool.not_eq_true', List.isEmpty_eq_false_iff, or_assoc] using h

theorem doTwinPair_ok (hsen : pNat e 1 1 ≤ 1) (hst : ∀ i < pNat e 2 1, rd .distCfgState (pNat e (24 + 2 * i) 1) s ≠ 2)
    (hp : bit .twinCfgPaired 0 s = false) (hf : bit .twinStatusFailover 0 s = false) (hh : s.fab.handed = []) :
    doTwinPair e s = (okAns, formPair e.extOk (setFab { s.fab with
      wanted := true, mirrors := (List.range (pNat e 2 1)).map (fun i => (pNat e (24 + 2 * i) 1, pNat e (25 + 2 * i) 1)),
      peerSerial := pNat e 8 16 } (wr .twinCfgSenior 0 (pNat e 1 1) s))) := by
  have hany : ((List.range (pNat e 2 1)).any fun i => rd .distCfgState (pNat e (24 + 2 * i) 1) s == 2) = false :=
    List.any_eq_false.2 fun i hi => by simp [hst i (List.mem_range.1 hi)]
  simp [doTwinPair, Nat.not_lt.2 hsen, hp, hf, hh, hany]

theorem doTwinUnpair_refused (h : bit .twinStatusFailover 0 s = true ∨ s.fab.handed ≠ []) : doTwinUnpair e s = (refuse 54, s) :=
  if_pos (by simpa only [Bool.or_eq_true, Bool.not_eq_true', List.isEmpty_eq_false_iff] using h)

theorem rd_setFab (f : Reg) (i : Nat) (x : FabSide) (s : State) : rd f i (setFab x s) = rd f i s := rfl

/-- The end of an unpairing: no twin, no mirror districts. -/
def unpaired (v : State) : State :=
  setFab { v.fab with wanted := false, mirrors := [], peerSerial := 0 }
    (wr .twinCfgPaired 0 0 (wr .twinCfgSenior 0 0 (wr .twinCfgPeer 0 0 v)))

theorem unpaired_leaves (v : State) : bit .twinCfgPaired 0 (unpaired v) = false ∧ rd .twinCfgPeer 0 (unpaired v) = 0 ∧
    (unpaired v).fab.wanted = false ∧ (unpaired v).fab.mirrors = [] := by
  refine ⟨?paired, ?peer, rfl, rfl⟩
  case paired =>
    rw [bit, unpaired, rd_setFab, rd_wr_same]
    rfl
  case peer =>
    rw [unpaired, rd_setFab, rd_wr_field _ _ _ _ _ _ (by decide), rd_wr_field _ _ _ _ _ _ (by decide), rd_wr_same]
    rfl

theorem doTwinUnpair_ok (hf : bit .twinStatusFailover 0 s = false) (hh : s.fab.handed = []) :
    ∃ v, doTwinUnpair e s = (okAns, unpaired v) := by
  have hfree : ¬(bit .twinStatusFailover 0 s || !s.fab.handed.isEmpty) = true := by simp [hf, hh]
  exact ⟨_, if_neg hfree⟩

/-! TWIN_MSG (R347). -/

theorem doTwinMsg_rebinding (h : ∃ i < pNat e 2 1, rd .distCfgState (pNat e (8 + i) 1) s = 2) : doTwinMsg e s = (refuse 19, s) := by
  obtain ⟨i, hi, hst⟩ := h
  refine if_pos (List.any_eq_true.2 ⟨_, List.mem_map_of_mem (List.mem_range.2 hi), ?_⟩)
  rw [hst]
  rfl

theorem doTwinMsg_settled (h : ∀ i < pNat e 2 1, rd .distCfgState (pNat e (8 + i) 1) s ≠ 2) :
    doTwinMsg e s = if bit .twinCfgPaired 0 s
      then (okAns, triggerFailover ((List.range (pNat e 2 1)).map fun i => pNat e (8 + i) 1) s) else (refuse 54, s) := by
  have hany : (((List.range (pNat e 2 1)).map fun i => pNat e (8 + i) 1).any fun d => rd .distCfgState d s == 2) = false := by
    rw [List.any_map]
    exact List.any_eq_false.2 fun i hi => by simp [h i (List.mem_range.1 hi)]
  rw [doTwinMsg, if_neg (Bool.eq_false_iff.1 hany)]
  cases bit .twinCfgPaired 0 s <;> rfl

/-- Showing and starting a recovery leave the fabric as it is. -/
theorem fab_startRecovery (r : Repair) (s : State) : (startRecovery r s).fab = s.fab := by
  unfold startRecovery showRecovery
  dsimp only
  split <;> rfl

/-- A failover that no recovery delays starts, and the districts are handed over (R347, R350). -/
theorem triggerFailover_starts {ds new : List Nat} (hnew : new = ds.filter fun d => !s.fab.handed.contains d && rd .distCfgState d s != 0)
    (hne : new ≠ []) (hrun : s.faults.running = none) :
    rd .twinStatusFailover 0 (triggerFailover ds s) = 1 ∧ (triggerFailover ds s).fab.handed = s.fab.handed ++ new := by
  have hser (r : Repair) : serialise r (setFab { s.fab with handed := s.fab.handed ++ new } s) =
      (true, startRecovery r (setFab { s.fab with handed := s.fab.handed ++ new } s)) := by
    simp only [serialise, setFab, hrun]
  have hgo : triggerFailover ds s = flag .twinStatusFailover 0 (startRecovery (mkRepair 7 (rd .distCfgHome (new.headD 0) s) 0 0 new)
      (setFab { s.fab with handed := s.fab.handed ++ new } s)) := by
    simp only [triggerFailover, ← hnew, if_neg hne, hser, if_true]
  rw [hgo]
  refine ⟨rd_wr_same .., ?_⟩
  rw [flag, wr_fab, fab_startRecovery]
  rfl

/-! Leases (R338). -/

theorem doLeaseKey_locked {key : List Byte} (hj : pNat e 0 1 < 4)
    (h : bit .devLockKeys 0 s = true ∨ bit .devLockSecurity 0 s = true) : doLeaseKey e key s = (refuse 12, s) := by
  rw [doLeaseKey, if_neg (Nat.not_le.2 hj), if_pos (Bool.or_eq_true_iff.2 h)]

theorem doLeaseKey_ok {key : List Byte} (hj : pNat e 0 1 < 4) (hk : bit .devLockKeys 0 s = false)
    (hs : bit .devLockSecurity 0 s = false) :
    doLeaseKey e key s = (okAns, setEng { s.eng with leaseKeys := tset noKey s.eng.leaseKeys (pNat e 0 1) key } s) := by
  simp [doLeaseKey, Nat.not_le.2 hj, hk, hs]

/-- No check of a grant is one of its sender's class. -/
theorem status_grantCheck_ne (g : List Byte) (s : State) : (grantCheck g s).status ≠ 4 := by
  unfold grantCheck
  dsimp only
  split_ifs <;> decide

theorem doLeaseGrant_eq {g : List Byte} (hg : g = pBytes e 0 160) :
    doLeaseGrant e s = if (grantCheck g s).status ≠ 0 then (grantCheck g s, s)
      else (okAns, if gNat g 0 1 = 1 then relayGrant (gNat g 1 1) g (takeGrant g s) else takeGrant g s) := by
  subst hg
  rfl

end

/-! The commands with two operations (R347, R338). -/

section
variable {e : Env} {s : State}

theorem exec_twinMsg {x : Instr × OpInfo} (hx : x ∈ [(Instr.handover e, opTwinMsg 1 e), (.dying e, opTwinMsg 2 e)]) :
    exec x.1 s = .next (settle (envelope x.2 e (atOnce (doTwinMsg e)) s)) ∧ x.2.code = 0x0706 := by
  simp only [List.mem_cons, List.not_mem_nil, or_false] at hx
  rcases hx with rfl | rfl <;> exact ⟨rfl, rfl⟩

theorem exec_leaseKey {x : Instr × OpInfo × List Byte}
    (hx : x ∈ [(Instr.leaseKeyEnrol e, opLeaseKey 1 e, pBytes e 8 96), (.leaseKeyClear e, opLeaseKey 2 e, [])]) :
    exec x.1 s = .next (settle (envelope x.2.1 e (atOnce (doLeaseKey e x.2.2)) s)) ∧ x.2.1.code = 0x0707 := by
  simp only [List.mem_cons, List.not_mem_nil, or_false] at hx
  rcases hx with rfl | rfl <;> exact ⟨rfl, rfl⟩

end

/-- Settles O44: each body by its own lemma above, and its command by `command_answers`. -/
theorem fabricEnvelopes : Obligations.FabricEnvelopes := by
  intro e s u j
  refine ⟨fun h hfid hr => ?fabric, fun h hm hb hu hu' hlo hhi htwice hp hp' s1 h1 => ?roundCfg,
    fun h hbad => ⟨fun hst => ?formBusy, fun hst => ⟨fun hno => ?formRefused, fun hm h0 hpv hj hlen => ?form⟩⟩,
    fun h hj => ⟨fun hm => ?stranger, fun hm => ⟨fun hp => ?dissolve, fun hp => ?dissolveNow⟩⟩, rfl,
    fun h hj hm ports n order hports hne hlen hn horder hlo hhi hmod hperm hzero => ⟨fun hp => ?circ, fun hp => ?circNow⟩,
    fun h hsen hst => ⟨fun hno => ?pairRefused, fun hp hf hh => ?pair⟩, fun h => ⟨fun hno => ?unpairRefused, fun hf hh => ?unpair⟩,
    fun x hx h => ?message, fun ds new hnew hne hrun => triggerFailover_starts hnew hne hrun, fun x hx h hj => ?key,
    fun h g hg => ⟨fun hno => ?grantRefused, fun hok => ?grant⟩⟩
  case fabric => exact command_answers h (doFabric_ok hfid hr) (by decide)
  case roundCfg => exact command_answers h (doRoundCfg_ok hm hb hu hu' hlo hhi htwice hp hp' h1) (by decide)
  case formBusy => exact command_answers h (doJobForm_rebinding hbad hst) (by decide)
  case formRefused => exact command_answers h (doJobForm_refused hbad hst hno) (by decide)
  case form =>
    exact ⟨_, command_answers h (doJobForm_ok hbad hst hm h0 hpv hj hlen) (by decide), rd_jobFormed hbad, fun f i hf => rd_jobFormed_other hf⟩
  case stranger => exact command_answers h (doJobDissolve_stranger hj hm) (by decide)
  case dissolve =>
    have hdo := doJobDissolve_member hj hm
    rw [if_pos hp] at hdo
    exact command_answers h hdo (by decide)
  case dissolveNow =>
    have hdo := doJobDissolve_member hj hm
    rw [if_neg (Bool.eq_false_iff.1 hp)] at hdo
    exact command_answers h hdo (by decide)
  case circ =>
    have hdo := doCirc_ok hj hm hports hne hlen hn horder hlo hhi hmod hperm hzero
    rw [if_pos hp] at hdo
    exact command_answers h hdo (by decide)
  case circNow =>
    have hdo := doCirc_ok hj hm hports hne hlen hn horder hlo hhi hmod hperm hzero
    rw [if_neg (Bool.eq_false_iff.1 hp)] at hdo
    exact command_answers h hdo (by decide)
  case pairRefused => exact command_answers h (doTwinPair_refused hsen hno) (by decide)
  case pair => exact command_answers h (doTwinPair_ok hsen hst hp hf hh) (by decide)
  case unpairRefused => exact command_answers h (doTwinUnpair_refused hno) (by decide)
  case unpair =>
    obtain ⟨v, hv⟩ := doTwinUnpair_ok (e := e) hf hh
    rw [hv]
    exact ⟨command_answers h hv (by decide), unpaired_leaves v⟩
  case message =>
    obtain ⟨hexec, hcode⟩ := exec_twinMsg (s := s) hx
    rw [hexec, ← hcode]
    refine ⟨fun hst => ?busy, fun hst hp => ?unpaired, fun hst hp => ?start⟩
    case busy => exact command_answers h (doTwinMsg_rebinding hst) (by decide)
    case unpaired => exact command_answers h ((doTwinMsg_settled hst).trans (if_neg (Bool.eq_false_iff.1 hp))) (by decide)
    case start => exact command_answers h ((doTwinMsg_settled hst).trans (if_pos hp)) (by decide)
  case key =>
    obtain ⟨hexec, hcode⟩ := exec_leaseKey (s := s) hx
    rw [hexec, ← hcode]
    exact ⟨fun hl => command_answers h (doLeaseKey_locked hj hl) (by decide),
      fun hk hs => command_answers h (doLeaseKey_ok hj hk hs) (by decide)⟩
  case grantRefused => exact command_answers h ((doLeaseGrant_eq hg).trans (if_pos hno)) (status_grantCheck_ne g u)
  case grant => exact command_answers h ((doLeaseGrant_eq hg).trans (if_neg (not_not_intro hok))) (by decide)

end Sys2Proof.Machine
end

section
/-!
PROOFS. Envelopes over streams and handles (R239, R279, R280, R291, R300, R302, R314, R359, R369, R371).
-/

namespace Sys2Proof.Machine

/-! What leaves streams and handles as they are: packets and pages. -/

@[simp] theorem sort_ite {c : Prop} [Decidable c] {s t : State} : (if c then s else t).sort = if c then s.sort else t.sort :=
  apply_ite _ c s t

@[simp] theorem sort_foldl {β : Type} {f : State → β → State} (h : ∀ u x, (f u x).sort = u.sort) (l : List β) (s : State) :
    (l.foldl f s).sort = s.sort :=
  List.foldlRecOn (motive := fun u => u.sort = s.sort) l f rfl fun u ih x _ => (h u x).trans ih

section
variable (s : State)

@[simp] theorem sort_flag (f : Reg) (i : Nat) : (flag f i s).sort = s.sort := by rfl
@[simp] theorem sort_emit (x : Emission) : (emit x s).sort = s.sort := by rfl
@[simp] theorem sort_upd_fab {x : FabSide} : { s with fab := x }.sort = s.sort := by rfl
@[simp] theorem sort_upd_pages {x : Table PageRec} : { s with pages := x }.sort = s.sort := by rfl

@[simp] theorem sort_launch (a p : Nat) (x : Emission) : (launch a p x s).sort = s.sort := by
  simp only [launch, sort_flag, sort_emit, sort_ite, ite_self]

@[simp] theorem sort_sendTwin (a : Nat) (k : FabKind) (body : List Byte) : (sendTwin a k body s).sort = s.sort := by
  simp only [sendTwin, offer, sendPiece, sort_flag, sort_launch, sort_foldl, sort_ite, ite_self, implies_true]

@[simp] theorem sort_setPage (v page : Nat) (r : PageRec) : (setPage v page r s).sort = s.sort := by
  simp only [setPage, wr_sort, sort_ite, ite_self]

@[simp] theorem sort_freePage (d v page : Nat) : (freePage d v page s).sort = s.sort := by
  simp only [freePage, wr_sort, sort_setPage]

end

theorem getStream_of_sort {s t : State} (h : t.sort = s.sort) (k : Nat) : getStream k t = getStream k s := by
  rw [getStream, h, getStream]

theorem getHandle_of_sort {s t : State} (h : t.sort = s.sort) (k : Nat) : getHandle k t = getHandle k s := by
  rw [getHandle, h, getHandle]

@[simp] theorem getHandle_setHandle_same (h : Nat) (x : Handle) (s : State) : getHandle h (setHandle h x s) = x := tget_tset_same ..

theorem getHandle_setStream (h slot : Nat) (x : Stream) (s : State) : getHandle h (setStream slot x s) = getHandle h s := rfl

/-! SUBMIT (R239, R291). -/

section
variable {e : Env} {s : State}

theorem doSubmit_held (h : rd .distCfgState (pNat e 0 1) s = 2) :
    doSubmit e s = (none, updDistrict (pNat e 0 1) (fun x => { x with held := x.held ++ [e] }) s) := if_pos h

section
variable (hst : rd .distCfgState (pNat e 0 1) s ≠ 2)
include hst

theorem doSubmit_refused {a : Ans} (h : submitCheck e s = some a) : doSubmit e s = (some a, s) := by
  simp only [doSubmit, if_neg hst, h]

theorem doSubmit_taken (h : submitCheck e s = none) : doSubmit e s = (some (takeStream e s).1, (takeStream e s).2) := by
  simp only [doSubmit, if_neg hst, h]

end

/-- What a SUBMIT takes: slot and status, and the state with the stream in place (R286 to R291). -/
def placed (e : Env) (s : State) : (Nat × Nat) × State :=
  placeStream (specNat (e.raw.drop 64 ++ List.replicate 4032 0) 0 1) (nextId s) (e.raw.drop 64 ++ List.replicate 4032 0) false s

theorem status_takeStream (e : Env) (s : State) : (takeStream e s).1.status = (placed e s).1.1 := by
  simp only [takeStream, placed]
  split
  · rfl
  · next h => exact (not_not.1 h).symm

/-- The state after a SUBMIT's allocation with the STREAM_ID used up (R286). -/
def withIdIssued (s v : State) : State := setSort { v.sort with issued := s.sort.issued + 1 } v

/-- A stream just taken: it lapses at once where no twin port is up, or its copy goes to the twin (R343, R346). -/
theorem takeStream_of_placed {slot : Nat} {v : State} (h : placed e s = ((0, slot), v)) :
    ∃ a k body, takeStream e s = (⟨0, 0, natLe 8 slot ++ natLe 8 (nextId s), []⟩,
      if twinCut v then lapse slot (withIdIssued s v)
      else if protects (getStream slot v) v then sendTwin a k body (withIdIssued s v) else withIdIssued s v) := by
  rw [placed] at h
  rw [takeStream, h]
  exact ⟨_, _, _, rfl⟩

theorem issued_lapse (slot : Nat) (s : State) : (lapse slot s).sort.issued = s.sort.issued := by
  simp only [lapse]
  split_ifs <;> rfl

theorem getStream_lapse_of_protects {slot : Nat} (h : protects (getStream slot s) s = true) :
    getStream slot (lapse slot s) = { getStream slot s with lapsed := true } := by
  simp only [lapse, h, if_true]
  exact getStream_setStream_same ..

theorem takeStream_leaves {slot : Nat} {v : State} (h : placed e s = ((0, slot), v)) :
    ∃ t, takeStream e s = (⟨0, 0, natLe 8 slot ++ natLe 8 (nextId s), []⟩, t) ∧ t.sort.issued = s.sort.issued + 1 ∧
      (twinCut v = false → getStream slot t = getStream slot v) ∧
      (twinCut v = true → protects (getStream slot v) v = true → getStream slot t = { getStream slot v with lapsed := true }) := by
  obtain ⟨a, k, body, ht⟩ := takeStream_of_placed h
  refine ⟨_, ht, ?issued, fun hup => ?up, fun hcut hp => ?cut⟩
  case issued =>
    split_ifs
    · exact issued_lapse ..
    · rw [sort_sendTwin]
      rfl
    · rfl
  case up =>
    rw [if_neg (Bool.eq_false_iff.1 hup)]
    refine (getStream_of_sort (s := withIdIssued s v) ?_ slot).trans rfl
    split_ifs
    · exact sort_sendTwin ..
    · rfl
  case cut =>
    rw [if_pos hcut]
    exact getStream_lapse_of_protects (s := withIdIssued s v) hp

/-! The gate of a stream's envelopes (R314). -/

theorem streamGate_unknown (h : findStream (pNat e 0 8) s = none) (query : Bool) : streamGate e query s = .error (refuse 50) := by
  simp only [streamGate, h]

/-- The gate refuses no class of sender. -/
theorem status_streamGate_ne {query : Bool} {a : Ans} (h : streamGate e query s = .error a) : a.status ≠ 4 := by
  unfold streamGate at h
  split at h
  · cases h
    decide
  · dsimp only at h
    split_ifs at h <;> cases h <;> decide

section
variable {a : Ans} (h : streamGate e false s = .error a)
include h

theorem doCancel_stopped : doCancel e s = (a, s) := by simp only [doCancel, h]
theorem doPreempt_stopped : doPreempt e s = (some a, s) := by simp only [doPreempt, h]
theorem doFreeze_stopped : doFreeze e s = (a, s) := by simp only [doFreeze, h]

end

theorem doQuery_stopped {a : Ans} (h : streamGate e true s = .error a) : doQuery e s = (a, s) := by simp only [doQuery, h]

theorem doQuery_ok {k : Nat} (h : streamGate e true s = .ok k) : doQuery e s = (⟨0, 0, [], recordOf (getStream k s)⟩, s) := by
  simp only [doQuery, h]

section
variable {k : Nat} (h : streamGate e false s = .ok k)
include h

theorem doCancel_ok : doCancel e s = (okAns, updStream k (fun x => { x with cancel := true }) s) := by simp only [doCancel, h]

theorem doPreempt_cancelled (hc : (getStream k s).cancel = true) : doPreempt e s = (some (refuse 50), s) := by
  simp only [doPreempt, h, hc, if_true]

theorem doPreempt_ok (hc : (getStream k s).cancel = false) : doPreempt e s = (none, startPreempt k (some e) s) := by
  simp only [doPreempt, h, hc, Bool.false_eq_true, if_false]

theorem doFreeze_length (ht : pNat e 8 4 = 0 ∨ (getStream k s).pos < pNat e 8 4) : doFreeze e s = (refuseAt 1 8, s) := by
  simp only [doFreeze, h, if_pos ht]

theorem doFreeze_ok (h0 : pNat e 8 4 ≠ 0) (hpos : pNat e 8 4 ≤ (getStream k s).pos) {n : Nat} (hn : n < 4096)
    (hfree : (getHandle n s).used = false) (hbelow : ∀ i < n, (getHandle i s).used = true) :
    doFreeze e s = (⟨0, 0, natLe 2 n, []⟩, updStream k (fun y => { y with freezes := y.freezes ++ [(n, pNat e 8 4)] })
      (setHandle n { used := true, district := (getStream k s).district } s)) := by
  have hfind : (List.range 4096).find? (fun i => !(getHandle i s).used) = some n :=
    List.find?_range_eq_some.2 ⟨by simp [hfree], List.mem_range.2 hn, fun i hi => by simp [hbelow i hi]⟩
  simp only [doFreeze, h, if_neg (show ¬(pNat e 8 4 = 0 ∨ (getStream k s).pos < pNat e 8 4) by omega), hfind]

end

/-! The start of a pre-emption (R279). -/

section
variable {k : Nat} {x : Option Env}

/-- A RUNNING stream's pre-emption waits for its step. -/
theorem getStream_startPreempt_running (hst : (getStream k s).st = .running) :
    getStream k (startPreempt k x s) = { getStream k s with pre := 1, preEnv := x } := by
  simp [startPreempt, hst, getStream_showPreempt]

/-- A READY stream is PREEMPTING, whatever handles are made first. -/
theorem startPreempt_ready_leaves (hst : (getStream k s).st = .ready) :
    (getStream k (startPreempt k x s)).st = .preempting ∧ (getStream k (startPreempt k x s)).pre = 2 ∧
      (getStream k (startPreempt k x s)).preEnv = x := by
  simp only [startPreempt, hst, if_true, getStream_showPreempt, getStream_setSt_same, getStream_updStream_same, and_self]

end

/-! RESUME and DISCARD (R280, R302, R310, R314). -/

section
variable {d : Nat} {i : Image}

theorem resumeBar_ne_four (d : Nat) (i : Image) (s : State) : resumeBar d i s ≠ 4 := by
  unfold resumeBar
  dsimp only
  split_ifs <;> decide

variable (hf : findImage (pNat e 0 8) s = some (d, i)) (hm : mayAct e d s = true)
include hf hm

theorem doResume_active (hst : rd .distCfgState d s = 1) :
    doResume e s = if resumeBar d i s = 51 then (some (refuse 51), s) else if !e.extOk then (some (refuse 52), s)
      else if resumeBar d i s ≠ 0 then (some (refuse (resumeBar d i s)), s)
      else (none, setSort { s.sort with resumes := s.sort.resumes ++ [(e, none)] } s) := by
  simp only [doResume, hf, hm, hst]
  rfl

theorem doDiscard_ok (hst : rd .distCfgState d s ≠ 2) :
    doDiscard e s = (okAns, issueReceipt i.stream 5 (some ((i.ctl.drop 10248).take 56))
      (updDistrict d (fun y => { y with preempted := y.preempted.filter fun k => k.stream.id != i.stream.id }) s)) := by
  simp only [doDiscard, hf, hm, if_neg hst]
  rfl

end

/-! RELEASE (R302). -/

section
variable {n : Nat}

theorem releaseHandle_of_refs (hr : (getHandle n s).refs ≠ 0) :
    releaseHandle n s = setHandle n { getHandle n s with released := true } s := by
  simp [releaseHandle, dropHandle, hr]

/-- A handle that nothing refers to goes when it is released. -/
theorem used_releaseHandle (hu : (getHandle n s).used = true) (hm : (getHandle n s).made = true) (hr : (getHandle n s).refs = 0) :
    (getHandle n (releaseHandle n s)).used = false := by
  have hgone (d : Nat) (v : State) : (getHandle n (forgetHandle n d v)).used = false :=
    congrArg Handle.used (getHandle_setHandle_same n {} v)
  simp only [releaseHandle, dropHandle, getHandle_setHandle_same, hu, hm, hr, Bool.not_true, Bool.or_self, ne_eq, not_true_eq_false,
    decide_false, Bool.false_eq_true, if_false]
  rw [getHandle_of_sort ((sort_freePage ..).trans (sort_foldl (fun _ _ => sort_freePage ..) ..))]
  exact hgone ..

variable (hg : districtGate e (pNat e 0 1) s = none)
include hg

theorem doRelease_ok (hn : pNat e 2 2 < 4096) (hd : (getHandle (pNat e 2 2) s).district = pNat e 0 1)
    (hm : (getHandle (pNat e 2 2) s).made = true) (hr : (getHandle (pNat e 2 2) s).released = false) :
    doRelease e s = (okAns, releaseHandle (pNat e 2 2) s) := by
  simp [doRelease, hg, Nat.not_le.2 hn, hd, hm, hr]

theorem doRelease_refused (h : (getHandle (pNat e 2 2) s).made = false ∨ (getHandle (pNat e 2 2) s).released = true) :
    doRelease e s = (refuse 41, s) := by
  rcases h with h | h <;> simp [doRelease, hg, h]

end

end

/-- Settles O40: each body by its own lemma above, and its command by `command_answers` where it answers at once, by `command_replies` or
`command_waits` where it may answer later. -/
theorem streamEnvelopes : Obligations.StreamEnvelopes := by
  intro e s u
  refine ⟨fun h => ⟨fun hst => ?held, fun hst hc hno => ?taken, fun slot v hst hc hp => ?placed, fun a hst hc ha => ?refused⟩,
    fun x hx h hf => ?unknown, fun a hg x hx h => ?stopped,
    fun k hg => ⟨fun h => ?cancel, fun h hc => ⟨?preempt, fun hrun => ?running, fun hready => ?ready⟩, fun h hc => ?cancelled,
      fun h h0 hpos n hn hfree hbelow => ?freeze, fun h ht => ?length⟩,
    fun k hg h => ?query,
    fun d i hf hm => ⟨fun h hst => ⟨fun hbar => ?otherParcel, fun hbar hext => ?badTag, fun hbar hext h0 => ?barred,
      fun h0 hext => ?resume⟩, fun h hst => ?discard⟩,
    fun h hg hn hd => ⟨fun hm hr => ⟨?release, fun hrefs => releaseHandle_of_refs hrefs,
      fun hu hrefs => used_releaseHandle hu hm hrefs⟩, fun hno => ?unreleased⟩⟩
  case held => exact command_waits h (doSubmit_held hst)
  case taken => exact command_replies h (doSubmit_taken hst hc) (status_takeStream e u ▸ hno)
  case placed =>
    obtain ⟨t, ht, hleaves⟩ := takeStream_leaves hp
    have hdo := doSubmit_taken hst hc
    rw [ht] at hdo
    exact ⟨t, command_replies h hdo (show (0 : Nat) ≠ 4 by decide), hleaves⟩
  case refused => exact command_replies h (doSubmit_refused hst hc) ha
  case unknown =>
    have hno := streamGate_unknown hf
    simp only [List.mem_cons, List.not_mem_nil, or_false] at hx
    rcases hx with rfl | rfl | rfl | rfl
    · exact command_answers h (doCancel_stopped (hno false)) (by decide)
    · exact command_replies h (doPreempt_stopped (hno false)) (by decide)
    · exact command_answers h (doFreeze_stopped (hno false)) (by decide)
    · exact command_answers h (doQuery_stopped (hno true)) (by decide)
  case stopped =>
    have ha := status_streamGate_ne hg
    simp only [List.mem_cons, List.not_mem_nil, or_false] at hx
    rcases hx with rfl | rfl | rfl
    · exact command_answers h (doCancel_stopped hg) ha
    · exact command_replies h (doPreempt_stopped hg) ha
    · exact command_answers h (doFreeze_stopped hg) ha
  case cancel => exact command_answers h (doCancel_ok hg) (by decide)
  case preempt => exact command_waits h (doPreempt_ok hg hc)
  case running =>
    rw [getStream_startPreempt_running hrun]
    exact ⟨rfl, rfl⟩
  case ready => exact startPreempt_ready_leaves hready
  case cancelled => exact command_replies h (doPreempt_cancelled hg hc) (by decide)
  case freeze => exact command_answers h (doFreeze_ok hg h0 hpos hn hfree hbelow) (show (0 : Nat) ≠ 4 by decide)
  case length => exact command_answers h (doFreeze_length hg ht) (by decide)
  case query => exact command_answers h (doQuery_ok hg) (show (0 : Nat) ≠ 4 by decide)
  case otherParcel => exact command_replies h ((doResume_active hf hm hst).trans (if_pos hbar)) (by decide)
  case badTag =>
    exact command_replies h ((doResume_active hf hm hst).trans ((if_neg hbar).trans (if_pos (by rw [hext]; rfl)))) (by decide)
  case barred =>
    have hdo := doResume_active hf hm hst
    rw [if_neg hbar, if_neg (by rw [hext]; decide), if_pos h0] at hdo
    exact command_replies h hdo (resumeBar_ne_four d i u)
  case resume =>
    have hdo := doResume_active hf hm hst
    rw [if_neg (by rw [h0]; decide), if_neg (by rw [hext]; decide), if_neg (not_not_intro h0)] at hdo
    exact command_waits h hdo
  case discard => exact command_answers h (doDiscard_ok hf hm hst) (by decide)
  case release => exact command_answers h (doRelease_ok hg hn hd hm hr) (by decide)
  case unreleased => exact command_answers h (doRelease_refused hg hno) (by decide)

end Sys2Proof.Machine
end

section
/-!
PROOFS. Re-binding (R231, R238, R239, R242, R243), and the handles that a FREEZE asks for (R300).
-/

namespace Sys2Proof.Machine

/-! REBIND (R238, R239). -/

section
variable {e : Env} {s : State} {cs : List Change} (hcs : cs = (List.range (pNat e 0 1)).map (parseChange e))
include hcs

theorem rebind_refused {r : Nat × Nat} (h : rebindCheck e cs s = some r) : rebind e s = (some ⟨r.1, r.2, [], []⟩, s) := by
  simp only [rebind, ← hcs, h]

section
variable (h : rebindCheck e cs s = none)
include h

theorem rebind_denied (hc : e.cls = .host ∨ e.cls = .peer) : rebind e s = (some (refuse 4), s) := by
  rcases hc with hc | hc <;> simp [rebind, ← hcs, h, hc]

theorem rebind_accepted (hc : e.cls = .mgmt ∨ e.cls = .hosts) {cs' : List Change}
    (hcs' : cs' = cs.map fun c => if rd .distCfgState c.district s = 4 then { c with zero := true } else c) {ps : List (Nat × Nat)}
    (hps : ps = takenPages (tryOut cs' s).2 s) {s1 : State} (h1 : s1 = setReserved true ps s) :
    rebind e s = (none, setBoot { s1.boot with rebinds := s1.boot.rebinds ++ [⟨e, cs', ps⟩] }
      (cs'.foldl (fun w c => wr .distCfgState c.district 2 w) s1)) := by
  have hclass : ¬(e.cls ≠ .mgmt ∧ e.cls ≠ .hosts) := fun ⟨hm, hh⟩ => hc.elim hm hh
  simp only [rebind, ← hcs, h, if_neg hclass, ← hcs', ← hps, ← h1]

end

end

/-! REBIND_RUN (R239, R242, R243). -/

section
variable {submit : Env → State → State} {s : State}

theorem rebindRun_recovering (h : recovering s = true) : rebindRun submit s = s := if_pos h

theorem rebindRun_free (h : recovering s = false) :
    rebindRun submit s = s.boot.rebinds.foldl (fun w r => runOne submit r w) s := if_neg (Bool.eq_false_iff.1 h)

section
variable {r : Rebinding}

theorem runOne_not_quiet (h : rebindQuiet r.changes s = false) : runOne submit r s = s := if_pos (by rw [h]; rfl)

section
variable (h : rebindQuiet r.changes s = true) {live : List Change} (hlive : live = r.changes.filter fun c => changeLost c s == 0)
  {s1 : State} (h1 : s1 = live.foldl (fun w c => handleStreams c (quiesce c.district w)) s)
include h hlive h1

theorem runOne_quiet : runOne submit r s = if streamsGone live s1 then finishRebind submit r live s1 else s1 := by
  simp only [runOne, h, ← hlive, ← h1]
  rfl

end

/-- The status with which a re-binding answers for a change: the fault that has ended it, or what its carrying out gave (R243). -/
def changeStatus (live : List Change) (given : List Nat) (s : State) (c : Change) : Nat :=
  if changeLost c s ≠ 0 then changeLost c s else ((live.zip given).find? fun x => x.1.district == c.district).elim 0 (·.2)

theorem finishRebind_eq {live : List Change} {t : (List Nat × List Released) × State}
    (ht : t = carryOut live (live.foldl (fun w c => dropShadows c w)
      (setReserved false r.pages (setBoot { s.boot with rebinds := s.boot.rebinds.erase r } s)))) {s4 : State}
    (h4 : s4 = t.1.2.foldl (fun w x => zeroReleased x w) (r.changes.foldl (fun w c => giveBack c w)
      (live.foldl (fun w c => wr .distCfgState c.district (if c.action = 2 then 0 else 1) w) t.2))) :
    finishRebind submit r live s = (r.changes.flatMap fun c => (getDistrict c.district s).held).foldl (fun w x => submit x w)
      (r.changes.foldl (fun w c => updDistrict c.district (fun x => { x with held := [] }) w)
        (reply 0x0101 r.env ⟨0, 0, r.changes.flatMap fun c => natLe 2 (changeStatus live t.1.1 s c), []⟩ s4)) := by
  subst ht h4
  rfl

end

end

/-! A handle that a FREEZE asks for (R300). -/

section
variable {slot h n : Nat} {s v0 s1 : State} {x : Stream} {rest : List (Nat × Nat)} {vp : Nat × Nat} {cs : List (Nat × Chain)}

theorem getHandle_createHandle (hx : x = getStream slot s) (hf : x.freezes = (h, n) :: rest) (hst : x.st = .ready ∨ x.st = .ending)
    (h0 : v0 = setStream slot { x with freezes := rest } s) (hlimit : underLimit x.district 1 v0 = true)
    (hpage : findPage (vaultsOn x.district (rd .distCfgHome x.district v0) v0) false v0 = some vp)
    (hshare : shareChains slot n ((chainsOf slot v0).map (·.1)) (takePage x.district vp.1 vp.2 (.district x.district) v0) = some (cs, s1)) :
    getHandle h (createHandle slot s) = ⟨true, true, (getHandle h s1).released, x.district, n,
      (getParcel (rd .distCfgParcel x.district s1) s1).measure, 1, cs, vp⟩ := by
  have hstate : ¬(x.st ≠ .ready ∧ x.st ≠ .ending) := fun ⟨hr, he⟩ => hst.elim hr he
  simp only [createHandle, ← hx, hf, if_neg hstate, ← h0, hlimit, hpage, hshare, Bool.not_true, Bool.false_eq_true, if_false,
    Option.map_some]
  split
  · rw [getHandle_of_sort (sort_sendTwin ..), getHandle_setStream, getHandle_setHandle_same]
  · rw [getHandle_setStream, getHandle_setHandle_same]

end

/-- Settles O46: REBIND by its check and its sender's class, each waiting re-binding by `runOne_quiet` and `finishRebind_eq`, a FREEZE's
handle by `getHandle_createHandle`. -/
theorem rebindRules : Obligations.RebindRules := by
  intro e slot s u cs
  refine ⟨fun r h hr h4 => ?refused, fun h hnone hc cs' hcs' ps s1 hps h1 => ?accepted, fun h hnone hc => ?denied, fun h => ?recovering,
    fun h => ?run, fun r v => ⟨fun hq => runOne_not_quiet hq, fun hq live s1 hlive h1 => ⟨fun hgone => ?leaving,
      fun hgone t ht s4 h4 => ?finished⟩⟩, rfl, fun x h n rest v0 vp cs s1 hx hf hst h0 hlimit hpage hshare => ?handle⟩
  case refused => exact command_replies h (rebind_refused rfl hr) h4
  case accepted => exact command_waits h (rebind_accepted rfl hnone hc hcs' hps h1)
  case denied => exact command_denied h (rebind_denied rfl hnone hc)
  case recovering => exact next_settle_of_eq (rebindRun_recovering h)
  case run => exact next_settle_of_eq (rebindRun_free h)
  case leaving => exact (runOne_quiet hq hlive h1).trans (if_neg (Bool.eq_false_iff.1 hgone))
  case finished =>
    exact ⟨changeStatus live t.1.1 s1, _, ((runOne_quiet hq hlive h1).trans (if_pos hgone)).trans (finishRebind_eq ht h4), rfl,
      fun c _ hlost => if_pos hlost, fun c _ hlost => if_neg (not_not_intro hlost)⟩
  case handle =>
    have hmade := getHandle_createHandle hx hf hst h0 hlimit hpage hshare
    refine ⟨_, rfl, ?_⟩
    rw [hmade]
    exact ⟨rfl, rfl, rfl, rfl, rfl⟩

end Sys2Proof.Machine
end

section
/-!
PROOFS. Envelope rings and the indices that hosts write (R312, R364 to R366, R368, R384, R426).
-/

namespace Sys2Proof.Machine

/-! Doorbells and consumer indices (R318, R365, R366, R429). -/

section
variable {n v : Nat} {s : State}

theorem doorbell_within (h : 1 ≤ (v + 2 ^ 17 - rd .eringHeadIndex n s) % 2 ^ 17 ∧
    (v + 2 ^ 17 - rd .eringHeadIndex n s) % 2 ^ 17 ≤ 2 ^ rd .eringCfgLog2size n s) : doorbell n v s = wr .eringDbIndex n v s :=
  if_pos h

theorem doorbell_outside (h : ¬(1 ≤ (v + 2 ^ 17 - rd .eringHeadIndex n s) % 2 ^ 17 ∧
    (v + 2 ^ 17 - rd .eringHeadIndex n s) % 2 ^ 17 ≤ 2 ^ rd .eringCfgLog2size n s)) : doorbell n v s = flag .eringStatusDbErr n s :=
  if_neg h

/-- A consumer index within the span from the old one to the producer's is taken, and one beyond it sets the ring's CONS_ERR. -/
theorem next_consume (cons prod err : Reg) (w i v : Nat) (s : State) :
    ((v + 2 ^ w - rd cons i s) % 2 ^ w ≤ (rd prod i s + 2 ^ w - rd cons i s) % 2 ^ w →
      (.next (consume cons prod err w i v s) : Res) = .next (wr cons i v s)) ∧
    ((rd prod i s + 2 ^ w - rd cons i s) % 2 ^ w < (v + 2 ^ w - rd cons i s) % 2 ^ w →
      (.next (consume cons prod err w i v s) : Res) = .next (wr err i 1 s)) :=
  ⟨fun h => congrArg Host.Outcome.next (if_pos h), fun h => congrArg Host.Outcome.next (if_neg (Nat.not_le.2 h))⟩

end

/-! What STATUS.IDLE and OUTST show (R384). -/

section
variable (n : Nat) (s : State)

theorem rd_ringIdle_idle :
    rd .eringStatusIdle n (ringIdle n s) = natBool (!bit .eringCfgEn n s && (s.eng.outst.filter fun o => o.ring == n).length == 0) := by
  rw [ringIdle, rd_wr_field _ _ _ _ _ _ (by decide), rd_wr_same]
  cases !bit .eringCfgEn n s && (s.eng.outst.filter fun o => o.ring == n).length == 0 <;> rfl

theorem rd_ringIdle_other {f : Reg} (i : Nat) (hidle : f ≠ .eringStatusIdle) (hout : f ≠ .eringStatusOutst) :
    rd f i (ringIdle n s) = rd f i s := by
  rw [ringIdle, rd_wr_field _ _ _ _ _ _ hout, rd_wr_field _ _ _ _ _ _ hidle]

theorem eng_ringIdle : (ringIdle n s).eng = s.eng := by rw [ringIdle, wr_eng, wr_eng]

theorem ringEnable_false : ringEnable n false s = ringIdle n (wr .eringCfgEn n 0 s) := rfl

/-- A ring that is disabled has EN 0, keeps what is outstanding, and is idle where nothing is. -/
theorem ringEnable_false_leaves :
    rd .eringCfgEn n (ringEnable n false s) = 0 ∧ (ringEnable n false s).eng = s.eng ∧
      (rd .eringStatusIdle n (ringEnable n false s) = 1 ↔ (s.eng.outst.filter fun o => o.ring == n) = []) := by
  have hoff : rd .eringCfgEn n (wr .eringCfgEn n 0 s) = 0 := rd_wr_same ..
  refine ⟨?en, ?eng, ?idle⟩ <;> rw [ringEnable_false]
  case en => rw [rd_ringIdle_other n _ _ (by decide) (by decide), hoff]
  case eng => rw [eng_ringIdle, wr_eng]
  case idle =>
    rw [rd_ringIdle_idle, bit, hoff, wr_eng, ← List.length_eq_zero_iff]
    simp [natBool]

end

/-! The fetch of a slot (R366, R368). -/

/-- What the fetch of a ring's next slot needs: EN, a doorbell ahead of HEAD, a free slip position, fewer than 64 envelopes outstanding, a
READY device, no stop. -/
def MayFetch (n : Nat) (s : State) : Prop :=
  bit .eringCfgEn n s = true ∧ rd .eringDbIndex n s ≠ rd .eringHeadIndex n s ∧
    (rd .eringHeadIndex n s + 2 ^ 17 - rd .eringRconsIndex n s) % 2 ^ 17 < 2 ^ rd .eringCfgLog2size n s ∧
    (s.eng.outst.filter fun o => o.ring == n).length < 64 ∧ rd .brdevStatusPhase 0 s = 6 ∧ stopping s = false

/-- The ring after len bytes of its next slot were read: HEAD is one further, and the bytes are outstanding. -/
def slotTaken (n len : Nat) (raw : List Byte) (s : State) : State :=
  ringIdle n (wr .eringHeadIndex n (rd .eringHeadIndex n s + 1) (setEng { s.eng with
    outst := s.eng.outst ++ [⟨n, rd .eringHeadIndex n s, raw.take len, false, false, ringFunc n s⟩] }
      (readSlot n (rd .eringHeadIndex n s) len s)))

/-- The ring after a failed read of its next slot. -/
def ringFailed (n : Nat) (s : State) : State :=
  ringIdle n (flag .eringStatusFetchErr n (wr .eringCfgEn n 0 (readSlot n (rd .eringHeadIndex n s) 64 s)))

section
variable {n : Nat} {s : State} {raw : List Byte}

theorem fetchSlot_disabled (h : bit .eringCfgEn n s = false) (bad : Bool) : fetchSlot n raw bad s = s := by
  simp [fetchSlot, h]

section
variable (h : MayFetch n s)
include h

/-- None of the reasons not to fetch holds. -/
theorem fetch_not_barred : (!bit .eringCfgEn n s || rd .eringDbIndex n s == rd .eringHeadIndex n s ||
    decide (2 ^ rd .eringCfgLog2size n s ≤ (rd .eringHeadIndex n s + 2 ^ 17 - rd .eringRconsIndex n s) % 2 ^ 17) ||
    decide (64 ≤ (s.eng.outst.filter fun o => o.ring == n).length) || rd .brdevStatusPhase 0 s != 6 || stopping s) = false := by
  obtain ⟨hen, hdb, hroom, hout, hphase, hrun⟩ := h
  simp only [hen, hphase, hrun, beq_eq_false_iff_ne.2 hdb, decide_eq_false (Nat.not_le.2 hroom), decide_eq_false (Nat.not_le.2 hout)]
  rfl

theorem fetchSlot_failed : fetchSlot n raw true s = fetchEvent n (ringFailed n s) := by
  simp only [fetchSlot, fetch_not_barred h]
  rfl

theorem fetchSlot_listed {e : Env} {len : Nat} (he : e = ringEnv n (rd .eringHeadIndex n s) raw s)
    (hlen : len = if 64 ≤ envLen e ∧ envLen e ≤ 4096 then envLen e else 64)
    (hin : outsideTable { e with raw := raw.take len } = false) :
    fetchSlot n raw false s = slotTaken n len raw s := by
  subst he hlen
  simp only [fetchSlot, fetch_not_barred h, hin]
  rfl

end

theorem ringFailed_leaves (n : Nat) (s : State) :
    rd .eringCfgEn n (ringFailed n s) = 0 ∧ rd .eringStatusFetchErr n (ringFailed n s) = 1 ∧
      rd .eringHeadIndex n (ringFailed n s) = rd .eringHeadIndex n s ∧ (ringFailed n s).eng = s.eng := by
  simp only [ringFailed, rd_ringIdle_other, flag, rd_wr, ne_eq, reduceCtorEq, not_false_eq_true, false_and, and_self, if_false, if_true,
    eng_ringIdle, wr_eng]
  exact ⟨rfl, rfl, rfl, rfl⟩

theorem slotTaken_leaves (n len : Nat) (raw : List Byte) (s : State) :
    rd .eringHeadIndex n (slotTaken n len raw s) = (rd .eringHeadIndex n s + 1) % 2 ^ 17 ∧
      (slotTaken n len raw s).eng.outst = s.eng.outst ++ [⟨n, rd .eringHeadIndex n s, raw.take len, false, false, ringFunc n s⟩] ∧
      (slotTaken n len raw s).outbox = s.outbox ++ [.slotRead (n / 64)
        (4096 * (rd .eringBaseAddr n s + rd .eringHeadIndex n s % 2 ^ rd .eringCfgLog2size n s)) len] := by
  refine ⟨?head, rfl, ?read⟩
  case head =>
    rw [slotTaken, rd_ringIdle_other n _ _ (by decide) (by decide), rd_wr_same]
    rfl
  case read =>
    rw [Nat.mul_add, Nat.mul_comm 4096, Nat.mul_comm 4096]
    rfl

end

/-- Settles O30: doorbells by `doorbell_within` and `doorbell_outside`, consumer indices by `next_consume`, a fetch by `slotTaken` and
`ringFailed`. -/
theorem ringRules : Obligations.RingRules := by
  refine ⟨fun n r q v x s => ⟨fun h => ?within, fun h => ?outside,
      next_consume .eringRconsIndex .eringRprodIndex .eringStatusConsErr 17 ..,
      next_consume .dringConsIndex .dringProdIndex .dringStatusConsErr 21 ..,
      next_consume .rringConsIndex .rringProdIndex .rringStatusConsErr 17 ..⟩,
    fun n raw s => ⟨fun hen hdb hroom hout hphase hrun => ⟨fun e len he hlen hin => ?listed, ?failed⟩, fun h bad => ?disabled,
      ⟨_, rfl, ringEnable_false_leaves ..⟩⟩⟩
  case within =>
    exact ⟨_, congrArg Host.Outcome.next (doorbell_within h), (rd_wr_same ..).trans (Nat.mod_eq_of_lt v.isLt),
      fun f i hf => rd_wr_other _ s hf⟩
  case outside =>
    exact ⟨_, congrArg Host.Outcome.next (doorbell_outside h), rd_wr_same .., fun f i hf => rd_wr_other _ s hf⟩
  case listed =>
    exact ⟨_, congrArg Host.Outcome.next (fetchSlot_listed ⟨hen, hdb, hroom, hout, hphase, hrun⟩ he hlen hin), slotTaken_leaves ..⟩
  case failed =>
    exact ⟨_, congrArg Host.Outcome.next (fetchSlot_failed ⟨hen, hdb, hroom, hout, hphase, hrun⟩), ringFailed_leaves ..⟩
  case disabled => exact congrArg Host.Outcome.next (fetchSlot_disabled h bad)

end Sys2Proof.Machine
end

section
/-!
PROOFS. The checks of a submit (R290, R291).
-/

namespace Sys2Proof.Machine

/-- A SUBMIT to district 0 whose one stop token, at byte 80 of its specification, is 100; every other field lies in its range (R290). -/
def submitStopToken : Env :=
  { cls := .hosts, secured := false, port := 0, func := 0, via := .ring 0 0, input := [], outFault := false,
    raw := natLe 2 0x0401 ++ [1, 0] ++ natLe 2 576 ++ List.replicate 58 0 ++
      ([0, 0, 0, 1] ++ List.replicate 12 0 ++ natLe 4 1 ++ natLe 4 1 ++ natLe 4 1 ++ List.replicate 8 0 ++ natLe 4 0x3F800000 ++
        List.replicate 4 0 ++ natLe 4 0x3F800000 ++ List.replicate 32 0 ++ natLe 4 100 ++ List.replicate 428 0) }

/-- After reset, with a vocabulary of 100 tokens configured in district 0: a token of 100 lies outside it, the number 80 of a byte within. -/
def vocab100 : State := setDistrict 0 { samp := some ⟨100, []⟩ } State.reset

set_option maxRecDepth 4000 in
/-- The stop token is refused with INVALID_PARAMETER, before the state of the district is looked at (R291). -/
theorem status_submitCheck_stopToken : (submitCheck submitStopToken vocab100).map (·.status) = some 1 := by decide

set_option maxRecDepth 4000 in
/-- Refutes O41: the statement asks that the places of the tokens in the specification lie below VOCAB, and not the tokens; so it calls a
specification in range whose stop token is at VOCAB, and the model refuses that one with INVALID_PARAMETER. -/
theorem not_submitOrder : ¬ Obligations.SubmitOrder := by
  intro h
  obtain ⟨-, -, hrange⟩ := h submitStopToken vocab100
  obtain ⟨hinactive, -⟩ := hrange (.inl rfl) (by decide) (by decide) (by decide) (by decide) (by decide) (by decide) (by decide) (by decide)
    (by decide) (by decide) (by decide) (by decide)
  have hstatus := status_submitCheck_stopToken
  rw [hinactive (by decide)] at hstatus
  exact absurd hstatus (by decide)

end Sys2Proof.Machine
end

section
/-!
PROOFS. Grammar tables, delivery rings and receipt rings by envelope (R239, R307, R310, R356, R359, R371, R426).
-/

namespace Sys2Proof.Machine

/-! GRAMMAR_LOAD and GRAMMAR_UNLOAD (R307). -/

/-- What a GRAMMAR_LOAD does with a table b of n bytes that is well formed: pages are taken in place of the slot's old ones and written. -/
def storeGrammar (d g n : Nat) (b : List Byte) (s : State) : Ans × State :=
  let t := takePages d (ceilDiv n 65536) (unloadGrammar d g s)
  let w := writePages b t.1.2 t.2
  if t.1.1 ≠ 0 then (refuse t.1.1, s)
  else if !w.1 then (refuse 45, t.1.2.foldl (fun u p => freePage d p.1 p.2 u) w.2)
  else (okAns, updDistrict d (fun y => { y with grammars := y.grammars ++ [(g, ⟨t.1.2, n⟩)] }) w.2)

section
variable {d g n : Nat} {b : List Byte} {s : State} {t : (Nat × List (Nat × Nat)) × State}
  (ht : t = takePages d (ceilDiv n 65536) (unloadGrammar d g s)) (h0 : t.1.1 = 0)
include ht h0

theorem storeGrammar_written (hw : (writePages b t.1.2 t.2).1 = true) :
    storeGrammar d g n b s = (okAns, updDistrict d (fun y => { y with grammars := y.grammars ++ [(g, ⟨t.1.2, n⟩)] })
      (writePages b t.1.2 t.2).2) := by
  simp [storeGrammar, ← ht, h0, hw]

theorem storeGrammar_lost (hw : (writePages b t.1.2 t.2).1 = false) :
    storeGrammar d g n b s = (refuse 45, t.1.2.foldl (fun u p => freePage d p.1 p.2 u) (writePages b t.1.2 t.2).2) := by
  simp [storeGrammar, ← ht, h0, hw]

end

section
variable {e : Env} {s : State} (hg : pNat e 1 1 < 16) (hgate : districtGate e (pNat e 0 1) s = none)
include hg hgate

section
variable (hva : pNat e 8 6 < 2 ^ 43) (h0 : pNat e 16 4 ≠ 0) (hfull : pNat e 16 4 ≠ 2 ^ 32 - 1)
include hva h0 hfull

theorem doGrammarLoad_busy (hn : gramNamed (pNat e 0 1) (pNat e 1 1) s = true) : doGrammarLoad e s = (refuse 46, s) := by
  simp only [doGrammarLoad, if_neg (Nat.not_le.2 hg), if_neg (Nat.not_le.2 hva), if_neg h0, if_neg hfull, hgate, if_pos hn]

variable (hn : gramNamed (pNat e 0 1) (pNat e 1 1) s = false) (hhome : onHome (pNat e 0 1) (pNat e 8 6) (pNat e 16 4) s = true)
  {x : Option (List Byte) × State} (hx : x = dvaReadN (pNat e 0 1) (pNat e 8 6) (pNat e 16 4) srcDispatcher s)
include hn hhome hx

/-- A table on the district's home site is read for a slot that no stream names. -/
theorem doGrammarLoad_reads : doGrammarLoad e s = x.1.elim (refuse 45, x.2) fun b =>
    if grammarOk b then storeGrammar (pNat e 0 1) (pNat e 1 1) (pNat e 16 4) b x.2 else (refuse 45, x.2) := by
  subst hx
  simp only [doGrammarLoad, if_neg (Nat.not_le.2 hg), if_neg (Nat.not_le.2 hva), if_neg h0, if_neg hfull, hgate, hn, hhome]
  cases (dvaReadN (pNat e 0 1) (pNat e 8 6) (pNat e 16 4) srcDispatcher s).1 with
  | none => rfl
  | some b => cases hb : grammarOk b <;> simp [hb, storeGrammar]

theorem doGrammarLoad_unread (hnone : x.1 = none) : doGrammarLoad e s = (refuse 45, x.2) := by
  rw [doGrammarLoad_reads hg hgate hva h0 hfull hn hhome hx, hnone]
  rfl

theorem doGrammarLoad_of_read {b : List Byte} (hb : x.1 = some b) : doGrammarLoad e s =
    if grammarOk b then storeGrammar (pNat e 0 1) (pNat e 1 1) (pNat e 16 4) b x.2 else (refuse 45, x.2) := by
  rw [doGrammarLoad_reads hg hgate hva h0 hfull hn hhome hx, hb]
  rfl

end

theorem doGrammarUnload_empty (h : ∀ x ∈ (getDistrict (pNat e 0 1) s).grammars, x.1 ≠ pNat e 1 1) :
    doGrammarUnload e s = (refuse 44, s) := by
  have hany : ((getDistrict (pNat e 0 1) s).grammars.any fun x => x.1 == pNat e 1 1) = false := by simpa using h
  simp [doGrammarUnload, Nat.not_le.2 hg, hgate, hany]

theorem doGrammarUnload_held (h : ∃ x ∈ (getDistrict (pNat e 0 1) s).grammars, x.1 = pNat e 1 1) : doGrammarUnload e s =
    if gramNamed (pNat e 0 1) (pNat e 1 1) s then (refuse 46, s) else (okAns, unloadGrammar (pNat e 0 1) (pNat e 1 1) s) := by
  have hany : ((getDistrict (pNat e 0 1) s).grammars.any fun x => x.1 == pNat e 1 1) = true := by simpa using h
  simp [doGrammarUnload, Nat.not_le.2 hg, hgate, hany]

end

/-! RING_ENABLE and RING_DISABLE (R310). -/

theorem rd_clearRegs (p : Reg → Nat → Bool) (f : Reg) (i : Nat) (s : State) :
    rd f i (clearRegs p s) = if p f (i / (regInfo f).sub) then regDefault (regKey f i) else rd f i s := by
  have hlt := Reg.ctorIdx_lt f
  have hfield : Reg.ofNat (regKey f i % 512) = f := by
    rw [show regKey f i % 512 = f.ctorIdx by unfold regKey; omega, Reg.ofNat_ctorIdx]
  have hindex : regKey f i / 512 = i := by unfold regKey; omega
  refine (tget_filter_key regDefault (fun k => !p (Reg.ofNat (k % 512)) (k / 512 / (regInfo (Reg.ofNat (k % 512))).sub))
    s.regs (regKey f i)).trans ?_
  rw [hfield, hindex]
  cases p f (i / (regInfo f).sub) <;> rfl

theorem sub_of_dring_block (f : Reg) (h : (regInfo f).blk = .dring) : (regInfo f).sub = 1 := by
  revert h
  cases f <;> decide

/-- Ring r's block at its reset values but for what RING_ENABLE sets (R310). -/
def ringSetUp (e : Env) (r : Nat) (s : State) : State :=
  flag .dringCfgEn r (wr .dringCfgDistrict r (pNat e 3 1) (wr .dringCfgLog2size r (pNat e 4 1) (wr .dringCfgR193 r (pNat e 5 1)
    (wr .dringCfgPort r (pNat e 6 1) (wr .dringCfgVector r (pNat e 8 2) (wr .dringBaseAddr r (pNat e 16 8)
      (clearRegs (fun f i => (regInfo f).blk == .dring && i == r) s)))))))

theorem rd_ringSetUp_other {e : Env} {f : Reg} {i r : Nat} (h : (regInfo f).blk ≠ .dring ∨ i ≠ r) (s : State) :
    rd f i (ringSetUp e r s) = rd f i s := by
  have hkept : ¬((regInfo f).blk == .dring && i / (regInfo f).sub == r) = true := by
    simp only [Bool.and_eq_true, beq_iff_eq, not_and]
    intro hb
    rw [sub_of_dring_block f hb, Nat.div_one]
    exact h.resolve_left (not_not_intro hb)
  rw [ringSetUp, flag, rd_wr_block _ _ h rfl, rd_wr_block _ _ h rfl, rd_wr_block _ _ h rfl, rd_wr_block _ _ h rfl, rd_wr_block _ _ h rfl,
    rd_wr_block _ _ h rfl, rd_wr_block _ _ h rfl, rd_clearRegs, if_neg hkept]

section
variable {e : Env} {s : State}

section
variable (hlg : pNat e 4 1 ≤ 20) (hfmt : pNat e 5 1 < 2) (hport : pNat e 6 1 < 4) (hvec : pNat e 8 2 < 2048)
include hlg hfmt hport hvec

theorem rd_ringSetUp (r : Nat) (s : State) :
    ∀ x ∈ [(Reg.dringCfgEn, 1), (.dringCfgDistrict, pNat e 3 1), (.dringCfgLog2size, pNat e 4 1), (.dringCfgR193, pNat e 5 1),
      (.dringCfgPort, pNat e 6 1), (.dringCfgVector, pNat e 8 2), (.dringBaseAddr, pNat e 16 8)], rd x.1 r (ringSetUp e r s) = x.2 := by
  have hd : pNat e 3 1 < 2 ^ 8 := pNat_lt e 3 1
  have hbase : pNat e 16 8 < 2 ^ 64 := pNat_lt e 16 8
  simp only [ringSetUp, flag, List.forall_mem_cons, rd_wr, reduceCtorEq, if_false, if_true, List.not_mem_nil, false_imp_iff,
    implies_true, and_true]
  exact ⟨rfl, Nat.mod_eq_of_lt hd, Nat.mod_eq_of_lt (Nat.lt_of_le_of_lt hlg (by decide)), Nat.mod_eq_of_lt hfmt, Nat.mod_eq_of_lt hport,
    Nat.mod_eq_of_lt hvec, Nat.mod_eq_of_lt hbase⟩

variable (hr : pNat e 0 2 < 4096) (hlo : 4 ≤ pNat e 4 1) (hty : type2 (pNat e 6 1) s = true) (hbase : pNat e 16 8 % 64 = 0)
  (hmay : mayConfigure e (pNat e 6 1) = true) (hgate : districtGate e (pNat e 3 1) s = none)
include hr hlo hty hbase hmay hgate

theorem doRingEnable_eq : doRingEnable e s =
    if bit .dringCfgEn (pNat e 0 2) s then (refuse 37, s) else (okAns, ringSetUp e (pNat e 0 2) s) := by
  simp only [doRingEnable, if_neg (Nat.not_le.2 hr), if_neg (show ¬(pNat e 4 1 < 4 ∨ 20 < pNat e 4 1) by omega),
    if_neg (Nat.not_le.2 hfmt), hty, Bool.not_true, Bool.false_eq_true, or_false, if_neg (Nat.not_le.2 hport), if_neg (Nat.not_le.2 hvec),
    hbase, ne_eq, not_true_eq_false, if_false, hmay, hgate]
  rfl

end

section
variable (hr : pNat e 0 2 < 4096)
include hr

theorem doRingDisable_off (h : bit .dringCfgEn (pNat e 0 2) s = false) : doRingDisable e s = (refuse 37, s) := by
  simp [doRingDisable, Nat.not_le.2 hr, h]

theorem doRingDisable_on (h : bit .dringCfgEn (pNat e 0 2) s = true) (hmay : mayConfigure e (rd .dringCfgPort (pNat e 0 2) s) = true)
    (hst : rd .distCfgState (rd .dringCfgDistrict (pNat e 0 2) s) s ≠ 2) : doRingDisable e s =
      if rd .dringStatusStreams (pNat e 0 2) s ≠ 0 then (refuse 39, s) else (okAns, wr .dringCfgEn (pNat e 0 2) 0 s) := by
  simp [doRingDisable, Nat.not_le.2 hr, h, hmay, hst]

end

/-! RECEIPTS_ENABLE and RECEIPTS_DISABLE (R426). -/

section
variable (hr : pNat e 0 2 ≤ 256) (hst : pNat e 0 2 < 256 → rd .distCfgState (pNat e 0 2) s ≠ 2)
include hr hst

theorem doReceiptsEnable_ok (hport : pNat e 3 1 < 4) (hty : type2 (pNat e 3 1) s = true) (hlo : 4 ≤ pNat e 4 1) (hlg : pNat e 4 1 ≤ 16)
    (hvec : pNat e 6 2 < 2048) (hbase : pNat e 8 8 % 512 = 0) (hmay : mayConfigure e (pNat e 3 1) = true)
    (hoff : bit .rringCfgEn (pNat e 0 2) s = false) :
    doReceiptsEnable e s = (okAns, showHeld (pNat e 0 2) (flag .rringCfgEn (pNat e 0 2) (wr .rringCfgPort (pNat e 0 2) (pNat e 3 1)
      (wr .rringCfgLog2size (pNat e 0 2) (pNat e 4 1) (wr .rringCfgVector (pNat e 0 2) (pNat e 6 2)
        (wr .rringBaseAddr (pNat e 0 2) (pNat e 8 8 / 512)
          (clearRegs (fun f i => (regInfo f).blk == .rring && i == pNat e 0 2) s))))))) := by
  simp only [doReceiptsEnable, if_neg (Nat.not_lt.2 hr), hty, Bool.not_true, Bool.false_eq_true, or_false, if_neg (Nat.not_le.2 hport),
    if_neg (show ¬(pNat e 4 1 < 4 ∨ 16 < pNat e 4 1) by omega), if_neg (Nat.not_le.2 hvec), hbase, ne_eq, not_true_eq_false, if_false,
    hmay, if_neg (not_and.2 hst), hoff]

theorem doReceiptsDisable_ok (hon : bit .rringCfgEn (pNat e 0 2) s = true) (hmay : mayConfigure e (rd .rringCfgPort (pNat e 0 2) s) = true) :
    doReceiptsDisable e s = (okAns, wr .rringCfgEn (pNat e 0 2) 0 s) := by
  simp only [doReceiptsDisable, if_neg (Nat.not_lt.2 hr), hon, Bool.not_true, Bool.false_eq_true, if_false, hmay, if_neg (not_and.2 hst)]

end

end

/-- Settles O43: each envelope's case by its body's lemma and `command_answers`; what RING_ENABLE leaves is `ringSetUp`. -/
theorem ringEnvelopes : Obligations.RingEnvelopes := by
  intro e s
  refine ⟨fun h hg hva h0 hfull hgate => ⟨fun hn => ?loadBusy, fun hn hhome x hx => ⟨fun hnone => ?unread, fun b hb =>
      ⟨fun hbad => ?malformed, fun hok t ht ht0 => ⟨fun hw => ?loaded, fun hw => ?lost⟩⟩⟩⟩,
    fun h hg hgate => ⟨fun hno => ?empty, fun hheld => ⟨fun hn => ?unloadBusy, fun hn => ?unloaded⟩⟩,
    fun h hr hlo hlg hfmt hport hty hvec hbase hmay hgate => ⟨fun hon => ?enabled, fun hoff => ?setUp⟩,
    fun h hr => ⟨fun hoff => ?notEnabled, fun hon hmay hst => ⟨fun hused => ?used, fun hfree => ?disabled⟩⟩,
    fun h hr hport hty hlo hlg hvec hbase hmay hst hoff => ?receiptsOn, fun h hr hon hmay hst => ?receiptsOff⟩
  case loadBusy => exact command_answers h (doGrammarLoad_busy hg hgate hva h0 hfull hn) (by decide)
  case unread => exact command_answers h (doGrammarLoad_unread hg hgate hva h0 hfull hn hhome hx hnone) (by decide)
  case malformed =>
    exact command_answers h ((doGrammarLoad_of_read hg hgate hva h0 hfull hn hhome hx hb).trans (if_neg (Bool.eq_false_iff.1 hbad)))
      (by decide)
  case loaded =>
    exact command_answers h (((doGrammarLoad_of_read hg hgate hva h0 hfull hn hhome hx hb).trans (if_pos hok)).trans
      (storeGrammar_written ht ht0 hw)) (by decide)
  case lost =>
    exact command_answers h (((doGrammarLoad_of_read hg hgate hva h0 hfull hn hhome hx hb).trans (if_pos hok)).trans
      (storeGrammar_lost ht ht0 hw)) (by decide)
  case empty => exact command_answers h (doGrammarUnload_empty hg hgate hno) (by decide)
  case unloadBusy => exact command_answers h ((doGrammarUnload_held hg hgate hheld).trans (if_pos hn)) (by decide)
  case unloaded => exact command_answers h ((doGrammarUnload_held hg hgate hheld).trans (if_neg (Bool.eq_false_iff.1 hn))) (by decide)
  case enabled =>
    exact command_answers h ((doRingEnable_eq hlg hfmt hport hvec hr hlo hty hbase hmay hgate).trans (if_pos hon)) (by decide)
  case setUp =>
    exact ⟨_, command_answers h ((doRingEnable_eq hlg hfmt hport hvec hr hlo hty hbase hmay hgate).trans
      (if_neg (Bool.eq_false_iff.1 hoff))) (by decide), rd_ringSetUp hlg hfmt hport hvec _ _, fun f i hf => rd_ringSetUp_other hf _⟩
  case notEnabled => exact command_answers h (doRingDisable_off hr hoff) (by decide)
  case used => exact command_answers h ((doRingDisable_on hr hon hmay hst).trans (if_pos hused)) (by decide)
  case disabled => exact command_answers h ((doRingDisable_on hr hon hmay hst).trans (if_neg (not_not_intro hfree))) (by decide)
  case receiptsOn => exact command_answers h (doReceiptsEnable_ok hr hst hport hty hlo hlg hvec hbase hmay hoff) (by decide)
  case receiptsOff => exact command_answers h (doReceiptsDisable_ok hr hst hon hmay) (by decide)

end Sys2Proof.Machine
end

section
/-!
PROOFS. Packets that leave the device (R204, R215, R216, R325, R326), and the table of jobs: what sending changes of the state, and what an
update of jobs does.
-/

namespace Sys2Proof.Machine

/-! What is sent changes the flows, the packets that wait, the outbox, and the marks of discarded packets. -/

/-- Two states that differ only in the flows' sequence numbers, in the packets that wait, in the outbox, and in UNREACH and UNROUTED. -/
def OnlySends (s t : State) : Prop :=
  (∃ r f w o, t = { s with regs := r, fab := { s.fab with flows := f, packets := w }, outbox := o }) ∧
    ∀ f i, f ≠ .netStatusUnreach → f ≠ .nolucStatusUnrouted → rd f i t = rd f i s

namespace OnlySends
variable {s t u : State}

theorem refl (s : State) : OnlySends s s := ⟨⟨_, _, _, _, rfl⟩, fun _ _ _ _ => rfl⟩

theorem trans (a : OnlySends s t) (b : OnlySends t u) : OnlySends s u := by
  obtain ⟨⟨r, f, w, o, e⟩, ra⟩ := a
  obtain ⟨⟨r', f', w', o', e'⟩, rb⟩ := b
  exact ⟨⟨r', f', w', o', by rw [e', e]⟩, fun g i h h' => (rb g i h h').trans (ra g i h h')⟩

theorem foldl {β : Type} {f : State → β → State} (hf : ∀ u x, OnlySends u (f u x)) (l : List β) (s : State) :
    OnlySends s (l.foldl f s) :=
  List.foldlRecOn (motive := OnlySends s) l f (refl s) fun u ih x _ => ih.trans (hf u x)

/-- What the state is but for the fields that sending changes: everything of it is read off this equation. -/
theorem parts (h : OnlySends s t) :
    ∃ r f w o, t = { s with regs := r, fab := { s.fab with flows := f, packets := w }, outbox := o } := h.1

theorem rd_eq (h : OnlySends s t) {f : Reg} (i : Nat) (hf : f ≠ .netStatusUnreach) (hf' : f ≠ .nolucStatusUnrouted) :
    rd f i t = rd f i s := h.2 f i hf hf'

theorem bit_eq (h : OnlySends s t) {f : Reg} (i : Nat) (hf : f ≠ .netStatusUnreach) (hf' : f ≠ .nolucStatusUnrouted) :
    bit f i t = bit f i s := by rw [bit, h.rd_eq i hf hf', bit]

theorem getJob_eq (h : OnlySends s t) (j : Nat) : getJob j t = getJob j s := by
  obtain ⟨r, f, w, o, rfl⟩ := h.parts
  rfl

theorem districts_eq (h : OnlySends s t) : t.districts = s.districts := by
  obtain ⟨r, f, w, o, rfl⟩ := h.parts
  rfl

theorem sort_eq (h : OnlySends s t) : t.sort = s.sort := by
  obtain ⟨r, f, w, o, rfl⟩ := h.parts
  rfl

theorem portTakes_eq (h : OnlySends s t) (p : Nat) : portTakes p t = portTakes p s := by
  rw [portTakes, h.rd_eq p (by decide) (by decide), h.rd_eq p (by decide) (by decide), portTakes]

end OnlySends

section
variable (s : State)

theorem onlySends_unreach (i : Nat) : OnlySends s (flag .netStatusUnreach i s) :=
  ⟨⟨_, _, _, _, rfl⟩, fun _ _ h _ => rd_wr_field _ _ _ _ _ _ h⟩

theorem onlySends_unrouted (i : Nat) : OnlySends s (bump .nolucStatusUnrouted i s) :=
  ⟨⟨_, _, _, _, rfl⟩, fun _ _ _ h => rd_wr_field _ _ _ _ _ _ h⟩

theorem onlySends_emit (e : Emission) : OnlySends s (emit e s) := ⟨⟨_, _, _, _, rfl⟩, fun _ _ _ _ => rfl⟩

theorem onlySends_packets (w : List (Nat × Nat × Emission)) : OnlySends s { s with fab := { s.fab with packets := w } } :=
  ⟨⟨_, _, _, _, rfl⟩, fun _ _ _ _ => rfl⟩

theorem onlySends_launch (a p : Nat) (e : Emission) : OnlySends s (launch a p e s) := by
  unfold launch
  extract_lets b
  split
  · exact onlySends_unreach ..
  · split
    · exact onlySends_packets ..
    · exact onlySends_emit ..

theorem onlySends_relaunch : OnlySends s (relaunch s) := by
  refine (onlySends_packets s []).trans (.foldl (fun u x => ?_) _ _)
  split
  · exact onlySends_unrouted ..
  · exact onlySends_launch ..

theorem onlySends_sendPiece (a p dst : Nat) (k : FabKind) (bs : List Byte) : OnlySends s (sendPiece a p dst k s bs) :=
  OnlySends.trans ⟨⟨_, _, _, _, rfl⟩, fun _ _ _ _ => rfl⟩ (onlySends_launch ..)

theorem onlySends_offer (a : Nat) (ps : List Nat) (dst : Nat) (k : FabKind) (body : List Byte) :
    OnlySends s (offer a ps dst k body s) := by
  unfold offer
  extract_lets qs
  split
  · exact .refl s
  · split
    · exact onlySends_unreach ..
    · exact .foldl (fun u bs => onlySends_sendPiece u _ _ _ _ bs) _ _

theorem onlySends_send (j dst : Nat) (k : FabKind) (body : List Byte) : OnlySends s (send j dst k body s) := by
  unfold send
  split
  · exact onlySends_unrouted ..
  · exact onlySends_offer ..

theorem onlySends_sendTwin (a : Nat) (k : FabKind) (body : List Byte) : OnlySends s (sendTwin a k body s) := onlySends_offer ..

theorem onlySends_sendRing (j : Nat) (f : List Nat × Nat) (k : FabKind) (body : List Byte) : OnlySends s (sendRing j f k body s) :=
  onlySends_offer ..

theorem onlySends_ackRing (j idx : Nat) : OnlySends s (ackRing j idx s) := onlySends_send ..

theorem onlySends_sendMarker (src : Option Nat) (m : Marker) : OnlySends s (sendMarker src m s) :=
  .foldl (fun _ _ => onlySends_launch ..) _ _

end

@[simp] theorem rd_emit (f : Reg) (i : Nat) (e : Emission) (s : State) : rd f i (emit e s) = rd f i s := rfl
@[simp] theorem bit_emit (f : Reg) (i : Nat) (e : Emission) (s : State) : bit f i (emit e s) = bit f i s := rfl
@[simp] theorem emit_outbox (e : Emission) (s : State) : (emit e s).outbox = s.outbox ++ [e] := rfl

/-- The port that a packet takes is one of those that it may take. -/
theorem pickPort_mem (src dst : Nat) {ps : List Nat} (h : ps ≠ []) : pickPort src dst ps ∈ ps := by
  have hlen : 0 < ps.length := List.length_pos_iff.2 h
  have hlt : Config.routeHash src dst % max 1 ps.length < ps.length := by
    rw [Nat.max_eq_right hlen]
    exact Nat.mod_lt _ hlen
  rw [pickPort, List.getD_eq_getElem _ _ hlt]
  exact List.getElem_mem hlt

section
variable {a p : Nat} {e : Emission} {s : State}

theorem launch_discarded (h : s.net.out.contains (fabricPortSite p s) = true ∨ unreachable a (fabricPortSite p s) s = true) :
    launch a p e s = flag .netStatusUnreach a s :=
  if_pos (Bool.or_eq_true _ _ ▸ h)

section
variable (hout : s.net.out.contains (fabricPortSite p s) = false) (hway : unreachable a (fabricPortSite p s) s = false)
include hout hway

theorem launch_held (h : pathHeld a (fabricPortSite p s) s = true ∨ rd .nolucpPortState p s = 1) :
    launch a p e s = { s with fab := { s.fab with packets := s.fab.packets ++ [(a, p, e)] } } := by
  have hheld : (pathHeld a (fabricPortSite p s) s || rd .nolucpPortState p s == 1) = true := by simpa using h
  simp only [launch, hout, hway, hheld, Bool.or_false, Bool.false_eq_true, if_false, if_true]

theorem launch_emits (h : pathHeld a (fabricPortSite p s) s = false) (hst : rd .nolucpPortState p s ≠ 1) : launch a p e s = emit e s := by
  have hfree : (pathHeld a (fabricPortSite p s) s || rd .nolucpPortState p s == 1) = false := by simp [h, hst]
  simp only [launch, hout, hway, hfree, Bool.or_false, Bool.false_eq_true, if_false]

end

end

/-! The table of jobs (R334). -/

/-- Two states that differ only in the table of jobs. -/
def OnlyJobs (s t : State) : Prop := ∃ j, t = setFab { s.fab with jobs := j } s

namespace OnlyJobs
variable {s t u : State}

theorem refl (s : State) : OnlyJobs s s := ⟨_, rfl⟩

theorem trans (a : OnlyJobs s t) (b : OnlyJobs t u) : OnlyJobs s u := by
  obtain ⟨j, rfl⟩ := a
  obtain ⟨j', rfl⟩ := b
  exact ⟨j', rfl⟩

theorem foldl {β : Type} {f : State → β → State} (hf : ∀ u x, OnlyJobs u (f u x)) (l : List β) (s : State) :
    OnlyJobs s (l.foldl f s) :=
  List.foldlRecOn (motive := OnlyJobs s) l f (refl s) fun u ih x _ => ih.trans (hf u x)

theorem rd_eq (h : OnlyJobs s t) (f : Reg) (i : Nat) : rd f i t = rd f i s := by
  obtain ⟨j, rfl⟩ := h
  rfl

end OnlyJobs

theorem onlyJobs_setJob (j : Nat) (x : JobX) (s : State) : OnlyJobs s (setJob j x s) := ⟨_, rfl⟩
theorem onlyJobs_updJob (j : Nat) (f : JobX → JobX) (s : State) : OnlyJobs s (updJob j f s) := ⟨_, rfl⟩

@[simp] theorem getJob_setJob_same (j : Nat) (x : JobX) (s : State) : getJob j (setJob j x s) = x := tget_tset_same ..
@[simp] theorem getJob_updJob_same (j : Nat) (f : JobX → JobX) (s : State) : getJob j (updJob j f s) = f (getJob j s) := tget_tset_same ..

theorem getJob_updJob (j k : Nat) (f : JobX → JobX) (s : State) :
    getJob k (updJob j f s) = if k = j then f (getJob j s) else getJob k s := tget_tset ..

@[simp] theorem getJob_wr (j : Nat) (f : Reg) (i v : Nat) (s : State) : getJob j (wr f i v s) = getJob j s := rfl
@[simp] theorem getJob_flag (j : Nat) (f : Reg) (i : Nat) (s : State) : getJob j (flag f i s) = getJob j s := rfl
@[simp] theorem getJob_emit (j : Nat) (e : Emission) (s : State) : getJob j (emit e s) = getJob j s := rfl
@[simp] theorem getJob_addDue (j : Nat) (x : Due) (s : State) : getJob j (addDue x s) = getJob j s := rfl
@[simp] theorem rd_setJob (f : Reg) (i j : Nat) (x : JobX) (s : State) : rd f i (setJob j x s) = rd f i s := rfl
@[simp] theorem rd_updJob (f : Reg) (i j : Nat) (g : JobX → JobX) (s : State) : rd f i (updJob j g s) = rd f i s := rfl

end Sys2Proof.Machine
end

section
/-!
PROOFS. Circulation (R325, R327, R351 to R353): what is dropped, what is taken, and what goes on round the ring.
-/

namespace Sys2Proof.Machine

section
variable {j : Nat} {s : State}

/-! What is dropped. -/

theorem circReceived_dropped {b : CircBlock} {sig : CircSem}
    (h : bit .jobCfgMember j s = false ∨ (getJob j s).circ = none ∨ 2 ≤ (getJob j s).blocks.length) : circReceived j b sig s = s := by
  refine if_pos ?_
  rcases h with h | h | h <;> simp [h]

theorem queryReceived_dropped {stream pos : Nat} {q : List Byte} {own : Partial}
    (h : bit .jobCfgMember j s = false ∨ (getJob j s).circ = none) : queryReceived j stream pos q own s = s := by
  refine if_pos ?_
  rcases h with h | h <;> simp [h]

theorem partialReceived_dropped {p own : Partial}
    (h : bit .jobCfgMember j s = false ∨ (getJob j s).circ = none) : partialReceived j p own s = s := by
  refine if_pos ?_
  rcases h with h | h <;> simp [h]

theorem circSend_stranger (h : bit .jobCfgMember j s = false) (own : Option (Nat × Nat)) (con : Option CircSem) :
    circSend j own con s = s := if_pos (by simp [h])

/-! What is received. -/

section
variable (hm : bit .jobCfgMember j s = true) (hc : (getJob j s).circ ≠ none)
include hm hc

theorem circReceived_taken {b : CircBlock} {sig : CircSem} (h : (getJob j s).blocks.length < 2) :
    circReceived j b sig s = countAt (rd .distCfgHome (rd .jobCfgDistrict j s) s) sig.core sig.sem sig.count
      (ackRing j (ringBefore j s) (meetPosition j b.stream b.first (setJob j { getJob j s with blocks := (getJob j s).blocks ++
        [{ block := { b with hops := b.hops + 1 }, forwarded := decide ((getJob j s).members.length ≤ b.hops + 2) }] } s))) :=
  if_neg (by simp [hm, hc, h])

/-- A query that arrives is kept; what goes out because of it changes nothing of the job. -/
theorem queryReceived_taken {stream pos : Nat} {q : List Byte} {own : Partial} :
    OnlySends (meetPosition j stream pos (setJob j { getJob j s with
      queries := (getJob j s).queries.filter (fun y => y.1 != stream) ++ [(stream, q)] } s)) (queryReceived j stream pos q own s) := by
  unfold queryReceived
  extract_lets x s0 s1
  rw [if_neg (by simp [hm, x, hc])]
  have hs1 : OnlySends (meetPosition j stream pos s0) s1 := onlySends_ackRing ..
  split
  · split
    · exact hs1.trans (onlySends_sendRing ..)
    · exact hs1
  · exact hs1

theorem partialReceived_last {p own : Partial} (h : (getJob j s).members.length ≤ p.hops + 2) :
    partialReceived j p own s = ackRing j (ringBefore j s) (setJob j { getJob j s with
      partials := (getJob j s).partials.filter (fun y => y.stream != p.stream) ++ [mergePartial own p] } s) := by
  unfold partialReceived
  extract_lets x m
  exact (if_neg (by simp [hm, x, hc])).trans (if_pos h)

end

/-- The next device of the ring is that of the job and its ports, which sending leaves alone. -/
theorem OnlySends.nextInRing_eq {t : State} (h : OnlySends s t) (j : Nat) : nextInRing j t = nextInRing j s := by
  simp only [nextInRing, h.getJob_eq, h.portTakes_eq, h.rd_eq (f := .jobCfgJobidx) j (by decide) (by decide)]

theorem partialReceived_forwards {p own : Partial} {f : List Nat × Nat} (hm : bit .jobCfgMember j s = true)
    (hc : (getJob j s).circ ≠ none) (h : p.hops + 2 < (getJob j s).members.length) (hf : nextInRing j s = some f) :
    partialReceived j p own s =
      sendRing j f .partialState (partialBytes (mergePartial own p)) (ackRing j (ringBefore j s) s) := by
  have hf' : nextInRing j (ackRing j (ringBefore j s) s) = some f := ((onlySends_ackRing ..).nextInRing_eq j).trans hf
  unfold partialReceived
  extract_lets x m s1
  refine (if_neg (by simp [hm, x, hc])).trans ((if_neg (Nat.not_le.2 h)).trans ?_)
  simp only [s1, hf']
  rfl

/-! What is sent. -/

section
variable {f : List Nat × Nat}

theorem forwardBlock_none (h : ∀ y ∈ (getJob j s).blocks, y.forwarded = true) : forwardBlock j f s = s := by
  have hnone : ((getJob j s).blocks.findIdx? fun b => !b.forwarded) = none :=
    List.findIdx?_eq_none_iff.2 fun y hy => by simp [h y hy]
  simp only [forwardBlock, hnone]

theorem forwardBlock_first {y : CircBuf} {rest : List CircBuf} (hb : (getJob j s).blocks = y :: rest) (hy : y.forwarded = false) :
    forwardBlock j f s = sendRing j f .circBlock (circBytes y.block)
      (setJob j { getJob j s with blocks := heldBlocks ({ y with forwarded := true } :: rest) } s) := by
  simp [forwardBlock, hb, hy, List.findIdx?_cons]

variable (hm : bit .jobCfgMember j s = true) (hf : nextInRing j s = some f)
include hm hf

theorem circSend_received : circSend j none none s = forwardBlock j f s := by
  simp [circSend, hm, hf]

theorem circSend_own {k c : Nat} (hst : (getStream k s).st = .running) (hd : (getStream k s).district = rd .jobCfgDistrict j s)
    (ho : (getChain k c s).opened = true) :
    circSend j (some (k, c)) none s = sendRing j f .circBlock (circBytes (ownBlock k c s)) s := by
  simp [circSend, hm, hf, hst, hd, ho]

end

/-! Packets on the ring (R325, R326). -/

theorem sendRing_unreached {f : List Nat × Nat} {k : FabKind} {body : List Byte} (hf : f.1 ≠ [])
    (h : portsFrom (rd .distCfgHome (rd .jobCfgDistrict j s) s) f.1 s = []) :
    sendRing j f k body s = flag .netStatusUnreach (rd .distCfgHome (rd .jobCfgDistrict j s) s) s :=
  (if_neg hf).trans (if_pos h)

theorem sendRing_pieces {f : List Nat × Nat} {k : FabKind} {body : List Byte} (hf : f.1 ≠ [])
    (h : portsFrom (rd .distCfgHome (rd .jobCfgDistrict j s) s) f.1 s ≠ []) :
    ∃ r ∈ portsFrom (rd .distCfgHome (rd .jobCfgDistrict j s) s) f.1 s, sendRing j f k body s =
      (pieces4k body).foldl (sendPiece (rd .distCfgHome (rd .jobCfgDistrict j s) s) r f.2 k) s :=
  ⟨_, pickPort_mem _ _ h, (if_neg hf).trans (if_neg h)⟩

end

section
variable {a r dst : Nat} {k : FabKind} {bs : List Byte} {s : State}

/-- The state with the next sequence number of a flow used. -/
def flowCounted (dst : Nat) (k : FabKind) (s : State) : State :=
  let f := 4 * dst + kindClass k
  { s with fab := { s.fab with flows := tset (fun _ => 0) s.fab.flows f (tget (fun _ => 0) s.fab.flows f + 1) } }

theorem sendPiece_eq : sendPiece a r dst k s bs = launch a r (.fabric r dst (rd .nolucStatusFid 0 s) (kindClass k)
    (tget (fun _ => 0) s.fab.flows (4 * dst + kindClass k)) k bs) (flowCounted dst k s) := rfl

theorem flows_launch (a p : Nat) (e : Emission) (s : State) : (launch a p e s).fab.flows = s.fab.flows := by
  unfold launch
  extract_lets b
  split
  · rfl
  · split <;> rfl

theorem flows_sendPiece : tget (fun _ => 0) (sendPiece a r dst k s bs).fab.flows (4 * dst + kindClass k) =
    tget (fun _ => 0) s.fab.flows (4 * dst + kindClass k) + 1 := by
  rw [sendPiece_eq, flows_launch]
  unfold flowCounted
  rw [tget_tset_same]

theorem outbox_sendPiece (hout : s.net.out.contains (fabricPortSite r s) = false) (hway : unreachable a (fabricPortSite r s) s = false)
    (hheld : pathHeld a (fabricPortSite r s) s = false) (hst : rd .nolucpPortState r s ≠ 1) :
    (sendPiece a r dst k s bs).outbox = s.outbox ++
      [.fabric r dst (rd .nolucStatusFid 0 s) (kindClass k) (tget (fun _ => 0) s.fab.flows (4 * dst + kindClass k)) k bs] := by
  rw [sendPiece_eq, launch_emits (s := flowCounted dst k s) hout hway hheld hst]
  rfl

end

theorem length_of_mem_pieces4k {body x : List Byte} (h : x ∈ pieces4k body) : x.length ≤ 4096 := by
  obtain ⟨i, -, rfl⟩ := List.mem_map.1 h
  exact List.length_take_le ..

/-- Settles O54: a received block, query or partial state by membership and by its hops, a send by what is still to be forwarded, and a
packet by the ports that the home site reaches; what is sent leaves the job and its ring alone (`OnlySends`). -/
theorem circulationRules : Obligations.CirculationRules := by
  intro j b sig stream pos q p own s x home
  refine ⟨fun h => ⟨?_, ?_, ?_⟩, fun h o k => ?stranger, fun h => ?third, fun hm hc => ⟨fun h => ?block, fun u h => ?count, ?query,
      fun h => ?last, fun f h hf => ?forward⟩,
    fun f hm hf => ⟨fun h => ?none, fun y rest hb hy => ?first, fun k c hst hd ho => ?own⟩,
    fun f k body hf => ⟨fun h => sendRing_unreached hf h, fun h => sendRing_pieces hf h⟩,
    fun r dst k bs u hu n hn => ?piece, fun body x hx => length_of_mem_pieces4k hx, rfl, rfl⟩
  · exact next_settle_of_eq (circReceived_dropped (h.imp_right .inl))
  · exact congrArg Host.Outcome.next (queryReceived_dropped h)
  · exact congrArg Host.Outcome.next (partialReceived_dropped h)
  case stranger => exact congrArg Host.Outcome.next (circSend_stranger h o k)
  case third => exact next_settle_of_eq (circReceived_dropped (.inr (.inr h)))
  case block => exact next_settle_of_eq (circReceived_taken hm hc h)
  case count => exact if_neg (Bool.eq_false_iff.1 h)
  case query =>
    have hsent := queryReceived_taken (stream := stream.toNat) (pos := pos) (q := q) (own := own) hm hc
    refine ⟨_, rfl, ?_, fun f i hu hn => hsent.rd_eq i hu hn⟩
    rw [hsent.getJob_eq, meetPosition, getJob_updJob_same, getJob_setJob_same]
  case last =>
    refine ⟨_, congrArg Host.Outcome.next (partialReceived_last hm hc h), ?_⟩
    rw [(onlySends_ackRing ..).getJob_eq, getJob_setJob_same]
  case forward => exact congrArg Host.Outcome.next (partialReceived_forwards hm hc h hf)
  case none => exact congrArg Host.Outcome.next ((circSend_received hm hf).trans (forwardBlock_none h))
  case first => exact congrArg Host.Outcome.next ((circSend_received hm hf).trans (forwardBlock_first hb hy))
  case own => exact congrArg Host.Outcome.next (circSend_own hm hf hst hd ho)
  case piece =>
    subst hu hn
    exact ⟨flows_sendPiece, outbox_sendPiece⟩

end Sys2Proof.Machine
end

section
/-!
PROOFS. Fabric links, packets and frames (R320 to R327, R346, R354).
-/

namespace Sys2Proof.Machine

section
variable {s : State} {p : Nat}

/-! Links (R323, R324). -/

theorem rd_showTwinPorts_other {f : Reg} (i : Nat) (hf : f ≠ .twinStatusPorts) (s : State) : rd f i (showTwinPorts s) = rd f i s :=
  rd_wr_field _ _ _ _ _ _ hf

/-- The port is up as a link has come up on it, with the peer, its delay and its serial number. -/
def portRaised (p fid serial delay : Nat) (x4 : Bool) (s : State) : State :=
  let s1 := wr .nolucpPortState p (if x4 then 3 else 2) (wr .nolucpPortPeer p fid (wr .nolucpPortDelay p delay s))
  setFab { s1.fab with serials := tset noSerial s1.fab.serials p serial } s1

section
variable {fid serial delay : Nat} {x4 pr : Bool}

theorem linkUp_otherMode (h : rd .nolucpPortMode p s ≠ 1) : linkUp p fid serial delay x4 pr s = s := if_pos h

variable (h : rd .nolucpPortMode p s = 1)
include h

theorem linkUp_sameFid (hf : fid = ownFid s) :
    linkUp p fid serial delay x4 pr s = note 255 p fid 0 (portLost (wr .nolucpPortState p 0 s)) :=
  (if_neg (not_not_intro h)).trans (if_pos hf)

theorem linkUp_peer (hf : fid ≠ ownFid s) :
    linkUp p fid serial delay x4 pr s = formPair pr (showTwinPorts (relaunch (portRaised p fid serial delay x4 s))) :=
  (if_neg (not_not_intro h)).trans (if_neg hf)

end

theorem rd_portRaised (fid serial delay : Nat) (x4 : Bool) :
    rd .nolucpPortState p (portRaised p fid serial delay x4 s) = (if x4 then 3 else 2) ∧
      rd .nolucpPortPeer p (portRaised p fid serial delay x4 s) = fid % 2 ^ 10 ∧
      rd .nolucpPortDelay p (portRaised p fid serial delay x4 s) = delay % 2 ^ 17 := by
  refine ⟨(rd_wr_same ..).trans (by cases x4 <;> rfl), ?_, ?_⟩
  · exact (rd_wr_field _ _ _ _ _ _ (by decide)).trans (rd_wr_same ..)
  · exact ((rd_wr_field _ _ _ _ _ _ (by decide)).trans (rd_wr_field _ _ _ _ _ _ (by decide))).trans (rd_wr_same ..)

theorem OnlySends.serials_eq {t : State} (h : OnlySends s t) : t.fab.serials = s.fab.serials := by
  obtain ⟨r, f, w, o, rfl⟩ := h.parts
  rfl

theorem tget_serials_portRaised (fid serial delay : Nat) (x4 : Bool) :
    tget noSerial (portRaised p fid serial delay x4 s).fab.serials p = serial := tget_tset_same noSerial s.fab.serials p serial

theorem fabricLane_ignored {failed : Nat} (h : rd .nolucpPortMode p s ≠ 1 ∨ rd .nolucpPortState p s = 0 ∨ failed = 0) :
    fabricLane p failed s = s := if_pos h

theorem fabricLane_failed {failed : Nat} (hm : rd .nolucpPortMode p s = 1) (hst : rd .nolucpPortState p s ≠ 0) (hf : failed ≠ 0) :
    fabricLane p failed s = portLost (wr .nolucpPortState p (if bothHalves failed then 0 else 1) s) :=
  if_neg (by simp [hm, hst, hf])

/-- In a device without a twin a port that goes down or trains makes no stream lapse. -/
theorem portLost_unpaired (h : bit .twinCfgPaired 0 s = false) : portLost s = showTwinPorts (relaunch s) := by
  have hb : bit .twinCfgPaired 0 (showTwinPorts (relaunch s)) = false := by
    rw [bit, rd_showTwinPorts_other 0 (by decide), ← bit, (onlySends_relaunch s).bit_eq 0 (by decide) (by decide), h]
  exact if_neg (by simp [hb])

theorem rd_portLost_unpaired (h : bit .twinCfgPaired 0 s = false) {f : Reg} (i : Nat)
    (hf : f ∉ [Reg.twinStatusPorts, .nolucStatusUnrouted, .netStatusUnreach]) : rd f i (portLost s) = rd f i s := by
  obtain ⟨hports, hunrouted, hunreach⟩ : f ≠ .twinStatusPorts ∧ f ≠ .nolucStatusUnrouted ∧ f ≠ .netStatusUnreach := by simpa using hf
  rw [portLost_unpaired h, rd_showTwinPorts_other i hports, (onlySends_relaunch s).rd_eq i hunreach hunrouted]

/-! Packets (R326, R343, R346). -/

theorem packetIn_down {dst src : Nat} {body : List Byte} (h : portUp p s = false) : packetIn p dst src body s = s :=
  if_pos (by simp [h])

section
variable {src : Nat} {body : List Byte} (hup : portUp p s = true)
include hup

theorem packetIn_consumed :
    packetIn p (ownFid s) src body s = if bit .twinCfgPaired 0 s && src == rd .twinCfgPeer 0 s && body.length == 9
      then copyAcked (leNat (body.take 8)) (leNat (body.drop 8)) s else s := by
  simp [packetIn, hup]

variable {dst : Nat} (hd : dst ≠ ownFid s)
include hd

theorem packetIn_unrouted (h : egress dst s = []) : packetIn p dst src body s = bump .nolucStatusUnrouted 0 s := by
  simp [packetIn, hup, hd, h]

theorem packetIn_routed (h : egress dst s ≠ []) :
    packetIn p dst src body s = launch (fabricPortSite p s) (pickPort src dst (egress dst s))
      (.forward (pickPort src dst (egress dst s)) dst src body) s := by
  unfold packetIn
  rw [if_neg (by simp [hup]), if_neg hd]
  split
  · next he => exact absurd he h
  · rfl

end

theorem copyAcked_stranger {id st : Nat} (h : ∀ x ∈ s.sort.streams, x.2.st = .free ∨ x.2.shadow = true ∨ x.2.id ≠ id) :
    copyAcked id st s = s := by
  have hnone : (s.sort.streams.find? fun x => x.2.st != .free && !x.2.shadow && x.2.id == id) = none := by
    refine List.find?_eq_none.2 fun x hx => ?_
    rcases h x hx with h | h | h <;> simp [h]
  simp only [copyAcked, hnone]

section
variable {id st k : Nat} {x : Stream}
  (h : (s.sort.streams.find? fun x => x.2.st != .free && !x.2.shadow && x.2.id == id) = some (k, x))
include h

theorem copyAcked_refused (hst : st ≠ 0) :
    copyAcked id st s = lapse k (updStream k (fun y => { y with resync := false, resynced := false }) s) := by
  simp only [copyAcked, h, hst, ne_eq, not_false_eq_true, if_true]

theorem copyAcked_taken : copyAcked id 0 s = if x.resync = true then updStream k (fun y => { y with resynced := true }) s else s := by
  simp only [copyAcked, h, ne_eq, not_true_eq_false, if_false]

end

/-! Frames (R320). -/

theorem frameIn_otherMode {len : Nat} {o : Bool} (h : rd .nolucpPortMode p s ≠ 2) : frameIn p len o s = s := if_pos h

theorem frameIn_ethernet {len : Nat} {o : Bool} (h : rd .nolucpPortMode p s = 2) :
    frameIn p len o s = if o then bump .nolucpPortReplay p s else if 9216 < len then s else emit (.frame p len) s :=
  if_neg (not_not_intro h)

end

/-- Settles O51, by the mode and state of the port, then by the packet's destination and the ways to its port, and by what waits for the
acknowledgement; packets that are tried again with a port leave the registers alone but for the marks of discarded ones (`OnlySends`). -/
theorem linkRules : Obligations.LinkRules := by
  intro p fid src serial delay x4 pr failed body len s
  refine ⟨fun h => next_settle_of_eq (linkUp_otherMode h), fun h hf => next_settle_of_eq (linkUp_sameFid h hf), fun h hf => ?up,
    fun hm hst hf hp => ?lanes, fun h => ?ignored, ⟨_, rfl, fun f i h => rd_bump_other h s, rd_bump_same ..⟩,
    fun h => congrArg Host.Outcome.next (packetIn_down h), fun hup hd => ?consumed, fun id st h => copyAcked_stranger h,
    fun id st k x h => ⟨copyAcked_refused h, fun hst => hst ▸ copyAcked_taken h⟩,
    fun hup hd => ⟨fun h => congrArg Host.Outcome.next (packetIn_unrouted hup hd h), fun h => ?routed⟩,
    fun h o => congrArg Host.Outcome.next (frameIn_otherMode h),
    fun h => ⟨?beyond, fun hl => ?passed, fun hl => ?long⟩, fun g ch h => next_settle_of_eq (if_pos h), fun k => rfl,
    fun j h => next_settle_of_eq (if_pos h)⟩
  case up =>
    obtain ⟨hstate, hpeer, hdelay⟩ := rd_portRaised (s := s) (p := p) fid.toNat serial.toNat delay.toNat x4
    have hsent := onlySends_relaunch (portRaised p fid.toNat serial.toNat delay.toNat x4 s)
    refine ⟨_, next_settle_of_eq (linkUp_peer h hf), ?_, ?_, ?_, ?_⟩
    · rw [hsent.rd_eq _ (by decide) (by decide), hstate]
    · rw [hsent.rd_eq _ (by decide) (by decide), hpeer, Nat.mod_eq_of_lt fid.isLt]
    · rw [hsent.rd_eq _ (by decide) (by decide), hdelay, Nat.mod_eq_of_lt delay.isLt]
    · rw [hsent.serials_eq, tget_serials_portRaised]
  case lanes =>
    have hfail : failed.toNat ≠ 0 := fun h0 => hf (BitVec.eq_of_toNat_eq h0)
    refine ⟨_, next_settle_of_eq (fabricLane_failed hm hst hfail), fun f i hfi => ?_⟩
    have hp' : bit .twinCfgPaired 0 (wr .nolucpPortState p (if bothHalves failed.toNat = true then 0 else 1) s) = false := by
      rw [bit, rd_wr_field _ _ _ _ _ _ (by decide), ← bit, hp]
    rw [rd_portLost_unpaired hp' i hfi, rd_wr]
    cases bothHalves failed.toNat <;> rfl
  case ignored =>
    refine next_settle_of_eq (fabricLane_ignored (h.imp_right (Or.imp_right fun h0 => ?_)))
    rw [h0]
    rfl
  case consumed =>
    have hin : exec (.transportPacket p fid src body) s = .next (packetIn p fid.toNat src.toNat body s) := rfl
    rw [hin, hd, packetIn_consumed hup]
    refine ⟨fun h => ?_, fun ht hsrc hlen => ?_⟩
    · rw [if_neg]
      rcases h with h | h | h <;> simp [h]
    · rw [if_pos (by simp [ht, hsrc, hlen])]
  case routed =>
    have hin : exec (.transportPacket p fid src body) s = .next (packetIn p fid.toNat src.toNat body s) := rfl
    rw [hin, packetIn_routed hup hd h]
    refine ⟨_, pickPort_mem src.toNat fid.toNat h, ?_⟩
    rintro a b rfl rfl
    exact ⟨fun hno => congrArg Host.Outcome.next (launch_discarded hno), fun hout hway =>
      ⟨fun hheld => congrArg Host.Outcome.next (launch_held hout hway hheld),
        fun hfree hst => congrArg Host.Outcome.next (launch_emits hout hway hfree hst)⟩⟩
  case beyond => exact congrArg Host.Outcome.next (frameIn_ethernet h)
  case passed => exact congrArg Host.Outcome.next ((frameIn_ethernet h).trans (if_neg (Nat.not_lt.2 hl)))
  case long => exact congrArg Host.Outcome.next ((frameIn_ethernet h).trans (if_pos hl))

end Sys2Proof.Machine
end

section
/-!
PROOFS. Jobs and leases (R336 to R341, R372): reports of members, splits, leases, and which grants are used.
-/

namespace Sys2Proof.Machine

section
variable {j : Nat} {s : State}

/-! Reports of a job's members (R336, R337, R339). -/

theorem onlyJobs_learnMember (j fid : Nat) (s : State) : OnlyJobs s (learnMember j fid s) := by
  unfold learnMember
  split
  · exact .refl s
  · exact onlyJobs_updJob ..

/-- A member that becomes known adds to the members and to nothing else of the job that is asked for here. -/
theorem getJob_learnMember {α : Type} {g : JobX → α} (hg : ∀ x m q, g { x with members := m, quiet := q } = g x) (j fid : Nat)
    (s : State) : g (getJob j (learnMember j fid s)) = g (getJob j s) := by
  unfold learnMember
  split
  · rfl
  · rw [getJob_updJob_same, hg]

theorem slowRequest_unheard {fid cause mhz : Nat} (h : hears j s = false) : slowRequest j fid cause mhz s = s :=
  if_neg (Bool.eq_false_iff.1 h)

theorem stepDone_unheard {fid : Nat} (h : hears j s = false) : stepDone j fid s = s := if_neg (Bool.eq_false_iff.1 h)

theorem heartbeatIn_unheard {fid : Nat} (h : hears j s = false) : heartbeatIn j fid s = s := if_neg (Bool.eq_false_iff.1 h)

section
variable {fid : Nat} (h : hears j s = true)
include h

theorem slowRequest_heard (cause mhz : Nat) : slowRequest j fid cause mhz s = takeRequest j fid cause mhz (learnMember j fid s) :=
  if_pos h

theorem stepDone_heard : stepDone j fid s = takeDone j fid (learnMember j fid s) := if_pos h

theorem heartbeatIn_heard : heartbeatIn j fid s = takeBeat j fid (learnMember j fid s) := if_pos h

end

theorem reqs_takeRequest (j fid cause mhz : Nat) (s : State) : (getJob j (takeRequest j fid cause mhz s)).reqs =
    ((getJob j s).reqs.filter fun r => !(r.1 == fid && r.2.1 == cause)) ++ (if mhz = 0 then [] else [(fid, cause, mhz)]) := by
  rw [takeRequest, getJob_updJob_same]
  dsimp only
  split
  · rw [List.append_nil]
  · rfl

theorem getJob_takeDone (j fid : Nat) (s : State) : getJob j (takeDone j fid s) = { getJob j s with
    owed := (getJob j s).owed.filter (· ≠ fid), missed := (getJob j s).missed.filter (·.1 ≠ fid) } := by
  rw [takeDone, getJob_wr, getJob_flag, getJob_updJob_same]

theorem rd_takeDone_other {f : Reg} (i : Nat) (hf : f ≠ .jobStatusLagdev) (hf' : f ≠ .jobStatusLagv) (j fid : Nat) (s : State) :
    rd f i (takeDone j fid s) = rd f i s :=
  (rd_wr_field _ _ _ _ _ _ hf).trans (rd_wr_field _ _ _ _ _ _ hf')

theorem rd_takeDone_lag (j fid : Nat) (s : State) :
    rd .jobStatusLagdev j (takeDone j fid s) = fid % 2 ^ 10 ∧ bit .jobStatusLagv j (takeDone j fid s) = true := by
  refine ⟨rd_wr_same .., ?_⟩
  rw [bit, takeDone, rd_wr_field _ _ _ _ _ _ (by decide), flag, rd_wr_same]
  rfl

theorem getJob_takeBeat (j fid : Nat) (s : State) :
    getJob j (takeBeat j fid s) = { getJob j s with missed := (getJob j s).missed.filter (·.1 ≠ fid) } := getJob_updJob_same ..

/-! Splits and holds (R339, R340). -/

theorem splitDeclared_whole (h : bit .jobCfgMember j s = false ∨ (memberCut j s = false ∧ beatsMissed j s = false)) :
    splitDeclared j s = s := by
  refine if_pos ?_
  rcases h with h | ⟨hc, hb⟩
  · simp [h]
  · simp [hc, hb]

/-- The state of a device that takes part in a split (R339, R354). -/
def splitHeld (j : Nat) (s : State) : State :=
  if (getJob j s).circ.isSome then addDue (.stepFail (rd .jobCfgDistrict j s)) (holdSoon j s) else holdSoon j s

theorem splitDeclared_split (hm : bit .jobCfgMember j s = true) (h : memberCut j s = true ∨ beatsMissed j s = true) :
    splitDeclared j s = if rd .jobCfgLeasedev j s = ownFid s then askLease j (splitHeld j s) else splitHeld j s :=
  if_neg (by rcases h with h | h <;> simp [hm, h])

theorem reachable_holdSoon (j : Nat) (s : State) : reachable j (holdSoon j s) = reachable j s := by
  unfold reachable holdSoon
  rw [getJob_updJob_same]
  rfl

/-- What a device tells the arbiter does not depend on the hold it announces. -/
theorem askLease_holdSoon (j : Nat) (s : State) :
    askLease j (holdSoon j s) = emit (.leaseAsk s.boot.flash.arbiter j (rd .jobStatusEpoch j s) (reachable j s)) (holdSoon j s) := by
  rw [askLease, reachable_holdSoon]
  rfl

theorem askLease_splitHeld (j : Nat) (s : State) :
    askLease j (splitHeld j s) = emit (.leaseAsk s.boot.flash.arbiter j (rd .jobStatusEpoch j s) (reachable j s)) (splitHeld j s) := by
  unfold splitHeld
  split
  · exact congrArg (addDue (.stepFail (rd .jobCfgDistrict j s))) (askLease_holdSoon j s)
  · exact askLease_holdSoon j s

theorem getJob_splitHeld (j : Nat) (s : State) :
    getJob j (splitHeld j s) = { getJob j s with holdNext := true, freeNext := false } := by
  unfold splitHeld holdSoon
  split
  · rw [getJob_addDue, getJob_updJob_same]
  · rw [getJob_updJob_same]

theorem splitHeld_leaves (j : Nat) (s : State) : (splitHeld j s).outbox = s.outbox ∧ (∀ f i, rd f i (splitHeld j s) = rd f i s) ∧
    (splitHeld j s).due = s.due ++ (if (getJob j s).circ.isSome = true then [.stepFail (rd .jobCfgDistrict j s)] else []) := by
  unfold splitHeld
  split
  · exact ⟨rfl, fun _ _ => rfl, rfl⟩
  · exact ⟨rfl, fun _ _ => rfl, (List.append_nil _).symm⟩

/-! Leases (R338, R340). -/

theorem renewLease_other (h : bit .jobCfgMember j s = false ∨ rd .jobCfgLeasedev j s ≠ ownFid s) : renewLease j s = s := by
  refine if_pos ?_
  rcases h with h | h <;> simp [h]

theorem renewLease_device (hm : bit .jobCfgMember j s = true) (h : rd .jobCfgLeasedev j s = ownFid s) :
    renewLease j s = ((getJob j s).lease.elim (askLease j s) fun l => relayGrant j l.raw (askLease j s)) := by
  unfold renewLease
  extract_lets s1
  rw [if_neg (by simp [hm, h])]
  cases (getJob j s).lease <;> rfl

theorem leaseExpired_none (h : bit .jobCfgMember j s = false ∨ bit .jobStatusLeased j s = false) : leaseExpired j s = s := by
  refine if_pos ?_
  rcases h with h | h <;> simp [h]

theorem leaseExpired_leased (hm : bit .jobCfgMember j s = true) (h : bit .jobStatusLeased j s = true) :
    leaseExpired j s = if rd .jobCfgLeasesb j s = ownFid s then askLease j (holdSoon j (wr .jobStatusLeased j 0 s))
      else holdSoon j (wr .jobStatusLeased j 0 s) := if_neg (by simp [hm, h])

theorem reachable_unleased (j : Nat) (s : State) : reachable j (wr .jobStatusLeased j 0 s) = reachable j s := by
  have hegress (f : Nat) : egress f (wr .jobStatusLeased j 0 s) = egress f s := by
    simp only [egress, portTakes, wr_fab, rd_wr_field _ _ _ _ _ _ (show Reg.nolucpPortState ≠ .jobStatusLeased by decide),
      rd_wr_field _ _ _ _ _ _ (show Reg.nolucpPortMode ≠ .jobStatusLeased by decide)]
  have hown : ownFid (wr .jobStatusLeased j 0 s) = ownFid s := rd_wr_field _ _ _ _ _ _ (by decide)
  simp only [reachable, getJob_wr, hegress, hown]

theorem askLease_unleased (j : Nat) (s : State) : askLease j (holdSoon j (wr .jobStatusLeased j 0 s)) =
    emit (.leaseAsk s.boot.flash.arbiter j (rd .jobStatusEpoch j s) (reachable j s)) (holdSoon j (wr .jobStatusLeased j 0 s)) := by
  rw [askLease_holdSoon, reachable_unleased, rd_wr_field _ _ _ _ _ _ (by decide)]
  rfl

/-- The state after the lease has expired, before the standby lease device asks. -/
theorem holdSoon_unleased (j : Nat) (s : State) : bit .jobStatusLeased j (holdSoon j (wr .jobStatusLeased j 0 s)) = false ∧
    (getJob j (holdSoon j (wr .jobStatusLeased j 0 s))).holdNext = true ∧
    (holdSoon j (wr .jobStatusLeased j 0 s)).outbox = s.outbox ∧
    ∀ f i, f ≠ .jobStatusLeased ∨ i ≠ j → rd f i (holdSoon j (wr .jobStatusLeased j 0 s)) = rd f i s := by
  unfold holdSoon
  refine ⟨?_, by rw [getJob_updJob_same], rfl, fun f i h => ?_⟩
  · rw [bit, rd_updJob, rd_wr_same]
    rfl
  · rw [rd_updJob, rd_wr_other _ _ h]

theorem holdTimedOut_free (h : bit .jobCfgMember j s = false ∨ bit .jobStatusHold j s = false) : holdTimedOut j s = s := by
  refine if_pos ?_
  rcases h with h | h <;> simp [h]

theorem holdTimedOut_held (hm : bit .jobCfgMember j s = true) (h : bit .jobStatusHold j s = true) :
    holdTimedOut j s = failDistrict (rd .jobCfgDistrict j s) 35 false s := if_neg (by simp [hm, h])

end

/-! The failure of a district without streams (R480, R488). -/

section
variable {d : Nat} {s : State}

/-- What the failure of a district's step must leave for the district to stay failed: the streams, and the district's state. -/
def streamsAndState (d : Nat) (s : State) : Table Stream × Nat := (s.sort.streams, rd .distCfgState d s)

theorem streamsAndState_wr {f : Reg} (hf : Reg.distCfgState ≠ f) (i v : Nat) (s : State) :
    streamsAndState d (wr f i v s) = streamsAndState d s :=
  congrArg (Prod.mk s.sort.streams) (rd_wr_field _ _ _ _ _ _ hf)

theorem OnlySends.streamsAndState_eq {t : State} (h : OnlySends s t) : streamsAndState d t = streamsAndState d s := by
  rw [streamsAndState, h.sort_eq, h.rd_eq d (by decide) (by decide), streamsAndState]

theorem streamsAndState_stopCore (g : Nat) (s : State) : streamsAndState d (stopCore g s) = streamsAndState d s := by
  unfold stopCore
  split
  · rfl
  · obtain ⟨⟨c, r, u, ht⟩, hrd, -⟩ := onlyReleasing_barrierChecks g (stoppedState g s)
    have hsort : (barrierChecks g (stoppedState g s)).sort = s.sort := by
      rw [ht]
      rfl
    exact Prod.ext (congrArg SortSide.streams hsort) (hrd .distCfgState d (by decide))

theorem streamsAndState_stopDistrict (s : State) : streamsAndState d (stopDistrict d s) = streamsAndState d s :=
  foldl_keeps (p := streamsAndState d) (f := fun u (x : Nat × Core) => stopCore x.1 u) (fun u x => streamsAndState_stopCore x.1 u) _ _

theorem streamsAndState_reportDone (s : State) : streamsAndState d (reportDone d s) = streamsAndState d s := by
  unfold reportDone
  split
  · rfl
  · extract_lets s1
    refine (foldl_keeps (p := streamsAndState d) (fun u f => (onlySends_send ..).streamsAndState_eq) _ _).trans ?_
    exact (streamsAndState_wr (by decide) ..).trans (streamsAndState_wr (by decide) ..)

theorem streamsAndState_ringIrq (r : Nat) (s : State) : streamsAndState d (ringIrq r s) = streamsAndState d s := by
  unfold ringIrq
  split <;> rfl

/-- The fold of a step's failing streams does nothing where no stream runs. -/
theorem foldl_failStream_none (h : s.sort.streams = []) (ks : List Nat) : ks.foldl (fun u k => failStream k u) s = s := by
  refine List.foldlRecOn (motive := fun u => u = s) ks _ rfl fun u hu k _ => ?_
  subst hu
  refine if_pos ?_
  rw [getStream, h]
  exact nofun

theorem streamsAndState_failStep_none (h : s.sort.streams = []) (stop : Bool) :
    streamsAndState d (failStep d stop s) = streamsAndState d s := by
  have hstop (u : State) (hu : streamsAndState d u = streamsAndState d s) :
      streamsAndState d (if stop then stopDistrict d u else u) = streamsAndState d s := by
    split
    · exact (streamsAndState_stopDistrict u).trans hu
    · exact hu
  unfold failStep
  extract_lets x s1 s2 s4 s3
  split
  · exact hstop s rfl
  · have hs2 : s2 = s1 := foldl_failStream_none (s := s1) h _
    have hs4 : streamsAndState d s4 = streamsAndState d s := by
      refine (foldl_keeps (p := streamsAndState d) (fun u r => streamsAndState_ringIrq r u) _ _).trans ?_
      rw [hs2]
      rfl
    have hnone : s4.sort.streams = [] := (congrArg Prod.fst hs4).trans h
    have hend : endRefused d s4 = s4 := by simp only [endRefused, hnone, List.filter_nil, List.foldl_nil]
    refine hstop s3 ((streamsAndState_reportDone _).trans ?_)
    rw [hend]
    exact (streamsAndState_wr (by decide) ..).trans hs4

/-- Where there are no streams nothing ends but the step. -/
theorem endStreams_none (h : s.sort.streams = []) (code : Nat) : endStreams d code s = failStep d true s := by
  have hshadows (u : State) (hu : u.sort.streams = []) : shadowsOf d u = [] := by rw [shadowsOf, hu]; rfl
  have hresidents : residents d s = [] := by rw [residents, h]; rfl
  have hafter : (failStep d true s).sort.streams = [] := (congrArg Prod.fst (streamsAndState_failStep_none h true)).trans h
  have hhanded : handedOver d s = [] := by rw [handedOver, hresidents]; rfl
  simp only [endStreams, hshadows s h, List.foldl_nil, ite_self, hhanded, hresidents, hshadows _ hafter]

theorem rd_distCfgState_failDistrict (h : s.sort.streams = []) (hst : rd .distCfgState d s = 1) (code : Nat) :
    rd .distCfgState d (failDistrict d code false s) = 3 := by
  unfold failDistrict
  extract_lets st s1 s' fab' s2 s3
  rw [if_neg (by simp [st, hst])]
  have hs1 : rd .distCfgState d s1 = 3 := by
    have hnone : (wr .distCfgState d 3 s).sort.streams = [] := h
    have hwr : rd .distCfgState d (wr .distCfgState d 3 s) = 3 := rd_wr_same ..
    exact ((congrArg (rd .distCfgState d) (endStreams_none hnone code)).trans
      (congrArg Prod.snd (streamsAndState_failStep_none hnone true))).trans hwr
  have hs2 : rd .distCfgState d s2 = 3 := by
    simp only [s2]
    split
    · rw [rd_setFab, (onlySends_sendTwin s1 ..).rd_eq d (by decide) (by decide), hs1]
    · exact hs1
  have hnoted : rd .distCfgState d (noteFailed [d] s2) = 3 := by
    unfold noteFailed
    split
    · exact hs2
    · exact hs2
  obtain ⟨q, hq⟩ := events_due 0x0032 [d] (rd .distCfgHome d s) s3
  rw [if_neg Bool.false_ne_true, hq]
  exact (rd_bump_other (.inl (by decide)) _).trans hnoted

end

/-! Grants (R338, R341, R372). -/

section
variable {g : List Byte} {s : State}

theorem gNat_lt (g : List Byte) (off n : Nat) : gNat g off n < 256 ^ n :=
  Nat.lt_of_lt_of_le (leNat_lt _) (Nat.pow_le_pow_right (by decide) (List.length_take_le ..))

section
variable (h1 : gNat g 0 1 = 1) (hj : gNat g 1 1 < 64)
include h1 hj

theorem grantCheck_unsigned (h : grantSigned g s = false) : grantCheck g s = refuse 14 := by
  simp [grantCheck, h1, Nat.not_le.2 hj, h]

theorem grantCheck_signed (h : grantSigned g s = true) (ht : gNat g 8 8 ≤ gNat g 16 8 + 1500000000) :
    grantCheck g s = if bit .jobCfgMember (gNat g 1 1) s = false then refuse 53
      else if gNat g 8 8 ≤ s.now ∨ gNat g 2 2 < rd .jobStatusEpoch (gNat g 1 1) s then refuse 16 else okAns := by
  simp [grantCheck, h1, Nat.not_le.2 hj, h, Nat.not_lt.2 ht]

end

section
variable (h1 : gNat g 0 1 = 1)
include h1

/-- The state of a member that a grant names: leased, and held or freed by whether the membership is whole (R338, R340). -/
theorem takeGrant_member (h : ownFid s ∈ grantMembers g (getJob (gNat g 1 1) s).members.length) :
    takeGrant g s = wr .jobStatusEpoch (gNat g 1 1) (gNat g 2 2) (flag .jobStatusLeased (gNat g 1 1) (setJob (gNat g 1 1)
      { getJob (gNat g 1 1) s with
        lease := some ⟨gNat g 2 2, gNat g 8 8, grantMembers g (getJob (gNat g 1 1) s).members.length, g⟩
        holdNext := !grantCovers g (getJob (gNat g 1 1) s).members.length
        freeNext := grantCovers g (getJob (gNat g 1 1) s).members.length && bit .jobStatusHold (gNat g 1 1) s } s)) := by
  simp [takeGrant, h1, h]

variable (h : ownFid s ∉ grantMembers g (getJob (gNat g 1 1) s).members.length)
include h

theorem takeGrant_split (hw : grantCovers g (getJob (gNat g 1 1) s).members.length = false) :
    takeGrant g s = setJob (gNat g 1 1) { getJob (gNat g 1 1) s with holdNext := true, freeNext := false } s := by
  simp [takeGrant, h1, h, hw]

theorem takeGrant_leftOut (hw : grantCovers g (getJob (gNat g 1 1) s).members.length = true) :
    takeGrant g s = if rd .jobStatusEpoch (gNat g 1 1) s < gNat g 2 2
      then addDue (.districtFail (rd .jobCfgDistrict (gNat g 1 1) s) 35 false) (wr .jobStatusEpoch (gNat g 1 1) (gNat g 2 2) s)
      else s := by
  simp [takeGrant, h1, h, hw]

end

section
variable (h1 : gNat g 0 1 = 1) (h : ownFid s ∈ grantMembers g (getJob (gNat g 1 1) s).members.length)
include h1 h

theorem rd_takeGrant_member : rd .jobStatusEpoch (gNat g 1 1) (takeGrant g s) = gNat g 2 2 ∧
    bit .jobStatusLeased (gNat g 1 1) (takeGrant g s) = true := by
  rw [takeGrant_member h1 h]
  refine ⟨(rd_wr_same ..).trans (Nat.mod_eq_of_lt (gNat_lt g 2 2)), ?_⟩
  rw [bit, rd_wr_field _ _ _ _ _ _ (by decide), flag, rd_wr_same]
  rfl

theorem rd_takeGrant_member_other {f : Reg} (i : Nat) (hf : f ≠ .jobStatusEpoch) (hf' : f ≠ .jobStatusLeased) :
    rd f i (takeGrant g s) = rd f i s := by
  rw [takeGrant_member h1 h, rd_wr_field _ _ _ _ _ _ hf, flag, rd_wr_field _ _ _ _ _ _ hf', rd_setJob]

end

end

/-- Settles O52, command by command: a report by whether it is heard, a split, a renewal and an expiry by membership and by the lease
device, a grant by its checks and by the membership it names; a hold's end by the failure of a district that has no streams
(`rd_distCfgState_failDistrict`). -/
theorem jobAndLeaseRules : Obligations.JobAndLeaseRules := by
  refine ⟨fun j fid cause mhz g s => ⟨rfl, fun h => ⟨?_, ?_, ?_⟩, fun h => ?request, fun h => ⟨?done, ?beat⟩, fun h => ?whole,
    fun hm h => ?split, fun h => ?noRenewal, fun hm hd hl => ?asks, fun l hm hd hl => ?relays, fun h => ?relay, fun h h1 hown => ?taken,
    fun h => ?notRelayed, fun hm hl => ?expiry, fun h => ?noExpiry, fun hm hh => ?timeout, fun hm hh d hd hst hs => ?failed,
    fun h => ?noTimeout⟩, fun g s h1 hj => ⟨fun h => ?unsigned, fun h ht => ⟨fun hm => ?stranger, fun hm => ?member⟩, ?grant⟩⟩
  · exact congrArg Host.Outcome.next (slowRequest_unheard h)
  · exact congrArg Host.Outcome.next (stepDone_unheard h)
  · exact congrArg Host.Outcome.next (heartbeatIn_unheard h)
  case request =>
    refine ⟨_, congrArg Host.Outcome.next (slowRequest_heard h cause mhz.toNat), ?_, fun f i => (onlyJobs_learnMember ..).rd_eq f i⟩
    have hzero : mhz.toNat = 0 ↔ mhz = 0#11 := BitVec.toNat_inj (y := 0#11)
    simp only [reqs_takeRequest, getJob_learnMember (g := JobX.reqs) (fun _ _ _ => rfl), hzero]
  case done =>
    obtain ⟨hlag, hlagv⟩ := rd_takeDone_lag j fid.toNat (learnMember j fid.toNat s)
    refine ⟨_, congrArg Host.Outcome.next (stepDone_heard h), ?_, ?_, hlag.trans (Nat.mod_eq_of_lt fid.isLt), hlagv, fun f i hf hf' =>
      (rd_takeDone_other i hf hf' ..).trans ((onlyJobs_learnMember ..).rd_eq f i)⟩
    · rw [getJob_takeDone, getJob_learnMember (g := JobX.owed) fun _ _ _ => rfl]
    · rw [getJob_takeDone, getJob_learnMember (g := JobX.missed) fun _ _ _ => rfl]
  case beat =>
    refine ⟨_, congrArg Host.Outcome.next (heartbeatIn_heard h), ?_, ?_, fun f i => (onlyJobs_learnMember ..).rd_eq f i⟩
    · rw [getJob_takeBeat, getJob_learnMember (g := JobX.missed) fun _ _ _ => rfl]
    · rw [getJob_takeBeat, getJob_learnMember (g := JobX.owed) fun _ _ _ => rfl]
  case whole => exact next_settle_of_eq (splitDeclared_whole h)
  case split =>
    obtain ⟨hout, hrd, hdue⟩ := splitHeld_leaves j s
    refine ⟨_, next_settle_of_eq (splitDeclared_split hm h), ?_⟩
    rw [askLease_splitHeld]
    split
    · exact ⟨by rw [getJob_emit, getJob_splitHeld], by rw [getJob_emit, getJob_splitHeld], hrd, hdue, congrArg (· ++ _) hout⟩
    · exact ⟨by rw [getJob_splitHeld], by rw [getJob_splitHeld], hrd, hdue, hout.trans (List.append_nil _).symm⟩
  case noRenewal => exact congrArg Host.Outcome.next (renewLease_other h)
  case asks => exact congrArg Host.Outcome.next ((renewLease_device hm hd).trans (by rw [hl]; rfl))
  case relays => exact congrArg Host.Outcome.next ((renewLease_device hm hd).trans (by rw [hl]; rfl))
  case relay => exact next_settle_of_eq (if_pos h)
  case taken =>
    obtain ⟨hepoch, hleased⟩ := rd_takeGrant_member h1 hown
    exact ⟨_, next_settle_of_eq (if_pos h), hleased, hepoch⟩
  case notRelayed => exact next_settle_of_eq (if_neg h)
  case expiry =>
    obtain ⟨hleased, hhold, hout, hrd⟩ := holdSoon_unleased j s
    refine ⟨_, congrArg Host.Outcome.next (leaseExpired_leased hm hl), ?_⟩
    rw [askLease_unleased]
    split
    · simp only [bit_emit, getJob_emit, emit_outbox, rd_emit]
      exact ⟨hleased, hhold, congrArg (· ++ _) hout, hrd⟩
    · exact ⟨hleased, hhold, hout.trans (List.append_nil _).symm, hrd⟩
  case noExpiry => exact congrArg Host.Outcome.next (leaseExpired_none h)
  case timeout => exact next_settle_of_eq (holdTimedOut_held hm hh)
  case failed =>
    subst hd
    exact ⟨_, next_settle_of_eq (holdTimedOut_held hm hh), rd_distCfgState_failDistrict hs hst 35⟩
  case noTimeout => exact next_settle_of_eq (holdTimedOut_free h)
  case unsigned => rw [grantCheck_unsigned h1 hj h]; rfl
  case stranger => rw [grantCheck_signed h1 hj h ht, if_pos hm]; rfl
  case member =>
    rw [grantCheck_signed h1 hj h ht, if_neg (by simp [hm])]
    split
    · next hbad => exact ⟨iff_of_true rfl hbad, iff_of_false (by decide) (by omega)⟩
    · next hok => exact ⟨iff_of_false (by decide) hok, iff_of_true rfl (by omega)⟩
  case grant =>
    intro x whole
    refine ⟨fun hown => ?named, fun hown => ⟨fun hw => takeGrant_split h1 hown hw, fun hw => ⟨fun he => ?old, fun he => ?higher⟩⟩⟩
    case named =>
      obtain ⟨hepoch, hleased⟩ := rd_takeGrant_member h1 hown
      refine ⟨hepoch, hleased, ?_, fun f i hf hf' => rd_takeGrant_member_other h1 hown i hf hf'⟩
      rw [takeGrant_member h1 hown, getJob_wr, getJob_flag, getJob_setJob_same]
    case old => rw [takeGrant_leftOut h1 hown hw, if_neg (Nat.not_lt.2 he)]
    case higher =>
      rw [takeGrant_leftOut h1 hown hw, if_pos he]
      exact ⟨(rd_wr_same ..).trans (Nat.mod_eq_of_lt (gNat_lt g 2 2)), rfl, rfl⟩

end Sys2Proof.Machine
end

section
/-!
PROOFS. Rounds (R329 to R333, R417, R431, R439): the end of a round on which nothing else hangs, the opening of the next, markers, the
standby master, the loss of the beat and the favoured colour.
-/

namespace Sys2Proof.Machine

/-! What a boundary closes: meters and receipts (R417, R418, R424). -/

/-- Two states that differ only in what the accounting of a round writes where no district ran: the counts of word slots, the power side,
and the receipts that are held. -/
def OnlyAccounts (s t : State) : Prop := ∃ v p h, t = { s with vaults := v, power := p, sort := { s.sort with held := h } }

namespace OnlyAccounts
variable {s t u : State}

theorem trans (a : OnlyAccounts s t) (b : OnlyAccounts t u) : OnlyAccounts s u := by
  obtain ⟨v, p, h, rfl⟩ := a
  obtain ⟨v', p', h', rfl⟩ := b
  exact ⟨v', p', h', rfl⟩

theorem rd_eq (h : OnlyAccounts s t) (f : Reg) (i : Nat) : rd f i t = rd f i s := by
  obtain ⟨v, p, q, rfl⟩ := h
  rfl

theorem fab_eq (h : OnlyAccounts s t) : t.fab = s.fab := by
  obtain ⟨v, p, q, rfl⟩ := h
  rfl

theorem districts_eq (h : OnlyAccounts s t) : t.districts = s.districts := by
  obtain ⟨v, p, q, rfl⟩ := h
  rfl

end OnlyAccounts

theorem onlyAccounts_setPower (x : PowerSide) (s : State) : OnlyAccounts s (setPower x s) := ⟨_, _, _, rfl⟩

theorem onlyAccounts_attributeRound {shares : List (Nat × Ran × Nat)} (h : shares = []) (ein : Nat) (s : State) :
    OnlyAccounts s (attributeRound ein shares s) := by
  subst h
  unfold attributeRound
  extract_lets ds total i
  split
  · exact onlyAccounts_setPower ..
  · rw [if_pos (show total = 0 from rfl)]
    exact onlyAccounts_setPower ..

theorem onlyAccounts_signOpen (s : State) : OnlyAccounts s (signOpen s) := by
  unfold signOpen
  extract_lets opened s1
  have h1 : OnlyAccounts s s1 :=
    List.foldlRecOn (motive := OnlyAccounts s) opened _ ⟨_, _, _, rfl⟩ fun u hu x _ => hu.trans ⟨_, _, _, rfl⟩
  exact h1.trans ⟨_, _, _, rfl⟩

theorem onlyAccounts_closeRound {s : State} (h : ∀ x ∈ s.districts, x.2.ran = []) : OnlyAccounts s (closeRound s) := by
  unfold closeRound
  extract_lets ein sites ds pools shares sums v s0 s1 s2 i i1 done next
  have hds : ds = [] := by
    refine List.map_eq_nil_iff.2 (List.filter_eq_nil_iff.2 fun x hx => ?_)
    simp [h x hx]
  have hshares : shares = [] := by simp only [shares, hds, List.flatMap_nil]
  have h0 : OnlyAccounts s s0 := ⟨_, _, _, rfl⟩
  have h1 : OnlyAccounts s s1 := (h0.trans (onlyAccounts_attributeRound hshares ein s0)).trans (onlyAccounts_signOpen _)
  have h2 : s2 = s1 := by simp only [s2, hds, List.foldl_nil]
  rw [h2]
  exact h1.trans (onlyAccounts_setPower ..)

/-! What is shown at a boundary: clamped offsets and the thermal models (R222, R431). -/

/-- Two states that differ only in the thermal model, in what the clusters show of it, and in the clamping of offsets. -/
def OnlyShows (s t : State) : Prop :=
  (∃ r h, t = { s with regs := r, heat := h }) ∧ ∀ f i, (regInfo f).blk ≠ .thcl → f ≠ .distCfgClamped → rd f i t = rd f i s

namespace OnlyShows
variable {s t u : State}

theorem refl (s : State) : OnlyShows s s := ⟨⟨_, _, rfl⟩, fun _ _ _ _ => rfl⟩

theorem trans (a : OnlyShows s t) (b : OnlyShows t u) : OnlyShows s u := by
  obtain ⟨⟨r, h, e⟩, ra⟩ := a
  obtain ⟨⟨r', h', e'⟩, rb⟩ := b
  exact ⟨⟨r', h', by rw [e', e]⟩, fun f i hb hc => (rb f i hb hc).trans (ra f i hb hc)⟩

theorem foldl {β : Type} {f : State → β → State} (hf : ∀ u x, OnlyShows u (f u x)) (l : List β) (s : State) :
    OnlyShows s (l.foldl f s) :=
  List.foldlRecOn (motive := OnlyShows s) l f (refl s) fun u ih x _ => ih.trans (hf u x)

theorem rd_eq (h : OnlyShows s t) {f : Reg} (i : Nat) (hb : (regInfo f).blk ≠ .thcl) (hc : f ≠ .distCfgClamped) :
    rd f i t = rd f i s := h.2 f i hb hc

theorem fab_eq (h : OnlyShows s t) : t.fab = s.fab := by
  obtain ⟨⟨r, q, rfl⟩, -⟩ := h
  rfl

theorem districts_eq (h : OnlyShows s t) : t.districts = s.districts := by
  obtain ⟨⟨r, q, rfl⟩, -⟩ := h
  rfl

end OnlyShows

/-- A field of a cluster's thermal block. -/
theorem onlyShows_wr_thcl {f : Reg} (hf : (regInfo f).blk = .thcl) (i v : Nat) (s : State) : OnlyShows s (wr f i v s) :=
  ⟨⟨_, _, rfl⟩, fun _ _ hb _ => rd_wr_block v s (.inl hb) hf⟩

theorem onlyShows_showCluster (cl : Nat) (s : State) : OnlyShows s (showCluster cl s) := by
  unfold showCluster
  extract_lets h m k off
  exact (((((((onlyShows_wr_thcl rfl ..).trans (onlyShows_wr_thcl rfl ..)).trans (onlyShows_wr_thcl rfl ..)).trans
    (onlyShows_wr_thcl rfl ..)).trans (onlyShows_wr_thcl rfl ..)).trans (onlyShows_wr_thcl rfl ..)).trans (onlyShows_wr_thcl rfl ..))

theorem onlyShows_calibrateDie (k die : Nat) (s : State) : OnlyShows s (calibrateDie k die s) := by
  unfold calibrateDie
  split
  · exact .refl s
  · exact ⟨⟨_, _, rfl⟩, fun _ _ _ _ => rfl⟩

theorem onlyShows_calibrate (s : State) : OnlyShows s (calibrate s) :=
  .foldl (fun u k => (OnlyShows.foldl (fun v die => onlyShows_calibrateDie k die v) _ u).trans
    (OnlyShows.foldl (fun v j => onlyShows_showCluster (32 * k + j) v) _ _)) _ _

theorem onlyShows_clampOffsets (s : State) : OnlyShows s (clampOffsets s) := by
  refine .foldl (fun u d => ?_) _ _
  split
  · exact .refl u
  · exact ⟨⟨_, _, rfl⟩, fun _ _ _ hc => rd_wr_field _ _ _ _ _ _ hc⟩

/-! The opening of a round (R222, R330 to R340). -/

theorem memberJobs_of_rd {s t : State} (h : ∀ i, rd .jobCfgMember i t = rd .jobCfgMember i s) : memberJobs t = memberJobs s := by
  simp only [memberJobs, bit, h]

theorem takePeriod_parts (r : Nat) (s : State) : ∃ p n, takePeriod r s = setFab { s.fab with period := p, nperiod := n } s := by
  unfold takePeriod
  split
  · split
    · exact ⟨_, _, rfl⟩
    · exact ⟨_, _, rfl⟩
  · exact ⟨_, _, rfl⟩

/-- What a device that joins at a lower round forgets lies in its districts and books. -/
theorem rejoin_parts (r : Nat) (s : State) : ∃ d x, rejoin r s = { s with districts := d, sort := x } := by
  unfold rejoin
  split <;> exact ⟨_, _, rfl⟩

/-- No step of a district runs. -/
def NoSteps (s : State) : Prop := ∀ x ∈ s.districts, x.2.running = false

theorem noSteps_rejoin (r : Nat) {s : State} (h : NoSteps s) : NoSteps (rejoin r s) := by
  unfold rejoin
  split
  · exact h
  · intro x hx
    obtain ⟨y, hy, rfl⟩ := List.mem_map.1 hx
    exact h y hy

/-- The counter, the period and the ADMIT bits of a round that opens with its marker, or without one as a flywheel round. -/
def roundOpened (r : Nat) (m : Option Marker) (s : State) : State :=
  let s2 := takePeriod r (wr .roundCountRound 0 r (rejoin r s))
  let s3 := match m with
    | some k => setFab { s2.fab with admBits := k.admBits, marker := none, fly := 0, period := k.period } s2
    | none => setFab { s2.fab with admBits := 0, fly := s2.fab.fly + 1 } s2
  wr .roundStatusFlyrun 0 (min 7 s3.fab.fly) (wr .roundStatusFly 0 (natBool m.isNone) s3)

section
variable (r : Nat) (s : State)

theorem openRound_eq (m : Option Marker) : openRound r m s =
    (memberJobs (roundOpened r m s)).foldl (fun u j => jobBoundary r j u) (clampOffsets (roundOpened r m s)) := rfl

theorem roundOpened_parts (m : Option Marker) : ∃ x fly run, roundOpened r m s =
    wr .roundStatusFlyrun 0 run (wr .roundStatusFly 0 fly (setFab x (wr .roundCountRound 0 r (rejoin r s)))) := by
  obtain ⟨p, n, hp⟩ := takePeriod_parts r (wr .roundCountRound 0 r (rejoin r s))
  unfold roundOpened
  rw [hp]
  cases m <;> exact ⟨_, _, _, rfl⟩

theorem fab_roundOpened_some (k : Marker) : (roundOpened r (some k) s).fab.marker = none ∧ (roundOpened r (some k) s).fab.fly = 0 ∧
    (roundOpened r (some k) s).fab.period = k.period := ⟨rfl, rfl, rfl⟩

theorem fly_roundOpened_none : (roundOpened r none s).fab.fly = s.fab.fly + 1 := by
  obtain ⟨p, n, hp⟩ := takePeriod_parts r (wr .roundCountRound 0 r (rejoin r s))
  obtain ⟨d, x, hr⟩ := rejoin_parts r s
  unfold roundOpened
  rw [hp, hr]
  rfl

theorem rd_roundOpened_round (m : Option Marker) : rd .roundCountRound 0 (roundOpened r m s) = r % 2 ^ 48 := by
  obtain ⟨x, fly, run, h⟩ := roundOpened_parts r s m
  rw [h, rd_wr_field _ _ _ _ _ _ (by decide), rd_wr_field _ _ _ _ _ _ (by decide), rd_setFab, rd_wr_same]
  rfl

theorem rd_roundOpened_other (m : Option Marker) {f : Reg} (i : Nat)
    (hf : f ∉ [Reg.roundCountRound, .roundStatusFly, .roundStatusFlyrun]) : rd f i (roundOpened r m s) = rd f i s := by
  obtain ⟨x, fly, run, h⟩ := roundOpened_parts r s m
  obtain ⟨d, y, hr⟩ := rejoin_parts r s
  obtain ⟨hround, hfly, hrun⟩ : f ≠ .roundCountRound ∧ f ≠ .roundStatusFly ∧ f ≠ .roundStatusFlyrun := by simpa using hf
  rw [h, rd_wr_field _ _ _ _ _ _ hrun, rd_wr_field _ _ _ _ _ _ hfly, rd_setFab, rd_wr_field _ _ _ _ _ _ hround, hr]
  rfl

theorem noSteps_roundOpened (m : Option Marker) (h : NoSteps s) : NoSteps (roundOpened r m s) := by
  obtain ⟨x, fly, run, he⟩ := roundOpened_parts r s m
  have hd : (roundOpened r m s).districts = (rejoin r s).districts := by
    rw [he]
    rfl
  exact fun x hx => noSteps_rejoin r h x (hd ▸ hx)

/-- Where this device is a member of no job the opening of a round clamps the offsets and does no more. -/
theorem openRound_noJobs (m : Option Marker) (h : memberJobs s = []) : OnlyShows (roundOpened r m s) (openRound r m s) := by
  have hj : memberJobs (roundOpened r m s) = [] :=
    (memberJobs_of_rd fun i => rd_roundOpened_other r s m i (by decide)).trans h
  rw [openRound_eq, hj, List.foldl_nil]
  exact onlyShows_clampOffsets _

end

/-! A boundary on which nothing else hangs. -/

/-- Nothing but the round's opening hangs on the boundary: no step runs or has run in the round, no draw waits for the twin, and this device
is a member of no job. -/
def Plain (s : State) : Prop :=
  (∀ x ∈ s.districts, x.2.running = false ∧ x.2.ran = []) ∧ (∀ x ∈ s.sort.streams, x.2.wait = none) ∧ memberJobs s = []

section
variable {s : State}

theorem endWaits_none (h : ∀ x ∈ s.sort.streams, x.2.wait = none) : endWaits s = s := by
  have hnone : (s.sort.streams.filter fun x => x.2.wait.isSome) = [] := List.filter_eq_nil_iff.2 fun x hx => by simp [h x hx]
  simp only [endWaits, hnone, List.map_nil, List.foldl_nil]

/-- At a boundary on which nothing else hangs the opening acts on a state that only the accounting has changed, and only the thermal models
are shown after it. -/
theorem atBoundary_plain (h : Plain s) :
    OnlyAccounts s (closeRound s) ∧ memberJobs (closeRound s) = [] ∧ NoSteps (closeRound s) ∧
      ∀ opening : State → State, NoSteps (opening (closeRound s)) →
        OnlyShows (opening (closeRound s)) (atBoundary opening s) := by
  obtain ⟨hsteps, hwaits, hjobs⟩ := h
  have hacc : OnlyAccounts s (closeRound s) := onlyAccounts_closeRound fun x hx => (hsteps x hx).2
  refine ⟨hacc, (memberJobs_of_rd fun i => hacc.rd_eq _ i).trans hjobs, fun x hx => ?_, fun opening hno => ?_⟩
  · rw [hacc.districts_eq] at hx
    exact (hsteps x hx).1
  · have hshows := onlyShows_calibrate (opening (closeRound s))
    have hnone : ((calibrate (opening (closeRound s))).districts.filter fun x => x.2.running) = [] := by
      rw [hshows.districts_eq]
      exact List.filter_eq_nil_iff.2 fun x hx => by simp [hno x hx]
    rw [atBoundary, endWaits_none hwaits]
    simp only [hnone, List.foldl_nil]
    exact hshows

/-- A boundary whose opening opens a round, on a state without steps and jobs: the round is opened, and only offsets and thermal models are
shown. -/
theorem atBoundary_opens (h : Plain s) {opening : State → State} {r : Nat} {m : Option Marker} {v : State}
    (ho : opening (closeRound s) = openRound r m v) (hn : NoSteps v) (hj : memberJobs v = []) :
    OnlyShows (roundOpened r m v) (atBoundary opening s) := by
  obtain ⟨-, -, -, hat⟩ := atBoundary_plain h
  have hopen := openRound_noJobs r v m hj
  have hno : NoSteps (openRound r m v) := fun x hx => noSteps_roundOpened r v m hn x (hopen.districts_eq ▸ hx)
  exact hopen.trans (ho ▸ hat opening (ho.symm ▸ hno))

/-! Who opens it: the master, an accepted marker, or the flywheel (R329, R330, R333). -/

theorem issues_of_accounts {t : State} (h : OnlyAccounts s t) : issues t = issues s := by
  rw [issues, h.fab_eq, h.rd_eq, ownFid, h.rd_eq, issues, ownFid]

theorem roundBoundary_master (h : issues s = true) : roundBoundary s =
    openRound ((roundNow s + 1) % 2 ^ 48) (some (issueMarker ((roundNow s + 1) % 2 ^ 48) s).1)
      (issueMarker ((roundNow s + 1) % 2 ^ 48) s).2 := if_pos h

theorem roundBoundary_follower (h : issues s = false) {k : Marker} (hk : s.fab.marker = some k) :
    roundBoundary s = openRound k.round (some k) s := by
  simp [roundBoundary, h, hk]

theorem flywheelOpen_free (h : issues s = false) (hk : s.fab.marker = none) :
    flywheelOpen s = openRound ((roundNow s + 1) % 2 ^ 48) none s := by
  simp [flywheelOpen, h, hk]

theorem onlyJobs_announceJob (r j : Nat) (s : State) : OnlyJobs s (announceJob r j s) := by
  unfold announceJob
  extract_lets y x now_ t
  split
  · split
    · exact .refl s
    · exact onlyJobs_setJob ..
  · split
    · exact onlyJobs_setJob ..
    · split
      · exact .refl s
      · exact onlyJobs_setJob ..

/-- The issue of a marker changes the table of jobs and the period, and sends. -/
theorem issueMarker_parts (r : Nat) (s : State) :
    ∃ j p n, OnlySends (setFab { s.fab with jobs := j, period := p, nperiod := n } s) (issueMarker r s).2 := by
  obtain ⟨p, n, hp⟩ := takePeriod_parts r s
  unfold issueMarker
  extract_lets fab s1 m s2
  have h1 : OnlyJobs (takePeriod r s) s1 := .foldl (fun u j => by
    split
    · exact .refl u
    · exact onlyJobs_announceJob ..) _ _
  have h2 : OnlyJobs s1 s2 := .foldl (fun u j => by
    split
    · exact .refl u
    · exact onlyJobs_updJob ..) _ _
  obtain ⟨q, hq⟩ := h1.trans h2
  rw [hp] at hq
  refine ⟨q, p, n, ?_⟩
  have hsent : OnlySends s2 (sendMarker none m s2) := onlySends_sendMarker ..
  rwa [hq] at hsent ⊢

theorem rd_issueMarker (r : Nat) (s : State) {f : Reg} (i : Nat) (hf : f ≠ .netStatusUnreach) (hf' : f ≠ .nolucStatusUnrouted) :
    rd f i (issueMarker r s).2 = rd f i s := by
  obtain ⟨j, p, n, h⟩ := issueMarker_parts r s
  exact h.rd_eq i hf hf'

theorem districts_issueMarker (r : Nat) (s : State) : (issueMarker r s).2.districts = s.districts := by
  obtain ⟨j, p, n, h⟩ := issueMarker_parts r s
  exact h.districts_eq

theorem boundary_issues (h : issues s = true ∨ s.fab.marker ≠ none) : boundary s = atBoundary roundBoundary s ∧ flywheel s = s := by
  have hb : (issues s || s.fab.marker.isSome) = true := by
    rcases h with h | h <;> simp [h, Option.isSome_iff_ne_none]
  exact ⟨if_pos hb, if_pos hb⟩

theorem boundary_free (h : issues s = false) (hk : s.fab.marker = none) : boundary s = s ∧ flywheel s = atBoundary flywheelOpen s := by
  have hb : ¬(issues s || s.fab.marker.isSome) = true := by simp [h, hk]
  exact ⟨if_neg hb, if_neg hb⟩

/-- The master's boundary raises ROUND by one. -/
theorem rd_boundary_master (h : Plain s) (hi : issues s = true) :
    rd .roundCountRound 0 (atBoundary roundBoundary s) = (roundNow s + 1) % 2 ^ 48 := by
  obtain ⟨hacc, hjobs, hsteps, -⟩ := atBoundary_plain h
  have ho := roundBoundary_master ((issues_of_accounts hacc).trans hi)
  have hno : NoSteps (issueMarker ((roundNow (closeRound s) + 1) % 2 ^ 48) (closeRound s)).2 := fun x hx =>
    hsteps x (districts_issueMarker .. ▸ hx)
  have hj := (memberJobs_of_rd fun i => rd_issueMarker ((roundNow (closeRound s) + 1) % 2 ^ 48) (closeRound s) i
    (f := .jobCfgMember) (by decide) (by decide)).trans hjobs
  have hr : roundNow (closeRound s) = roundNow s := hacc.rd_eq _ 0
  rw [(atBoundary_opens h ho hno hj).rd_eq 0 (by decide) (by decide), rd_roundOpened_round, Nat.mod_mod, hr]

/-- The boundary that an accepted marker opens gives the round its number and period. -/
theorem boundary_follower (h : Plain s) (hi : issues s = false) {k : Marker} (hk : s.fab.marker = some k) :
    ∃ v, OnlyAccounts s v ∧ OnlyShows (roundOpened k.round (some k) v) (atBoundary roundBoundary s) := by
  obtain ⟨hacc, hjobs, hsteps, -⟩ := atBoundary_plain h
  exact ⟨_, hacc, atBoundary_opens h (roundBoundary_follower ((issues_of_accounts hacc).trans hi) (hacc.fab_eq ▸ hk)) hsteps hjobs⟩

theorem boundary_flywheel (h : Plain s) (hi : issues s = false) (hk : s.fab.marker = none) :
    ∃ v, OnlyAccounts s v ∧ OnlyShows (roundOpened ((roundNow s + 1) % 2 ^ 48) none v) (atBoundary flywheelOpen s) := by
  obtain ⟨hacc, hjobs, hsteps, -⟩ := atBoundary_plain h
  have hr : roundNow (closeRound s) = roundNow s := hacc.rd_eq _ 0
  exact ⟨_, hacc, hr ▸ atBoundary_opens h (flywheelOpen_free ((issues_of_accounts hacc).trans hi) (hacc.fab_eq ▸ hk)) hsteps hjobs⟩

end

/-! Markers (R330, R331, R333). -/

section
variable {port : Nat} {m : Marker} {s : State}

theorem markerTaken_iff : markerTaken port m s = true ↔ (port = rd .roundCfgUp 0 s % 32 ∨ port = rd .roundCfgUp 0 s / 32) ∧
    (epochNow s < m.epoch ∨ (m.epoch = epochNow s ∧ issues s = false ∧ s.fab.marker = none ∧ m.round ≠ roundNow s)) := by
  simp [markerTaken, and_assoc]

/-- A marker as this device keeps it (R331, R333): its epoch, and whether the epoch is higher than that of the last. -/
def markerKept (port : Nat) (m : Marker) (fwd : Nat) (s : State) : State :=
  let s1 := wr .roundStatusEpoch 0 m.epoch s
  flagIf (markerLate port m fwd s) .roundStatusLate 0 (setFab { s1.fab with
    deposed := s1.fab.deposed || decide (epochNow s < m.epoch), acting := s1.fab.acting && !decide (epochNow s < m.epoch)
    marker := some m, master := some m.master, nperiod := if m.nperiod = 0 then none else some (m.nperiod, m.npround) } s1)

theorem onlyJobs_unecho (s : State) : OnlyJobs s (unecho s) := .foldl (fun _ _ => onlyJobs_updJob ..) _ _

/-- Beside keeping the marker, its arrival changes the table of jobs, and sends the marker on. -/
theorem markerReceived_taken (h : markerTaken port m s = true) (fwd : Nat) :
    ∃ u, OnlyJobs (markerKept port m fwd s) u ∧ OnlySends u (markerReceived port m fwd s) := by
  unfold markerReceived
  rw [if_neg (by simp [h])]
  extract_lets higher s1 delay fab s2 s3 s4
  have hs3 : s3 = markerKept port m fwd s := rfl
  have hecho : OnlyJobs s3 (if higher then unecho s3 else s3) := by
    split
    · exact onlyJobs_unecho s3
    · exact .refl s3
  have hsetps : OnlyJobs (if higher then unecho s3 else s3) s4 := .foldl (fun u p => by
    split
    · exact .refl u
    · exact onlyJobs_updJob ..) _ _
  exact ⟨s4, hs3 ▸ hecho.trans hsetps, onlySends_sendMarker ..⟩

variable (h : markerTaken port m s = true) (fwd : Nat)
include h

theorem rd_markerReceived_other {f : Reg} (i : Nat)
    (hf : f ∉ [Reg.roundStatusEpoch, .roundStatusLate, .netStatusUnreach, .nolucStatusUnrouted]) :
    rd f i (markerReceived port m fwd s) = rd f i s := by
  obtain ⟨u, ⟨j, rfl⟩, hsent⟩ := markerReceived_taken h fwd
  obtain ⟨hepoch, hlate, hunreach, hunrouted⟩ :
      f ≠ .roundStatusEpoch ∧ f ≠ .roundStatusLate ∧ f ≠ .netStatusUnreach ∧ f ≠ .nolucStatusUnrouted := by simpa using hf
  rw [hsent.rd_eq i hunreach hunrouted, rd_setFab, markerKept, rd_flagIf_field _ _ hlate, rd_setFab, rd_wr_field _ _ _ _ _ _ hepoch]

theorem rd_markerReceived_epoch (he : m.epoch < 2 ^ 16) : rd .roundStatusEpoch 0 (markerReceived port m fwd s) = m.epoch := by
  obtain ⟨u, ⟨j, rfl⟩, hsent⟩ := markerReceived_taken h fwd
  rw [hsent.rd_eq 0 (by decide) (by decide), rd_setFab, markerKept, rd_flagIf_field _ _ (by decide), rd_setFab, rd_wr_same]
  exact Nat.mod_eq_of_lt he

theorem rd_markerReceived_late (hl : markerLate port m fwd s = true) : rd .roundStatusLate 0 (markerReceived port m fwd s) = 1 := by
  obtain ⟨u, ⟨j, rfl⟩, hsent⟩ := markerReceived_taken h fwd
  rw [hsent.rd_eq 0 (by decide) (by decide), rd_setFab, markerKept, hl, flagIf, if_pos rfl, flag, rd_wr_same]
  rfl

theorem fab_markerReceived : (markerReceived port m fwd s).fab.marker = some m ∧
    (markerReceived port m fwd s).fab.deposed = (s.fab.deposed || decide (epochNow s < m.epoch)) ∧
    (markerReceived port m fwd s).fab.acting = (s.fab.acting && !decide (epochNow s < m.epoch)) := by
  obtain ⟨u, ⟨j, rfl⟩, hsent⟩ := markerReceived_taken h fwd
  obtain ⟨r, f, w, o, he⟩ := hsent.parts
  have hkept : (markerKept port m fwd s).fab.marker = some m ∧
      (markerKept port m fwd s).fab.deposed = (s.fab.deposed || decide (epochNow s < m.epoch)) ∧
      (markerKept port m fwd s).fab.acting = (s.fab.acting && !decide (epochNow s < m.epoch)) := by
    unfold markerKept flagIf
    split <;> exact ⟨rfl, rfl, rfl⟩
  rw [he]
  exact hkept

theorem parts_markerReceived : (markerReceived port m fwd s).districts = s.districts ∧ (markerReceived port m fwd s).sort = s.sort := by
  obtain ⟨u, ⟨j, rfl⟩, hsent⟩ := markerReceived_taken h fwd
  have hkept : (markerKept port m fwd s).districts = s.districts ∧ (markerKept port m fwd s).sort = s.sort := by
    unfold markerKept flagIf
    split <;> exact ⟨rfl, rfl⟩
  exact ⟨hsent.districts_eq.trans hkept.1, hsent.sort_eq.trans hkept.2⟩

theorem plain_markerReceived (hp : Plain s) : Plain (markerReceived port m fwd s) := by
  obtain ⟨hd, hs⟩ := parts_markerReceived h fwd
  obtain ⟨hsteps, hwaits, hjobs⟩ := hp
  refine ⟨fun x hx => hsteps x (hd ▸ hx), fun x hx => hwaits x (hs ▸ hx), ?_⟩
  exact (memberJobs_of_rd fun i => rd_markerReceived_other h fwd i (by decide)).trans hjobs

/-- A device that has accepted a marker issues none: its epoch is higher and has deposed it, or it issued none before. -/
theorem issues_markerReceived : issues (markerReceived port m fwd s) = false := by
  obtain ⟨-, hdeposed, hacting⟩ := fab_markerReceived h fwd
  have hmaster : (rd .roundCfgMaster 0 (markerReceived port m fwd s) == ownFid (markerReceived port m fwd s)) =
      (rd .roundCfgMaster 0 s == ownFid s) := by
    rw [ownFid, rd_markerReceived_other h fwd 0 (by decide), rd_markerReceived_other h fwd 0 (by decide), ownFid]
  obtain ⟨-, hhigher | ⟨-, hi, -⟩⟩ := markerTaken_iff.1 h
  · simp [issues, hdeposed, hacting, hhigher]
  · obtain ⟨ha, hd⟩ := Bool.or_eq_false_iff.1 hi
    rw [issues, hmaster, hdeposed, hacting, ha, Bool.false_and, Bool.false_or]
    cases hm : (rd .roundCfgMaster 0 s == ownFid s)
    · rfl
    · rw [hm, Bool.true_and, Bool.not_eq_false'] at hd
      rw [hd]
      rfl

theorem arriveMarker_late (hl : markerLate port m fwd s = true) :
    arriveMarker port m fwd s = atBoundary roundBoundary (markerReceived port m fwd s) := by
  obtain ⟨hmarker, -, -⟩ := fab_markerReceived h fwd
  have hb := (boundary_issues (s := markerReceived port m fwd s) (.inr (by rw [hmarker]; exact nofun))).1
  exact (if_pos (by rw [h, hl]; rfl)).trans hb

end

theorem arriveMarker_inTime {port : Nat} {m : Marker} {fwd : Nat} {s : State} (hl : markerLate port m fwd s = false) :
    arriveMarker port m fwd s = markerReceived port m fwd s := if_neg (by simp [hl])

theorem arriveMarker_ignored {port : Nat} {m : Marker} {s : State} (h : markerTaken port m s = false) (fwd : Nat) :
    arriveMarker port m fwd s = s := by
  have hs : markerReceived port m fwd s = s := if_pos (by rw [h]; rfl)
  exact (if_neg (by simp [h])).trans hs

/-! The standby master and the loss of the beat (R333). -/

theorem standbyTakeover_idle {s : State} (h : rd .roundCfgStandby 0 s ≠ ownFid s ∨ issues s = true ∨ s.fab.fly ≠ 3) :
    standbyTakeover s = s := if_pos h

/-- The state in which the standby issues its first marker: it acts, under the epoch after that of the last accepted marker. -/
def standbyActing (s : State) : State := setFab { s.fab with acting := true, fly := 0, epoch := rd .roundStatusEpoch 0 s + 1 } s

theorem standbyTakeover_issues {s : State} (hs : rd .roundCfgStandby 0 s = ownFid s) (hi : issues s = false) (hf : s.fab.fly = 3) :
    ∃ u b, OnlyJobs (standbyActing s) u ∧ standbyTakeover s =
      setFab { (issueMarker (roundNow u) u).2.fab with admBits := b } (issueMarker (roundNow u) u).2 :=
  ⟨_, _, .foldl (fun _ _ => onlyJobs_updJob ..) _ _, if_neg (by simp [hs, hi, hf])⟩

theorem standbyTakeover_acts {s : State} (hs : rd .roundCfgStandby 0 s = ownFid s) (hi : issues s = false) (hf : s.fab.fly = 3) :
    (standbyTakeover s).fab.acting = true ∧ (standbyTakeover s).fab.fly = 0 ∧
      (standbyTakeover s).fab.epoch = rd .roundStatusEpoch 0 s + 1 ∧
      rd .roundStatusEpoch 0 (standbyTakeover s) = rd .roundStatusEpoch 0 s := by
  obtain ⟨u, b, ⟨j, hu⟩, he⟩ := standbyTakeover_issues hs hi hf
  obtain ⟨j', p, n, hsent⟩ := issueMarker_parts (roundNow u) u
  obtain ⟨r, f, w, o, hm⟩ := hsent.parts
  rw [he, rd_setFab, rd_issueMarker _ _ _ (by decide) (by decide), hm, hu]
  exact ⟨rfl, rfl, rfl, rfl⟩

/-- With eight flywheel rounds every job is announced to hold. -/
theorem holdNext_beatLoss {s : State} (h : 8 ≤ s.fab.fly) {j : Nat} (hj : j ∈ memberJobs s) : (getJob j (beatLoss s)).holdNext = true := by
  have hfold : ∀ (l : List Nat) (u : State), j ∈ l ∨ (getJob j u).holdNext = true →
      (getJob j (l.foldl (fun u j => updJob j (fun x => { x with holdNext := true }) u) u)).holdNext = true := by
    intro l
    induction l with
    | nil => exact fun u hu => hu.resolve_left List.not_mem_nil
    | cons k l ih =>
      refine fun u hu => ih _ ?_
      rw [getJob_updJob]
      split
      · exact .inr rfl
      · next hk => exact hu.imp_left fun hm => (List.mem_cons.1 hm).resolve_left hk
  rw [beatLoss, if_neg (Nat.not_lt.2 h)]
  exact hfold _ _ (.inl hj)

theorem rd_beatLoss (s : State) (f : Reg) (i : Nat) : rd f i (beatLoss s) = rd f i s := by
  unfold beatLoss
  split
  · rfl
  · exact (OnlyJobs.foldl (fun _ _ => onlyJobs_updJob ..) _ _).rd_eq f i

/-- Settles O47: who opens the boundary decides what its opening reads (`boundary_issues`, `boundary_free`), and where nothing else hangs on
it the round is opened and no more (`atBoundary_opens`); a marker is kept or ignored by `markerTaken`. -/
theorem roundRules : Obligations.RoundRules := by
  intro s port m fwd up old plain
  refine ⟨fun h => ?acts, fun hi hk => ?flies, fun hp hi => ?master, fun hp hi k hk => ?follower, fun hp hi hk => ?flywheel,
    fun h => ?ignored, fun hup hlt h => ⟨fun hl => ?inTime, fun hl hp => ?late⟩, fun hs hi hf => ?standby, fun h => ?noStandby,
    fun h => congrArg Host.Outcome.next (if_pos h), fun h => ⟨_, rfl, fun j hj => holdNext_beatLoss h hj, fun f i => rd_beatLoss s f i⟩,
    fun h0 h => congrArg Host.Outcome.next (if_neg (not_or.2 ⟨h0, not_not_intro h⟩)), fun h => congrArg Host.Outcome.next (if_pos h)⟩
  case acts => exact ⟨next_settle_of_eq (boundary_issues h).1, next_settle_of_eq (boundary_issues h).2⟩
  case flies => exact ⟨next_settle_of_eq (boundary_free hi hk).1, next_settle_of_eq (boundary_free hi hk).2⟩
  case master => exact ⟨_, next_settle_of_eq (boundary_issues (.inl hi)).1, rd_boundary_master hp hi⟩
  case follower =>
    obtain ⟨v, -, hshows⟩ := boundary_follower hp hi hk
    obtain ⟨hmarker, hfly, hperiod⟩ := fab_roundOpened_some k.round v k
    refine ⟨_, next_settle_of_eq (boundary_issues (.inr (by rw [hk]; exact nofun))).1, ?_, ?_, ?_, ?_⟩
    · rw [hshows.rd_eq 0 (by decide) (by decide), rd_roundOpened_round]
    · rw [hshows.fab_eq, hperiod]
    · rw [hshows.fab_eq, hmarker]
    · rw [hshows.fab_eq, hfly]
  case flywheel =>
    obtain ⟨v, hacc, hshows⟩ := boundary_flywheel hp hi hk
    refine ⟨_, next_settle_of_eq (boundary_free hi hk).2, ?_, ?_⟩
    · rw [hshows.rd_eq 0 (by decide) (by decide), rd_roundOpened_round, Nat.mod_mod]
    · rw [hshows.fab_eq, fly_roundOpened_none, hacc.fab_eq]
  case ignored =>
    refine next_settle_of_eq (arriveMarker_ignored (Bool.eq_false_iff.2 fun ht => ?_) fwd)
    obtain ⟨hup, hepoch⟩ := markerTaken_iff.1 ht
    rcases h with h | h | ⟨he, h⟩
    · exact h hup
    · omega
    · obtain hlt | ⟨-, hi, hk, hr⟩ := hepoch
      · omega
      · rcases h with h | h | h
        · exact Bool.false_ne_true (hi ▸ h)
        · exact h hk
        · exact hr h
  case inTime =>
    have ht : markerTaken port m s = true := markerTaken_iff.2 ⟨hup, h⟩
    obtain ⟨hmarker, hdeposed, hacting⟩ := fab_markerReceived ht fwd
    refine ⟨_, next_settle_of_eq (arriveMarker_inTime hl), hmarker, rd_markerReceived_epoch ht fwd hlt,
      rd_markerReceived_other ht fwd 0 (by decide), fun hhigher => ⟨?_, ?_⟩⟩
    · rw [hdeposed, decide_eq_true hhigher, Bool.or_true]
    · rw [hacting, decide_eq_true hhigher, Bool.not_true, Bool.and_false]
  case late =>
    have ht : markerTaken port m s = true := markerTaken_iff.2 ⟨hup, h⟩
    obtain ⟨hkept, -, -⟩ := fab_markerReceived ht fwd
    obtain ⟨v, hacc, hshows⟩ := boundary_follower (plain_markerReceived ht fwd hp) (issues_markerReceived ht fwd) hkept
    obtain ⟨hmarker, -, -⟩ := fab_roundOpened_some m.round v m
    refine ⟨_, next_settle_of_eq (arriveMarker_late ht fwd hl), ?_, ?_, ?_⟩
    · rw [hshows.fab_eq, hmarker]
    · rw [hshows.rd_eq 0 (by decide) (by decide), rd_roundOpened_round]
    · rw [hshows.rd_eq 0 (by decide) (by decide), rd_roundOpened_other _ _ _ _ (by decide), hacc.rd_eq, rd_markerReceived_late ht fwd hl]
  case standby =>
    obtain ⟨hacting, hfly, hepoch, hshown⟩ := standbyTakeover_acts hs hi hf
    exact ⟨_, rfl, hacting, hfly, hepoch, hshown⟩
  case noStandby => exact congrArg Host.Outcome.next (standbyTakeover_idle h)

end Sys2Proof.Machine
end

section
/-!
PROOFS. The SPDM responder (R382, R383; log 57): a request is heard or not, and answered or refused (`spdmIf`); a session is found by its
number.
-/

namespace Sys2Proof.Machine

/-! A request on a transport: unheard, answered or refused. -/

section
variable {t : Nat} {ok : Bool} {answer : State → State} {s : State}

theorem spdmIf_unheard (h : spdmHears t s = false) : spdmIf t ok answer s = s := by
  simp only [spdmIf, h, Bool.not_false, if_true]

theorem spdmIf_heard (h : spdmHears t s = true) : spdmIf t ok answer s = if ok then answer s else spdmError t s := by
  simp only [spdmIf, h, Bool.not_true, Bool.false_eq_true, if_false]

/-- What was asked before is there: the request is answered. -/
theorem spdmIf_answered (h : spdmHears t s = true) (hok : ok = true) : spdmIf t ok answer s = answer s :=
  (spdmIf_heard h).trans (if_pos hok)

/-- What was asked before is not there: the request is refused, and changes nothing. -/
theorem spdmIf_refused (h : spdmHears t s = true) (hok : ok = false) : spdmIf t ok answer s = spdmError t s :=
  (spdmIf_heard h).trans (if_neg (Bool.eq_false_iff.1 hok))

end

/-! Sessions. -/

section
variable {n m : Nat} {s u : State}

/-- The sessions are all that `sessionOf` looks at. -/
theorem sessionOf_eq {l : List (Nat × Nat × Bool)} (h : u.eng.spdm.sessions = l) (n : Nat) :
    sessionOf n u = (l.find? fun x => x.1 == n).map (·.2) := by
  rw [sessionOf, h]

/-- The sessions once session n is complete. -/
def completed (n : Nat) (l : List (Nat × Nat × Bool)) : List (Nat × Nat × Bool) :=
  l.map fun x => if x.1 = n then (x.1, x.2.1, true) else x

/-- Completing a session leaves every number where it was. -/
theorem find?_completed (n m : Nat) (l : List (Nat × Nat × Bool)) :
    (completed n l).find? (fun x => x.1 == m) = (l.find? fun x => x.1 == m).map fun x => if x.1 = n then (x.1, x.2.1, true) else x := by
  have hkey : (fun x : Nat × Nat × Bool => x.1 == m) ∘ (fun x => if x.1 = n then (x.1, x.2.1, true) else x) = fun x => x.1 == m := by
    funext x
    by_cases h : x.1 = n <;> simp [h]
  rw [completed, List.find?_map, hkey]

theorem sessionOf_completed_same {v : Nat} {b : Bool} (h : sessionOf n s = some (v, b))
    (hu : u.eng.spdm.sessions = completed n s.eng.spdm.sessions) : sessionOf n u = some (v, true) := by
  obtain ⟨x, hx, hxv⟩ := Option.map_eq_some_iff.1 h
  have hn : x.1 = n := by simpa using List.find?_some hx
  rw [sessionOf_eq hu, find?_completed, hx]
  simp [hn, hxv]

theorem sessionOf_completed_other (h : m ≠ n) (hu : u.eng.spdm.sessions = completed n s.eng.spdm.sessions) :
    sessionOf m u = sessionOf m s := by
  rw [sessionOf_eq hu, find?_completed, sessionOf]
  cases hx : s.eng.spdm.sessions.find? fun x => x.1 == m with
  | none => rfl
  | some x =>
    have hm : x.1 ≠ n := fun hn => h ((by simpa using List.find?_some hx : x.1 = m).symm.trans hn)
    simp [hm]

theorem sessionOf_ended_same (hu : u.eng.spdm.sessions = s.eng.spdm.sessions.filter fun x => x.1 != n) : sessionOf n u = none := by
  rw [sessionOf_eq hu, List.find?_eq_none.2, Option.map_none]
  intro x hx
  simpa using (List.mem_filter.1 hx).2

theorem sessionOf_ended_other (h : m ≠ n) (hu : u.eng.spdm.sessions = s.eng.spdm.sessions.filter fun x => x.1 != n) :
    sessionOf m u = sessionOf m s := by
  have hkeep : (fun x : Nat × Nat × Bool => decide ((x.1 != n) = true ∧ (x.1 == m) = true)) = fun x => x.1 == m := by
    funext x
    by_cases hx : x.1 = m <;> simp [hx, h]
  rw [sessionOf_eq hu, List.find?_filter, hkeep, sessionOf]

end

/-! Measurements (R383). -/

/-- Measurements 1 to 6 are the firmware's and the configuration's; those from 16 on are the parcels'. -/
theorem measurement_ne_none_iff (n : Nat) (s : State) : measurement n s ≠ none ↔
    (1 ≤ n ∧ n ≤ 6) ∨ (16 ≤ n ∧ n ≤ 79 ∧ ((getParcel (n - 16) s).st = 2 ∨ (getParcel (n - 16) s).st = 3)) := by
  by_cases hfix : 1 ≤ n ∧ n ≤ 6
  · obtain ⟨h1, h6⟩ := hfix
    interval_cases n <;> simp [measurement]
  · have h1 : n ≠ 1 := by omega
    have h2 : n ≠ 2 := by omega
    have h3 : n ≠ 3 := by omega
    have h4 : n ≠ 4 := by omega
    have h5 : n ≠ 5 := by omega
    have h6 : n ≠ 6 := by omega
    simp only [measurement, if_neg h1, if_neg h2, if_neg h3, if_neg h4, if_neg h5, if_neg h6, hfix, false_or, Nat.lt_succ_iff (n := 79)]
    split <;> simp_all

/-- Settles O45: each request is a `spdmIf` of what it needs; sessions are followed by their number through FINISH and END_SESSION. -/
theorem spdmRules : Obligations.SpdmRules := by
  intro req slot n s p t
  refine ⟨fun h => ?unheard, fun h => congrArg Host.Outcome.next (spdmIf_unheard h), fun h => ?heard,
    fun h => congrArg Host.Outcome.next (spdmIf_heard h), fun v hv h => ?complete, fun hno => ?incomplete, measurement_ne_none_iff n s⟩
  case unheard =>
    simp only [List.forall_mem_cons]
    have hs {ok : Bool} {answer : State → State} : (.next (spdmIf t ok answer s) : Res) = .next s :=
      congrArg Host.Outcome.next (spdmIf_unheard h)
    exact ⟨hs, hs, hs, hs, hs, hs, hs, hs, fun _ hc => nomatch hc⟩
  case heard =>
    have hs {ok : Bool} {answer : State → State} :
        (.next (spdmIf t ok answer s) : Res) = .next (if ok then answer s else spdmError t s) :=
      congrArg Host.Outcome.next (spdmIf_heard h)
    have hslot {answer : State → State} : (.next (spdmIf t (spdmReady t s && decide (slot < 2)) answer s) : Res) =
        .next (if p.algorithms.contains t = true ∧ slot < 2 then answer s else spdmError t s) := by
      rw [hs]
      simp only [Bool.and_eq_true, decide_eq_true_iff]
      rfl
    refine ⟨hs, hs, hs, hs, hslot, hslot, fun ha => ?_, fun ha => congrArg Host.Outcome.next (spdmIf_refused h ha), fun hn => ?_,
      fun hn => congrArg Host.Outcome.next (spdmIf_refused h (by simpa using hn))⟩
    · exact ⟨_, congrArg Host.Outcome.next (spdmIf_answered h ha), rfl, fun f i => rfl⟩
    · exact ⟨_, congrArg Host.Outcome.next (spdmIf_answered h (by simpa using hn)), sessionOf_completed_same hn rfl,
        fun m hm => sessionOf_completed_other hm rfl⟩
  case complete =>
    have hb : exec (.heartbeat n) s = .next (spdmIf v true (spdmAnswer v 0x68 []) s) := by
      show execHeartbeat n s = _
      simp only [execHeartbeat, hv]
    have he : exec (.endSession n) s = .next (spdmIf v true (fun u => spdmAnswer v 0x6C []
        (setSpdm { p with sessions := p.sessions.filter fun x => x.1 != n } u)) s) := by
      show execEndSession n s = _
      simp only [execEndSession, hv]
      rfl
    rw [spdmIf_answered h rfl] at hb he
    exact ⟨hb, _, he, sessionOf_ended_same rfl, fun m hm => sessionOf_ended_other hm rfl⟩
  case incomplete =>
    constructor
    · show execHeartbeat n s = _
      unfold execHeartbeat
      split
      · next hv => exact absurd hv (hno _)
      · rfl
    · show execEndSession n s = _
      unfold execEndSession
      split
      · next hv => exact absurd hv (hno _)
      · rfl

end Sys2Proof.Machine
end

section
/-!
PROOFS. The mailboxes (R374 to R378): what a commit writes into its slot, and each of the mailbox commands by the state of its slot.
-/

namespace Sys2Proof.Machine

section
variable {m : Nat} {s : State}

/-! A message goes into a slot (R375, R376). -/

theorem mboxCopy_off (h : rd .mboxCfgCopy m s = 0) (bs : List Byte) : mboxCopy m bs s = s :=
  if_pos (.inr (by rw [bit, h]; rfl))

theorem rd_mboxIrq (f : Reg) (i : Nat) (s : State) : rd f i (mboxIrq m s) = rd f i s := by
  unfold mboxIrq
  split <;> rfl

theorem eng_mboxIrq (s : State) : (mboxIrq m s).eng = s.eng := by
  unfold mboxIrq
  split <;> rfl

/-- A slot with a message put into it: FULL, and SEQ one more. -/
def slotFilled (m : Nat) (bs : List Byte) (s : State) : State :=
  wr .mboxStatusSeq m (rd .mboxStatusSeq m s + 1)
    (flag .mboxStatusFull m (setEng { s.eng with slots := mwrite s.eng.slots (256 * m) bs } s))

theorem rd_slotFilled_full (bs : List Byte) : rd .mboxStatusFull m (slotFilled m bs s) = 1 := by
  rw [slotFilled, rd_wr_field _ _ _ _ _ _ (by decide), flag, rd_wr_same]
  rfl

theorem rd_slotFilled_seq (bs : List Byte) : rd .mboxStatusSeq m (slotFilled m bs s) = (rd .mboxStatusSeq m s + 1) % 256 := by
  rw [slotFilled, rd_wr_same]
  rfl

theorem rd_slotFilled_other {f : Reg} (i : Nat) (hf : f ≠ .mboxStatusFull) (hs : f ≠ .mboxStatusSeq) (bs : List Byte) :
    rd f i (slotFilled m bs s) = rd f i s := by
  rw [slotFilled, rd_wr_field _ _ _ _ _ _ hs, flag, rd_wr_field _ _ _ _ _ _ hf]
  rfl

theorem slots_slotFilled (bs : List Byte) : (slotFilled m bs s).eng.slots = mwrite s.eng.slots (256 * m) bs := rfl

/-- Where messages are not copied to the counter area, the receiver's interrupt is all that comes with a filled slot (R376, R378). -/
theorem mboxFill_uncopied {bs : List Byte} (hlen : bs.length = 256) (h : rd .mboxCfgCopy m s = 0) :
    mboxFill m bs s = mboxIrq m (slotFilled m bs s) := by
  have hbs : (bs ++ List.replicate 256 0).take 256 = bs := by rw [← hlen, List.take_left]
  simp only [mboxFill, hbs]
  exact congrArg (mboxIrq m) (mboxCopy_off ((rd_slotFilled_other m (by decide) (by decide) bs).trans h) bs)

/-! A slot is emptied (R376, R377). -/

theorem fwNext_none (h : tget noUnsent s.eng.unsent m = []) : fwNext m s = s := by
  rw [fwNext, h]

section
variable (hfull : bit .mboxStatusFull m s = true)
include hfull

theorem mboxCommit_full (hb : barServes .mbox s = true) : mboxCommit m s = emit .abort (flag .mboxStatusReject m s) := by
  simp only [mboxCommit, hb, hfull, Bool.not_true, Bool.false_eq_true, if_false, if_true]

theorem mboxAck_current (hkept : tget noUnsent s.eng.unsent m = []) : mboxAck m (rd .mboxStatusSeq m s) s = wr .mboxStatusFull m 0 s := by
  rw [mboxAck, hfull, beq_self_eq_true, Bool.and_true, if_pos rfl]
  exact fwNext_none hkept

theorem mboxWithdraw_full (hkept : tget noUnsent s.eng.unsent m = []) :
    mboxWithdraw m s = flag .mboxStatusWithdrawn m (wr .mboxStatusFull m 0 s) := by
  rw [mboxWithdraw, if_pos hfull]
  exact fwNext_none hkept

theorem mboxTimeout_full : mboxTimeout m s = emit
    (if mboxToFw m then .msix (mboxPort m) (mboxFunc m s) (rd .mboxCfgVector m s) else .fwIrq m) (flag .mboxStatusTimeout m s) := by
  rw [mboxTimeout, hfull]
  cases mboxToFw m <;> rfl

/-- The firmware that runs takes a message of its mailbox (R374, R376, R378). -/
theorem mboxTake_full {input : List Byte} {outFault : Bool} {found : List BadUnit} {extOk : Bool} {e : Env}
    (he : e = mboxEnv m input outFault found extOk s) (hfw : mboxToFw m = true) (hup : mboxSecure m = true ∨ clerkUp s = true)
    (hstop : stopping s = false) (hlen : envLen e ≤ 256) :
    mboxTake m input outFault found extOk s = anyEnvelope e (mboxAck m (rd .mboxStatusSeq m s) s) := by
  have hruns : (!mboxSecure m && !clerkUp s) = false := by rcases hup with h | h <;> simp [h]
  simp only [mboxTake, hfw, hfull, hruns, hstop, ← he, if_neg (Nat.not_lt.2 hlen)]
  rfl

end

section
variable (hempty : bit .mboxStatusFull m s = false)
include hempty

theorem mboxCommit_empty (hb : barServes .mbox s = true) {t : State} (ht : t = mboxFill m (mread s.eng.staging (256 * m) 256) s) :
    mboxCommit m s = emit (.readData false (natLe 8 (rd .mboxStatusSeq m t))) t := by
  subst ht
  simp only [mboxCommit, hb, hempty, Bool.not_true, Bool.false_eq_true, if_false]

theorem mboxTimeout_empty : mboxTimeout m s = s := if_pos (by rw [hempty]; rfl)

theorem mboxWithdraw_empty : mboxWithdraw m s = s := if_neg (Bool.eq_false_iff.1 hempty)

end

theorem mboxCommit_unserved (h : barServes .mbox s = false) : mboxCommit m s = s := if_pos (by rw [h]; rfl)

theorem mboxAck_stale {seq : Nat} (h : bit .mboxStatusFull m s = false ∨ seq ≠ rd .mboxStatusSeq m s) : mboxAck m seq s = s :=
  if_neg fun hc => by
    obtain ⟨hfull, hseq⟩ := Bool.and_eq_true_iff.1 hc
    exact h.elim (Bool.eq_false_iff.1 · hfull) (· (beq_iff_eq.1 hseq))

end

/-- Settles O31: each command of a mailbox by whether its slot is full, and the slot that a commit fills by `mboxFill_uncopied`. -/
theorem mailboxProtocol : Obligations.MailboxProtocol := by
  refine ⟨fun m seq s => ⟨fun hb hf => congrArg Host.Outcome.next (mboxCommit_full hf hb),
    fun hb => congrArg Host.Outcome.next (mboxCommit_unserved hb), fun hb hf => congrArg Host.Outcome.next (mboxCommit_empty hf hb rfl),
    fun bs hlen hcopy => ?filled, fun hf hkept => ⟨fun hseq => ?acknowledged, congrArg Host.Outcome.next (mboxWithdraw_full hf hkept)⟩,
    fun h => congrArg Host.Outcome.next (mboxAck_stale h), fun hf => congrArg Host.Outcome.next (mboxTimeout_full hf),
    fun hf => ⟨congrArg Host.Outcome.next (mboxTimeout_empty hf), congrArg Host.Outcome.next (mboxWithdraw_empty hf)⟩⟩,
    fun m input outFault found extOk s hfw hf hup hstop hlen => next_settle_of_eq (mboxTake_full hf rfl hfw hup hstop hlen)⟩
  case filled =>
    rw [mboxFill_uncopied hlen hcopy, rd_mboxIrq, rd_mboxIrq, eng_mboxIrq, slots_slotFilled]
    refine ⟨rd_slotFilled_full bs, rd_slotFilled_seq bs, ?_, fun k hk => mread_mwrite_apart _ _ _ _ _ ?_⟩
    · rw [← hlen, mread_mwrite_same]
    · have hval : k.val ≠ m.val := fun hv => hk (Fin.ext hv)
      omega
  case acknowledged =>
    show Host.Outcome.next (mboxAck m.val seq.toNat s) = _
    rw [hseq, mboxAck_current hf hkept]

end Sys2Proof.Machine
end

section
/-!
PROOFS. Firmware (R371, R373, R381): what FW_STAGE and FW_ACTIVATE answer, by the checks of their images.
-/

namespace Sys2Proof.Machine

section
variable {e : Env} {s : State} {f : Firmware}

/-- An envelope that names the clerk or the patch passes the check of its image number. -/
theorem image_named (h : pNat e 0 1 = 1 ∨ pNat e 0 1 = 2) : ¬(pNat e 0 1 ≠ 1 ∧ pNat e 0 1 ≠ 2) := fun ⟨h1, h2⟩ => h.elim h1 h2

/-- A staged image that is complete and signed. -/
structure Activatable (f : Firmware) : Prop where
  staged : f.count ≠ 0
  complete : f.count = f.total
  signed : Config.imageSigned f.other = true

theorem Activatable.passes (h : Activatable f) : ¬(f.count = 0 ∨ f.count ≠ f.total ∨ (!Config.imageSigned f.other) = true) := by
  rintro (h0 | h1 | h2)
  · exact h.staged h0
  · exact h1 h.complete
  · simp [h.signed] at h2

section
variable (hi : pNat e 0 1 = 1 ∨ pNat e 0 1 = 2) (hf : f = getFw (pNat e 0 1) s)
include hi hf

/-! FW_STAGE. -/

theorem doFwStage_gap (h : pNat e 4 4 ≠ stageNext f) : doFwStage e s = (refuseAt 1 4, s) := by
  simp only [doFwStage, if_neg (image_named hi), ← hf, if_pos h]

theorem doFwStage_contiguous (h : pNat e 4 4 = stageNext f) (h0 : pNat e 8 4 ≠ 0) (hmax : pNat e 8 4 ≠ 2 ^ 32 - 1) {chunk bank : List Byte}
    (hchunk : chunk = if hNat e 28 8 = 0 then (e.raw.take (envLen e)).drop 80 else e.input.take (hNat e 36 4)) (hne : chunk ≠ [])
    (htotal : pNat e 4 4 = 0 ∨ pNat e 8 4 = f.total) (hfits : pNat e 4 4 + chunk.length ≤ pNat e 8 4) (hflash : e.extOk = true)
    (hbank : bank = f.other.take (pNat e 4 4) ++ chunk) :
    doFwStage e s = (okAns, setFw (pNat e 0 1) { f with
      count := bank.length, total := pNat e 8 4, other := bank, otherVersion := Config.imageVersion bank } s) := by
  have hempty : ¬(pNat e 8 4 = 0 ∨ chunk = []) := not_or.2 ⟨h0, hne⟩
  have hother : ¬(pNat e 4 4 ≠ 0 ∧ pNat e 8 4 ≠ f.total) := fun ⟨ho, ht⟩ => htotal.elim ho ht
  subst hbank
  simp only [doFwStage, if_neg (image_named hi), ← hf, if_neg (not_not_intro h), ← hchunk, if_neg hempty, if_neg hmax, if_neg hother,
    if_neg (Nat.not_lt.2 hfits), hflash, Bool.not_true, Bool.false_eq_true, if_false]

/-! FW_ACTIVATE. -/

theorem doFwActivate_unsigned (h : f.count = 0 ∨ f.count ≠ f.total ∨ Config.imageSigned f.other = false) :
    doFwActivate e s = (refuse 14, s) := by
  have hbad : f.count = 0 ∨ f.count ≠ f.total ∨ (!Config.imageSigned f.other) = true := by rwa [Bool.not_eq_true']
  simp only [doFwActivate, if_neg (image_named hi), ← hf, if_pos hbad]

section
variable (h : Activatable f)
include h

theorem doFwActivate_rolledBack (hv : Config.imageVersion f.other < f.rollback) : doFwActivate e s = (refuse 15, s) := by
  simp only [doFwActivate, if_neg (image_named hi), ← hf, if_neg h.passes, if_pos hv]

theorem doFwActivate_clerk (h1 : pNat e 0 1 = 1) (hv : f.rollback ≤ Config.imageVersion f.other) :
    doFwActivate e s = (⟨0, 0, natLe 4 (Config.imageVersion f.other), []⟩, wr .brdevStatusClerkUp 0 0 (setFw 1 { f with
      count := 0, total := 0, other := f.active, otherVersion := f.version, active := f.other, version := Config.imageVersion f.other,
      starting := true } s)) := by
  simp only [doFwActivate, if_neg (image_named hi), ← hf, if_neg h.passes, if_neg (Nat.not_lt.2 hv), if_pos h1]

theorem doFwActivate_patch (h2 : pNat e 0 1 = 2) (hv : f.rollback ≤ Config.imageVersion f.other) :
    doFwActivate e s = (⟨0, 0, natLe 4 (Config.imageVersion f.other), []⟩,
      setFw 2 { f with count := 0, total := 0, scheduled := true } s) := by
  have h1 : pNat e 0 1 ≠ 1 := by omega
  simp only [doFwActivate, if_neg (image_named hi), ← hf, if_neg h.passes, if_neg (Nat.not_lt.2 hv), if_neg h1]

end

end

end

/-- Settles O38: a taken envelope is answered with what its opcode's body answers (`command_answers`): FW_STAGE by its offset, FW_ACTIVATE
by signature, then rollback, then the image it names. -/
theorem firmwareEnvelopes : Obligations.FirmwareEnvelopes := by
  intro e s u f chunk bank version
  refine ⟨fun h hi => ⟨fun hgap => ?gap, fun hnext h0 hmax hne htotal hfits hflash => ?staged⟩,
    fun h hi => ⟨fun hbad => ?unsigned, fun hcount htotal hsigned => ?activatable⟩⟩
  case gap => exact command_answers h (doFwStage_gap hi rfl hgap) (show 1 ≠ 4 by decide)
  case staged =>
    exact command_answers h (doFwStage_contiguous hi rfl hnext h0 hmax rfl hne htotal hfits hflash rfl) (show 0 ≠ 4 by decide)
  case unsigned => exact command_answers h (doFwActivate_unsigned hi rfl hbad) (show 14 ≠ 4 by decide)
  case activatable =>
    have hact : Activatable f := ⟨hcount, htotal, hsigned⟩
    refine ⟨fun hv => ?rolledBack, fun hv => ⟨fun h1 => ?clerk, fun h2 => ?patch⟩⟩
    case rolledBack => exact command_answers h (doFwActivate_rolledBack hi rfl hact hv) (show 15 ≠ 4 by decide)
    case clerk => exact command_answers h (doFwActivate_clerk hi rfl hact h1 hv) (show 0 ≠ 4 by decide)
    case patch => exact command_answers h (doFwActivate_patch hi rfl hact h2 hv) (show 0 ≠ 4 by decide)

end Sys2Proof.Machine
end

section
/-!
PROOFS. The checks of an envelope (R358, R361, R362, R370), row by row of the opcode table: each command passes its envelope through
`envelope` under its own row, which settles an envelope that does not reach its opcode's body whatever that body is.
-/

namespace Sys2Proof.Machine

/-! An envelope that does not reach its opcode's body. -/

section
variable {o : OpInfo} {e : Env} {body : State → Option Ans × State} {s : State}

theorem envelope_unready (h : ready e s = false) : envelope o e body s = s := if_pos (by rw [h]; rfl)

section
variable (hr : ready e s = true)
include hr

/-- The first header check that fails is answered with its status (R361, R363). -/
theorem envelope_header {r : Nat × Nat} (h : headerCheck o e = some r) : envelope o e body s =
    reply o.code e ⟨r.1, if r.1 ≤ 3 then r.2 else 0, [], []⟩ (if r.1 = 4 then countAuthority o e (markPassed e s) else markPassed e s) := by
  simp only [envelope, hr, h, Bool.not_true, Bool.false_eq_true, if_false]

section
variable (hh : headerCheck o e = none)
include hh

/-- An envelope for a clerk that is down is kept while fewer than 256 are (R370). -/
theorem envelope_clerkDown (hc : o.clerk = true) (hdown : clerkUp (markPassed e s) = false) : envelope o e body s =
    if 256 ≤ (markPassed e s).eng.store.length then reply o.code e (refuse 7) (markPassed e s)
    else setEng { (markPassed e s).eng with store := (markPassed e s).eng.store ++ [(16 * o.code + o.op, e)] } (markPassed e s) := by
  simp only [envelope, hr, hh, hc, hdown, Bool.not_true, Bool.not_false, Bool.false_eq_true, if_false, and_self, if_true]

theorem envelope_handled (hc : o.clerk = true → clerkUp (markPassed e s) = true) :
    envelope o e body s = handle o e body (markPassed e s) := by
  have hstore : ¬(o.clerk = true ∧ (!clerkUp (markPassed e s)) = true) := fun ⟨hk, hdown⟩ => by simp [hc hk] at hdown
  simp only [envelope, hr, hh, if_neg hstore, Bool.not_true, Bool.false_eq_true, if_false]

end

end

theorem handle_denied (hf : o.first = true) (hc : classAllowed o e = false) :
    handle o e body s = countAuthority o e (reply o.code e (refuse 4) s) := if_pos (by rw [hf, hc]; rfl)

theorem handle_malformed (hf : o.first = true → classAllowed o e = true) {r : Nat × Nat} (h : paramCheck o e = some r) :
    handle o e body s = reply o.code e ⟨r.1, r.2, [], []⟩ s := by
  have hclass : ¬(o.first && !classAllowed o e) = true := fun hb => by
    obtain ⟨hfirst, hnot⟩ := Bool.and_eq_true_iff.1 hb
    simp [hf hfirst] at hnot
  simp only [handle, if_neg hclass, h]

end

/-! The rows. -/

/-- A command passes an envelope to a body of its row's through the checks of the row. -/
def PassesEnvelope (e : Env) (x : Instr × OpInfo) : Prop :=
  ∃ body, ∀ s, exec x.1 s = .next (settle (envelope x.2 e body s))

theorem passesEnvelope_of_row {e : Env} : ∀ x ∈ envelopeRows e, PassesEnvelope e x := by
  simp only [envelopeRows, envelopeRows0, envelopeRows1, envelopeRows2, envelopeRows3, envelopeRows4, envelopeRows5, envelopeRows6,
    envelopeRows7, List.flatten_cons, List.flatten_nil, List.append_nil, List.forall_mem_append, List.forall_mem_cons,
    List.not_mem_nil, false_implies, implies_true, and_true]
  and_intros <;> exact ⟨_, fun _ => rfl⟩

/-- Settles O34: each row is `envelope` under its row of the table (`passesEnvelope_of_row`), and the first check that fails settles the
envelope whatever its opcode's body is. -/
theorem envelopeChecks : Obligations.EnvelopeChecks := by
  intro e s x hx u
  obtain ⟨body, hexec⟩ := passesEnvelope_of_row x hx
  rw [hexec]
  refine ⟨fun hr => ?unready, fun hr => ⟨fun r h => ?header, fun hh hc hdown => ⟨fun hroom => ?kept, fun hfull => ?busy⟩,
    fun hh hup hf hclass => ?denied, fun hh hup hclass r h => ?malformed⟩⟩
  case unready => exact next_settle_of_eq (envelope_unready hr)
  case header => exact next_settle_of_eq (envelope_header hr h)
  case kept => exact next_settle_of_eq ((envelope_clerkDown hr hh hc hdown).trans (if_neg (Nat.not_le.2 hroom)))
  case busy => exact next_settle_of_eq ((envelope_clerkDown hr hh hc hdown).trans (if_pos hfull))
  case denied => exact next_settle_of_eq ((envelope_handled hr hh hup).trans (handle_denied hf hclass))
  case malformed => exact next_settle_of_eq ((envelope_handled hr hh hup).trans (handle_malformed hclass h))

end Sys2Proof.Machine
end

section
/-!
PROOFS. A refusal by an opcode's own checks leaves the state as it was (R361, R371 to R373). Every body is a chain of checks, each of which
answers and hands the state on, before what it does: a proof below is the chain of its body, in the body's order.
-/

namespace Sys2Proof.Machine

/-- An answer of the kind asked about comes with the state as it was. -/
def KeptIf {α : Type} (p : α → Prop) (s : State) (r : α × State) : Prop := p r.1 → r.2 = s

/-- The answer is a refusal. -/
def Refuses (a : Ans) : Prop := a.status ≠ 0

/-- There is an answer already, and it is a refusal. -/
def RefusesNow (o : Option Ans) : Prop := ∃ a, o = some a ∧ Refuses a

namespace KeptIf

section
variable {α : Type} {p : α → Prop} {s t : State} {a : α}

/-- A check that fails answers, whatever it answers, with the state as it was. -/
theorem refused (a : α) : KeptIf p s (a, s) := fun _ => rfl

theorem branch {c : Prop} [Decidable c] {x y : α × State} (hx : KeptIf p s x) (hy : KeptIf p s y) : KeptIf p s (if c then x else y) := by
  split
  · exact hx
  · exact hy

/-- One check more before the rest of a body. -/
theorem check {c : Prop} [Decidable c] {y : α × State} (h : KeptIf p s y) : KeptIf p s (if c then (a, s) else y) :=
  branch (refused a) h

/-- An answer of another kind comes with any state. -/
theorem other (h : ¬p a) : KeptIf p s (a, t) := fun hp => absurd hp h

theorem unchanged {r : α × State} (h : KeptIf p s r) (hp : p a) : r = (a, t) → t = s := by
  rintro rfl
  exact h hp

end

section
variable {s t : State} {a : Ans}

theorem done (h : a.status = 0) : KeptIf Refuses s (a, t) := other (not_not_intro h)

theorem doneNow (h : a.status = 0) : KeptIf RefusesNow s (some a, t) :=
  other fun ⟨_, hb, hr⟩ => hr (Option.some.inj hb ▸ h)

/-- A body that has no answer yet has not refused. -/
theorem waits : KeptIf RefusesNow s (none, t) := other fun ⟨_, hb, _⟩ => nomatch hb

theorem now {r : Ans × State} (h : KeptIf Refuses s r) : KeptIf RefusesNow s (some r.1, r.2) :=
  fun ⟨_, hb, hr⟩ => h (Option.some.inj hb ▸ hr)

end

end KeptIf

section
variable (e : Env) (s : State)

/-! The device, parcels and memory. -/

theorem keptIf_doNop : KeptIf Refuses s (doNop e s) := .done rfl

theorem keptIf_doDevQuery : KeptIf Refuses s (doDevQuery e s) := .done rfl

theorem keptIf_doConfig : KeptIf Refuses s (doConfig e s) := .check <| .check <| .check <| .check <| .done rfl

theorem keptIf_doLock : KeptIf Refuses s (doLock e s) := .check <| .check <| .done rfl

theorem keptIf_doTest (kind : Nat) : KeptIf Refuses s (doTest kind e s) :=
  .branch (.check <| .check <| .done rfl) <| .check <| .check <| .check <| .check <| .check <| .branch (.check <| .done rfl) (.done rfl)

theorem keptIf_doParcelReserve : KeptIf Refuses s (doParcelReserve e s) :=
  .check <| .check <| .check <| .check <| .check <| .check <| .check <| .done rfl

theorem keptIf_doParcelDiscard : KeptIf Refuses s (doParcelDiscard e s) := .check <| .check <| .check <| .done rfl

theorem keptIf_doGrant : KeptIf Refuses s (doGrant e s) :=
  .check <| .check <| .check <| .check <| .check <| .check <| .check <| .done rfl

theorem keptIf_doFill : KeptIf Refuses s (doFill e s) := by
  unfold doFill
  split
  · exact .refused _
  · exact .check <| .check <| .check <| .check <| .done rfl

theorem keptIf_doSwappoolAdd : KeptIf Refuses s (doSwappoolAdd e s) := by
  unfold doSwappoolAdd
  split
  · exact .refused _
  · exact .check <| .done rfl

theorem keptIf_doSwappoolRemove : KeptIf Refuses s (doSwappoolRemove e s) := by
  unfold doSwappoolRemove
  split
  · exact .refused _
  · exact .check <| .done rfl

/-- A field that cannot be read is answered with 9 after it has been read (log 55). -/
theorem keptIf_doAtomic : KeptIf (fun a => Refuses a ∧ a.status ≠ 9) s (doAtomic e s) :=
  .check <| .check <| .check <| .check <| .check <| .check <| .check <| .check <| .branch
    (.other fun ⟨_, h9⟩ => h9 rfl) (.other fun ⟨h0, _⟩ => h0 rfl)

/-! Streams and handles. -/

theorem keptIf_doCancel : KeptIf Refuses s (doCancel e s) := by
  unfold doCancel
  split
  · exact .refused _
  · exact .done rfl

theorem keptIf_doFreeze : KeptIf Refuses s (doFreeze e s) := by
  unfold doFreeze
  split
  · exact .refused _
  · refine .check ?_
    split
    · exact .refused _
    · exact .done rfl

theorem keptIf_doRelease : KeptIf Refuses s (doRelease e s) := by
  simp only [doRelease]
  split
  · exact .refused _
  · exact .check <| .done rfl

theorem keptIf_doQuery : KeptIf Refuses s (doQuery e s) := by
  unfold doQuery
  split
  · exact .refused _
  · exact .done rfl

theorem keptIf_doDiscard : KeptIf Refuses s (doDiscard e s) := by
  unfold doDiscard
  split
  · exact .refused _
  · exact .check <| .check <| .done rfl

/-! Books, sampling, grammars and rings. -/

theorem keptIf_doBookSet : KeptIf Refuses s (doBookSet e s) := .check <| .check <| .check <| .check <| .check <| .done rfl

theorem keptIf_doBookBind : KeptIf Refuses s (doBookBind e s) := by
  refine .check ?_
  split
  · exact .refused _
  · exact .check <| .done rfl

theorem keptIf_doBookUnbind : KeptIf Refuses s (doBookUnbind e s) := .check <| .check <| .check <| .check <| .done rfl

theorem keptIf_doSampleCfg : KeptIf Refuses s (doSampleCfg e s) := by
  refine .check ?_
  split
  · exact .refused _
  · split
    · exact .refused _
    · exact .check <| .done rfl

theorem keptIf_doGrammarUnload : KeptIf Refuses s (doGrammarUnload e s) := by
  refine .check ?_
  split
  · exact .refused _
  · exact .check <| .check <| .done rfl

theorem keptIf_doRingEnable : KeptIf Refuses s (doRingEnable e s) := by
  refine .check <| .check <| .check <| .check <| .check <| .check <| .check ?_
  split
  · exact .refused _
  · exact .check <| .done rfl

theorem keptIf_doRingDisable : KeptIf Refuses s (doRingDisable e s) := .check <| .check <| .check <| .check <| .check <| .done rfl

theorem keptIf_doReceiptsEnable : KeptIf Refuses s (doReceiptsEnable e s) :=
  .check <| .check <| .check <| .check <| .check <| .check <| .check <| .check <| .done rfl

theorem keptIf_doReceiptsDisable : KeptIf Refuses s (doReceiptsDisable e s) := .check <| .check <| .check <| .check <| .done rfl

/-! Power, heat, the fabric, jobs and twins. -/

theorem keptIf_doPowerCap : KeptIf Refuses s (doPowerCap e s) := .check <| .check <| .check <| .done rfl

theorem keptIf_doPowerLimit : KeptIf Refuses s (doPowerLimit e s) := .check <| .check <| .done rfl

theorem keptIf_doThermal : KeptIf Refuses s (doThermal e s) := .check <| .check <| .done rfl

theorem keptIf_doFabric : KeptIf Refuses s (doFabric e s) := by
  refine .check ?_
  split
  · exact .refused _
  · exact .done rfl

theorem keptIf_doRoundCfg : KeptIf Refuses s (doRoundCfg e s) := .check <| .check <| .check <| .check <| .check <| .check <| .done rfl

theorem keptIf_doJobForm : KeptIf Refuses s (doJobForm e s) := by
  unfold doJobForm
  split
  · exact .refused _
  · exact .check <| .check <| .check <| .done rfl

theorem keptIf_doJobDissolve : KeptIf Refuses s (doJobDissolve e s) := .check <| .check <| .done rfl

theorem keptIf_doCirc : KeptIf Refuses s (doCirc e s) := .check <| .check <| .check <| .check <| .check <| .done rfl

theorem keptIf_doTwinPair : KeptIf Refuses s (doTwinPair e s) := .check <| .check <| .check <| .done rfl

theorem keptIf_doTwinUnpair : KeptIf Refuses s (doTwinUnpair e s) := .check <| .done rfl

theorem keptIf_doTwinMsg : KeptIf Refuses s (doTwinMsg e s) := .check <| .check <| .done rfl

theorem keptIf_doLeaseKey (key : List Byte) : KeptIf Refuses s (doLeaseKey e key s) := .check <| .check <| .done rfl

theorem keptIf_doLeaseGrant : KeptIf Refuses s (doLeaseGrant e s) := .check <| .done rfl

theorem keptIf_doLogRead : KeptIf Refuses s (doLogRead e s) := .check <| .done rfl

theorem keptIf_doFwStage : KeptIf Refuses s (doFwStage e s) :=
  .check <| .check <| .check <| .check <| .check <| .check <| .check <| .done rfl

/-! Bodies that may answer later. -/

theorem keptIf_doReset : KeptIf RefusesNow s (doReset e s) :=
  .check <| .check <| .check <| .check <| .check <| .check <| .branch .waits (.doneNow rfl)

theorem keptIf_rebind : KeptIf RefusesNow s (rebind e s) := by
  simp only [rebind]
  split
  · exact .refused _
  · exact .check .waits

theorem keptIf_doFence : KeptIf RefusesNow s (doFence e s) := .check <| .check <| .check <| .check .waits

theorem keptIf_doNmSubmit : KeptIf RefusesNow s (doNmSubmit e s) := by
  simp only [doNmSubmit]
  split
  · exact .refused _
  · exact .check .waits

theorem keptIf_takeStream : KeptIf Refuses s (takeStream e s) := .check <| .done rfl

theorem keptIf_doSubmit : KeptIf RefusesNow s (doSubmit e s) := by
  refine .branch .waits ?_
  split
  · exact .refused _
  · exact .now (keptIf_takeStream e s)

theorem keptIf_doPreempt : KeptIf RefusesNow s (doPreempt e s) := by
  unfold doPreempt
  split
  · exact .refused _
  · exact .check .waits

theorem keptIf_doResume : KeptIf RefusesNow s (doResume e s) := by
  unfold doResume
  split
  · exact .refused _
  · exact .check <| .check <| .check <| .check <| .check <| .check .waits

end

/-- Settles O36: each body's own chain of checks, and `KeptIf.unchanged` of it. -/
theorem refusedUnchanged : Obligations.RefusedUnchanged := by
  intro e s t a ha
  have kept {r : Ans × State} (h : KeptIf Refuses s r) : r = (a, t) → t = s := h.unchanged ha
  have keptNow {r : Option Ans × State} (h : KeptIf RefusesNow s r) : r = (some a, t) → t = s := h.unchanged ⟨a, rfl, ha⟩
  simp only [List.forall_mem_cons, List.not_mem_nil, false_implies, implies_true, and_true]
  refine ⟨?memory, fun h9 => (keptIf_doAtomic e s).unchanged ⟨ha, h9⟩, ?control, ?later⟩
  case memory =>
    exact
      ⟨kept (keptIf_doNop e s), kept (keptIf_doDevQuery e s), kept (keptIf_doConfig e s), kept (keptIf_doLock e s),
       kept (keptIf_doTest e s 1), kept (keptIf_doTest e s 2), kept (keptIf_doTest e s 3), kept (keptIf_doParcelReserve e s),
       kept (keptIf_doParcelDiscard e s), kept (keptIf_doGrant e s), kept (keptIf_doFill e s), kept (keptIf_doSwappoolAdd e s),
       kept (keptIf_doSwappoolRemove e s), kept (keptIf_doCancel e s), kept (keptIf_doFreeze e s), kept (keptIf_doRelease e s),
       kept (keptIf_doQuery e s), kept (keptIf_doDiscard e s)⟩
  case control =>
    exact
      ⟨kept (keptIf_doBookSet e s), kept (keptIf_doBookBind e s), kept (keptIf_doBookUnbind e s), kept (keptIf_doSampleCfg e s),
       kept (keptIf_doGrammarUnload e s), kept (keptIf_doRingEnable e s), kept (keptIf_doRingDisable e s),
       kept (keptIf_doReceiptsEnable e s), kept (keptIf_doReceiptsDisable e s), kept (keptIf_doPowerCap e s),
       kept (keptIf_doPowerLimit e s), kept (keptIf_doThermal e s), kept (keptIf_doFabric e s), kept (keptIf_doRoundCfg e s),
       kept (keptIf_doJobForm e s), kept (keptIf_doJobDissolve e s), kept (keptIf_doCirc e s), kept (keptIf_doTwinPair e s),
       kept (keptIf_doTwinUnpair e s), kept (keptIf_doTwinMsg e s), kept (keptIf_doLeaseKey e s _), kept (keptIf_doLeaseKey e s _),
       kept (keptIf_doLeaseGrant e s), kept (keptIf_doLogRead e s), kept (keptIf_doFwStage e s)⟩
  case later =>
    exact
      ⟨keptNow (keptIf_doReset e s), keptNow (keptIf_rebind e s), keptNow (keptIf_doFence e s), keptNow (keptIf_doNmSubmit e s),
       keptNow (keptIf_doSubmit e s), keptNow (keptIf_doPreempt e s), keptNow (keptIf_doResume e s)⟩

end Sys2Proof.Machine
end

section
/-!
PROOFS. What stands by when cores move (R96 to R115, R470): an access to a vault, a transfer's data, an instruction and a trap leave the
marks of lost and resetting sites, the clusters' districts, the route set, the recoveries and the engines as they are.
-/

namespace Sys2Proof.Machine

/-- The registers by which recoveries know the sites and their districts. -/
def siteFields : List Reg :=
  [.brsiteStatusLost, .brsiteStatusReady, .brsiteStatusResetting, .brsiteStatusRdomain, .netStatusOut, .clbindCBound, .clbindCDistrict]

@[simp] theorem mem_siteFields {f : Reg} : f ∈ siteFields ↔ f = .brsiteStatusLost ∨ f = .brsiteStatusReady ∨ f = .brsiteStatusResetting ∨
    f = .brsiteStatusRdomain ∨ f = .netStatusOut ∨ f = .clbindCBound ∨ f = .clbindCDistrict := by
  simp [siteFields]

/-- What no core changes: these registers, the recoveries and the engines. -/
def siteView (s : State) : (Reg → Nat → Nat) × FaultSide × Table Engine :=
  (fun f i => if f ∈ siteFields then rd f i s else 0, s.faults, s.engines)

section
variable {s t : State}

theorem siteView_eq_iff : siteView t = siteView s ↔
    (∀ f ∈ siteFields, ∀ i, rd f i t = rd f i s) ∧ t.faults = s.faults ∧ t.engines = s.engines := by
  simp only [siteView, Prod.mk.injEq, funext_iff]
  refine and_congr_left fun _ => forall_congr' fun f => ⟨fun h hf i => ?_, fun h i => ?_⟩
  · simpa only [if_pos hf] using h i
  · split
    · exact h ‹_› i
    · rfl

theorem rd_of_siteView (h : siteView t = siteView s) {f : Reg} (hf : f ∈ siteFields) (i : Nat) : rd f i t = rd f i s :=
  (siteView_eq_iff.1 h).1 f hf i

theorem faults_of_siteView (h : siteView t = siteView s) : t.faults = s.faults := (siteView_eq_iff.1 h).2.1

theorem engines_of_siteView (h : siteView t = siteView s) : t.engines = s.engines := (siteView_eq_iff.1 h).2.2

end

/-! Branches and folds. -/

@[simp] theorem siteView_ite {c : Prop} [Decidable c] {s t : State} :
    siteView (if c then s else t) = if c then siteView s else siteView t :=
  apply_ite _ c s t

@[simp] theorem siteView_ite_snd {α : Type} {c : Prop} [Decidable c] {a b : α × State} :
    siteView (if c then a else b).2 = if c then siteView a.2 else siteView b.2 := by
  split <;> rfl

@[simp] theorem siteView_foldl {β : Type} {f : State → β → State} (hf : ∀ u x, siteView (f u x) = siteView u) (l : List β) (s : State) :
    siteView (l.foldl f s) = siteView s :=
  foldl_keeps hf l s

/-! Registers, the logbook, cores and scratchpads (Machine/Ops). -/

@[simp] theorem siteView_wr {f : Reg} (hf : f ∉ siteFields) (i v : Nat) (s : State) : siteView (wr f i v s) = siteView s :=
  siteView_eq_iff.2 ⟨fun _ hf' _ => rd_wr_field _ _ _ _ _ _ fun e => hf (e ▸ hf'), rfl, rfl⟩

@[simp] theorem siteView_addSat {f : Reg} (hf : f ∉ siteFields) (i n : Nat) (s : State) : siteView (addSat f i n s) = siteView s :=
  siteView_wr hf ..

@[simp] theorem siteView_bump {f : Reg} (hf : f ∉ siteFields) (i : Nat) (s : State) : siteView (bump f i s) = siteView s :=
  siteView_wr hf ..

@[simp] theorem siteView_flag {f : Reg} (hf : f ∉ siteFields) (i : Nat) (s : State) : siteView (flag f i s) = siteView s :=
  siteView_wr hf ..

@[simp] theorem siteView_flagIf {f : Reg} (hf : f ∉ siteFields) (b : Bool) (i : Nat) (s : State) :
    siteView (flagIf b f i s) = siteView s := by
  cases b
  · rfl
  · exact siteView_flag hf ..

@[simp] theorem siteView_addDue (x : Due) (s : State) : siteView (addDue x s) = siteView s := by rfl
@[simp] theorem siteView_upd_cores {s : State} {x : CoreSide} : siteView { s with cores := x } = siteView s := by rfl
@[simp] theorem siteView_upd_vaults {s : State} {x : VaultSide} : siteView { s with vaults := x } = siteView s := by rfl
@[simp] theorem siteView_setCore (g : Nat) (c : Core) (s : State) : siteView (setCore g c s) = siteView s := by rfl
@[simp] theorem siteView_updCore (g : Nat) (f : Core → Core) (s : State) : siteView (updCore g f s) = siteView s := by rfl
@[simp] theorem siteView_setTag (g line t : Nat) (s : State) : siteView (setTag g line t s) = siteView s := by rfl
@[simp] theorem siteView_setPoison (g line : Nat) (b : Bool) (s : State) : siteView (setPoison g line b s) = siteView s := by rfl
@[simp] theorem siteView_setPigPoison (p line : Nat) (b : Bool) (s : State) : siteView (setPigPoison p line b s) = siteView s := by rfl
@[simp] theorem siteView_fresh (s : State) : siteView (fresh s).2 = siteView s := by rfl

@[simp] theorem siteView_events (code : Nat) (ds : List Nat) (site : Nat) (s : State) : siteView (events code ds site s) = siteView s :=
  siteView_foldl (fun u d => siteView_addDue (.event code d site ((s.logSeq + 4096 * 4095 - 1) % 4096)) u) ..

@[simp] theorem siteView_logEvent (r : LogRec) (ds : List Nat) (s : State) : siteView (logEvent r ds s) = siteView s := by
  unfold logEvent
  dsimp only
  split
  · rfl
  · exact siteView_events ..

@[simp] theorem siteView_spWrite (g off tag : Nat) (bs : List Byte) (s : State) : siteView (spWrite g off tag bs s) = siteView s := by
  simp [spWrite]

@[simp] theorem siteView_pigWrite (p off : Nat) (bs : List Byte) (s : State) : siteView (pigWrite p off bs s) = siteView s := by
  simp [pigWrite]

/-! Vaults (Machine/Vault). -/

@[simp] theorem siteView_setMark (v off : Nat) (m : Mark) (s : State) : siteView (setMark v off m s) = siteView s := by rfl
@[simp] theorem siteView_setBad (v off j x : Nat) (s : State) : siteView (setBad v off j x s) = siteView s := by rfl
@[simp] theorem siteView_setParBad (v off p j x : Nat) (s : State) : siteView (setParBad v off p j x s) = siteView s := by rfl
@[simp] theorem siteView_clearBad (v off : Nat) (s : State) : siteView (clearBad v off s) = siteView s := by rfl
@[simp] theorem siteView_clearParBad (v off p : Nat) (s : State) : siteView (clearParBad v off p s) = siteView s := by rfl
@[simp] theorem siteView_setCntBad (v off x : Nat) (s : State) : siteView (setCntBad v off x s) = siteView s := by rfl
@[simp] theorem siteView_setEst (v off : Nat) (b : Bool) (s : State) : siteView (setEst v off b s) = siteView s := by rfl
@[simp] theorem siteView_setParMark (v off p : Nat) (m : Mark) (s : State) : siteView (setParMark v off p m s) = siteView s := by rfl
@[simp] theorem siteView_dramWrite (v off : Nat) (bs : List Byte) (s : State) : siteView (dramWrite v off bs s) = siteView s := by rfl
@[simp] theorem siteView_openRow (v off : Nat) (s : State) : siteView (openRow v off s) = siteView s := by rfl
@[simp] theorem siteView_openBlock (v off : Nat) (s : State) : siteView (openBlock v off s) = siteView s := by rfl

@[simp] theorem siteView_errAddr (v off kind src : Nat) (s : State) : siteView (errAddr v off kind src s) = siteView s := by
  simp [errAddr]

@[simp] theorem siteView_freshParity (v off : Nat) (s : State) : siteView (freshParity v off s) = siteView s := by
  simp [freshParity]

@[simp] theorem siteView_grantSlots (scrub : Bool) (v n : Nat) (s : State) : siteView (grantSlots scrub v n s) = siteView s := by
  cases scrub <;> rfl

@[simp] theorem siteView_dataUe (v off kind src : Nat) (s : State) : siteView (dataUe v off kind src s) = siteView s := by
  simp [dataUe]

@[simp] theorem siteView_queueScrub (v off : Nat) (s : State) : siteView (queueScrub v off s) = siteView s := by
  simp [queueScrub]

@[simp] theorem siteView_clearWordBad (v base j : Nat) (s : State) : siteView (clearWordBad v base j s) = siteView s := by
  simp [clearWordBad]

@[simp] theorem siteView_keepWord (v base c j : Nat) (s : State) : siteView (keepWord v base c j s) = siteView s := by
  simp [keepWord, adoptWord]

@[simp] theorem siteView_strongRepair (v off j src : Nat) (s : State) : siteView (strongRepair v off j src s) = siteView s := by
  simp [strongRepair]

@[simp] theorem siteView_reportMark (v off src : Nat) (m : Mark) (s : State) : siteView (reportMark v off src m s).2 = siteView s := by
  cases m <;> simp [reportMark]

@[simp] theorem siteView_uncorrectable (v off src : Nat) (s : State) : siteView (uncorrectable v off src s).2 = siteView s := by
  simp [uncorrectable]

@[simp] theorem siteView_metMark (k : ReadKind) (v off src : Nat) (m : Mark) (s : State) :
    siteView (metMark k v off src m s).2 = siteView s := by
  simp [metMark]

@[simp] theorem siteView_counterByte (v off src : Nat) (s : State) : siteView (counterByte v off src s).2 = siteView s := by
  unfold counterByte
  dsimp only
  split <;> simp

@[simp] theorem siteView_counterBytes (v off src n : Nat) (s : State) : siteView (counterBytes v off src n s).2 = siteView s := by
  induction n generalizing off s with
  | zero => rfl
  | succ n ih => simp [counterBytes, ih]

@[simp] theorem siteView_rewriteCounter (v w : Nat) (s : State) : siteView (rewriteCounter v w s) = siteView s := by
  simp [rewriteCounter]

theorem siteView_corrected {k : ReadKind} {v off : Nat} {f : State → State} (hf : ∀ u, siteView (f u) = siteView u) (s : State) :
    siteView (corrected k v off f s) = siteView s := by
  simp [corrected, hf]

@[simp] theorem siteView_vreadAs (k : ReadKind) (v off src : Nat) (s : State) : siteView (vreadAs k v off src s).2 = siteView s := by
  unfold vreadAs
  dsimp only
  split
  · simp
  · repeat' split
    all_goals simp [siteView_corrected]

@[simp] theorem siteView_flipFire (v off : Nat) (s : State) : siteView (flipFire v off s) = siteView s := by
  simp [flipFire]

@[simp] theorem siteView_writeWord (v off : Nat) (bs : List Byte) (s : State) : siteView (writeWord v off bs s) = siteView s := by
  simp [writeWord]

@[simp] theorem siteView_writePart (v off src : Nat) (bs : List Byte) (s : State) : siteView (writePart v off src bs s).2 = siteView s := by
  unfold writePart
  dsimp only
  split
  · simp
  · split <;> simp

@[simp] theorem siteView_finishWrite (src : Nat) (ps : List Piece) (s : State) : siteView (finishWrite src ps s) = siteView s := by
  simp [finishWrite, establish]

@[simp] theorem siteView_vwriteRaw (v off src : Nat) (bs : List Byte) (s : State) : siteView (vwriteRaw v off src bs s).2 = siteView s := by
  unfold vwriteRaw
  generalize bs.length / 32 + 2 = k
  induction k generalizing off bs s with
  | zero => rfl
  | succ k ih => simp [writeWords, ih]

@[simp] theorem siteView_vreadBytes (v off n src : Nat) (s : State) : siteView (vreadBytes v off n src s).2 = siteView s := by
  unfold vreadBytes
  generalize n / 32 + 2 = k
  induction k generalizing off n s with
  | zero => rfl
  | succ k ih =>
    unfold readWords
    split
    · rfl
    · dsimp only
      split <;> simp [vread, ih]

@[simp] theorem siteView_walkReads (d va src : Nat) (s : State) : siteView (walkReads d va src s) = siteView s := by
  unfold walkReads
  dsimp only
  repeat' split
  all_goals simp

end Sys2Proof.Machine
end

section
/-!
PROOFS. The units of a core, transfers and letters (chapters 03 to 05): none of them changes what recoveries know of the sites.
-/

namespace Sys2Proof.Machine

/-! Traps, flags and draws (Machine/CoreOps). -/

theorem OnlyReleasing.siteView_eq {s t : State} (h : OnlyReleasing s t) : siteView t = siteView s := by
  obtain ⟨⟨c, r, d, rfl⟩, hrd, -⟩ := h
  exact siteView_eq_iff.2 ⟨fun f hf i => hrd f i (by rintro rfl; simp at hf), rfl, rfl⟩

@[simp] theorem siteView_barrierChecks (g : Nat) (s : State) : siteView (barrierChecks g s) = siteView s :=
  (onlyReleasing_barrierChecks g s).siteView_eq

@[simp] theorem siteView_trap (g cls cause pc next line ch word : Nat) (s : State) :
    siteView (trap g cls cause pc next line ch word s) = siteView s := by
  simp [trap]

@[simp] theorem siteView_setFlags (g : Nat) (f : NumFlags) (s : State) : siteView (setFlags g f s) = siteView s := by
  simp [setFlags]

@[simp] theorem siteView_applySr (g : Nat) (s : State) : siteView (applySr g s) = siteView s := by
  refine siteView_foldl (fun u p => ?_) _ s
  cases p.1 <;> simp

@[simp] theorem siteView_countDraws (g n : Nat) (s : State) : siteView (countDraws g n s) = siteView s := by
  simp [countDraws]

@[simp] theorem siteView_takeDraws (g n : Nat) (s : State) : siteView (takeDraws g n s).2 = siteView s := by
  simp [takeDraws]

/-! The matrix array (Machine/Array). -/

@[simp] theorem siteView_runMload (g : Nat) (q : Queued) (s : State) : siteView (runMload g q s) = siteView s := by
  unfold runMload
  dsimp only
  repeat' split
  all_goals simp

@[simp] theorem siteView_runStream (g : Nat) (q : Queued) (s : State) : siteView (runStream g q s) = siteView s := by
  unfold runStream
  dsimp only
  repeat' split
  all_goals simp

@[simp] theorem siteView_runDrain (g : Nat) (q : Queued) (s : State) : siteView (runDrain g q s) = siteView s := by
  simp [runDrain]

@[simp] theorem siteView_runMclear (g : Nat) (q : Queued) (s : State) : siteView (runMclear g q s) = siteView s := by rfl

theorem siteView_moveMatrix {vw : Queued → List Rng} {vd : Queued → Bool} {g : Nat} {s t : State} (h : moveMatrix vw vd g s = some t) :
    siteView t = siteView s := by
  simp only [moveMatrix] at h
  repeat' split at h
  all_goals cases h <;> simp

/-! The vector engine (Machine/Vector). -/

@[simp] theorem siteView_touchLines (g : Nat) (ls : List (Nat × Bool)) (s : State) : siteView (touchLines g ls s) = siteView s := by
  simp [touchLines]

@[simp] theorem siteView_pokeElem (g line : Nat) (f : Fmt) (i n v : Nat) (s : State) :
    siteView (pokeElem g line f i n v s) = siteView s := by rfl

@[simp] theorem siteView_pokeWord (g line k : Nat) (v : BitVec 32) (s : State) : siteView (pokeWord g line k v s) = siteView s := by
  simp [pokeWord]

@[simp] theorem siteView_chunkStore (g w : Nat) (c : VecCfg) (draws : List Nat) (i : Nat) (outs : List (BitVec 32)) (s : State) :
    siteView (chunkStore g w c draws i outs s).1 = siteView s := by
  unfold chunkStore
  refine List.foldlRecOn (motive := fun a : State × NumFlags => siteView a.1 = siteView s) _ _ ?_ fun a ih p _ => ?_
  · dsimp only
    split <;> rfl
  · exact (siteView_pokeElem ..).trans ih

section
variable (g w : Nat) (c : VecCfg) (draws : List Nat) (r : VRun)

theorem siteView_chunkStep (tile : Option Tile) (mx : BitVec 32) (ch : Nat × Nat) :
    siteView (chunkStep g w c tile mx draws r ch).s = siteView r.s := by
  unfold chunkStep
  dsimp only
  repeat' split
  all_goals simp

@[simp] theorem siteView_storeOne (v : BitVec 32) : siteView (storeOne g w c draws v r).s = siteView r.s := by
  unfold storeOne
  dsimp only
  split <;> simp

@[simp] theorem siteView_vFinish (sum mx : BitVec 32) : siteView (vFinish g w c draws sum mx r).s = siteView r.s := by
  unfold vFinish
  dsimp only
  repeat' split
  all_goals simp

@[simp] theorem siteView_chunks (tile : Option Tile) (mx : BitVec 32) (chs : List (Nat × Nat)) :
    siteView (chs.foldl (chunkStep g w c tile mx draws) r).s = siteView r.s :=
  foldl_keeps (p := fun u : VRun => siteView u.s) (fun u ch => siteView_chunkStep g w c draws u tile mx ch) chs r

end

@[simp] theorem siteView_runVector (g : Nat) (q : Queued) (s : State) : siteView (runVector g q s) = siteView s := by
  unfold runVector
  dsimp only
  split <;> simp

@[simp] theorem siteView_runVapnd (g : Nat) (q : Queued) (s : State) : siteView (runVapnd g q s) = siteView s := by
  have hkv (site : Nat) (k : KvSite) (u : State) : siteView (setKv site k u) = siteView u := rfl
  unfold runVapnd
  dsimp only
  split <;> simp [showQocc, hkv]

theorem siteView_moveVector {g : Nat} {s t : State} (h : moveVector g s = some t) : siteView t = siteView s := by
  simp only [moveVector] at h
  repeat' split at h
  all_goals cases h <;> simp

@[simp] theorem siteView_runUnits (g n : Nat) (s : State) : siteView (runUnits g n s) = siteView s := by
  induction n generalizing s with
  | zero => rfl
  | succ n ih =>
    unfold runUnits
    split
    · next h => exact (ih _).trans (siteView_moveMatrix h)
    · split
      · next h => exact (ih _).trans (siteView_moveVector h)
      · rfl

/-! The movement of the data (Machine/Dma). -/

section
variable (g d : Nat)

@[simp] theorem siteView_dmaWalk (a : Nat) (s : State) : siteView (dmaWalk g d a s) = siteView s := by
  unfold dmaWalk
  split <;> simp

@[simp] theorem siteView_dmaVaultRead (k a n : Nat) (s : State) : siteView (dmaVaultRead g d k a n s).2 = siteView s := by
  induction k generalizing a n s with
  | zero => rfl
  | succ k ih =>
    unfold dmaVaultRead
    dsimp only
    repeat' split
    all_goals simp [ih]

@[simp] theorem siteView_dmaVaultWrite (k a : Nat) (bs : List Byte) (s : State) : siteView (dmaVaultWrite g d k a bs s).2 = siteView s := by
  induction k generalizing a bs s with
  | zero => rfl
  | succ k ih =>
    unfold dmaVaultWrite
    dsimp only
    repeat' split
    all_goals simp [ih]

@[simp] theorem siteView_dmaRead (a n : Nat) (s : State) : siteView (dmaRead g d a n s).2 = siteView s := by
  unfold dmaRead
  dsimp only
  repeat' split
  all_goals simp

@[simp] theorem siteView_dmaWrite (a : Nat) (bs : List Byte) (s : State) : siteView (dmaWrite g d a bs s).2 = siteView s := by
  unfold dmaWrite
  dsimp only
  repeat' split
  all_goals simp

@[simp] theorem siteView_moveRows (rs : List Nat) (lim : Nat) (s : State) : siteView (moveRows g d rs lim s).2 = siteView s := by
  induction rs generalizing lim s with
  | nil => rfl
  | cons r rs ih =>
    unfold moveRows
    dsimp only
    repeat' split
    all_goals simp [ih]

@[simp] theorem siteView_skewRows (n : Nat) (rs : List Nat) (s : State) : siteView (skewRows g d n rs s).2 = siteView s := by
  induction rs generalizing s with
  | nil => rfl
  | cons r rs ih =>
    unfold skewRows
    dsimp only
    split <;> simp [ih]

@[simp] theorem siteView_skewWrite (rows : List (List Byte)) (ls : List Nat) (lim : Nat) (s : State) :
    siteView (skewWrite g d rows ls lim s).2 = siteView s := by
  induction ls generalizing lim s with
  | nil => rfl
  | cons l ls ih =>
    unfold skewWrite
    dsimp only
    repeat' split
    all_goals simp [ih]

@[simp] theorem siteView_moveDma (lim : Nat) (s : State) : siteView (moveDma g d lim s).2 = siteView s := by
  simp [moveDma, moveSkew]

@[simp] theorem siteView_poisonSome (ls : List Nat) (s : State) : siteView (poisonSome g ls s) = siteView s := by
  induction ls generalizing s with
  | nil => rfl
  | cons l ls ih => simp [poisonSome, ih]

@[simp] theorem siteView_cutMove (lim : Nat) (s : State) : siteView (cutMove g d lim s) = siteView s := by
  simp [cutMove]

end

/-! Letters (Machine/Control). -/

section
variable (g w : Nat) (s : State)

@[simp] theorem siteView_advance : siteView (advance g s) = siteView s := by rfl
@[simp] theorem siteView_waitIn (st : CoreSt) : siteView (waitIn g w st s) = siteView s := by rfl
@[simp] theorem siteView_trapNow (cls cause line ch : Nat) : siteView (trapNow g cls cause line ch w s) = siteView s := siteView_trap ..
@[simp] theorem siteView_reservedTrap : siteView (reservedTrap g w s) = siteView s := siteView_trap ..
@[simp] theorem siteView_haltTrap (ch : Nat) : siteView (haltTrap g ch w s) = siteView s := siteView_trap ..
@[simp] theorem siteView_branchTo (t : Nat) : siteView (branchTo g t s) = siteView s := by rfl
@[simp] theorem siteView_startLoop (n body : Nat) : siteView (startLoop g n body s) = siteView s := by rfl

@[simp] theorem siteView_issueMatrix : siteView (issueMatrix g w s) = siteView s := by
  unfold issueMatrix
  split <;> simp

@[simp] theorem siteView_issueVcfg : siteView (issueVcfg g w s) = siteView s := by
  simp [issueVcfg]

@[simp] theorem siteView_issueVector : siteView (issueVector g w s) = siteView s := by
  unfold issueVector
  dsimp only
  split <;> simp

@[simp] theorem siteView_xNop : siteView (xNop g w s) = siteView s := by
  simp [xNop]

@[simp] theorem siteView_xHalt : siteView (xHalt g w s) = siteView s := by
  simp [xHalt]

@[simp] theorem siteView_startDma (ch line : Nat) : siteView (startDma g ch line s) = siteView s := by
  simp [startDma]

@[simp] theorem siteView_xDmax : siteView (xDmax g w s) = siteView s := by
  unfold xDmax
  dsimp only
  repeat' split
  all_goals simp

@[simp] theorem siteView_xDwait : siteView (xDwait g w s) = siteView s := by
  unfold xDwait
  dsimp only
  repeat' split
  all_goals simp

@[simp] theorem siteView_sendSignal (t sem val : Nat) : siteView (sendSignal g t sem val s) = siteView s := by
  simp [sendSignal, signalLoss]

@[simp] theorem siteView_xSig : siteView (xSig g w s) = siteView s := by
  unfold xSig
  dsimp only
  repeat' split
  all_goals simp

@[simp] theorem siteView_xSwait : siteView (xSwait g w s) = siteView s := by
  simp [xSwait]

@[simp] theorem siteView_xBar : siteView (xBar g w s) = siteView s := by
  unfold xBar
  dsimp only
  repeat' split
  all_goals simp

@[simp] theorem siteView_xLoop : siteView (xLoop g w s) = siteView s := by
  simp [xLoop]

@[simp] theorem siteView_xLoopi : siteView (xLoopi g w s) = siteView s := by
  simp [xLoopi]

@[simp] theorem siteView_xBr : siteView (xBr g w s) = siteView s := by
  simp [xBr]

@[simp] theorem siteView_xNotice : siteView (xNotice g w s) = siteView s := by
  unfold xNotice
  dsimp only
  split
  · simp
  · rfl

@[simp] theorem siteView_xRwait : siteView (xRwait g w s) = siteView s := by
  unfold xRwait
  dsimp only
  repeat' split
  all_goals simp

@[simp] theorem siteView_issueWord : siteView (issueWord g w s) = siteView s := by
  unfold issueWord
  split <;> simp

@[simp] theorem siteView_wake : siteView (wake g s) = siteView s := by
  unfold wake
  dsimp only
  split <;> simp

@[simp] theorem siteView_goIfWaiting : siteView (goIfWaiting g s) = siteView s := by
  simp [goIfWaiting, startCore]

@[simp] theorem siteView_stopCore : siteView (stopCore g s) = siteView s := by
  simp [stopCore]

@[simp] theorem siteView_endDma (ch code : Nat) : siteView (endDma g ch code s) = siteView s := by
  simp [endDma]

end

end Sys2Proof.Machine
end

section
/-!
PROOFS. Recoveries (R453, R470, R471, R477 to R485): a fault that is detected, the loss of a site, the reset of a base die, the remap of a
channel and deferred repairs.
-/

namespace Sys2Proof.Machine

/-! A fault is detected (R477, R479). -/

section
variable {r : Repair} {s : State}

theorem faults_showRecovery (s : State) : (showRecovery s).faults = s.faults := by
  unfold showRecovery
  dsimp only
  split <;> rfl

/-- The fields in which a recovery is shown. -/
def recoveryFields : List Reg :=
  [.fltdevStatusDeferred, .fltdevStatusRecovering, .fltdevStatusRkind, .fltdevStatusRsite, .fltdevCountRecoveries, .fltdevRecovUnit,
   .fltdevRecovRound]

@[simp] theorem mem_recoveryFields {f : Reg} : f ∈ recoveryFields ↔ f = .fltdevStatusDeferred ∨ f = .fltdevStatusRecovering ∨
    f = .fltdevStatusRkind ∨ f = .fltdevStatusRsite ∨ f = .fltdevCountRecoveries ∨ f = .fltdevRecovUnit ∨ f = .fltdevRecovRound := by
  simp [recoveryFields]

theorem rd_showRecovery_other {f : Reg} (hf : f ∉ recoveryFields) (i : Nat) (s : State) : rd f i (showRecovery s) = rd f i s := by
  simp only [mem_recoveryFields, not_or] at hf
  obtain ⟨h1, h2, h3, h4, -⟩ := hf
  unfold showRecovery
  dsimp only
  split <;> simp only [rd_wr_field, h1, h2, h3, h4, ne_eq, not_false_eq_true]

theorem rd_showRecovery_recovering : rd .fltdevStatusRecovering 0 (showRecovery s) = natBool s.faults.running.isSome := by
  unfold showRecovery
  dsimp only
  cases s.faults.running <;> exact rd_wr_same ..

theorem bit_showRecovery_deferred : bit .fltdevStatusDeferred 0 (showRecovery s) = !s.faults.deferred.isEmpty := by
  have hshown : rd .fltdevStatusDeferred 0 (showRecovery s) = natBool (!s.faults.deferred.isEmpty) := by
    unfold showRecovery
    dsimp only
    cases s.faults.running <;> simp only [rd_wr, reduceCtorEq, false_and, if_false, and_self, if_true] <;> exact natBool_mod_two _
  rw [bit, hshown]
  cases s.faults.deferred.isEmpty <;> rfl

theorem startRecovery_parts (r : Repair) (s : State) : (startRecovery r s).faults = { s.faults with running := some r } ∧
    (startRecovery r s).engines = s.engines ∧ rd .fltdevStatusRecovering 0 (startRecovery r s) = 1 ∧
    ∀ f, f ∉ recoveryFields → ∀ i, rd f i (startRecovery r s) = rd f i s := by
  refine ⟨faults_showRecovery _, ?_, rd_showRecovery_recovering, fun f hf i => ?_⟩
  · unfold startRecovery showRecovery
    rfl
  · rw [startRecovery, rd_showRecovery_other hf]
    simp only [mem_recoveryFields, not_or] at hf
    obtain ⟨-, -, -, -, h1, h2, h3⟩ := hf
    rw [rd_wr_field _ _ _ _ _ _ h2, rd_wr_field _ _ _ _ _ _ h3, rd_bump_other (.inl h1)]
    rfl

theorem detect_of_idle (h : s.faults.running = none) : detect r s = (true, startRecovery r s) := by
  simp only [detect, h]

/-- The recoveries once a repair is deferred behind the one that runs, districts being quarantined for it or not (R479). -/
def deferredBehind (q r : Repair) (esc : Bool) (f : FaultSide) : FaultSide :=
  { f with
    running := some { q with escalated := q.escalated || esc }, deferred := f.deferred ++ [{ r with deferred := true, escalated := esc }] }

theorem detect_of_running {q : Repair} (h : s.faults.running = some q) :
    ∃ u esc, u.faults = deferredBehind q r esc s.faults ∧ detect r s = (false, showRecovery u) := by
  unfold detect
  split
  · next hnone => rw [h] at hnone; cases hnone
  · next q' hq' =>
    obtain rfl : q = q' := Option.some.inj (h.symm.trans hq')
    extract_lets ds esc s1 s2
    have h1 : s1.faults = s.faults :=
      foldl_keeps (p := State.faults) (f := fun u d => addDue (.districtFail d 35 true) u) (fun _ _ => rfl) ds s
    have h2 : s2.faults = s.faults := by
      simp only [s2]
      split
      · exact h1
      · exact h1
    have hbehind : deferredBehind q r esc s2.faults = deferredBehind q r esc s.faults := by rw [h2]
    exact ⟨_, esc, hbehind, rfl⟩

end

/-! A recovery ends (R477). -/

section
variable {r : Repair} {s : State}

theorem runs_of_some {kind site unit : Nat} (h : runs kind site unit s = true) : ∃ q, s.faults.running = some q := by
  unfold runs at h
  split at h
  · exact ⟨_, ‹_›⟩
  · cases h

theorem events_parts (code : Nat) (ds : List Nat) (site : Nat) (s : State) : (events code ds site s).faults = s.faults ∧
    ∀ f i, rd f i (events code ds site s) = rd f i s := by
  obtain ⟨q, hq⟩ := events_due code ds site s
  rw [hq]
  exact ⟨rfl, fun _ _ => rfl⟩

theorem logRecovery_parts (cls event outcome : Nat) (s : State) : (logRecovery cls event outcome s).faults = s.faults ∧
    ∀ f i, rd f i (logRecovery cls event outcome s) = rd f i s := by
  unfold logRecovery
  split
  · exact ⟨rfl, fun _ _ => rfl⟩
  · dsimp only
    split
    · exact ⟨rfl, fun _ _ => rfl⟩
    · exact events_parts ..

theorem endRecovery_parts (h : s.faults.running = some r) (cls event outcome : Nat) :
    (endRecovery cls event outcome s).faults.running = none ∧
      ∀ f, f ∉ recoveryFields → ∀ i, rd f i (endRecovery cls event outcome s) = rd f i s := by
  obtain ⟨hfaults, hrd⟩ := logRecovery_parts cls event outcome s
  unfold endRecovery finishRecovery
  rw [hfaults, h]
  dsimp only
  refine ⟨?_, fun f hf i => ?_⟩
  · rw [faults_showRecovery, (events_parts ..).1]
    rfl
  · rw [rd_showRecovery_other hf, (events_parts ..).2]
    exact hrd f i

end

/-! What a lost site and a base die in reset leave of the other sites (R470, R484). -/

section
variable {k : Nat} {s t : State}

theorem siteView_wr_congr (f : Reg) (i v : Nat) (h : siteView t = siteView s) : siteView (wr f i v t) = siteView (wr f i v s) := by
  obtain ⟨hrd, hfaults, hengines⟩ := siteView_eq_iff.1 h
  refine siteView_eq_iff.2 ⟨fun f' hf' i' => ?_, hfaults, hengines⟩
  rw [rd_wr, rd_wr, hrd f' hf' i']

theorem siteView_clearRegs {p : Reg → Nat → Bool} (hp : ∀ f ∈ siteFields, ∀ i, p f i = false) (s : State) :
    siteView (clearRegs p s) = siteView s := by
  refine siteView_eq_iff.2 ⟨fun f hf i => ?_, rfl, rfl⟩
  rw [rd_clearRegs, hp f hf]
  rfl

theorem districtsOnSite_of_rd (hbound : ∀ i, rd .clbindCBound i t = rd .clbindCBound i s)
    (hdistrict : ∀ i, rd .clbindCDistrict i t = rd .clbindCDistrict i s) : districtsOnSite k t = districtsOnSite k s := by
  have hcluster (c : Nat) : clusterDistrict c t = clusterDistrict c s := by
    unfold clusterDistrict bit
    rw [hbound, hdistrict]
  simp only [districtsOnSite, hcluster]

@[simp] theorem siteView_showEngine (e : Nat) (s : State) : siteView (showEngine e s) = siteView s := by
  simp [showEngine]

/-- An abort on a device no engine of which is at work. -/
theorem siteView_nmAbort (h : s.engines = []) (e code : Nat) : siteView (nmAbort e (fun _ => true) code s) = siteView s := by
  have hidle : getEngine e s = engineDefault e := by rw [getEngine, h]; rfl
  have hafter : afterRunning e code s = s := by rw [afterRunning, hidle]; rfl
  have hset : setEngine e (engineDefault e) s = s := by
    have hnone : tset engineDefault s.engines e (engineDefault e) = s.engines := by rw [h]; exact if_pos rfl
    rw [setEngine, hnone]
  have hadmit : admitWaiting e s = s := by
    rw [admitWaiting, hidle]
    exact hset
  rw [nmAbort_all, hafter, hidle, siteView_showEngine]
  exact congrArg siteView ((congrArg (admitWaiting e) hset).trans hadmit)

@[simp] theorem siteView_updStream (slot : Nat) (f : Stream → Stream) (s : State) : siteView (updStream slot f s) = siteView s := by rfl

@[simp] theorem siteView_loseRecords (k : Nat) (control : Bool) (s : State) : siteView (loseRecords k control s) = siteView s := by
  simp [loseRecords]

@[simp] theorem siteView_showCores (k : Nat) (s : State) : siteView (showCores k s) = siteView s := by
  simp [showCores, showUsable, showSiteCores]

theorem siteView_emptyBase (h : s.engines = []) (k : Nat) : siteView (emptyBase k s) = siteView s := by
  have hnme : ∀ f ∈ siteFields, ∀ i, ((regInfo f).blk == .nme && i / 32 == k) = false := by
    intro f hf i
    rcases mem_siteFields.1 hf with rfl | rfl | rfl | rfl | rfl | rfl | rfl <;> rfl
  have hvault : ∀ f ∈ siteFields, ∀ i, ((f == .vaultStatusDsq || f == .vaultStatusRepair) && i / 2048 == k) = false := by
    intro f hf i
    rcases mem_siteFields.1 hf with rfl | rfl | rfl | rfl | rfl | rfl | rfl <;> rfl
  unfold emptyBase
  extract_lets s0 s1 s2 v3 s3
  have h1 : siteView s1 = siteView s0 :=
    (List.foldlRecOn (motive := fun u => siteView u = siteView s0) (List.range 32) _ rfl fun u hu j _ =>
      (siteView_nmAbort ((engines_of_siteView hu).trans h) (32 * k + j) 16).trans hu :)
  have h0 : siteView s0 = siteView s := rfl
  clear_value s0 s1
  have h2 : siteView s2 = siteView s := (siteView_clearRegs hnme s1).trans (h1.trans h0)
  clear_value s2
  have hengines : s3.engines = s.engines := by
    have hnone : s2.engines = [] := (engines_of_siteView h2).trans h
    rw [h]
    simp only [s3, hnone, List.filter_nil]
  have h3 : siteView s3 = siteView s :=
    siteView_eq_iff.2 ⟨fun f hf i => rd_of_siteView h2 hf i, (faults_of_siteView h2 :), hengines⟩
  clear_value s3
  refine (siteView_clearRegs hvault _).trans (Eq.trans ?_ h3)
  simp [showQocc]

@[simp] theorem siteView_wipeVaults (k : Nat) (s : State) : siteView (wipeVaults k s) = siteView s := by rfl
@[simp] theorem siteView_wipeCores (k : Nat) (s : State) : siteView (wipeCores k s) = siteView s := by rfl

theorem siteView_isolateSite (h : s.engines = []) (hl : bit .brsiteStatusLost k s = false) :
    siteView (isolateSite k s) = siteView (wr .netStatusOut k 1 (flag .brsiteStatusLost k (wr .brsiteStatusReady k 0 s))) := by
  unfold isolateSite
  rw [if_neg (by rw [hl]; decide)]
  extract_lets s1 s2 s3 s4 s5
  have h2 : siteView s2 = siteView (flag .brsiteStatusLost k (wr .brsiteStatusReady k 0 s)) :=
    siteView_wr_congr _ _ _ (siteView_wr_congr _ _ _ (siteView_loseRecords ..))
  have h4 : siteView (showCores k s4) = siteView s2 := by simp [s4, s3]
  have hempty : siteView (emptyBase k (showCores k s4)) = siteView s2 :=
    (siteView_emptyBase ((engines_of_siteView (h4.trans h2)).trans h) k).trans h4
  rw [siteView_wipeCores, siteView_wipeVaults]
  exact siteView_wr_congr _ _ _ (hempty.trans h2)

@[simp] theorem siteView_cutCore (g : Nat) (s : State) : siteView (cutCore g s) = siteView s := by
  simp [cutCore, cutVertical]

theorem siteView_bdAssert (h : s.engines = []) :
    siteView (bdAssert k s) = siteView (flag .brsiteStatusResetting k (wr .brsiteStatusRdomain k 2 s)) := by
  unfold bdAssert
  extract_lets s1 s2 s3
  have h3 : siteView (loseRecords k false ((coresAt k s3).foldl (fun u g => stopCore g u) s3)) = siteView s1 := by simp [s3, s2]
  exact (siteView_emptyBase ((engines_of_siteView h3).trans h) k).trans h3

@[simp] theorem siteView_startRoute (s : State) : siteView (startRoute s) = siteView s := by
  have hnet (x : NetSide) (u : State) : siteView (setNet x u) = siteView u := rfl
  simp [startRoute, hnet]

end

end Sys2Proof.Machine
end

section
/-!
PROOFS. Recoveries, command by command (R453, R470, R471, R479, R481, R484, R486).
-/

namespace Sys2Proof.Machine

/-- What a recovery that ends lets start is drawn after its own consequences (R453, R479). -/
theorem next_waiting_of_eq {s t : State} (h : s = t) :
    (.next (settle (startWaiting (settle s))) : Res) = .next (settle (startWaiting (settle t))) := by rw [h]

/-! The loss of a site (R484). -/

section
variable {k : Nat} {s : State}

theorem siteLoss_of_lost (h : bit .brsiteStatusLost k s = true) : siteLoss k s = s := if_pos h

theorem siteLoss_of_served {u : Bool × State} (h : bit .brsiteStatusLost k s = false)
    (hu : u = detect (mkRepair 5 k 0 0 (districtsOnSite k s)) (isolateSite k s)) :
    siteLoss k s = if u.1 then startSiteLoss k u.2 else u.2 := by
  subst hu
  exact if_neg (by rw [h]; decide)

/-- With no district on the site only the route change starts. -/
theorem startSiteLoss_of_free (h : districtsOnSite k s = []) : startSiteLoss k s = startRoute s := by
  rw [startSiteLoss, h, List.foldl_nil]

theorem isolateSite_parts (hs : s.engines = []) (hl : bit .brsiteStatusLost k s = false) :
    bit .brsiteStatusLost k (isolateSite k s) = true ∧ bit .brsiteStatusReady k (isolateSite k s) = false ∧
      bit .netStatusOut k (isolateSite k s) = true ∧ (isolateSite k s).faults = s.faults ∧
      districtsOnSite k (isolateSite k s) = districtsOnSite k s := by
  have hview := siteView_isolateSite hs hl
  have hother {f : Reg} (hf : f ∈ siteFields) (h1 : f ≠ .netStatusOut) (h2 : f ≠ .brsiteStatusLost) (h3 : f ≠ .brsiteStatusReady) (i : Nat) :
      rd f i (isolateSite k s) = rd f i s := by
    rw [rd_of_siteView hview hf, rd_wr_field _ _ _ _ _ _ h1, flag, rd_wr_field _ _ _ _ _ _ h2, rd_wr_field _ _ _ _ _ _ h3]
  refine ⟨?_, ?_, ?_, (faults_of_siteView hview :), districtsOnSite_of_rd (hother (by simp) ?_ ?_ ?_) (hother (by simp) ?_ ?_ ?_)⟩
  · rw [bit, rd_of_siteView hview (by simp), rd_wr_field _ _ _ _ _ _ (by decide), flag, rd_wr_same]
    rfl
  · rw [bit, rd_of_siteView hview (by simp), rd_wr_field _ _ _ _ _ _ (by decide), flag, rd_wr_field _ _ _ _ _ _ (by decide), rd_wr_same]
    rfl
  · rw [bit, rd_of_siteView hview (by simp), rd_wr_same]
    rfl
  all_goals decide

/-- The loss of a site without districts, once its recovery starts. -/
theorem startSiteLoss_isolated {r : Repair} (hs : s.engines = []) (hl : bit .brsiteStatusLost k s = false) (hd : districtsOnSite k s = []) :
    let t := startSiteLoss k (startRecovery r (isolateSite k s))
    bit .brsiteStatusLost k t = true ∧ bit .brsiteStatusReady k t = false ∧ bit .netStatusOut k t = true ∧ t.faults.running = some r := by
  intro t
  obtain ⟨hlost, hready, hout, -, hon⟩ := isolateSite_parts hs hl
  obtain ⟨hfaults, -, -, hrd⟩ := startRecovery_parts r (isolateSite k s)
  have hnone : districtsOnSite k (startRecovery r (isolateSite k s)) = [] :=
    (districtsOnSite_of_rd (hrd _ (by simp)) (hrd _ (by simp))).trans (hon.trans hd)
  have ht : siteView t = siteView (startRecovery r (isolateSite k s)) := by
    rw [show t = startRoute _ from startSiteLoss_of_free hnone, siteView_startRoute]
  have hkept {f : Reg} (hf : f ∈ siteFields) (h : f ∉ recoveryFields) : bit f k t = bit f k (isolateSite k s) := by
    rw [bit, rd_of_siteView ht hf, hrd f h, bit]
  refine ⟨(hkept (by simp) (by simp)).trans hlost, (hkept (by simp) (by simp)).trans hready, (hkept (by simp) (by simp)).trans hout, ?_⟩
  rw [faults_of_siteView ht, hfaults]

end

/-! The reset of a base die (R470, R471, R486). -/

section
variable {k : Nat} {restarts : Bool} {s : State}

theorem bdWatchdog_of_out (h : bit .brsiteStatusLost k s = true ∨ bit .brsiteStatusResetting k s = true) : bdWatchdog k restarts s = s :=
  if_pos (Bool.or_eq_true_iff.2 h)

theorem bdWatchdog_of_served {u : Bool × State} (hl : bit .brsiteStatusLost k s = false) (hr : bit .brsiteStatusResetting k s = false)
    (hu : u = detect (mkRepair 6 k 0 0 (districtsOnSite k s)) s) :
    bdWatchdog k restarts s = if u.1 then startBd k restarts (bdAssert k u.2) else bdAssert k u.2 := by
  subst hu
  exact if_neg (by rw [hl, hr]; decide)

theorem startBd_of_free (h : districtsOnSite k s = []) : startBd k false s = s := by
  rw [startBd, h]
  rfl

/-- The base die of a site without districts is held in reset while the recovery that has started runs. -/
theorem startBd_asserted {r : Repair} (hs : s.engines = []) (hd : districtsOnSite k s = []) :
    let t := startBd k false (bdAssert k (startRecovery r s))
    bit .brsiteStatusResetting k t = true ∧ rd .brsiteStatusRdomain k t = 2 ∧ t.faults.running = some r := by
  intro t
  obtain ⟨hfaults, hengines, -, hrd⟩ := startRecovery_parts r s
  have hview := siteView_bdAssert (k := k) (hengines.trans hs)
  have hother {f : Reg} (hf : f ∈ siteFields) (h : f ∉ recoveryFields) (h1 : f ≠ .brsiteStatusResetting) (h2 : f ≠ .brsiteStatusRdomain)
      (i : Nat) : rd f i (bdAssert k (startRecovery r s)) = rd f i s := by
    rw [rd_of_siteView hview hf, flag, rd_wr_field _ _ _ _ _ _ h1, rd_wr_field _ _ _ _ _ _ h2, hrd f h]
  have hnone : districtsOnSite k (bdAssert k (startRecovery r s)) = [] :=
    (districtsOnSite_of_rd (hother (by simp) (by simp) (by decide) (by decide))
      (hother (by simp) (by simp) (by decide) (by decide))).trans hd
  rw [show t = bdAssert k (startRecovery r s) from startBd_of_free hnone]
  refine ⟨?_, ?_, ?_⟩
  · rw [bit, rd_of_siteView hview (by simp), flag, rd_wr_same]
    rfl
  · rw [rd_of_siteView hview (by simp), flag, rd_wr_field _ _ _ _ _ _ (by decide), rd_wr_same]
    rfl
  · rw [faults_of_siteView hview]
    exact congrArg FaultSide.running hfaults

theorem bdTimeout_of_other (h : runs 6 k 0 s = false) : bdTimeout k restarts s = s := if_pos (by rw [h]; rfl)

theorem bdTimeout_of_restart (h : runs 6 k 0 s = true) : bdTimeout k true s = endBd k (bump .brsiteResetCount k s) :=
  if_neg (by rw [h]; decide)

/-- The counts of a base die's second reset, which did not restart it (R471, R473). -/
def resetFailed (k : Nat) (s : State) : State :=
  wr .brsiteResetWatchdog k 1 (wr .brsiteResetLastdom k 2 (bump .brsiteResetCount k (bump .brsiteResetCount k s)))

theorem bdTimeout_of_failure {u : State} {q : Repair} (h : runs 6 k 0 s = true)
    (hu : u = resetBitsOff k (isolateSite k (resetFailed k s))) (hq : u.faults.running = some q) :
    bdTimeout k false s =
      startSiteLoss k (showRecovery (setFaults { u.faults with running := some { q with kind := 5 } } u)) := by
  unfold bdTimeout
  extract_lets s1 s2
  have hs2 : s2 = u := hu.symm
  clear_value s2
  subst hs2
  rw [if_neg (by rw [h]; decide), if_neg Bool.false_ne_true, hq]

/-- A second failure loses a site without districts, and its reset is over. -/
theorem bdTimeout_loses (h : runs 6 k 0 s = true) (hl : bit .brsiteStatusLost k s = false) (hd : districtsOnSite k s = [])
    (hs : s.engines = []) :
    bit .brsiteStatusLost k (bdTimeout k false s) = true ∧ bit .brsiteStatusResetting k (bdTimeout k false s) = false := by
  obtain ⟨q, hq⟩ := runs_of_some h
  have hcounts : siteView (resetFailed k s) = siteView s := by simp [resetFailed]
  have hstill : bit .brsiteStatusLost k (resetFailed k s) = false := by
    rw [bit, rd_of_siteView hcounts (by simp), ← bit, hl]
  obtain ⟨hlost, -, -, hfaults, hon⟩ := isolateSite_parts ((engines_of_siteView hcounts).trans hs) hstill
  generalize hu : resetBitsOff k (isolateSite k (resetFailed k s)) = u
  have hrd {f : Reg} (h1 : f ≠ .brsiteStatusResetting) (h2 : f ≠ .brsiteStatusRdomain) (h3 : f ≠ .devSiteResetMask) (i : Nat) :
      rd f i u = rd f i (isolateSite k (resetFailed k s)) := by
    rw [← hu, resetBitsOff, rd_wr_field _ _ _ _ _ _ h1, rd_wr_field _ _ _ _ _ _ h2, rd_wr_field _ _ _ _ _ _ h3]
  have hrunning : u.faults.running = some q := by
    rw [← hu, ← hq, ← faults_of_siteView hcounts, ← hfaults]
    simp only [resetBitsOff, wr_faults]
  have hnone : districtsOnSite k u = [] := by
    rw [districtsOnSite_of_rd (hrd (by decide) (by decide) (by decide)) (hrd (by decide) (by decide) (by decide)), hon,
      districtsOnSite_of_rd (rd_of_siteView hcounts (by simp)) (rd_of_siteView hcounts (by simp)), hd]
  have hshown {f : Reg} (hf : f ∉ recoveryFields) (i : Nat) :
      rd f i (showRecovery (setFaults { u.faults with running := some { q with kind := 5 } } u)) = rd f i u :=
    rd_showRecovery_other hf i _
  rw [bdTimeout_of_failure h hu.symm hrunning, startSiteLoss_of_free
    ((districtsOnSite_of_rd (hshown (by simp)) (hshown (by simp))).trans hnone)]
  refine ⟨?_, ?_⟩
  · rw [bit, rd_of_siteView (siteView_startRoute _) (by simp), hshown (by simp), hrd (by decide) (by decide) (by decide)]
    exact hlost
  · rw [bit, rd_of_siteView (siteView_startRoute _) (by simp), hshown (by simp), ← hu, resetBitsOff, rd_wr_same]
    rfl

end

/-! The remap of a channel's vias (R481). -/

section
variable {g : Nat} {found : List Nat} {s : State}

theorem viaRemap_of_out (h : 0 < rd .vaultStatusChan g s ∨ bit .brsiteStatusLost (siteOf g) s = true) : viaRemap g found s = s := if_pos h

theorem viaRemap_of_idle (hc : rd .vaultStatusChan g s = 0) (hl : bit .brsiteStatusLost (siteOf g) s = false)
    (hr : s.faults.running = none) :
    viaRemap g found s = remapVias g found (holdCore g true (wr .vaultStatusChan g 1
      (startRecovery (mkRepair 1 (siteOf g) (g % 2048) (found.headD 0) (touchedByChannel g s)) s))) := by
  unfold viaRemap
  rw [if_neg (by simp [hc, hl]), detect_of_idle hr]
  rfl

/-- A remap that finds no bad via beyond the eight that spares stand in for ends with the channel in service. -/
theorem remapVias_in_service {r : Repair} (hr : s.faults.running = some r) (hb : (badVias g s).length ≤ 8) :
    rd .vaultStatusChan g (remapVias g [] s) = 0 ∧ (remapVias g [] s).faults.running = none := by
  unfold remapVias
  extract_lets k old new s1 all s2
  have hall : all = badVias g s := List.append_nil _
  rw [if_neg (by rw [hall]; omega)]
  obtain ⟨hnone, hrd⟩ := endRecovery_parts (s := bump .fltdevCountRepairs 0 (bump .fltsiteChanRemaps k (holdCore g false s2))) (r := r) hr
    3 0x0020 0
  refine ⟨?_, hnone⟩
  rw [hrd _ (by simp), rd_bump_other (.inl (by decide)), rd_bump_other (.inl (by decide))]
  exact rd_wr_same ..

end

/-! Deferred repairs (R479). -/

theorem deferredRepair_of_none {found : List Nat} {restarts : Bool} {s : State} (h : s.faults.running ≠ none ∨ s.faults.deferred = []) :
    deferredRepair found restarts s = s := by
  unfold deferredRepair
  split
  · next hnone hsome => simp [hnone, hsome] at h
  · rfl

theorem deferredRepair_of_front {found : List Nat} {restarts : Bool} {s : State} {q : Repair} {qs : List Repair}
    (hr : s.faults.running = none) (hd : s.faults.deferred = q :: qs) {u v : State}
    (hu : u = startRecovery q (setFaults { s.faults with deferred := qs } s))
    (h1 : q.kind = 1 → v = remapVias (2048 * q.site + q.unit) found u)
    (h3 : q.kind = 3 → v = startDeferredLane (4 * q.site + q.unit) q.detail u) (h4 : q.kind = 4 → v = startEdge u)
    (h5 : q.kind = 5 → v = startSiteLoss q.site u) (h6 : q.kind = 6 → v = startBd q.site restarts u)
    (hother : q.kind = 0 ∨ q.kind = 2 ∨ 7 ≤ q.kind → v = flag .twinStatusFailover 0 u) : deferredRepair found restarts s = v := by
  subst hu
  simp only [deferredRepair, hr, hd]
  split
  · next h => exact (h1 h).symm
  · next h => exact (h3 h).symm
  · next h => exact (h4 h).symm
  · next h => exact (h5 h).symm
  · next h => exact (h6 h).symm
  · next n1 n3 n4 n5 n6 =>
    simp only [imp_false] at n1 n3 n4 n5 n6
    exact (hother (by omega)).symm

/-- Settles O59: a detected fault by `detect_of_idle` and `detect_of_running`; each command by the case it takes, its own lemma above, and
what a lost site and a base die in reset leave by `siteView_isolateSite` and `siteView_bdAssert`. -/
theorem recoveryRules : Obligations.RecoveryRules := by
  intro r k g found restarts s
  refine ⟨fun h => ?starts, fun q h => ?deferred, fun h => ?lostAgain, fun h => ?lost, fun h hd hs hr => ?lostFree, fun h => ?resetAgain,
    fun hl h => ?reset, fun hl h hd hs hr => ?resetFree, fun h => ?noTimeout, fun h => ?restarted, fun h u q hu hq => ?failed,
    fun h hl hd hs => ?failedFree, fun h => ?remapAgain, fun hc hl hr => ?remap, fun hc hl hr hb => ?remapped, fun h => ?waits,
    fun q qs hr hd u hu => ?front⟩
  case starts =>
    obtain ⟨hfaults, -, hshown, -⟩ := startRecovery_parts r s
    rw [detect_of_idle h, hfaults]
    exact ⟨rfl, rfl, hshown, rfl⟩
  case deferred =>
    obtain ⟨u, esc, hu, hdetect⟩ := detect_of_running (r := r) h
    rw [hdetect, faults_showRecovery, bit_showRecovery_deferred, hu]
    exact ⟨rfl, ⟨_, rfl, rfl, rfl, rfl⟩, by simp [deferredBehind], by simp [deferredBehind]⟩
  case lostAgain => exact congrArg (Host.Outcome.next ∘ settle) (siteLoss_of_lost h)
  case lost =>
    refine ⟨_, rfl, fun h1 => ?_, fun h1 => ?_⟩
    · exact next_settle_of_eq ((siteLoss_of_served h rfl).trans (if_pos h1))
    · exact next_settle_of_eq ((siteLoss_of_served h rfl).trans (if_neg (by rw [h1]; decide)))
  case lostFree =>
    obtain ⟨-, -, -, hfaults, -⟩ := isolateSite_parts hs h
    let r1 := mkRepair 5 k 0 0 (districtsOnSite k s)
    have hloss : siteLoss k s = startSiteLoss k (startRecovery r1 (isolateSite k s)) :=
      (siteLoss_of_served h (detect_of_idle (by rw [hfaults, hr])).symm).trans (if_pos rfl)
    obtain ⟨hlost, hready, hout, hrunning⟩ := startSiteLoss_isolated (r := r1) hs h hd
    exact ⟨_, next_settle_of_eq hloss, hlost, hready, hout, _, hrunning, rfl, rfl⟩
  case resetAgain => exact next_waiting_of_eq (bdWatchdog_of_out h)
  case reset => exact ⟨_, rfl, next_waiting_of_eq (bdWatchdog_of_served hl h rfl)⟩
  case resetFree =>
    let r1 := mkRepair 6 k 0 0 (districtsOnSite k s)
    have hheld : bdWatchdog k false s = startBd k false (bdAssert k (startRecovery r1 s)) :=
      (bdWatchdog_of_served hl h (detect_of_idle hr).symm).trans (if_pos rfl)
    obtain ⟨hresetting, hdomain, hrunning⟩ := startBd_asserted (r := r1) hs hd
    exact ⟨_, next_waiting_of_eq hheld, hresetting, hdomain, _, hrunning, rfl, rfl⟩
  case noTimeout => exact next_waiting_of_eq (bdTimeout_of_other h)
  case restarted => exact next_waiting_of_eq (bdTimeout_of_restart h)
  case failed => exact next_waiting_of_eq (bdTimeout_of_failure h hu hq)
  case failedFree => exact ⟨_, rfl, bdTimeout_loses h hl hd hs⟩
  case remapAgain => exact next_waiting_of_eq (viaRemap_of_out h)
  case remap => exact next_waiting_of_eq (viaRemap_of_idle hc hl hr)
  case remapped =>
    let r1 := mkRepair 1 (siteOf g) (g % 2048) 0 (touchedByChannel g s)
    obtain ⟨hfaults, -⟩ := startRecovery_parts r1 s
    obtain ⟨hchan, hnone⟩ := remapVias_in_service (g := g) (r := r1) (s := holdCore g true (wr .vaultStatusChan g 1 (startRecovery r1 s)))
      (congrArg FaultSide.running hfaults) hb
    exact ⟨_, next_waiting_of_eq (viaRemap_of_idle hc hl hr), hchan, hnone⟩
  case waits => exact next_waiting_of_eq (deferredRepair_of_none h)
  case front =>
    obtain ⟨hfaults, -⟩ := startRecovery_parts q (setFaults { s.faults with deferred := qs } s)
    refine ⟨?_, ?_, fun v h1 h3 h4 h5 h6 hother => ?_⟩
    · rw [hu, hfaults]
    · rw [hu, hfaults]
      rfl
    · exact next_waiting_of_eq (deferredRepair_of_front hr hd hu h1 h3 h4 h5 h6 hother)

end Sys2Proof.Machine
end

section
/-!
PROOFS. The cap and its division (R405 to R409): the effective cap, its re-evaluation, and allotments.
-/

namespace Sys2Proof.Machine

section
variable {s : State}

/-! The effective cap (R406). -/

/-- The cap or limit in force, whichever is less (R405). -/
def ownCap (s : State) : Nat := min (rd .pdevCapCap 0 s) (rd .pdevCapLimit 0 s)

/-- The effective cap is one of three, and none of the others is less. -/
theorem capEff_cases (s : State) :
    (capEff s = (ownCap s, 0) ∧ ownCap s ≤ rd .thdevCcapCap 0 s ∧ ∀ i, inputCap s = some i → ownCap s ≤ i) ∨
      (capEff s = (rd .thdevCcapCap 0 s, 1) ∧ rd .thdevCcapCap 0 s ≤ ownCap s ∧ ∀ i, inputCap s = some i → rd .thdevCcapCap 0 s ≤ i) ∨
      ∃ i, capEff s = (i, 2) ∧ inputCap s = some i ∧ i ≤ ownCap s ∧ i ≤ rd .thdevCcapCap 0 s := by
  unfold capEff
  rw [← ownCap]
  dsimp only
  cases hi : inputCap s with
  | none =>
    by_cases hc : rd .thdevCcapCap 0 s < ownCap s
    · exact .inr (.inl ⟨if_pos hc, hc.le, nofun⟩)
    · exact .inl ⟨if_neg hc, not_lt.1 hc, nofun⟩
  | some i =>
    simp only [Option.some.injEq, forall_eq']
    by_cases hc : rd .thdevCcapCap 0 s < ownCap s
    · rw [if_pos hc]
      by_cases h : i < rd .thdevCcapCap 0 s
      · exact .inr (.inr ⟨i, if_pos h, rfl, (h.trans hc).le, h.le⟩)
      · exact .inr (.inl ⟨if_neg h, hc.le, not_lt.1 h⟩)
    · rw [if_neg hc]
      by_cases h : i < ownCap s
      · exact .inr (.inr ⟨i, if_pos h, rfl, h.le, h.le.trans (not_lt.1 hc)⟩)
      · exact .inl ⟨if_neg h, not_lt.1 hc, not_lt.1 h⟩

theorem rd_rescale_other {f : Reg} (hf : f ≠ .psiteAllotWatts) (i : Nat) (s : State) : rd f i (rescale s) = rd f i s := by
  unfold rescale
  extract_lets cap ks n sum
  split
  · rfl
  · exact foldl_keeps (p := rd f i) (fun _ _ => rd_wr_field _ _ _ _ _ _ hf) ks s

theorem rd_applyCap_capeff (s : State) : rd .pdevStatusCapeff 0 (applyCap s) = (capEff s).1 % 2 ^ (regInfo .pdevStatusCapeff).w :=
  (rd_rescale_other (by decide) 0 _).trans (rd_wr_same ..)

theorem rd_applyCap_source (s : State) : rd .pdevStatusSource 0 (applyCap s) = (capEff s).2 % 2 ^ (regInfo .pdevStatusSource).w :=
  (rd_rescale_other (by decide) 0 _).trans ((rd_wr_field .pdevStatusSource .pdevStatusCapeff 0 0 _ _ (by decide)).trans (rd_wr_same ..))

/-! Allotments (R408, R409). -/

theorem mem_sitesUp {j : Nat} : j ∈ sitesUp s ↔ j < 64 ∧ bit .brsiteStatusLost j s = false := by
  simp [sitesUp]

/-- A field written at each index of a list. -/
theorem rd_foldl_wr (f : Reg) (v : Nat → Nat) (j : Nat) (l : List Nat) (s : State) :
    rd f j (l.foldl (fun u k => wr f k (v k) u) s) = if j ∈ l then v j % 2 ^ (regInfo f).w else rd f j s := by
  induction l generalizing s with
  | nil => rfl
  | cons k l ih =>
    rw [List.foldl_cons, ih]
    by_cases hj : j ∈ l
    · rw [if_pos hj, if_pos (List.mem_cons_of_mem _ hj)]
    · rw [if_neg hj, rd_wr]
      by_cases hk : j = k
      · subst hk
        simp
      · simp [hj, hk]

/-- The allotments of a request, 0 for a site that is lost (R409). -/
def allotted (ws : List Nat) (s : State) : State :=
  (List.range 64).foldl (fun u k => wr .psiteAllotWatts k (if (sitesUp s).contains k then ws.getD k 0 else 0) u) s

theorem rd_allotted_other {f : Reg} (hf : f ≠ .psiteAllotWatts) (i : Nat) (ws : List Nat) (s : State) :
    rd f i (allotted ws s) = rd f i s :=
  foldl_keeps (p := rd f i) (fun _ _ => rd_wr_field _ _ _ _ _ _ hf) (List.range 64) s

section
variable {ws : List Nat}

theorem rd_allotted (h : ∀ j ∈ sitesUp s, ws.getD j 0 ≤ 500) {j : Nat} (hj : j < 64) :
    rd .psiteAllotWatts j (allotted ws s) = if bit .brsiteStatusLost j s = true then 0 else ws.getD j 0 := by
  rw [allotted, rd_foldl_wr, if_pos (List.mem_range.2 hj)]
  cases hl : bit .brsiteStatusLost j s with
  | true =>
    rw [if_neg (by simp [mem_sitesUp, hl]), if_pos rfl]
    rfl
  | false =>
    have hup : j ∈ sitesUp s := mem_sitesUp.2 ⟨hj, hl⟩
    rw [if_pos (by simpa using hup), if_neg Bool.false_ne_true]
    exact Nat.mod_eq_of_lt (Nat.lt_of_le_of_lt (h j hup) (by decide))

theorem requestAllotments_within (hsum : ((sitesUp s).map fun j => ws.getD j 0).sum ≤ 10 * rd .pdevStatusCapeff 0 s)
    (h : ∀ j ∈ sitesUp s, 80 ≤ ws.getD j 0 ∧ ws.getD j 0 ≤ 500) : requestAllotments ws s = allotted ws s := by
  refine if_neg (not_or.2 ⟨Nat.not_lt.2 hsum, ?_⟩)
  rw [List.any_eq_true]
  rintro ⟨j, hj, hbad⟩
  have := h j hj
  simp only [Bool.or_eq_true, decide_eq_true_eq] at hbad
  omega

theorem requestAllotments_refused (h : 10 * rd .pdevStatusCapeff 0 s < ((sitesUp s).map fun j => ws.getD j 0).sum ∨
    ∃ j ∈ sitesUp s, ws.getD j 0 < 80 ∨ 500 < ws.getD j 0) : requestAllotments ws s = note 255 0 0 0 s := by
  refine if_pos (h.imp_right fun ⟨j, hj, hbad⟩ => List.any_eq_true.2 ⟨j, hj, ?_⟩)
  simpa only [Bool.or_eq_true, decide_eq_true_eq] using hbad

theorem rd_requestAllotments_other {f : Reg} (hf : f ≠ .psiteAllotWatts) (i : Nat) (ws : List Nat) (s : State) :
    rd f i (requestAllotments ws s) = rd f i s := by
  unfold requestAllotments
  extract_lets ks sum
  split
  · exact rd_note ..
  · exact rd_allotted_other hf ..

end

/-! The clerk's division (R408). -/

theorem divideCap_of_down (h : clerkUp s = false) : divideCap s = s := if_pos (congrArg Bool.not h)

theorem divideCap_of_up (h : clerkUp s = true) : divideCap s = requestAllotments ((List.range 64).map fun j =>
    if bit .brsiteStatusLost j s = true then 0 else share j (largestK (10 * rd .pdevStatusCapeff 0 s) s 25 0) s) s :=
  if_neg (by rw [show bit .brdevStatusClerkUp 0 s = true from h]; decide)

end

end Sys2Proof.Machine
end

section
/-!
PROOFS. Control windows, gated slices, meters, notices and voltages (R402 to R404, R410, R412, R415).
-/

namespace Sys2Proof.Machine

@[simp] theorem rd_setPower (f : Reg) (i : Nat) (x : PowerSide) (s : State) : rd f i (setPower x s) = rd f i s := by rfl

/-! The mean input voltage of a window (R406). -/

theorem rd_inputWindow_vin {s : State} (h : s.power.vin ≠ []) :
    rd .pdevStatusVin 0 (inputWindow s) = (s.power.vin.sum / s.power.vin.length) % 2 ^ (regInfo .pdevStatusVin).w := by
  unfold inputWindow
  extract_lets n v w i s1
  rw [rd_wr_field _ _ _ _ _ _ (by decide), rd_wr_same]
  have hv : v = s.power.vin.sum / s.power.vin.length := if_neg (mt List.length_eq_zero_iff.1 h)
  rw [hv]

/-! A site's controller at the end of a window (R410). -/

section
variable {k : Nat} {s : State}

/-- The fields that a site's controller moves. -/
def controlFields : List Reg := [.psiteLevelCompute, .psiteLevelMemory, .psiteLevelLinks, .psiteStatusGate]

@[simp] theorem mem_controlFields {f : Reg} : f ∈ controlFields ↔
    f = .psiteLevelCompute ∨ f = .psiteLevelMemory ∨ f = .psiteLevelLinks ∨ f = .psiteStatusGate := by
  simp [controlFields]

theorem levelReg_eq (c : Nat) : levelReg c = .psiteLevelCompute ∨ levelReg c = .psiteLevelMemory ∨ levelReg c = .psiteLevelLinks := by
  unfold levelReg
  split
  · exact .inl rfl
  · split
    · exact .inr (.inl rfl)
    · exact .inr (.inr rfl)

/-- A cluster's clock follows the levels and the gate and changes neither. -/
theorem rd_clockCluster_control {f : Reg} (hf : f ∈ controlFields) (i c : Nat) (s : State) : rd f i (clockCluster c s) = rd f i s := by
  have h : f ≠ .pwrclSetpMhz ∧ f ≠ .pwrclSetpMv ∧ f ≠ .pwrclSetpGated := by
    rcases mem_controlFields.1 hf with rfl | rfl | rfl | rfl <;> decide
  obtain ⟨h1, h2, h3⟩ := h
  have hput (mhz mv gated : Nat) :
      rd f i (wr .pwrclSetpMhz c mhz (wr .pwrclSetpMv c mv (wr .pwrclSetpGated c gated s))) = rd f i s := by
    rw [rd_wr_field _ _ _ _ _ _ h1, rd_wr_field _ _ _ _ _ _ h2, rd_wr_field _ _ _ _ _ _ h3]
  unfold clockCluster
  extract_lets lv put
  split
  · rfl
  · split <;> exact hput ..

/-- The site with the count of its windows below the allotment set anew (R410). -/
def withUnder (k n : Nat) (u : State) : State := setPower { u.power with under := tset noNat u.power.under k n } u

/-- A site once its controller has moved a level or the gate, before it is shown what it does (R410). -/
def controlled (k : Nat) (s : State) : State :=
  let p := windowEnergy k s
  let a := rd .psiteAllotWatts k s * 1000000
  let order := orderOf (rd .pdevCapOrder 0 s)
  let under := tget noNat s.power.under k
  let gate := rd .psiteStatusGate k s
  if a < p then
    withUnder k 0 (match order.reverse.find? fun c => decide (40 < rd (levelReg c) k s) with
      | some c => wr (levelReg c) k (rd (levelReg c) k s - 2) s
      | none => if gate < 9 then wr .psiteStatusGate k (gate + 1) s else s)
  else if 100 * p ≤ 97 * a then
    withUnder k (under + 1) (if under + 1 < 2 then s
      else if 0 < gate then wr .psiteStatusGate k (gate - 1) s
      else match order.find? fun c => decide (rd (levelReg c) k s < 100) with
        | some c => wr (levelReg c) k (rd (levelReg c) k s + 2) s
        | none => s)
  else withUnder k 0 s

/-- What follows in the window shows, counts and clocks: the levels and the gate are the controller's. -/
theorem rd_siteWindow_control {f : Reg} (hf : f ∈ controlFields) (k : Nat) (s : State) :
    rd f k (siteWindow k s) = rd f k (controlled k s) := by
  unfold siteWindow
  extract_lets p a order under gate setUnder s1 low s2 means i x s3
  have h1 : s1 = controlled k s := rfl
  clear_value s1
  subst h1
  have hne : f ≠ .psiteStatusThrottling ∧ f ≠ .psiteThrotMs := by
    rcases mem_controlFields.1 hf with rfl | rfl | rfl | rfl <;> decide
  have h3 : rd f k s3 = rd f k (controlled k s) := by
    simp only [s3, s2, rd_setPower]
    rw [rd_wr_field _ _ _ _ _ _ hne.1]
    split
    · exact rd_bump_other (.inl hne.2) _
    · rfl
  clear_value s3
  split
  · exact h3
  · exact (foldl_keeps (p := rd f k) (fun u j => rd_clockCluster_control hf k (32 * k + j) u) _ s3).trans h3

theorem controlled_within (h : windowEnergy k s ≤ rd .psiteAllotWatts k s * 1000000)
    (h97 : 97 * (rd .psiteAllotWatts k s * 1000000) < 100 * windowEnergy k s) : controlled k s = withUnder k 0 s := by
  unfold controlled
  dsimp only
  rw [if_neg (Nat.not_lt.2 h), if_neg (Nat.not_le.2 h97)]

theorem controlled_gates (h : rd .psiteAllotWatts k s * 1000000 < windowEnergy k s) (hc : rd .psiteLevelCompute k s ≤ 40)
    (hm : rd .psiteLevelMemory k s ≤ 40) (hl : rd .psiteLevelLinks k s ≤ 40) :
    controlled k s = withUnder k 0
      (if rd .psiteStatusGate k s < 9 then wr .psiteStatusGate k (rd .psiteStatusGate k s + 1) s else s) := by
  have hlow : (orderOf (rd .pdevCapOrder 0 s)).reverse.find? (fun c => decide (40 < rd (levelReg c) k s)) = none := by
    refine List.find?_eq_none.2 fun c _ => ?_
    rw [decide_eq_true_eq, Nat.not_lt]
    rcases levelReg_eq c with hr | hr | hr <;> rw [hr] <;> assumption
  unfold controlled
  dsimp only
  rw [if_pos h, hlow]

end

/-! Gated slices (R412). -/

section
variable {k : Nat} {s : State}

theorem gateSlice_open (h : rd .psiteStatusGate k s = 0) : gateSlice k true s = s := by
  simp [gateSlice, h]

theorem gateSlice_ends : gateSlice k false s = (List.range 2048).foldl (fun u j => wake (2048 * k + j) u)
    (setPower { s.power with gated := s.power.gated.filter (· ≠ k) } s) := if_neg Bool.false_ne_true

theorem gateSlice_gated (h : rd .psiteStatusGate k s ≠ 0) :
    k ∈ (gateSlice k true s).power.gated ∧ ∀ f i, rd f i (gateSlice k true s) = rd f i s := by
  unfold gateSlice
  rw [if_pos rfl]
  by_cases hg : s.power.gated.contains k = true
  · rw [if_pos (.inr hg)]
    exact ⟨by simpa using hg, fun _ _ => rfl⟩
  · rw [if_neg (not_or.2 ⟨h, hg⟩)]
    exact ⟨List.mem_append_right _ (List.mem_singleton_self k), fun _ _ => rfl⟩

end

/-! Meters (R415). -/

theorem rd_showEdev_other {f : Reg} (hf : f ≠ .pdevEDevCount) (i : Nat) (s : State) : rd f i (showEdev s) = rd f i s :=
  rd_wr_field _ _ _ _ _ _ hf

/-- A counter of 64 bits that wraps. -/
theorem rd_addWrap_same {f : Reg} (hf : (regInfo f).w = 64) (i n : Nat) (s : State) :
    rd f i (addWrap f i n s) = (rd f i s + n) % 2 ^ 64 := by
  rw [addWrap, rd_wr_same, hf, Nat.mod_mod]

/-! Notices and heavy phases (R403). -/

section
variable {k : Nat} {s : State}

theorem noticeArrives_none (h : (s.notices.find? fun n => n.cluster == k) = none) : noticeArrives k s = s := by
  rw [noticeArrives, h]

theorem noticeArrives_parts {n : Notice} (h : (s.notices.find? fun n => n.cluster == k) = some n) :
    (noticeArrives k s).notices = s.notices.erase n ∧ n ∈ (noticeArrives k s).power.boosts ∧
      ∀ f i, (f ≠ (if 2000 ≤ n.lead then .pwrclNoticeTimely else .pwrclNoticeLate) ∨ i ≠ k) → rd f i (noticeArrives k s) = rd f i s := by
  rw [noticeArrives, h]
  exact ⟨rfl, List.mem_append_right _ (List.mem_singleton_self n), fun f i hf => rd_bump_other hf _⟩

/-- Of the phases that run one ends first. -/
theorem phaseEnds_first (h : ∃ b ∈ s.power.boosts, b.cluster = k ∧ b.dur ≠ 0) : ∃ b ∈ s.power.boosts, b.cluster = k ∧ b.dur ≠ 0 ∧
    (∀ c ∈ s.power.boosts, c.cluster = k → c.dur ≠ 0 → phaseEnd s b ≤ phaseEnd s c) ∧
    phaseEnds k s = setPower { s.power with boosts := s.power.boosts.erase b } s := by
  let mine := s.power.boosts.filter fun b => b.cluster == k && b.dur != 0
  have hmine {c : Notice} : c ∈ mine ↔ c ∈ s.power.boosts ∧ c.cluster = k ∧ c.dur ≠ 0 := by simp [mine]
  obtain ⟨b0, hb0⟩ := h
  obtain ⟨m, hm, hfirst⟩ := (measure (phaseEnd s)).wf.has_min {b | b ∈ mine} ⟨b0, hmine.2 hb0⟩
  cases hfind : mine.find? fun b => mine.all fun c => decide (phaseEnd s b ≤ phaseEnd s c) with
  | none =>
    refine absurd (List.all_eq_true.2 fun c hc => ?_) (List.find?_eq_none.1 hfind m hm)
    exact decide_eq_true (Nat.not_lt.1 (hfirst c hc))
  | some b =>
    obtain ⟨hin, hk, hd⟩ := hmine.1 (List.mem_of_find?_eq_some hfind)
    have hends : (mine.all fun c => decide (phaseEnd s b ≤ phaseEnd s c)) = true :=
      List.find?_some (p := fun b => mine.all fun c => decide (phaseEnd s b ≤ phaseEnd s c)) hfind
    refine ⟨b, hin, hk, hd, fun c hc hck hcd => of_decide_eq_true (List.all_eq_true.1 hends c (hmine.2 ⟨hc, hck, hcd⟩)), ?_⟩
    rw [phaseEnds]
    dsimp only
    rw [hfind]

theorem phaseEnds_none (h : ∀ b ∈ s.power.boosts, b.cluster = k → b.dur = 0) : phaseEnds k s = s := by
  have hmine : (s.power.boosts.filter fun b => b.cluster == k && b.dur != 0) = [] :=
    List.filter_eq_nil_iff.2 fun b hb => by simpa using h b hb
  rw [phaseEnds]
  dsimp only
  rw [hmine]
  rfl

end

/-! The minimum voltage (R404). -/

section
variable {k mv : Nat} {s : State}

/-- The record of a voltage sensed: a new minimum with its round and time, or the one before (R404). -/
def vminRecorded (k mv : Nat) (s : State) : State :=
  if mv < rd .pwrclVminMv k s then wr .pwrclVminMv k mv (wr .pwrclVminRound k (roundNow s) (wr .pwrclVminPtpNs k s.now s)) else s

theorem voltageSensed_parts (k mv : Nat) (s : State) :
    (∀ f, f ≠ .pwrclNoticeDroop → ∀ i, rd f i (voltageSensed k mv s) = rd f i (vminRecorded k mv s)) ∧
      tget noNat (voltageSensed k mv s).power.volt k = mv := by
  unfold voltageSensed
  extract_lets set x s1 s2 s3 recent y
  have h2 : (∀ f i, rd f i s2 = rd f i (vminRecorded k mv s)) ∧ s2.power = s1.power := by
    simp only [s2, vminRecorded]
    split
    · exact ⟨fun f i => by simp only [rd_wr]; rfl, rfl⟩
    · exact ⟨fun _ _ => rfl, rfl⟩
  have h3 : (∀ f, f ≠ .pwrclNoticeDroop → ∀ i, rd f i s3 = rd f i (vminRecorded k mv s)) ∧ s3.power = s1.power := by
    simp only [s3]
    split
    · exact ⟨fun f hf i => (rd_bump_other (.inl hf) s2).trans (h2.1 f i), h2.2⟩
    · exact ⟨fun f _ i => h2.1 f i, h2.2⟩
  have hvolt : tget noNat s3.power.volt k = mv := by
    rw [h3.2]
    exact tget_tset_same ..
  split
  · obtain ⟨l, q, d, hnote⟩ := note_parts (k / 32) k mv 0 (setPower { y with droopLog := tins k s.now s3.power.droopLog } s3)
    rw [hnote]
    exact ⟨h3.1, hvolt⟩
  · exact ⟨h3.1, hvolt⟩

theorem rd_vminRecorded_lower (h : mv < rd .pwrclVminMv k s) :
    rd .pwrclVminMv k (vminRecorded k mv s) = mv % 2 ^ 10 ∧ rd .pwrclVminRound k (vminRecorded k mv s) = roundNow s % 2 ^ 32 ∧
      rd .pwrclVminPtpNs k (vminRecorded k mv s) = s.now % 2 ^ 64 := by
  rw [vminRecorded, if_pos h]
  refine ⟨rd_wr_same .., ?_, ?_⟩
  · rw [rd_wr_field _ _ _ _ _ _ (by decide)]
    exact rd_wr_same ..
  · rw [rd_wr_field _ _ _ _ _ _ (by decide), rd_wr_field _ _ _ _ _ _ (by decide)]
    exact rd_wr_same ..

theorem vminRecorded_higher (h : rd .pwrclVminMv k s ≤ mv) : vminRecorded k mv s = s := if_neg (Nat.not_lt.2 h)

end

end Sys2Proof.Machine
end

section
/-!
PROOFS. Power, command by command (R402 to R415).
-/

namespace Sys2Proof.Machine

/-- A window's end in its three steps: the controllers, the marks of throttled steps, and the requests of the jobs (R410, R413, R420). -/
theorem windowEnd_eq {s u t : State} (hu : u = (sitesUp (applyCap (inputWindow s))).foldl
      (fun u j => (List.range 32).foldl (fun v i => heatWindow (32 * j + i) v) (siteWindow j u)) (applyCap (inputWindow s)))
    (ht : t = (u.districts.filter fun x => x.2.running && throttled x.1 u).foldl (fun v x => markThrottled x.1 v) u) :
    windowEnd s = (memberJobs t).foldl (fun v j => heatRequest j (powerRequest j v)) t := by
  rw [windowEnd, ht, hu]

/-- Settles O55: the effective cap by the three cases of `capEff_cases`, a request by its sum and its sites, a window by `siteWindow`'s
controller, and each meter, notice and voltage by its own lemma above. -/
theorem powerRules : Obligations.PowerRules := by
  refine ⟨fun ws k s => ?cap, fun k site mv ma s => ?meters⟩
  case cap =>
    refine ⟨?least, ?shown, fun h => ?down, fun h => ?up, fun hsum h => ?within, fun h => ?refused, fun h => ?divided, fun u hu t ht => ?window,
      ⟨rfl, rd_inputWindow_vin⟩, fun a p ha hp => ⟨fun h hc hm hl => ?gates, fun h h97 f hf => ?keeps⟩, fun h => ?opened,
      fun h => ?gated, ?ends⟩
    case least =>
      intro own
      have hown : own = ownCap s := rfl
      clear_value own
      subst hown
      simp only [List.forall_mem_cons, List.not_mem_nil, false_implies, implies_true, and_true]
      rcases capEff_cases s with ⟨h, hc, hi⟩ | ⟨h, hc, hi⟩ | ⟨i, h, hi, ho, hc⟩ <;> rw [h]
      · exact ⟨⟨le_rfl, hc⟩, hi, fun _ => rfl, nofun, nofun, Nat.zero_le _⟩
      · exact ⟨⟨hc, le_rfl⟩, hi, nofun, fun _ => rfl, nofun, one_le_two⟩
      · exact ⟨⟨ho, hc⟩, fun j hj => (Option.some.inj (hi.symm.trans hj)).le, nofun, nofun, fun _ => hi, le_rfl⟩
    case shown =>
      simp only [List.forall_mem_cons, List.not_mem_nil, false_implies, implies_true, and_true]
      exact ⟨rd_applyCap_capeff s, rd_applyCap_source s⟩
    case down => exact next_settle_of_eq (divideCap_of_down h)
    case up => exact next_settle_of_eq (divideCap_of_up h)
    case within =>
      exact ⟨_, next_settle_of_eq (requestAllotments_within hsum h), fun j => rd_allotted fun j hj => (h j hj).2,
        fun f i hf => rd_allotted_other hf i ws s⟩
    case refused => exact next_settle_of_eq (requestAllotments_refused h)
    case divided => exact ⟨_, next_settle_of_eq (divideCap_of_up h), fun f i hf => rd_requestAllotments_other hf i _ s⟩
    case window => exact next_settle_of_eq (windowEnd_eq hu ht)
    case gates =>
      subst ha hp
      rw [rd_siteWindow_control (by simp), controlled_gates h hc hm hl, withUnder, rd_setPower]
      split
      · next h9 =>
        rw [rd_wr_same]
        exact Nat.mod_eq_of_lt (show rd .psiteStatusGate k s + 1 < 16 by omega)
      · rfl
    case keeps =>
      subst ha hp
      rw [rd_siteWindow_control hf, controlled_within h h97, withUnder, rd_setPower]
    case opened => exact next_settle_of_eq (gateSlice_open h)
    case gated => exact ⟨_, rfl, gateSlice_gated h⟩
    case ends =>
      refine ⟨_, next_settle_of_eq gateSlice_ends, ?_, fun f i => rd_setPower ..⟩
      simp [setPower]
  case meters =>
    refine ⟨?counters, ?site, ?input, fun h => ?noNotice, fun n h => ?notice, fun h => ?phase, fun h => ?noPhase, ?voltage⟩
    case counters =>
      simp only [List.forall_mem_cons, List.not_mem_nil, false_implies, implies_true, and_true]
      exact ⟨rfl, rfl, rfl, rfl⟩
    case site =>
      refine ⟨_, rfl, (rd_showEdev_other (by decide) _ _).trans (rd_addWrap_same rfl ..), fun f i hf h => ?_⟩
      exact (rd_showEdev_other hf i _).trans (rd_wr_other _ _ h)
    case input =>
      refine ⟨_, rfl, (rd_showEdev_other (by decide) _ _).trans (rd_addWrap_same rfl ..), rfl, fun f i hf h => ?_⟩
      exact (rd_showEdev_other hf i _).trans (rd_wr_other _ _ h)
    case noNotice => exact congrArg Host.Outcome.next (noticeArrives_none h)
    case notice => exact ⟨_, rfl, noticeArrives_parts h⟩
    case phase =>
      obtain ⟨b, hb, hk, hd, hfirst, hends⟩ := phaseEnds_first h
      exact ⟨_, b, hb, hk, hd, hfirst, congrArg Host.Outcome.next hends, rfl, fun _ _ => rfl⟩
    case noPhase => exact congrArg Host.Outcome.next (phaseEnds_none h)
    case voltage =>
      obtain ⟨hrd, hvolt⟩ := voltageSensed_parts k mv s
      refine ⟨_, rfl, fun h => ?_, fun h f hf => ?_, hvolt⟩
      · rw [hrd _ (by decide), hrd _ (by decide), hrd _ (by decide)]
        exact rd_vminRecorded_lower h
      · have hf' : f ≠ .pwrclNoticeDroop := by
          rintro rfl
          simp at hf
        rw [hrd f hf', vminRecorded_higher h]

end Sys2Proof.Machine
end
